-- ==== Sys2Proof/Word.lean ====
section
/-!
DEFINITION. The word types of the model, bit fields by place and width, and the sparse maps that hold registers and memories.
-/

namespace Sys2Proof

/-- A byte. -/
abbrev Byte := BitVec 8

/-- A BAR0 register (R13). -/
abbrev Word64 := BitVec 64

/-- A bit field: its lowest bit and its width. -/
structure Fld where
  lo : Nat
  w : Nat
  deriving DecidableEq, Repr

/-- A sparse map: key and value pairs, keys rising, no entry equal to what an unlisted key holds. -/
abbrev KMap (α : Type) := List (Nat × α)

end Sys2Proof
end

