-- ==== Sys2Proof/Syntax.lean ====
section
/-!
DEFINITION. The commands of the module: one constructor for each row of spec/opcode_table.json, in the table's order, with the row's operands.
Operations of a channel carry the fields of their slot (R85, R90 to R99), reserved bits included, so that the checks of R86 can be made.
A command that reports something physical (a sample, a received flit, a failing pin) carries what was observed.
-/

namespace Sys2Proof

/-- Bits flipped in a codeword as it was read (R175, R179): the symbol and the difference. -/
abbrev SymErr := List (Nat × BitVec 4)

/-- Words, or sectors of device memory, met with errors by a read: the number of the word in the memory read, or channel × 2^28 + sector, and
the errors. -/
abbrev EccObs := List (Nat × SymErr)

/-- Which of the memories of a channel a word lies in (R81): the bundle as fetched, a scalar or vector register, channel SRAM (words numbered
by address / 8), a row of the accumulator file of a logical engine (values in words 0 to 191, tags in words 192 to 211). -/
inductive ErrSrc where
  | fetch
  | sreg (r : Nat)
  | vreg (r : Nat)
  | sram
  | acc (e row : Nat)
  deriving DecidableEq, Repr

/-- A word that a bundle, or an operation of it, reads with errors. -/
structure ReadErr where
  src : ErrSrc
  word : Nat
  err : SymErr
  deriving DecidableEq, Repr

/-- Where and how an operation issues: the channel, the header byte of the bundle (FORMAT in its low half, R85), and whether more slots of
the same bundle follow. The bundle issues as a whole when a slot with `more` false arrives (R89). `errs` are the errors that the fetch of the
bundle and the reads of its operations meet (R81). -/
structure Issue where
  ch : Fin 8
  hdr : BitVec 8
  more : Bool
  errs : List ReadErr
  deriving DecidableEq, Repr

/-- The same with further errors in words of channel SRAM, by word. -/
def Issue.withSram (i : Issue) (ecc : EccObs) : Issue := { i with errs := i.errs ++ ecc.map fun x => ⟨.sram, x.1, x.2⟩ }

/-- Fields of LOADW (R90); `rsv` holds bits [63:30]. -/
structure LoadwF where
  grp : Fin 2
  eng : BitVec 8
  fmtW : BitVec 4
  sa : BitVec 6
  ss : BitVec 6
  rsv : BitVec 34
  deriving DecidableEq, Repr

/-- Fields of PASS (R90); `rsv` holds bits [63:60]. -/
structure PassF where
  grp : Fin 2
  eng : BitVec 8
  fmtA : BitVec 4
  fmtW : BitVec 4
  sa : BitVec 6
  ss : BitVec 6
  rowsM1 : BitVec 8
  accRow : BitVec 8
  cont : Bool
  anchor : BitVec 9
  rsv : BitVec 4
  deriving DecidableEq, Repr

/-- Fields of DRAIN (R90); `rsv` holds bits [63:56]. -/
structure DrainF where
  grp : Fin 2
  eng : BitVec 8
  fmtO : BitVec 4
  mx : Bool
  mode : BitVec 2
  sat : Bool
  sa : BitVec 6
  ss : BitVec 6
  sx : BitVec 6
  rowsM1 : BitVec 8
  accRow : BitVec 8
  rsv : BitVec 8
  deriving DecidableEq, Repr

/-- Fields of LOADACC (R90); `rsvLo` holds bits [17:14], `rsv` bits [63:49]. -/
structure LoadaccF where
  grp : Fin 2
  eng : BitVec 8
  rsvLo : BitVec 4
  sa : BitVec 6
  rowsM1 : BitVec 8
  accRow : BitVec 8
  anchor : BitVec 9
  rsv : BitVec 15
  deriving DecidableEq, Repr

/-- Fields of a vector slot (R91); `slot` is the vector slot, `rsv` holds bits [47:40]. -/
structure VecF where
  slot : Fin 2
  vd : BitVec 5
  va : BitVec 5
  vb : BitVec 5
  vc : BitVec 5
  fmt : BitVec 4
  mx : Bool
  mode : BitVec 2
  sat : Bool
  sx : BitVec 6
  rsv : BitVec 8
  deriving DecidableEq, Repr

/-- Fields of the special-function slot (R95); `rsv` holds bits [31:14]. -/
structure SfF where
  vd : BitVec 5
  va : BitVec 5
  rsv : BitVec 18
  deriving DecidableEq, Repr

/-- Fields of a memory slot (R96); `rsv` holds bits [47:39]. -/
structure MemF where
  slot : Fin 2
  v : BitVec 5
  sa : BitVec 6
  sd : BitVec 6
  offs : BitVec 16
  rsv : BitVec 9
  deriving DecidableEq, Repr

/-- Fields of a queue slot (R97); `rsv` holds bits [31:29]. -/
structure QueF where
  slot : Fin 2
  q : BitVec 5
  count : BitVec 16
  cue : BitVec 4
  rsv : BitVec 3
  deriving DecidableEq, Repr

/-- Fields of the network slot (R98). -/
structure NetF where
  qn : BitVec 3
  circuit : BitVec 12
  sa : BitVec 6
  nflM1 : BitVec 4
  cue : BitVec 4
  slot : BitVec 15
  deriving DecidableEq, Repr

/-- Fields of the control slot (R99). -/
structure CtlF where
  sd : BitVec 6
  sa : BitVec 6
  sb : BitVec 6
  imm : BitVec 16
  deriving DecidableEq, Repr

/-- Bits flipped at one place of a column of a tensor engine (R69): the block, and the stage: 0 the sum of the adder tree, 1 N after the
addition, 2 the output of the MX shifter or of the aligner, which no residue covers. For a drain, bits of the output word of the column. -/
structure FlipAt where
  col : Nat
  block : Nat
  stage : Nat
  bits : BitVec 96
  deriving DecidableEq, Repr

/-- What the hardware of one engine did to a row: bits flipped in its sums, and in the weight tags it writes, by column. -/
structure FlipObs where
  sums : List FlipAt
  tags : List (Nat × BitVec 10)
  deriving DecidableEq, Repr

/-- What the engine of a row, and TE16 where it shadows that engine, did to the row (R69, R111). -/
structure TeObs where
  te : FlipObs
  te16 : FlipObs
  deriving DecidableEq, Repr

/-- An arbiter (R191): of a memory channel, or of a logical bank of a channel. -/
inductive ArbId where
  | mem (c : Fin 128)
  | bank (n : Fin 8) (b : Fin 64)
  deriving DecidableEq, Repr

/-- The AER errors of R507. -/
inductive AerErr where
  | receiver | badTlp | badDllp | replayTimeout | replayRollover
  | malformedTlp | ecrc | internal
  deriving DecidableEq, Repr

/-- One command. -/
inductive Instr where
  -- operations of a channel
  | loadw (i : Issue) (f : LoadwF)
  | pass (i : Issue) (f : PassF)
  | drain (i : Issue) (f : DrainF)
  | loadacc (i : Issue) (f : LoadaccF)
  | vadd (i : Issue) (f : VecF)
  | vsub (i : Issue) (f : VecF)
  | vmul (i : Issue) (f : VecF)
  | vfma (i : Issue) (f : VecF)
  | vdiv (i : Issue) (f : VecF)
  | vsqrt (i : Issue) (f : VecF)
  | vmax (i : Issue) (f : VecF)
  | vmin (i : Issue) (f : VecF)
  | vcmp (i : Issue) (f : VecF)
  | vsel (i : Issue) (f : VecF)
  | viadd (i : Issue) (f : VecF)
  | visub (i : Issue) (f : VecF)
  | viand (i : Issue) (f : VecF)
  | vior (i : Issue) (f : VecF)
  | vixor (i : Issue) (f : VecF)
  | vishl (i : Issue) (f : VecF)
  | vishr (i : Issue) (f : VecF)
  | vcvt (i : Issue) (f : VecF)
  | vunpk (i : Issue) (f : VecF)
  | vwadd (i : Issue) (f : VecF)
  | vwrnd (i : Issue) (f : VecF)
  | vshuf (i : Issue) (f : VecF)
  | vrsum (i : Issue) (f : VecF)
  | vbcast (i : Issue) (f : VecF)
  | vmovs (i : Issue) (f : VecF)
  | xfill (i : Issue) (f : VecF)
  | xreset (i : Issue) (f : VecF)
  | xread (i : Issue) (f : VecF)
  | recip (i : Issue) (f : SfF)
  | rsqrt (i : Issue) (f : SfF)
  | exp (i : Issue) (f : SfF)
  | log (i : Issue) (f : SfF)
  | tanh (i : Issue) (f : SfF)
  | ldv (i : Issue) (f : MemF) (ecc : EccObs := [])
  | stv (i : Issue) (f : MemF)
  | lds (i : Issue) (f : MemF) (ecc : EccObs := [])
  | sts (i : Issue) (f : MemF)
  | qwait (i : Issue) (f : QueF)
  | qrel (i : Issue) (f : QueF)
  | qcommit (i : Issue) (f : QueF)
  | qstart (i : Issue) (f : QueF)
  | nsend (i : Issue) (f : NetF)
  | nrecv (i : Issue) (f : NetF)
  | cue (i : Issue) (f : CtlF)
  | cueset (i : Issue) (f : CtlF)
  | sadd (i : Issue) (f : CtlF)
  | saddi (i : Issue) (f : CtlF)
  | ssub (i : Issue) (f : CtlF)
  | smul (i : Issue) (f : CtlF)
  | sand (i : Issue) (f : CtlF)
  | sor (i : Issue) (f : CtlF)
  | sxor (i : Issue) (f : CtlF)
  | sshl (i : Issue) (f : CtlF)
  | sshr (i : Issue) (f : CtlF)
  | ssra (i : Issue) (f : CtlF)
  | slui (i : Issue) (f : CtlF)
  | scmplt (i : Issue) (f : CtlF)
  | br (i : Issue) (f : CtlF)
  | beqz (i : Issue) (f : CtlF)
  | bnez (i : Issue) (f : CtlF)
  | intermit (i : Issue) (f : CtlF)
  | halt (i : Issue) (f : CtlF)
  | signal (i : Issue) (f : CtlF)
  -- what happens inside a channel
  | weightTileLoaded (ch : Fin 8) (e : Fin 16)
  | accRowComplete (ch : Fin 8) (e : Fin 16) (obs : TeObs)
  | drainRowWrite (ch : Fin 8) (e : Fin 16) (obs : TeObs)
  | resultWriteback (ch : Fin 8)
  | cueFire (ch : Fin 8) (c : Fin 16)
  | shadowTargetChange (ch : Fin 8)
  | shadowCopyDone (ch : Fin 8)
  | sramScrubRead (ch : Fin 8) (bank : Fin 66) (row : Fin 12288) (errs : EccObs)
  | sramInitDone (ch : Fin 8)
  | runStart (ch : Fin 8) (value : Word64)
  | runStop (ch : Fin 8) (value : Word64)
  | stopAtCueWrite (ch : Fin 8) (value : Word64)
  | unarmedWaitPoll (ch : Fin 8)
  | flitDeparture (ch : Fin 8) (q : Fin 8)
  | rxqFlitArrive (ch : Fin 8) (q : Fin 8)
  | depositComplete (ch : Fin 8) (q : Fin 8)
  | rxWatchExpiry (ch : Fin 8) (q : Fin 8)
  -- arbiters
  | arbRequest (a : ArbId) (k : Fin 10) (dt : Nat)
  | arbRound (a : ArbId) (dt : Nat)
  | arbRelease (a : ArbId) (dt : Nat)
  | arbMaskRise (a : ArbId) (k : Fin 10)
  | arbMaskFall (a : ArbId) (k : Fin 10)
  | starveDetect (a : ArbId) (k : Fin 10) (dt : Nat)
  | arbPrioWrite (a : ArbId) (value : Word64)
  | arbCtlWrite (a : ArbId) (value : Word64)
  -- memory
  | streamBurstIssue (ch : Fin 8) (q : Fin 24)
  | burstComplete (ch : Fin 8) (q : Fin 24) (k : Nat) (errs : List (Nat × SymErr))
  | streamEntryWritten (ch : Fin 8) (q : Fin 24) (k : Nat)
  | storeEntryWritten (ch : Fin 8) (q : Fin 24)
  | streamDescriptorDone (ch : Fin 8) (q : Fin 24)
  | countSync (ch : Fin 8) (q : Fin 24) (toArith : Bool)
  | pinTest (c : Fin 128) (failed : BitVec 16)
  | patrolScrubRead (c : Fin 128) (err : SymErr)
  | scrubSweepEnd (c : Fin 128)
  | remapDataWrite (c : Fin 128) (value : Word64)
  | memInitDone (failed : List (Fin 128))
  | lendWrite (errs : List (Nat × SymErr) := [])
  | lendRead (errs : List (Nat × SymErr)) (inTime : Bool)
  | lendReplyDepart
  | bar2Read (off : BitVec 40) (len : Nat) (errs : List (Nat × SymErr))
  | bar2Write (off : BitVec 40) (data : List Byte) (ep : Bool) (errs : List (Nat × SymErr) := [])
  | hostwinBudgetRefill
  -- scheduled fabric
  | vc0CrossbarEnter (p : Fin 34)
  | vc0LinkArrive (l : Fin 24)
  | vc0WindowClose (l : Fin 24)
  | crossbarOutputSlot (p : Fin 34)
  | swapTickCopy
  | bankSwap
  | circuitEntryWrite (bank : Fin 2) (c : Fin 4096) (value : Word64)
  -- unscheduled traffic
  | unsPacketInject (port : Fin 2) (cls : Fin 4) (flits : List (List Byte))
  | unsPacketArrive (l : Fin 24) (cls : Fin 4)
  | unsPacketForward (p : Fin 34) (cls : Fin 4)
  | port32Deliver
  | port33Write (errs : List (Nat × SymErr) := [])
  | flaggedPacketRelease (port : Fin 2)
  | flagAckSend (port : Fin 2)
  | flagAckReceive (port : Fin 2)
  | flagFailReceive (port : Fin 2)
  | holdTimeout (port : Fin 2)
  | ackTimeout (port : Fin 2) (flow : Nat)
  | netFlowClear (d : BitVec 12)
  | routeEntryWrite (d : BitVec 12) (value : Word64)
  | tableOpenWrite (value : Word64)
  | telemWindowClose
  -- links
  | flitReceive (l : Fin 24) (bytes : List Byte) (frac : Fin 16)
  | replayTimeout (l : Fin 24)
  | lctlCredit (l : Fin 24)
  | lctlTimestamp (l : Fin 24)
  | lctlInit (l : Fin 24)
  | lctlReplace (l : Fin 24)
  | lctlLaneAck (l : Fin 24)
  | lctlLaneDone (l : Fin 24)
  | lctlWidthReq (l : Fin 24)
  | lctlWidthAck (l : Fin 24)
  | lctlWidthGo (l : Fin 24)
  | lctlRetrain (l : Fin 24)
  | laneParityWindow (l : Fin 24)
  | laneLossOfLock (l : Fin 24) (lane : Fin 10)
  | cmdRetry (l : Fin 24) (pattern : BitVec 10 := 0)
  | graceExpiry (l : Fin 24)
  | lnkEnWrite (l : Fin 24) (value : Word64)
  | lnkRetrainWrite (l : Fin 24) (value : Word64)
  | lnkWidthGoWrite (l : Fin 24) (value : Word64)
  | detect (l : Fin 24) (locked : BitVec 10)
  | equalise (l : Fin 24) (settled : BitVec 10)
  | identifyLanes (l : Fin 24) (crossed inverted : BitVec 10)
  | place (l : Fin 24) (peerGood : BitVec 10)
  | align (l : Fin 24)
  | survey (l : Fin 24) (samples : List (Nat × Nat))
  | trainStepTimeout (l : Fin 24)
  | trainRetry (l : Fin 24)
  | eyeMonitor (l : Fin 24) (lane : Fin 10) (v h : BitVec 10) (prbs : Nat)
  | laserMonitor (l : Fin 24) (lane : Fin 10) (bias : BitVec 8) (power : BitVec 8)
  | laserSourceWrite (l : Fin 24) (lane : Fin 10) (value : Word64)
  | portMapWrite (l : Fin 24) (value : Word64)
  | delayWrite (l : Fin 24) (value : Word64)
  | dmaxWrite (l : Fin 24) (value : Word64)
  -- Huawald time
  | servoRun
  | benchmarkWrite (value : Word64)
  | acquireWrite (value : Word64)
  | rebaseArmWrite (value : Word64)
  | rebaseStep
  | timReleaseWrite (value : Word64)
  | trimSlew
  | timRefusedClear (value : Word64)
  | refclkTLoss
  | refclkTReturn
  | holdExpired
  | countedCompare (ch : Fin 8) (err : Int)
  -- safety, control cores and intermissions
  | safRaiseWrite (value : Word64)
  | curtainNotice
  | curtainStopTimeout
  | curtainChannelsStopped
  | haltEnter
  | safKick (value : Word64)
  | watchdogExpiry (core : Fin 5)
  | coreTakeover (core : Fin 5)
  | ctlPostData (core : Fin 5) (value : Word64)
  | postPairTimeout
  | lockstepMismatch
  | selfTestDone (ch : Fin 8) (fail : BitVec 17)
  | captureDone (errs : List (Fin 8 × ReadErr))
  | copyEngineDone (errs : EccObs)
  | msgCaptured
  | msgCopy (errs : EccObs := [])
  | msgDone
  | msgResume (errs : EccObs := [])
  | msgHold
  | msgCopyDone
  | msgStep (errs : EccObs := [])
  | msgHost
  -- mailboxes and firmware
  | mbPoll (m : Fin 16) (errs : List SymErr := [])
  | mbAbort (m : Fin 16) (value : Word64)
  | identify (m : Fin 16)
  | setPlace (m : Fin 16)
  | netPlaceWrite (value : Word64)
  | setPorts (m : Fin 16)
  | getSurvey (m : Fin 16)
  | timeSetBenchmark (m : Fin 16)
  | timeClearBenchmark (m : Fin 16)
  | timeAcquire (m : Fin 16)
  | timeRelease (m : Fin 16)
  | timeClearRefused (m : Fin 16)
  | routesStop (m : Fin 16)
  | routesWrite (m : Fin 16) (errs : EccObs := [])
  | routesStart (m : Fin 16)
  | msgSend (m : Fin 16)
  | msgRecv (m : Fin 16)
  | load (m : Fin 16) (errs : EccObs := [])
  | start (m : Fin 16)
  | inputDone (m : Fin 16) (errs : EccObs := [])
  | curtain (m : Fin 16)
  | holdAtInt (m : Fin 16)
  | release (m : Fin 16)
  | restore (m : Fin 16) (errs : EccObs := [])
  | resetSoft (m : Fin 16)
  | resetChn (m : Fin 16)
  | resetLnk (m : Fin 16)
  | setPower (m : Fin 16)
  | powerTransitionDone
  | getLedger (m : Fin 16)
  | getRetired (m : Fin 16)
  | update (m : Fin 16) (flashOk : Bool) (errs : EccObs := [])
  | attest (m : Fin 16)
  | getCert (m : Fin 16)
  | ownerKey (m : Fin 16)
  | recover (flashOk : Bool) (errs : EccObs := [])
  | bootImageVerified
  | fwInitComplete
  -- resets and the host link
  | por
  | modReset
  | modResetRelease (straps : BitVec 4)
  | hotReset
  | flr
  | channelReset (ch : Fin 8)
  | linkReset (l : Fin 24)
  | bar0BadAccess (write : Bool)
  | atomicopRequest
  | bar2Resize (code : Nat)
  | msixUnmask (v : Fin 4)
  | d3hotEntry
  | hostLinkChange (speed : Fin 8) (width : Nat)
  | ctlHostRaise (value : Word64) (fromHost : Bool)
  -- power
  | vinSample (vin iin pin : Nat)
  | holdupExpired
  | porAfterCrossing
  | overpower (pin : Nat)
  | railFault (r : Fin 20) (meas : BitVec 10)
  | powerUp
  | arithStepWrite (value : Word64)
  | arithPllLocked (ch : Fin 8)
  | ctrlDroopStretch (region : Fin 6)
  | netDroop (monitor : Fin 8) (belowFloor : Bool)
  | refclkLoss (which : Fin 4)
  | thermalWarn (g : Fin 7) (t : Int)
  | thermalCurtain (g : Fin 7) (t : Int)
  | thermalTrip (g : Fin 7) (t : Int)
  | resurvey (vfail : List (List Nat))
  | railVoltageStep (r : Fin 20) (up : Bool)
  | ledgerWrite
  -- management interfaces
  | i3cPrivateSelect (bytes : List Byte)
  | i3cPrivateWrite (bytes : List Byte)
  | i3cPrivateRead (busBusy : Bool)
  | enec (ev : Byte)
  | disec (ev : Byte)
  | entdaa (addr : BitVec 7)
  | setdasa (static dyn : BitVec 7)
  | rstdaa
  | getpid
  | getbcr
  | getdcr
  | getstatus
  | getmwl
  | getmrl
  | ibiRetry (acked : Bool)
  | extest
  | idcode
  | samplePreload
  | clamp
  | highz
  | dtmcs
  | dmi (addr : Nat := 0) (data : BitVec 32 := 0) (op : BitVec 2 := 0)
  | bypass (code : BitVec 8)
  | tapReset
  -- the rest
  | registerWrite (off : BitVec 28) (size4 : Bool) (value : Word64) (fromHost : Bool)
  | nop (ch : Fin 8) (bundle : BitVec 512) (errs : List ReadErr := [])
  | refclkReturn (which : Fin 4)
  | selfRefreshExit
  | commandWaitTimeout (m : Fin 16)
  | d0Return
  | aerErrorLogged (e : AerErr)
  | resetGlitch (perst : Bool)
  deriving DecidableEq, Repr

end Sys2Proof
end

