-- ==== Sys2Proof/Config.lean ====
section
/-!
DEFINITION. What the manual leaves open: free values. Each is a constant with no body, so nothing can be proved of its value; a free value
is taken by applying it to the counter State.free, which the step that takes it advances (log entry 2).
-/

namespace Sys2Proof

/-- A free value: the results, choices and delays the manual does not fix, each taken modulo its range by the step that uses it. -/
opaque Config.freeNat : Nat → Nat

/-- What VMAX gives for two lanes to which the manual gives no result, a NaN among them; likewise VMIN. A function of the operands, as R68
asks of every result; a NaN it gives stands for the canonical one (R66). -/
opaque Config.vmaxOpen : BitVec 32 → BitVec 32 → BitVec 32
opaque Config.vminOpen : BitVec 32 → BitVec 32 → BitVec 32

/-- Whether VFMA sets VEC_INVALID for infinity × 0 + NaN, which IEEE 754 leaves to the implementation (R66). -/
opaque Config.fmaNanInvalid : Bool

/-- The identity seed in the fuses, which no path reads (R483). -/
opaque Config.identitySeed : List Byte

/-- The public key with which the manufacturer certifies modules, and its signature on this module's certificate (R487). -/
opaque Config.makerKey : List Byte
opaque Config.certSignature : List Byte

/-- What the debug transport and the debug module report of themselves (R570): address bits and idle hint of DTMCS, and hartinfo. -/
opaque Config.dtmAbits : Nat
opaque Config.dtmIdle : Nat
opaque Config.hartInfo : BitVec 32

/-- The serial number in the fuses, and key-hash slot 0 (R483). -/
opaque Config.serial : Nat
opaque Config.keySlot0 : List Byte

end Sys2Proof
end

