-- ==== Sys2Proof/Machine/Maps.lean ====
section
/-!
DEFINITION. Reading and writing sparse maps (registers, memories) and lists by position, and bit fields of words.
A map is kept in one canonical form: keys strictly rising, no entry equal to what an unlisted key holds, so that equal contents are equal data.
-/

namespace Sys2Proof.Machine

variable {α : Type}

/-- What key `k` holds; `d` says what unlisted keys hold. -/
def kget (d : Nat → α) : KMap α → Nat → α
  | [], k => d k
  | e :: m, k => if e.1 = k then e.2 else kget d m k

/-- Puts `v` at `k` in front of a tail whose keys are greater, or leaves it out when unlisted keys hold it. -/
def kcons [DecidableEq α] (d : Nat → α) (k : Nat) (v : α) (m : KMap α) : KMap α :=
  if v = d k then m else (k, v) :: m

/-- Forgets every entry of key `k`. -/
def kdel (k : Nat) (m : KMap α) : KMap α := m.filter fun e => decide (e.1 ≠ k)

/-- Sets what key `k` holds. -/
def kset [DecidableEq α] (d : Nat → α) : KMap α → Nat → α → KMap α
  | [], k, v => kcons d k v []
  | e :: m, k, v =>
    if k < e.1 then kcons d k v (kdel k (e :: m))
    else if k = e.1 then kcons d k v (kdel k m)
    else e :: kset d m k v

/-- The keys of a map rise strictly from above `lo`, and no entry holds the default. -/
def kwfFrom [DecidableEq α] (d : Nat → α) : Nat → KMap α → Bool
  | _, [] => true
  | lo, e :: m => decide (lo ≤ e.1) && !decide (e.2 = d e.1) && kwfFrom d (e.1 + 1) m

/-- The canonical form. -/
def kwf [DecidableEq α] (d : Nat → α) (m : KMap α) : Bool := kwfFrom d 0 m

/-- Keeps the keys that satisfy `p`; the others then hold the default. -/
def kfilter (p : Nat → Bool) (m : KMap α) : KMap α := m.filter (fun e => p e.1)

/-- Sets `vs` at consecutive keys from `k`. -/
def ksets [DecidableEq α] (d : Nat → α) (m : KMap α) (k : Nat) : List α → KMap α
  | [] => m
  | v :: vs => ksets d (kset d m k v) (k + 1) vs

/-- What `n` consecutive keys from `k` hold. -/
def kgets (d : Nat → α) (m : KMap α) (k n : Nat) : List α := (List.range n).map (fun i => kget d m (k + i))

/-- The element at a position of a list, or `d` beyond its end. -/
def nth (d : α) (l : List α) (i : Nat) : α := (l[i]?).getD d

/-- Replaces the element at a position; nothing happens beyond the end. -/
def setNth (l : List α) (i : Nat) (v : α) : List α := l.set i v

/-- Bits `lo` and up, `w` of them, of a number. -/
def bitsOf (n lo w : Nat) : Nat := n / 2 ^ lo % 2 ^ w

/-- Whether bit `i` of a number is 1. -/
def bit (n i : Nat) : Bool := decide (n / 2 ^ i % 2 = 1)

/-- 1 for true. -/
def b2n (b : Bool) : Nat := if b then 1 else 0

/-- The value of a field of a register. -/
def getF (v : Word64) (f : Fld) : Nat := v.toNat / 2 ^ f.lo % 2 ^ f.w

/-- A register with one field replaced by a number, taken modulo the field's range. -/
def setF (v : Word64) (f : Fld) (x : Nat) : Word64 :=
  BitVec.ofNat 64 (v.toNat / 2 ^ (f.lo + f.w) * 2 ^ (f.lo + f.w) + x % 2 ^ f.w * 2 ^ f.lo + v.toNat % 2 ^ f.lo)

/-- The little-endian value of a list of bytes. -/
def leNat : List Byte → Nat
  | [] => 0
  | b :: bs => b.toNat + 256 * leNat bs

/-- The low `n` bytes of a number, least significant first. -/
def leBytes : Nat → Nat → List Byte
  | 0, _ => []
  | n + 1, x => BitVec.ofNat 8 x :: leBytes n (x / 256)

/-- The bytes of `l` from position `i`, `n` of them, zeros beyond the end. -/
def slice (l : List Byte) (i n : Nat) : List Byte := (List.range n).map (fun j => nth 0 l (i + j))

/-- The little-endian number in `n` bytes of `l` from position `i`. -/
def leAt (l : List Byte) (i n : Nat) : Nat := leNat (slice l i n)

/-- Cuts a list into pieces of `n`; `k` bounds the number of pieces. -/
def chunks (n : Nat) : Nat → List α → List (List α)
  | 0, _ => []
  | _, [] => []
  | k + 1, l => l.take n :: chunks n k (l.drop n)

/-- The first `n` positions that are set in a bit mask. -/
def maskList (n mask : Nat) : List Nat := (List.range n).filter (fun i => bit mask i)

/-- The sum of a list of numbers. -/
def sumNat (l : List Nat) : Nat := l.foldl (· + ·) 0

end Sys2Proof.Machine
end

