-- ==== Sys2Proof/Machine/Ecc.lean ====
section
/-!
DEFINITION. The S4EC-D4ED code (R175, R178) in both its forms: the 32-byte sectors of device memory with their check sectors (R176, R177),
and the 64-bit words of every SRAM of the device (R179).
-/

namespace Sys2Proof.Machine

/-! ### The field and the columns (R175) -/

/-- Multiplication in GF(2^4) with x^4 + x + 1. -/
def gf16Mul (a b : Nat) : Nat :=
  (List.range 4).foldr (fun i acc =>
    let d := acc * 2
    let d := if 16 ≤ d then (d - 16) ^^^ 3 else d
    if bit b i then d ^^^ a else d) 0

/-- Q(u, v) = u² + uv + βv² with β = α³. -/
def quadric (u v : Nat) : Nat := gf16Mul u u ^^^ gf16Mul u v ^^^ gf16Mul 8 (gf16Mul v v)

/-- The column of H of a symbol: 0 to 63 data, 64 to 67 check. -/
def column (s : Nat) : List Nat :=
  if s < 64 then [1, s % 16, s / 16 + 2, quadric (s % 16) (s / 16 + 2)]
  else if s = 64 then [1, 0, 0, 0]
  else if s = 65 then [0, 0, 0, 1]
  else if s = 66 then [1, 1, 0, 1]
  else [1, 0, 1, 8]

/-- Adds two syndromes. -/
def synAdd (a b : List Nat) : List Nat := List.zipWith (· ^^^ ·) a b

/-- A symbol's difference times its column. -/
def synOf (s d : Nat) : List Nat := (column s).map (gf16Mul d)

/-- The syndrome of no error. -/
def syn0 : List Nat := [0, 0, 0, 0]

/-- The syndrome of poison (R178). -/
def synPoison : List Nat := [0, 1, 0, 0]

/-- The syndrome that a list of symbols, each with its place in H, adds to `y`. -/
def synSum (y : List Nat) (l : List (Nat × Nat)) : List Nat := l.foldl (fun a x => synAdd a (synOf x.1 x.2)) y

/-- The check symbols 0 to 3 that bring a data syndrome to `y`: row 1 gives check 2, row 2 check 3, then rows 0 and 3 the other two. -/
def checkFor (data y : List Nat) : List Nat :=
  let z := synAdd data y
  let c2 := nth 0 z 1
  let c3 := nth 0 z 2
  [nth 0 z 0 ^^^ c2 ^^^ c3, nth 0 z 3 ^^^ c2 ^^^ gf16Mul 8 c3, c2, c3]

/-- What the decoder makes of a syndrome (R178): the symbol and difference of a correction. -/
inductive Decoded where
  | clean
  | corrected (s d : Nat)
  | poison
  | uncorrectable
  deriving DecidableEq, Repr

/-- The decoder over a set of symbols (R178): a syndrome that is a multiple of exactly one of their columns is corrected. -/
def decodeOver (syms : List Nat) (y : List Nat) : Decoded :=
  if y = syn0 then .clean
  else if y = synPoison then .poison
  else
    match syms.findSome? (fun s => ((List.range 16).find? fun d => decide (d ≠ 0 ∧ synOf s d = y)).map fun d => (s, d)) with
    | some (s, d) => .corrected s d
    | none => .uncorrectable

/-! ### Sectors of device memory (R176, R177) -/

/-- The decoder of a data sector. -/
def decodeSyn (y : List Nat) : Decoded := decodeOver (List.range 68) y

/-- The syndrome of a data sector with these bit errors (R178). -/
def syndrome (poison : Bool) (e : SymErr) : List Nat :=
  synSum (if poison then synPoison else syn0) (e.map fun x => (x.1 % 68, x.2.toNat))

/-- Symbol `s` of 32 bytes: pin s / 4, beats 4 (s mod 4) to 4 (s mod 4) + 3 (R176). -/
def symOf (b : List Byte) (s : Nat) : Nat :=
  sumNat ((List.range 4).map fun i => b2n (bit (leAt b (2 * (4 * (s % 4) + i)) 2) (s / 4)) * 2 ^ i)

/-- Adds a difference to symbol `s` of 32 bytes, if there is such a symbol. -/
def flipSym (b : List Byte) (s d : Nat) : List Byte :=
  if 64 ≤ s then b
  else
    (List.range 4).foldl (fun b i =>
      if bit d i then
        let k := 2 * (4 * (s % 4) + i) + s / 4 / 8
        b.set k (nth 0 b k ^^^ BitVec.ofNat 8 (2 ^ (s / 4 % 8)))
      else b) b

/-- The 32 bytes whose symbols are these. -/
def ofSyms (l : List Nat) : List Byte := l.zipIdx.foldl (fun b x => flipSym b x.2 x.1) (List.replicate 32 0)

/-- The check symbols of a data sector; those of a poisoned one give the syndrome of poison (R178). -/
def sectorChecks (b : List Byte) (poison : Bool) : List Nat :=
  checkFor (synSum syn0 ((List.range 64).map fun s => (s, symOf b s))) (if poison then synPoison else syn0)

/-- The column of H of position `p` of a check sector (R177): positions 60 to 63 are its own check symbols. -/
def checkPos (p : Nat) : Nat := if 60 ≤ p then p + 4 else p

/-- A check sector from the check symbols of its fifteen data sectors (R177). -/
def checkSector (l : List (List Nat)) : List Byte :=
  let data := (l.flatten).take 60
  ofSyms (data ++ checkFor (synSum syn0 (data.zipIdx.map fun x => (x.2, x.1))) syn0)

/-- The decoder of a check sector: 64 positions, the last four its own check symbols. A correction names the position. -/
def decodeCheck (e : SymErr) : Decoded :=
  match decodeOver ((List.range 64).map checkPos) (synSum syn0 (e.map fun x => (checkPos (x.1 % 64), x.2.toNat))) with
  | .corrected s d => .corrected (if 64 ≤ s then s - 4 else s) d
  | y => y

/-! ### 64-bit words (R179) -/

/-- The column of H of symbol `j` of a word: 0 to 15 data, 16 to 19 check. -/
def wordCol (j : Nat) : Nat := if j < 16 then j else j + 48

/-- The check symbols stored beside a word. -/
def wordChecks (w : Word64) : List Nat :=
  checkFor (synSum syn0 ((List.range 16).map fun j => (j, bitsOf w.toNat (4 * j) 4))) syn0

/-- A word with differences added to its data symbols. -/
def flipWord (w : Word64) (l : List (Nat × Nat)) : Word64 :=
  l.foldl (fun w x => if x.1 < 16 then w ^^^ BitVec.ofNat 64 (x.2 % 16 * 2 ^ (4 * x.1)) else w) w

/-- What a read of a word finds. -/
inductive WordOut where
  | clean
  | corrected
  | bad
  deriving DecidableEq, Repr

/-- A word read with these bit errors, decoded: the word the reader gets, and what was found (R81, R178, R179). -/
def readWord (w : Word64) (e : SymErr) : Word64 × WordOut :=
  let raw := flipWord w (e.map fun x => (x.1 % 20, x.2.toNat))
  match decodeOver ((List.range 20).map wordCol) (synSum syn0 (e.map fun x => (wordCol (x.1 % 20), x.2.toNat))) with
  | .clean => (raw, .clean)
  | .corrected s d => (flipWord raw [(s, d)], .corrected)
  | _ => (raw, .bad)

/-- Decodes the words of a run of bytes that begins at byte `addr` of a memory: `errs` names words by their number in that memory. The bytes
the reader gets, and what was found in each word named that the run touches. -/
def readWords (addr : Nat) (b : List Byte) (errs : EccObs) : List Byte × List (Nat × WordOut) :=
  errs.foldl (fun acc x =>
    let lo := x.1 * 8
    if lo < addr + b.length ∧ addr < lo + 8 then
      let w := BitVec.ofNat 64 (leNat ((List.range 8).map fun i => if addr ≤ lo + i then nth 0 acc.1 (lo + i - addr) else 0))
      let (v, o) := readWord w x.2
      (acc.1.zipIdx.map (fun y => if lo ≤ addr + y.2 ∧ addr + y.2 < lo + 8 then BitVec.ofNat 8 (v.toNat / 2 ^ (8 * (addr + y.2 - lo))) else y.1),
        acc.2 ++ [(x.1, o)])
    else acc) (b, [])

end Sys2Proof.Machine
end

