-- ==== Sys2Proof/Machine/Flags.lean ====
section
/-!
DEFINITION. The sticky arithmetic flags of CH_ARITH_FLAGS (R72), as the eleven low bits of that register, and what a rounding reports.
-/

namespace Sys2Proof.Machine

/-- A set of CH_ARITH_FLAGS bits (R72). -/
abbrev AFlags := BitVec 11

/-- CH_ARITH_FLAGS.INEXACT_ALIGN (R53). -/
def afInexactAlign : AFlags := 0x001#11
/-- CH_ARITH_FLAGS.INEXACT_MX (R50). -/
def afInexactMx : AFlags := 0x002#11
/-- CH_ARITH_FLAGS.NONFIN_IN (R51). -/
def afNonfinIn : AFlags := 0x004#11
/-- CH_ARITH_FLAGS.WIDE_WRAP (R57). -/
def afWideWrap : AFlags := 0x008#11
/-- CH_ARITH_FLAGS.OUT_OVF (R61, R62). -/
def afOutOvf : AFlags := 0x010#11
/-- CH_ARITH_FLAGS.OUT_UNF (R60, R62). -/
def afOutUnf : AFlags := 0x020#11
/-- CH_ARITH_FLAGS.VEC_INVALID (R66). -/
def afInvalid : AFlags := 0x040#11
/-- CH_ARITH_FLAGS.VEC_DIVZERO (R66, R67). -/
def afDivzero : AFlags := 0x080#11
/-- CH_ARITH_FLAGS.VEC_OVF (R66). -/
def afOvf : AFlags := 0x100#11
/-- CH_ARITH_FLAGS.VEC_UNF (R66, R67, R581). -/
def afUnf : AFlags := 0x200#11
/-- CH_ARITH_FLAGS.VEC_INEXACT (R66, R67, R581). -/
def afInexact : AFlags := 0x400#11

/-- The flags of `f` when `b`, and none otherwise. -/
def afIf (b : Bool) (f : AFlags) : AFlags := if b then f else 0

/-- What a rounding reports beside its result (R60 to R62, R66): overflow; a non-zero value rounded to zero; a result that differs from
the exact value; tininess after rounding. -/
structure RndInfo where
  ovf : Bool
  zeroed : Bool
  inexact : Bool
  tiny : Bool
  deriving DecidableEq, Repr

/-- The flags that a drain or VWRND sets for one rounding (R60 to R62). -/
def RndInfo.outFlags (i : RndInfo) : AFlags := afIf i.ovf afOutOvf ||| afIf i.zeroed afOutUnf

/-- The flags of an FP32 operation, and of a finite VCVT (R66, R67, R581). -/
def RndInfo.vecFlags (i : RndInfo) : AFlags :=
  afIf i.ovf (afOvf ||| afInexact) ||| afIf i.inexact afInexact ||| afIf (i.tiny && i.inexact) afUnf

/-- The flags of one MXINT8 element in VCVT (R62): a value that rounds to zero sets VEC_UNF and VEC_INEXACT. -/
def RndInfo.mxIntFlags (i : RndInfo) : AFlags :=
  afIf i.ovf afOvf ||| afIf i.inexact afInexact ||| afIf i.zeroed (afUnf ||| afInexact)

end Sys2Proof.Machine
end

