-- ==== Sys2Proof/Machine/Regs.lean ====
section
/-!
DEFINITION. The register table of the module: every BAR0 register of the manual, its place (R6, R34, R70, R126, R212, R257, R294, R337, R367,
R399, R441, R490, R511, R540, R576), and for each of its fields the bits, the access type (R8), the reset value and the weakest reset that
clears it (R14), as the register tables of spec/ give them. Reserved fields are listed too (they read 0, R10).
Register functions give BAR0 offsets; field constants carry the manual's own names, REGISTER_FIELD.
-/

namespace Sys2Proof.Machine

/-- The access types of R8. -/
inductive Access where
  | ro | rw | w1c | w1s | wo | rwl
  deriving DecidableEq, Repr

/-- The resets of R14, strongest first; `never` is the code of R16. -/
inductive Rst where
  | por | mod | hot | soft | chn | lnk | never
  deriving DecidableEq, Repr

/-- One field of a register table: its lowest bit and width, access, reset value and Cleared by code. -/
structure FieldDef where
  lo : Nat
  w : Nat
  acc : Access
  reset : Nat
  clr : Rst
  deriving DecidableEq, Repr

/-- Every kind of BAR0 register the manual lays out. -/
inductive RegKind where
  | ctlChipId | netPlace | chCtl | chStatus | chFault | chOverrun
  | chTeMap | chShadow | chBankMap | chArithCtl | chArithFlags | chSrSeed
  | chSrRank | chXslotCtl | chXslotStat | chQRing | chQCount | chNqStatus
  | chCue | chXcap | chXdrop | mcStatus | mcScrubCtl | mcHostwin
  | mcLendStat | mcSeErr | mcChStatus | mcChEcc | mcChErr | mcRemapSel
  | mcRemapData | arbCtlM | arbCtlB | arbPrioM | arbPrioB | arbStatM
  | arbStatB | arbCntM | arbCntB | arbLongestM | arbLongestB | netFabCtl
  | netFabStat | netSwapTick | netVc0Fault | netVc0FaultTick | netMapStat | netPortMap
  | netPortHop | netVc0Err | netVc0Cnt | netRxWatch | netCircuit | netRoute
  | netUnsCtl | netUnsStat | netFlowClear | netTelemCtl | netTelemStat | netUnsDrop0
  | netUnsDrop1 | netTelemHist | netTelemDrops | lnkCtl | lnkStatus | lnkSeq
  | lnkLaneMap | lnkLaneCtl | lnkEvent | lnkErr0 | lnkErr1 | lnkErr2
  | lnkLaneErr | lnkPeer | lnkCredTx | lnkCredRx | lnkPhyStatus | lnkSurvey
  | lnkMarginCtl | lnkMargin | lnkLaser | timNow | timCtl | timServo
  | timStat | timRefused | timTrim | timRebaseAt | timRebaseTo | timLink
  | timCnt | safCtl | safStat | safFault | safFirst | safFirstTick
  | safRaise | safKick | safNotice | safLockViolCount | safRegion | safInt
  | safSramEcc | mbSubmit | mbStatus | mbAbort | ctlBoot | ctlFwVersion
  | ctlCore | ctlPostAddr | ctlPostData | ctlPostStat | ctlRxring | ctlTxring
  | ctlPcieStat | ctlHostAlert | ctlHostRaise | pwrState | pwrVin | pwrSupplyEvt
  | pwrDipLog | pwrArith | pwrCap | pwrClk | pwrThermCtl | pwrThermStat
  | pwrResurvey | pwrReset | pwrSite | pwrRail | brdStrap | brdPin
  | brdI3c | brdJtag | msixTable | msixPba
  deriving DecidableEq, Repr

/-- CTL_CHIP_ID (R6): STEPPING [7:0], LAT_TABLE_MAX [15:8], PART [31:16], OPT_ENGINES [47:32]. -/
def ctlChipIdFields : List FieldDef :=
  [⟨0, 8, .ro, 17, .never⟩, ⟨8, 8, .ro, 1, .never⟩, ⟨16, 16, .ro, 1, .never⟩, ⟨32, 16, .ro, 15, .never⟩, ⟨48, 16, .ro, 0, .never⟩]

/-- NET_PLACE (R34): DEVICE_ID [11:0], PLACE_ERR [15:15], X [19:16], Y [23:20], Z [27:24], SIZE_X_M1 [35:32], SIZE_Y_M1 [39:36], SIZE_Z_M1 [43:40], SLICE_ID [59:48], LOCK [63:63]. -/
def netPlaceFields : List FieldDef :=
  [⟨0, 12, .rwl, 0, .mod⟩, ⟨12, 3, .ro, 0, .mod⟩, ⟨15, 1, .ro, 0, .mod⟩, ⟨16, 4, .rwl, 0, .mod⟩, ⟨20, 4, .rwl, 0, .mod⟩, ⟨24, 4, .rwl, 0, .mod⟩, ⟨28, 4, .ro, 0, .mod⟩, ⟨32, 4, .rwl, 0, .mod⟩, ⟨36, 4, .rwl, 0, .mod⟩, ⟨40, 4, .rwl, 0, .mod⟩, ⟨44, 4, .ro, 0, .mod⟩, ⟨48, 12, .rwl, 0, .mod⟩, ⟨60, 3, .ro, 0, .mod⟩, ⟨63, 1, .rwl, 0, .mod⟩]

/-- CH_CTL (R127): RUN [0:0], STOP_AT_CUE [1:1], REHEARSAL [2:2], PAD_A1 [3:3], COUNTED [4:4], START [22:8]. -/
def chCtlFields : List FieldDef :=
  [⟨0, 1, .rw, 0, .chn⟩, ⟨1, 1, .w1s, 0, .chn⟩, ⟨2, 1, .rw, 0, .chn⟩, ⟨3, 1, .rw, 0, .chn⟩, ⟨4, 1, .rw, 0, .chn⟩, ⟨5, 3, .ro, 0, .chn⟩, ⟨8, 15, .rw, 0, .chn⟩, ⟨23, 41, .ro, 0, .chn⟩]

/-- CH_STATUS (R128): STATE [2:0], HOLD_CUE [3:3], HOLD_Q [4:4], START_ERR [5:5], PC [22:8], CUE_FIRED [47:32]. -/
def chStatusFields : List FieldDef :=
  [⟨0, 3, .ro, 0, .chn⟩, ⟨3, 1, .ro, 0, .chn⟩, ⟨4, 1, .ro, 0, .chn⟩, ⟨5, 1, .ro, 0, .chn⟩, ⟨6, 2, .ro, 0, .chn⟩, ⟨8, 15, .ro, 0, .chn⟩, ⟨23, 9, .ro, 0, .chn⟩, ⟨32, 16, .ro, 0, .chn⟩, ⟨48, 16, .ro, 0, .chn⟩]

/-- CH_FAULT (R129): ILLEGAL [0:0], CUE_OVERRUN [1:1], QUEUE_OVF [2:2], QUEUE_UNF [3:3], SEND_LATE [4:4], SRAM_RANGE [5:5], SRAM_UE [6:6], TE_RESIDUE [7:7], TE_SHADOW [8:8], NONFIN [9:9], HAZARD [10:10], REG_UE [11:11], FIRST [20:16], FIRST_VALID [21:21], FIRST_PC [36:22], FIRST_ENGINE [40:37]. -/
def chFaultFields : List FieldDef :=
  [⟨0, 1, .w1c, 0, .chn⟩, ⟨1, 1, .w1c, 0, .chn⟩, ⟨2, 1, .w1c, 0, .chn⟩, ⟨3, 1, .w1c, 0, .chn⟩, ⟨4, 1, .w1c, 0, .chn⟩, ⟨5, 1, .w1c, 0, .chn⟩, ⟨6, 1, .w1c, 0, .chn⟩, ⟨7, 1, .w1c, 0, .chn⟩, ⟨8, 1, .w1c, 0, .chn⟩, ⟨9, 1, .w1c, 0, .chn⟩, ⟨10, 1, .w1c, 0, .chn⟩, ⟨11, 1, .w1c, 0, .chn⟩, ⟨12, 4, .ro, 0, .chn⟩, ⟨16, 5, .ro, 0, .chn⟩, ⟨21, 1, .ro, 0, .chn⟩, ⟨22, 15, .ro, 0, .chn⟩, ⟨37, 4, .ro, 0, .chn⟩, ⟨41, 23, .ro, 0, .chn⟩]

/-- CH_OVERRUN (R130): CUE [3:0], QUEUE [8:4], KIND [10:9], DETAIL [63:32]. -/
def chOverrunFields : List FieldDef :=
  [⟨0, 4, .ro, 0, .chn⟩, ⟨4, 5, .ro, 0, .chn⟩, ⟨9, 2, .ro, 0, .chn⟩, ⟨11, 21, .ro, 0, .chn⟩, ⟨32, 32, .ro, 0, .chn⟩]

/-- CH_TE_MAP (R131): REPLACED [3:0], REPLACE_EN [4:4], SHADOW_AVAIL [5:5], TE16_SUSPECT [6:6]. -/
def chTeMapFields : List FieldDef :=
  [⟨0, 4, .rw, 0, .chn⟩, ⟨4, 1, .rw, 0, .chn⟩, ⟨5, 1, .ro, 1, .chn⟩, ⟨6, 1, .rw, 0, .chn⟩, ⟨7, 57, .ro, 0, .chn⟩]

/-- CH_SHADOW (R132): EN [0:0], PERIOD [39:8], TARGET [43:40], COMPARING [44:44], TE16_RESIDUE [45:45]. -/
def chShadowFields : List FieldDef :=
  [⟨0, 1, .rw, 1, .chn⟩, ⟨1, 7, .ro, 0, .chn⟩, ⟨8, 32, .rw, 1000000, .chn⟩, ⟨40, 4, .ro, 0, .chn⟩, ⟨44, 1, .ro, 0, .chn⟩, ⟨45, 1, .w1c, 0, .chn⟩, ⟨46, 18, .ro, 0, .chn⟩]

/-- CH_BANK_MAP (R133): U0_LOGICAL [5:0], U0_EN [6:6], U1_LOGICAL [13:8], U1_EN [14:14]. -/
def chBankMapFields : List FieldDef :=
  [⟨0, 6, .rw, 0, .chn⟩, ⟨6, 1, .rw, 0, .chn⟩, ⟨7, 1, .ro, 0, .chn⟩, ⟨8, 6, .rw, 0, .chn⟩, ⟨14, 1, .rw, 0, .chn⟩, ⟨15, 49, .ro, 0, .chn⟩]

/-- CH_ARITH_CTL (R71): NONFIN_FAULT [0:0]. -/
def chArithCtlFields : List FieldDef :=
  [⟨0, 1, .rw, 0, .chn⟩, ⟨1, 63, .ro, 0, .chn⟩]

/-- CH_ARITH_FLAGS (R72): INEXACT_ALIGN [0:0], INEXACT_MX [1:1], NONFIN_IN [2:2], WIDE_WRAP [3:3], OUT_OVF [4:4], OUT_UNF [5:5], VEC_INVALID [6:6], VEC_DIVZERO [7:7], VEC_OVF [8:8], VEC_UNF [9:9], VEC_INEXACT [10:10]. -/
def chArithFlagsFields : List FieldDef :=
  [⟨0, 1, .w1c, 0, .chn⟩, ⟨1, 1, .w1c, 0, .chn⟩, ⟨2, 1, .w1c, 0, .chn⟩, ⟨3, 1, .w1c, 0, .chn⟩, ⟨4, 1, .w1c, 0, .chn⟩, ⟨5, 1, .w1c, 0, .chn⟩, ⟨6, 1, .w1c, 0, .chn⟩, ⟨7, 1, .w1c, 0, .chn⟩, ⟨8, 1, .w1c, 0, .chn⟩, ⟨9, 1, .w1c, 0, .chn⟩, ⟨10, 1, .w1c, 0, .chn⟩, ⟨11, 53, .ro, 0, .chn⟩]

/-- CH_SR_SEED (R73): SEED [63:0]. -/
def chSrSeedFields : List FieldDef :=
  [⟨0, 64, .rw, 0, .chn⟩]

/-- CH_SR_RANK (R74): RANK [14:0]. -/
def chSrRankFields : List FieldDef :=
  [⟨0, 15, .rw, 0, .chn⟩, ⟨15, 49, .ro, 0, .chn⟩]

/-- CH_XSLOT_CTL (R138): EXPERTS [8:0], POLICY [9:9], DEFER_CAP [31:16]. -/
def chXslotCtlFields : List FieldDef :=
  [⟨0, 9, .rw, 0, .chn⟩, ⟨9, 1, .rw, 0, .chn⟩, ⟨10, 6, .ro, 0, .chn⟩, ⟨16, 16, .rw, 0, .chn⟩, ⟨32, 32, .ro, 0, .chn⟩]

/-- CH_XSLOT_STAT (R139): DEFER_USED [15:0], BAD_INDEX [63:32]. -/
def chXslotStatFields : List FieldDef :=
  [⟨0, 16, .ro, 0, .chn⟩, ⟨16, 16, .ro, 0, .chn⟩, ⟨32, 32, .rw, 0, .chn⟩]

/-- CH_Q_RING (R134): BASE [13:0], SIZE_M1 [25:16]. -/
def chQRingFields : List FieldDef :=
  [⟨0, 14, .rw, 0, .chn⟩, ⟨14, 2, .ro, 0, .chn⟩, ⟨16, 10, .rw, 0, .chn⟩, ⟨26, 38, .ro, 0, .chn⟩]

/-- CH_Q_COUNT (R135): AVAIL [16:0], SE_BUSY [17:17], MAX_WAIT [63:32]. -/
def chQCountFields : List FieldDef :=
  [⟨0, 17, .ro, 0, .chn⟩, ⟨17, 1, .ro, 0, .chn⟩, ⟨18, 14, .ro, 0, .chn⟩, ⟨32, 32, .ro, 0, .chn⟩]

/-- CH_NQ_STATUS (R136): FLITS [6:0], DESCS [12:8]. -/
def chNqStatusFields : List FieldDef :=
  [⟨0, 7, .ro, 0, .chn⟩, ⟨7, 1, .ro, 0, .chn⟩, ⟨8, 5, .ro, 0, .chn⟩, ⟨13, 51, .ro, 0, .chn⟩]

/-- CH_CUE (R137): TICK [63:0]. -/
def chCueFields : List FieldDef :=
  [⟨0, 64, .ro, 18446744073709551615, .chn⟩]

/-- CH_XCAP (R140): CAP [15:0], FILL [31:16]. -/
def chXcapFields : List FieldDef :=
  [⟨0, 16, .rw, 0, .chn⟩, ⟨16, 16, .ro, 0, .chn⟩, ⟨32, 32, .ro, 0, .chn⟩]

/-- CH_XDROP (R141): DROPPED [31:0], DEFERRED [63:32]. -/
def chXdropFields : List FieldDef :=
  [⟨0, 32, .rw, 0, .chn⟩, ⟨32, 32, .rw, 0, .chn⟩]

/-- MC_STATUS (R213): INIT_DONE [0:0], REMAP_REFUSED [1:1], SWEEPS [63:32]. -/
def mcStatusFields : List FieldDef :=
  [⟨0, 1, .ro, 0, .mod⟩, ⟨1, 1, .w1c, 0, .soft⟩, ⟨2, 30, .ro, 0, .mod⟩, ⟨32, 32, .ro, 0, .mod⟩]

/-- MC_SCRUB_CTL (R214): EN [0:0], PERIOD_H [15:8], PAGE_THRESH [23:16]. -/
def mcScrubCtlFields : List FieldDef :=
  [⟨0, 1, .rw, 1, .soft⟩, ⟨1, 7, .ro, 0, .soft⟩, ⟨8, 8, .rw, 12, .soft⟩, ⟨16, 8, .rw, 4, .soft⟩, ⟨24, 40, .ro, 0, .soft⟩]

/-- MC_HOSTWIN (R215): BASE [9:0], RATE_EN [32:32], RATE [63:40]. -/
def mcHostwinFields : List FieldDef :=
  [⟨0, 10, .rw, 0, .hot⟩, ⟨10, 22, .ro, 0, .hot⟩, ⟨32, 1, .rw, 0, .soft⟩, ⟨33, 7, .ro, 0, .soft⟩, ⟨40, 24, .rw, 0, .soft⟩]

/-- MC_LEND_STAT (R216): LATE [15:0], BAD_OP [31:16], RANGE [47:32]. -/
def mcLendStatFields : List FieldDef :=
  [⟨0, 16, .rw, 0, .soft⟩, ⟨16, 16, .rw, 0, .soft⟩, ⟨32, 16, .rw, 0, .soft⟩, ⟨48, 16, .ro, 0, .soft⟩]

/-- MC_SE_ERR (R217): VALID [0:0], QUEUE [5:1], KIND [7:6], ADDR [63:24]. -/
def mcSeErrFields : List FieldDef :=
  [⟨0, 1, .w1c, 0, .chn⟩, ⟨1, 5, .ro, 0, .chn⟩, ⟨6, 2, .ro, 0, .chn⟩, ⟨8, 16, .ro, 0, .chn⟩, ⟨24, 40, .ro, 0, .chn⟩]

/-- MC_CH_STATUS (R218): STATE [1:0], RETIRED [2:2], PIN_FAIL [3:3], PIN [7:4], CAND [8:8]. -/
def mcChStatusFields : List FieldDef :=
  [⟨0, 2, .ro, 0, .mod⟩, ⟨2, 1, .rw, 0, .mod⟩, ⟨3, 1, .w1c, 0, .mod⟩, ⟨4, 4, .ro, 0, .mod⟩, ⟨8, 1, .w1c, 0, .mod⟩, ⟨9, 55, .ro, 0, .mod⟩]

/-- MC_CH_ECC (R219): CORRECTED [31:0], UNCORRECTABLE [63:32]. -/
def mcChEccFields : List FieldDef :=
  [⟨0, 32, .rw, 0, .mod⟩, ⟨32, 32, .rw, 0, .mod⟩]

/-- MC_CH_ERR (R220): PAGE [11:0], SECTOR [31:16], KIND [34:32], VALID [35:35]. -/
def mcChErrFields : List FieldDef :=
  [⟨0, 12, .ro, 0, .mod⟩, ⟨12, 4, .ro, 0, .mod⟩, ⟨16, 16, .ro, 0, .mod⟩, ⟨32, 3, .ro, 0, .mod⟩, ⟨35, 1, .w1c, 0, .mod⟩, ⟨36, 28, .ro, 0, .mod⟩]

/-- MC_REMAP_SEL (R221): PAGE [11:0]. -/
def mcRemapSelFields : List FieldDef :=
  [⟨0, 12, .rw, 0, .mod⟩, ⟨12, 52, .ro, 0, .mod⟩]

/-- MC_REMAP_DATA (R221): TO_PAGE [11:0], TO_CHAN [18:12]. -/
def mcRemapDataFields : List FieldDef :=
  [⟨0, 12, .rw, 0, .mod⟩, ⟨12, 7, .rw, 0, .mod⟩, ⟨19, 45, .ro, 0, .mod⟩]

/-- ARB_CTL_M (R222): N [6:0], STARVE_THRESH [39:8], STARVE_IE [40:40]. -/
def arbCtlMFields : List FieldDef :=
  [⟨0, 7, .rw, 8, .soft⟩, ⟨7, 1, .ro, 0, .soft⟩, ⟨8, 32, .rw, 1600, .soft⟩, ⟨40, 1, .rw, 1, .soft⟩, ⟨41, 23, .ro, 0, .soft⟩]

/-- ARB_CTL_B (R222): N [6:0], STARVE_THRESH [39:8], STARVE_IE [40:40]. -/
def arbCtlBFields : List FieldDef :=
  [⟨0, 7, .rw, 8, .chn⟩, ⟨7, 1, .ro, 0, .chn⟩, ⟨8, 32, .rw, 320, .chn⟩, ⟨40, 1, .rw, 1, .chn⟩, ⟨41, 23, .ro, 0, .chn⟩]

/-- ARB_PRIO_M (R223): BASE_0 [2:0], BASE_1 [6:4], BASE_2 [10:8], BASE_3 [14:12], BASE_4 [18:16], BASE_5 [22:20], BASE_6 [26:24], BASE_7 [30:28], BASE_8 [34:32], BASE_9 [38:36]. -/
def arbPrioMFields : List FieldDef :=
  [⟨0, 3, .rw, 4, .soft⟩, ⟨3, 1, .ro, 0, .soft⟩, ⟨4, 3, .rw, 4, .soft⟩, ⟨7, 1, .ro, 0, .soft⟩, ⟨8, 3, .rw, 4, .soft⟩, ⟨11, 1, .ro, 0, .soft⟩, ⟨12, 3, .rw, 4, .soft⟩, ⟨15, 1, .ro, 0, .soft⟩, ⟨16, 3, .rw, 4, .soft⟩, ⟨19, 1, .ro, 0, .soft⟩, ⟨20, 3, .rw, 4, .soft⟩, ⟨23, 1, .ro, 0, .soft⟩, ⟨24, 3, .rw, 4, .soft⟩, ⟨27, 1, .ro, 0, .soft⟩, ⟨28, 3, .rw, 4, .soft⟩, ⟨31, 1, .ro, 0, .soft⟩, ⟨32, 3, .rw, 4, .soft⟩, ⟨35, 1, .ro, 0, .soft⟩, ⟨36, 3, .rw, 4, .soft⟩, ⟨39, 1, .ro, 0, .soft⟩, ⟨40, 24, .ro, 0, .soft⟩]

/-- ARB_PRIO_B (R223): BASE_0 [2:0], BASE_1 [6:4], BASE_2 [10:8], BASE_3 [14:12], BASE_4 [18:16]. -/
def arbPrioBFields : List FieldDef :=
  [⟨0, 3, .rw, 4, .chn⟩, ⟨3, 1, .ro, 0, .chn⟩, ⟨4, 3, .rw, 4, .chn⟩, ⟨7, 1, .ro, 0, .chn⟩, ⟨8, 3, .rw, 4, .chn⟩, ⟨11, 1, .ro, 0, .chn⟩, ⟨12, 3, .rw, 4, .chn⟩, ⟨15, 1, .ro, 0, .chn⟩, ⟨16, 3, .rw, 4, .chn⟩, ⟨19, 1, .ro, 0, .chn⟩, ⟨20, 44, .ro, 0, .chn⟩]

/-- ARB_STAT_M (R224): STARVE [0:0], STARVE_REQ [7:4], HELD [8:8], HOLDER [15:12], MASK [25:16], GRANT_COUNT [37:32]. -/
def arbStatMFields : List FieldDef :=
  [⟨0, 1, .w1c, 0, .soft⟩, ⟨1, 3, .ro, 0, .soft⟩, ⟨4, 4, .ro, 0, .soft⟩, ⟨8, 1, .ro, 0, .soft⟩, ⟨9, 3, .ro, 0, .soft⟩, ⟨12, 4, .ro, 0, .soft⟩, ⟨16, 10, .ro, 0, .soft⟩, ⟨26, 6, .ro, 0, .soft⟩, ⟨32, 6, .ro, 0, .soft⟩, ⟨38, 26, .ro, 0, .soft⟩]

/-- ARB_STAT_B (R224): STARVE [0:0], STARVE_REQ [7:4], HELD [8:8], HOLDER [15:12], MASK [25:16], GRANT_COUNT [37:32]. -/
def arbStatBFields : List FieldDef :=
  [⟨0, 1, .w1c, 0, .chn⟩, ⟨1, 3, .ro, 0, .chn⟩, ⟨4, 4, .ro, 0, .chn⟩, ⟨8, 1, .ro, 0, .chn⟩, ⟨9, 3, .ro, 0, .chn⟩, ⟨12, 4, .ro, 0, .chn⟩, ⟨16, 10, .ro, 0, .chn⟩, ⟨26, 6, .ro, 0, .chn⟩, ⟨32, 6, .ro, 0, .chn⟩, ⟨38, 26, .ro, 0, .chn⟩]

/-- ARB_CNT_M (R225): GRANTS [31:0], WAITS [63:32]. -/
def arbCntMFields : List FieldDef :=
  [⟨0, 32, .rw, 0, .soft⟩, ⟨32, 32, .rw, 0, .soft⟩]

/-- ARB_CNT_B (R225): GRANTS [31:0], WAITS [63:32]. -/
def arbCntBFields : List FieldDef :=
  [⟨0, 32, .rw, 0, .chn⟩, ⟨32, 32, .rw, 0, .chn⟩]

/-- ARB_LONGEST_M (R225): LONGEST [31:0]. -/
def arbLongestMFields : List FieldDef :=
  [⟨0, 32, .rw, 0, .soft⟩, ⟨32, 32, .ro, 0, .soft⟩]

/-- ARB_LONGEST_B (R225): LONGEST [31:0]. -/
def arbLongestBFields : List FieldDef :=
  [⟨0, 32, .rw, 0, .chn⟩, ⟨32, 32, .ro, 0, .chn⟩]

/-- NET_FAB_CTL (R258): VC0_EN [0:0], ACTIVE_BANK [1:1], ARM [2:2], FENCE_CURTAIN [3:3], SWAP_CH [10:8], SWAP_EN [11:11], SWAP_CUE [15:12]. -/
def netFabCtlFields : List FieldDef :=
  [⟨0, 1, .rw, 0, .soft⟩, ⟨1, 1, .ro, 0, .soft⟩, ⟨2, 1, .rw, 0, .soft⟩, ⟨3, 1, .rw, 0, .soft⟩, ⟨4, 4, .ro, 0, .soft⟩, ⟨8, 3, .rw, 0, .soft⟩, ⟨11, 1, .rw, 0, .soft⟩, ⟨12, 4, .rw, 0, .soft⟩, ⟨16, 48, .ro, 0, .soft⟩]

/-- NET_FAB_STAT (R259): SWAP_MISSED [0:0], TABLE_WRITE_REFUSED [1:1], FENCE_DROP [2:2], VC0_FAULT [3:3], SWAPS [31:16]. -/
def netFabStatFields : List FieldDef :=
  [⟨0, 1, .w1c, 0, .soft⟩, ⟨1, 1, .w1c, 0, .soft⟩, ⟨2, 1, .w1c, 0, .soft⟩, ⟨3, 1, .w1c, 0, .soft⟩, ⟨4, 12, .ro, 0, .soft⟩, ⟨16, 16, .ro, 0, .soft⟩, ⟨32, 32, .ro, 0, .soft⟩]

/-- NET_SWAP_TICK (R260): TICK [63:0]. -/
def netSwapTickFields : List FieldDef :=
  [⟨0, 64, .ro, 18446744073709551615, .soft⟩]

/-- NET_VC0_FAULT (R261): KIND [3:0], VALID [4:4], PORT [11:6], CIRCUIT [27:16], BANK [28:28], SLOT [47:32]. -/
def netVc0FaultFields : List FieldDef :=
  [⟨0, 4, .ro, 0, .soft⟩, ⟨4, 1, .w1c, 0, .soft⟩, ⟨5, 1, .ro, 0, .soft⟩, ⟨6, 6, .ro, 0, .soft⟩, ⟨12, 4, .ro, 0, .soft⟩, ⟨16, 12, .ro, 0, .soft⟩, ⟨28, 1, .ro, 0, .soft⟩, ⟨29, 3, .ro, 0, .soft⟩, ⟨32, 16, .ro, 0, .soft⟩, ⟨48, 16, .ro, 0, .soft⟩]

/-- NET_VC0_FAULT_TICK (R261): TICK [63:0]. -/
def netVc0FaultTickFields : List FieldDef :=
  [⟨0, 64, .ro, 0, .soft⟩]

/-- NET_MAP_STAT (R374): MAP_WRITE_REFUSED [0:0], MAP_CONFLICT [1:1], CONFLICT_PORT [6:2]. -/
def netMapStatFields : List FieldDef :=
  [⟨0, 1, .w1c, 0, .soft⟩, ⟨1, 1, .w1c, 0, .soft⟩, ⟨2, 5, .ro, 0, .soft⟩, ⟨7, 57, .ro, 0, .soft⟩]

/-- NET_PORT_MAP (R373): ROLE [1:0], DIR [4:2], POS [6:5], EXP_PEER_ID [19:8], EXP_PEER_PORT [24:20]. -/
def netPortMapFields : List FieldDef :=
  [⟨0, 2, .rw, 0, .mod⟩, ⟨2, 3, .rw, 0, .mod⟩, ⟨5, 2, .rw, 0, .mod⟩, ⟨7, 1, .ro, 0, .mod⟩, ⟨8, 12, .rw, 0, .mod⟩, ⟨20, 5, .rw, 0, .mod⟩, ⟨25, 39, .ro, 0, .mod⟩]

/-- NET_PORT_HOP (R262): DELAY [9:0], DMAX [25:16], H [43:32], VC0_OK [48:48]. -/
def netPortHopFields : List FieldDef :=
  [⟨0, 10, .rw, 1023, .lnk⟩, ⟨10, 6, .ro, 0, .lnk⟩, ⟨16, 10, .rw, 1023, .soft⟩, ⟨26, 6, .ro, 0, .soft⟩, ⟨32, 12, .ro, 0, .soft⟩, ⟨44, 4, .ro, 0, .soft⟩, ⟨48, 1, .ro, 0, .lnk⟩, ⟨49, 15, .ro, 0, .soft⟩]

/-- NET_VC0_ERR (R263): UNKNOWN [15:0], NOCREDIT [31:16], LATE [47:32], EARLY [63:48]. -/
def netVc0ErrFields : List FieldDef :=
  [⟨0, 16, .rw, 0, .soft⟩, ⟨16, 16, .rw, 0, .soft⟩, ⟨32, 16, .rw, 0, .soft⟩, ⟨48, 16, .rw, 0, .soft⟩]

/-- NET_VC0_CNT (R264): FLITS [39:0], NOCREDIT_SENT [47:40], FENCED [55:48], MISSING [63:56]. -/
def netVc0CntFields : List FieldDef :=
  [⟨0, 40, .rw, 0, .soft⟩, ⟨40, 8, .rw, 0, .soft⟩, ⟨48, 8, .rw, 0, .soft⟩, ⟨56, 8, .rw, 0, .soft⟩]

/-- NET_RX_WATCH (R265): LIMIT [31:0]. -/
def netRxWatchFields : List FieldDef :=
  [⟨0, 32, .rw, 100000, .soft⟩, ⟨32, 32, .ro, 0, .soft⟩]

/-- NET_CIRCUIT (R242): ENTRY [63:0]. -/
def netCircuitFields : List FieldDef :=
  [⟨0, 64, .rw, 0, .soft⟩]

/-- NET_ROUTE (R270): DIR [2:0], FENCE [3:3]. -/
def netRouteFields : List FieldDef :=
  [⟨0, 3, .rw, 7, .soft⟩, ⟨3, 1, .rw, 1, .soft⟩, ⟨4, 60, .ro, 0, .soft⟩]

/-- NET_UNS_CTL (R295): INJECT_STOP [0:0], TABLE_OPEN [1:1], SPREAD_EN [2:2], EVENT_IE [3:3], HOLD_TIMEOUT [31:16], ACK_TIMEOUT [47:32]. -/
def netUnsCtlFields : List FieldDef :=
  [⟨0, 1, .rw, 1, .soft⟩, ⟨1, 1, .rw, 1, .soft⟩, ⟨2, 1, .rw, 1, .soft⟩, ⟨3, 1, .rw, 1, .soft⟩, ⟨4, 12, .ro, 0, .soft⟩, ⟨16, 16, .rw, 1000, .soft⟩, ⟨32, 16, .rw, 2000, .soft⟩, ⟨48, 16, .ro, 0, .soft⟩]

/-- NET_UNS_STAT (R296): DRAINED [0:0], ROUTE_WRITE_REFUSED [1:1], DRAIN_BREACH [2:2], EVENT [3:3], STALLED [4:4], STALLED_DEST [27:16], ARRIVALS [63:32]. -/
def netUnsStatFields : List FieldDef :=
  [⟨0, 1, .ro, 0, .soft⟩, ⟨1, 1, .w1c, 0, .soft⟩, ⟨2, 1, .w1c, 0, .soft⟩, ⟨3, 1, .w1c, 0, .soft⟩, ⟨4, 1, .ro, 0, .soft⟩, ⟨5, 11, .ro, 0, .soft⟩, ⟨16, 12, .ro, 0, .soft⟩, ⟨28, 4, .ro, 0, .soft⟩, ⟨32, 32, .ro, 0, .soft⟩]

/-- NET_FLOW_CLEAR (R297): DEVICE_ID [11:0]. -/
def netFlowClearFields : List FieldDef :=
  [⟨0, 12, .wo, 0, .soft⟩, ⟨12, 52, .ro, 0, .soft⟩]

/-- NET_TELEM_CTL (R298): WIN_LOG2 [5:0]. -/
def netTelemCtlFields : List FieldDef :=
  [⟨0, 6, .rw, 20, .soft⟩, ⟨6, 58, .ro, 0, .soft⟩]

/-- NET_TELEM_STAT (R298): WINDOW [31:0]. -/
def netTelemStatFields : List FieldDef :=
  [⟨0, 32, .ro, 4294967295, .soft⟩, ⟨32, 32, .ro, 0, .soft⟩]

/-- NET_UNS_DROP0 (R299): ROUTE [15:0], ORDER [31:16], FENCED [47:32], BAD_HDR [63:48]. -/
def netUnsDrop0Fields : List FieldDef :=
  [⟨0, 16, .rw, 0, .soft⟩, ⟨16, 16, .rw, 0, .soft⟩, ⟨32, 16, .rw, 0, .soft⟩, ⟨48, 16, .rw, 0, .soft⟩]

/-- NET_UNS_DROP1 (R299): ENDPOINT [15:0], BREACH [31:16], HOLD_TIMEOUT [47:32], HOLD_OVF [63:48]. -/
def netUnsDrop1Fields : List FieldDef :=
  [⟨0, 16, .rw, 0, .soft⟩, ⟨16, 16, .rw, 0, .soft⟩, ⟨32, 16, .rw, 0, .soft⟩, ⟨48, 16, .rw, 0, .soft⟩]

/-- NET_TELEM_HIST (R300): BIN_EVEN [31:0], BIN_ODD [63:32]. -/
def netTelemHistFields : List FieldDef :=
  [⟨0, 32, .ro, 0, .soft⟩, ⟨32, 32, .ro, 0, .soft⟩]

/-- NET_TELEM_DROPS (R300): DROPS [31:0]. -/
def netTelemDropsFields : List FieldDef :=
  [⟨0, 32, .rw, 0, .soft⟩, ⟨32, 32, .ro, 0, .soft⟩]

/-- LNK_CTL (R338): EN [0:0], RETRAIN [1:1], NARROW_FIRST [2:2], EVENT_IE [3:3], WIDTH_REQ [5:4], WIDTH_GO [6:6], TIMEOUT [23:8], GRACE_US [40:24], REPLAY_LIMIT [44:41]. -/
def lnkCtlFields : List FieldDef :=
  [⟨0, 1, .rw, 0, .soft⟩, ⟨1, 1, .w1s, 0, .soft⟩, ⟨2, 1, .rw, 0, .soft⟩, ⟨3, 1, .rw, 1, .soft⟩, ⟨4, 2, .rw, 0, .soft⟩, ⟨6, 1, .w1s, 0, .soft⟩, ⟨7, 1, .ro, 0, .soft⟩, ⟨8, 16, .rw, 2000, .soft⟩, ⟨24, 17, .rw, 1000, .soft⟩, ⟨41, 4, .rw, 8, .soft⟩, ⟨45, 19, .ro, 0, .soft⟩]

/-- LNK_STATUS (R339): STATE [2:0], HOLD [3:3], WIDTH [5:4], POOL [6:6], REPLAYING [7:7], EFF_TIMEOUT [23:8], GRACE_LEFT [40:24]. -/
def lnkStatusFields : List FieldDef :=
  [⟨0, 3, .ro, 0, .lnk⟩, ⟨3, 1, .ro, 0, .lnk⟩, ⟨4, 2, .ro, 0, .lnk⟩, ⟨6, 1, .ro, 0, .lnk⟩, ⟨7, 1, .ro, 0, .lnk⟩, ⟨8, 16, .ro, 2000, .lnk⟩, ⟨24, 17, .ro, 0, .lnk⟩, ⟨41, 23, .ro, 0, .lnk⟩]

/-- LNK_SEQ (R340): TX_NEXT [11:0], TX_ACKED [23:12], TX_FLOOR [35:24], RX_EXPECTED [47:36], RING_USED [58:48]. -/
def lnkSeqFields : List FieldDef :=
  [⟨0, 12, .ro, 0, .lnk⟩, ⟨12, 12, .ro, 0, .lnk⟩, ⟨24, 12, .ro, 0, .lnk⟩, ⟨36, 12, .ro, 0, .lnk⟩, ⟨48, 11, .ro, 0, .lnk⟩, ⟨59, 5, .ro, 0, .lnk⟩]

/-- LNK_LANE_MAP (R341): RX_MAP [31:0], TX_MAP [63:32]. -/
def lnkLaneMapFields : List FieldDef :=
  [⟨0, 32, .rw, 1985229328, .soft⟩, ⟨32, 32, .rw, 1985229328, .soft⟩]

/-- LNK_LANE_CTL (R342): RX_FAILED [9:0], TX_FAILED [19:10], PAR_THRESH [27:20]. -/
def lnkLaneCtlFields : List FieldDef :=
  [⟨0, 10, .rw, 0, .soft⟩, ⟨10, 10, .rw, 0, .soft⟩, ⟨20, 8, .rw, 16, .soft⟩, ⟨28, 36, .ro, 0, .soft⟩]

/-- LNK_EVENT (R343): DOWN [0:0], FLUSH [1:1], RESUMED [2:2], FRESH_PEER [3:3], LANE_REPLACED [4:4], LANE_EXHAUSTED [5:5], WIDTH_CHANGED [6:6], WIDTH_WITHDRAWN [7:7], RETRAIN_MERGED [8:8], SEQ_BREACH [9:9], CREDIT_OVF [10:10], MODE_MISMATCH [11:11], CMD_TIMEOUT [12:12], WIDTH_REFUSED [13:13], REPLAY_LIMIT [14:14]. -/
def lnkEventFields : List FieldDef :=
  [⟨0, 1, .w1c, 0, .soft⟩, ⟨1, 1, .w1c, 0, .soft⟩, ⟨2, 1, .w1c, 0, .soft⟩, ⟨3, 1, .w1c, 0, .soft⟩, ⟨4, 1, .w1c, 0, .soft⟩, ⟨5, 1, .w1c, 0, .soft⟩, ⟨6, 1, .w1c, 0, .soft⟩, ⟨7, 1, .w1c, 0, .soft⟩, ⟨8, 1, .w1c, 0, .soft⟩, ⟨9, 1, .w1c, 0, .soft⟩, ⟨10, 1, .w1c, 0, .soft⟩, ⟨11, 1, .w1c, 0, .soft⟩, ⟨12, 1, .w1c, 0, .soft⟩, ⟨13, 1, .w1c, 0, .soft⟩, ⟨14, 1, .w1c, 0, .soft⟩, ⟨15, 49, .ro, 0, .soft⟩]

/-- LNK_ERR0 (R344): FEC_CORR [31:0], FEC_UE [47:32], CRC_ERR [63:48]. -/
def lnkErr0Fields : List FieldDef :=
  [⟨0, 32, .rw, 0, .soft⟩, ⟨32, 16, .rw, 0, .soft⟩, ⟨48, 16, .rw, 0, .soft⟩]

/-- LNK_ERR1 (R344): REPLAYS [15:0], DUP [31:16], OOS [47:32], CREDIT_OVF [63:48]. -/
def lnkErr1Fields : List FieldDef :=
  [⟨0, 16, .rw, 0, .soft⟩, ⟨16, 16, .rw, 0, .soft⟩, ⟨32, 16, .rw, 0, .soft⟩, ⟨48, 16, .rw, 0, .soft⟩]

/-- LNK_ERR2 (R344): RING_FULL [15:0], FLUSHED [31:16], DOWNS [47:32], MALFORMED [63:48]. -/
def lnkErr2Fields : List FieldDef :=
  [⟨0, 16, .rw, 0, .soft⟩, ⟨16, 16, .rw, 0, .soft⟩, ⟨32, 16, .rw, 0, .soft⟩, ⟨48, 16, .rw, 0, .soft⟩]

/-- LNK_LANE_ERR (R344): PAR_0 [7:0], PAR_1 [15:8], PAR_2 [23:16], PAR_3 [31:24], PAR_4 [39:32], PAR_5 [47:40], PAR_6 [55:48], PAR_7 [63:56]. -/
def lnkLaneErrFields : List FieldDef :=
  [⟨0, 8, .rw, 0, .soft⟩, ⟨8, 8, .rw, 0, .soft⟩, ⟨16, 8, .rw, 0, .soft⟩, ⟨24, 8, .rw, 0, .soft⟩, ⟨32, 8, .rw, 0, .soft⟩, ⟨40, 8, .rw, 0, .soft⟩, ⟨48, 8, .rw, 0, .soft⟩, ⟨56, 8, .rw, 0, .soft⟩]

/-- LNK_PEER (R345): PEER_ID [11:0], PEER_PORT [16:12]. -/
def lnkPeerFields : List FieldDef :=
  [⟨0, 12, .ro, 0, .lnk⟩, ⟨12, 5, .ro, 0, .lnk⟩, ⟨17, 47, .ro, 0, .lnk⟩]

/-- LNK_CRED_TX (R346): ADV_H [15:0], ADV_D [31:16], OUT_H [47:32], OUT_D [63:48]. -/
def lnkCredTxFields : List FieldDef :=
  [⟨0, 16, .ro, 0, .lnk⟩, ⟨16, 16, .ro, 0, .lnk⟩, ⟨32, 16, .ro, 0, .lnk⟩, ⟨48, 16, .ro, 0, .lnk⟩]

/-- LNK_CRED_RX (R346): RET_H [15:0], RET_D [31:16], HELD_H [47:32], HELD_D [63:48]. -/
def lnkCredRxFields : List FieldDef :=
  [⟨0, 16, .ro, 0, .lnk⟩, ⟨16, 16, .ro, 0, .lnk⟩, ⟨32, 16, .ro, 0, .lnk⟩, ⟨48, 16, .ro, 0, .lnk⟩]

/-- LNK_PHY_STATUS (R368): STEP [2:0], RX_GOOD [12:3], CROSSED [22:13], POLARITY [32:23], FAIL_STEP [35:33], LASER_REFUSED [36:36], TRAIN_FAILS [63:48]. -/
def lnkPhyStatusFields : List FieldDef :=
  [⟨0, 3, .ro, 0, .lnk⟩, ⟨3, 10, .ro, 0, .lnk⟩, ⟨13, 10, .ro, 0, .lnk⟩, ⟨23, 10, .ro, 0, .lnk⟩, ⟨33, 3, .ro, 0, .lnk⟩, ⟨36, 1, .w1c, 0, .soft⟩, ⟨37, 11, .ro, 0, .soft⟩, ⟨48, 16, .rw, 0, .soft⟩]

/-- LNK_SURVEY (R369): VALID [0:0], UNSTABLE [1:1], OVER [2:2], DELAY_Q4 [17:4], SPREAD_Q4 [27:18], TURN_Q4 [47:32]. -/
def lnkSurveyFields : List FieldDef :=
  [⟨0, 1, .ro, 0, .lnk⟩, ⟨1, 1, .ro, 0, .lnk⟩, ⟨2, 1, .ro, 0, .lnk⟩, ⟨3, 1, .ro, 0, .lnk⟩, ⟨4, 14, .ro, 0, .lnk⟩, ⟨18, 10, .ro, 0, .lnk⟩, ⟨28, 4, .ro, 0, .lnk⟩, ⟨32, 16, .ro, 0, .lnk⟩, ⟨48, 16, .ro, 0, .lnk⟩]

/-- LNK_MARGIN_CTL (R370): V_FLOOR [9:0], H_FLOOR [19:10]. -/
def lnkMarginCtlFields : List FieldDef :=
  [⟨0, 10, .rw, 60, .soft⟩, ⟨10, 10, .rw, 150, .soft⟩, ⟨20, 44, .ro, 0, .soft⟩]

/-- LNK_MARGIN (R371): EYE_V [9:0], EYE_H [19:10], LOW [20:20], UNDERSTUDY [21:21], PRBS_ERR [63:32]. -/
def lnkMarginFields : List FieldDef :=
  [⟨0, 10, .ro, 0, .lnk⟩, ⟨10, 10, .ro, 0, .lnk⟩, ⟨20, 1, .ro, 0, .lnk⟩, ⟨21, 1, .ro, 0, .lnk⟩, ⟨22, 10, .ro, 0, .lnk⟩, ⟨32, 32, .rw, 0, .soft⟩]

/-- LNK_LASER (R372): BIAS [7:0], POWER [15:8], SOURCE [17:16], WARN [18:18], FAIL [19:19]. -/
def lnkLaserFields : List FieldDef :=
  [⟨0, 8, .ro, 0, .mod⟩, ⟨8, 8, .ro, 0, .mod⟩, ⟨16, 2, .rw, 0, .mod⟩, ⟨18, 1, .w1c, 0, .mod⟩, ⟨19, 1, .ro, 0, .mod⟩, ⟨20, 44, .ro, 0, .mod⟩]

/-- TIM_NOW (R400): TICK [63:0]. -/
def timNowFields : List FieldDef :=
  [⟨0, 64, .ro, 0, .mod⟩]

/-- TIM_CTL (R401): BENCHMARK [0:0], ACQUIRE [1:1], ACQ_LINK [6:2], REBASE_ARM [7:7], RELEASE [8:8], EVENT_IE [9:9], HOLD_MS [19:16]. -/
def timCtlFields : List FieldDef :=
  [⟨0, 1, .rw, 0, .mod⟩, ⟨1, 1, .w1s, 0, .mod⟩, ⟨2, 5, .rw, 0, .mod⟩, ⟨7, 1, .w1s, 0, .mod⟩, ⟨8, 1, .w1s, 0, .mod⟩, ⟨9, 1, .rw, 1, .mod⟩, ⟨10, 6, .ro, 0, .mod⟩, ⟨16, 4, .rw, 10, .mod⟩, ⟨20, 44, .ro, 0, .mod⟩]

/-- TIM_SERVO (R402): MASK [23:0], KP_SHIFT [27:24], KI_SHIFT [31:28], JUMP_THRESH [43:32], DELAY_TOL [47:44]. -/
def timServoFields : List FieldDef :=
  [⟨0, 24, .rw, 16777215, .mod⟩, ⟨24, 4, .rw, 3, .mod⟩, ⟨28, 4, .rw, 6, .mod⟩, ⟨32, 12, .rw, 50, .mod⟩, ⟨44, 4, .rw, 2, .mod⟩, ⟨48, 16, .ro, 0, .mod⟩]

/-- TIM_STAT (R403): STATE [2:0], REFCLK_LOST [3:3], EVENT [4:4], JUMP [5:5], HOLD_EXPIRED [6:6], REBASE_REFUSED [7:7], LOCK_LOST [8:8], JUMP_LINK [13:9], SAMPLES [20:16], OFFSET [63:32]. -/
def timStatFields : List FieldDef :=
  [⟨0, 3, .ro, 0, .mod⟩, ⟨3, 1, .ro, 0, .mod⟩, ⟨4, 1, .w1c, 0, .mod⟩, ⟨5, 1, .w1c, 0, .mod⟩, ⟨6, 1, .w1c, 0, .mod⟩, ⟨7, 1, .w1c, 0, .mod⟩, ⟨8, 1, .w1c, 0, .mod⟩, ⟨9, 5, .ro, 0, .mod⟩, ⟨14, 2, .ro, 0, .mod⟩, ⟨16, 5, .ro, 0, .mod⟩, ⟨21, 11, .ro, 0, .mod⟩, ⟨32, 32, .ro, 0, .mod⟩]

/-- TIM_REFUSED (R404): LINKS [23:0]. -/
def timRefusedFields : List FieldDef :=
  [⟨0, 24, .w1c, 0, .mod⟩, ⟨24, 40, .ro, 0, .mod⟩]

/-- TIM_TRIM (R405): TRIM [31:0], INTEG [63:32]. -/
def timTrimFields : List FieldDef :=
  [⟨0, 32, .ro, 0, .mod⟩, ⟨32, 32, .ro, 0, .mod⟩]

/-- TIM_REBASE_AT (R406): AT [63:0]. -/
def timRebaseAtFields : List FieldDef :=
  [⟨0, 64, .rw, 18446744073709551615, .mod⟩]

/-- TIM_REBASE_TO (R406): TO [63:0]. -/
def timRebaseToFields : List FieldDef :=
  [⟨0, 64, .rw, 0, .mod⟩]

/-- TIM_LINK (R407): THETA [31:0], DELAY_Q4 [47:32], FRESH [48:48], USED [49:49], BAD_DELAY [63:56]. -/
def timLinkFields : List FieldDef :=
  [⟨0, 32, .ro, 0, .lnk⟩, ⟨32, 16, .ro, 0, .lnk⟩, ⟨48, 1, .ro, 0, .lnk⟩, ⟨49, 1, .ro, 0, .lnk⟩, ⟨50, 6, .ro, 0, .lnk⟩, ⟨56, 8, .rw, 0, .lnk⟩]

/-- TIM_CNT (R408): ERR [15:0], SLIPS [31:16], ATRIM [63:32]. -/
def timCntFields : List FieldDef :=
  [⟨0, 16, .ro, 0, .chn⟩, ⟨16, 16, .rw, 0, .chn⟩, ⟨32, 32, .ro, 0, .chn⟩]

/-- SAF_CTL (R442): ARMED [0:0], STOP_US [15:8], WDOG_MS [19:16]. -/
def safCtlFields : List FieldDef :=
  [⟨0, 1, .rw, 0, .soft⟩, ⟨1, 7, .ro, 0, .soft⟩, ⟨8, 8, .rw, 100, .soft⟩, ⟨16, 4, .rw, 2, .soft⟩, ⟨20, 44, .ro, 0, .soft⟩]

/-- SAF_STAT (R443): STATE [1:0], CORE_FAILED [12:8], FOREIGN [31:16], DUPLICATE [47:32]. -/
def safStatFields : List FieldDef :=
  [⟨0, 2, .ro, 0, .mod⟩, ⟨2, 6, .ro, 0, .soft⟩, ⟨8, 5, .w1c, 0, .mod⟩, ⟨13, 3, .ro, 0, .mod⟩, ⟨16, 16, .rw, 0, .mod⟩, ⟨32, 16, .rw, 0, .mod⟩, ⟨48, 16, .ro, 0, .mod⟩]

/-- SAF_FAULT (R444): CHANNEL [7:0], MEMORY [8:8], LENDING [9:9], VC0 [10:10], LINK_DOWN [11:11], TIME [12:12], UNARMED [13:13], CONTROL [14:14], SUPERVISOR [15:15], CLOCK [16:16], SUPPLY [17:17], THERMAL [18:18], NOTICE [19:19], HOST [20:20], SELF_TEST [21:21], LANE [22:22]. -/
def safFaultFields : List FieldDef :=
  [⟨0, 8, .w1c, 0, .mod⟩, ⟨8, 1, .w1c, 0, .mod⟩, ⟨9, 1, .w1c, 0, .mod⟩, ⟨10, 1, .w1c, 0, .mod⟩, ⟨11, 1, .w1c, 0, .mod⟩, ⟨12, 1, .w1c, 0, .mod⟩, ⟨13, 1, .w1c, 0, .mod⟩, ⟨14, 1, .w1c, 0, .mod⟩, ⟨15, 1, .w1c, 0, .mod⟩, ⟨16, 1, .w1c, 0, .mod⟩, ⟨17, 1, .w1c, 0, .mod⟩, ⟨18, 1, .w1c, 0, .mod⟩, ⟨19, 1, .w1c, 0, .mod⟩, ⟨20, 1, .w1c, 0, .mod⟩, ⟨21, 1, .w1c, 0, .mod⟩, ⟨22, 1, .w1c, 0, .mod⟩, ⟨23, 41, .ro, 0, .mod⟩]

/-- SAF_FIRST (R445): CAUSE [7:0], UNIT [15:8], ORIGIN [27:16], VALID [31:31], DETAIL [63:32]. -/
def safFirstFields : List FieldDef :=
  [⟨0, 8, .ro, 0, .mod⟩, ⟨8, 8, .ro, 0, .mod⟩, ⟨16, 12, .ro, 0, .mod⟩, ⟨28, 3, .ro, 0, .mod⟩, ⟨31, 1, .w1c, 0, .mod⟩, ⟨32, 32, .ro, 0, .mod⟩]

/-- SAF_FIRST_TICK (R445): TICK [63:0]. -/
def safFirstTickFields : List FieldDef :=
  [⟨0, 64, .ro, 0, .mod⟩]

/-- SAF_RAISE (R446): CAUSE [7:0], UNIT [15:8]. -/
def safRaiseFields : List FieldDef :=
  [⟨0, 8, .wo, 0, .soft⟩, ⟨8, 8, .wo, 0, .soft⟩, ⟨16, 48, .ro, 0, .soft⟩]

/-- SAF_KICK (R446): CORE [2:0]. -/
def safKickFields : List FieldDef :=
  [⟨0, 3, .wo, 0, .soft⟩, ⟨3, 61, .ro, 0, .soft⟩]

/-- SAF_NOTICE (R447): ORIGIN [11:0], CAUSE [23:16], UNIT [31:24], LINK [36:32]. -/
def safNoticeFields : List FieldDef :=
  [⟨0, 12, .ro, 0, .mod⟩, ⟨12, 4, .ro, 0, .mod⟩, ⟨16, 8, .ro, 0, .mod⟩, ⟨24, 8, .ro, 0, .mod⟩, ⟨32, 5, .ro, 0, .mod⟩, ⟨37, 27, .ro, 0, .mod⟩]

/-- SAF_LOCK_VIOL_COUNT (R448): COUNT [31:0]. -/
def safLockViolCountFields : List FieldDef :=
  [⟨0, 32, .rw, 0, .mod⟩, ⟨32, 32, .ro, 0, .mod⟩]

/-- SAF_REGION (R449): PROT [18:0], CKPT_BASE [38:20], MIRROR_BASE [58:40]. -/
def safRegionFields : List FieldDef :=
  [⟨0, 19, .rw, 0, .soft⟩, ⟨19, 1, .ro, 0, .soft⟩, ⟨20, 19, .rw, 0, .soft⟩, ⟨39, 1, .ro, 0, .soft⟩, ⟨40, 19, .rw, 0, .soft⟩, ⟨59, 5, .ro, 0, .soft⟩]

/-- SAF_INT (R450): BUDDY [11:0], STEP [14:12], DIRTY_VALID [15:15], FAILED [16:16], FAIL_KIND [19:17], BIST_FAIL [40:24], COMMITTED [63:48]. -/
def safIntFields : List FieldDef :=
  [⟨0, 12, .rw, 0, .soft⟩, ⟨12, 3, .ro, 0, .soft⟩, ⟨15, 1, .ro, 0, .soft⟩, ⟨16, 1, .w1c, 0, .soft⟩, ⟨17, 3, .ro, 0, .soft⟩, ⟨20, 4, .ro, 0, .soft⟩, ⟨24, 17, .w1c, 0, .soft⟩, ⟨41, 7, .ro, 0, .soft⟩, ⟨48, 16, .ro, 0, .soft⟩]

/-- SAF_SRAM_ECC (R451): CORRECTED [31:0], UNCORRECTABLE [47:32]. -/
def safSramEccFields : List FieldDef :=
  [⟨0, 32, .rw, 0, .mod⟩, ⟨32, 16, .rw, 0, .mod⟩, ⟨48, 16, .ro, 0, .mod⟩]

/-- MB_SUBMIT (R491): SEQ [31:0]. -/
def mbSubmitFields : List FieldDef :=
  [⟨0, 32, .rw, 0, .soft⟩, ⟨32, 32, .ro, 0, .soft⟩]

/-- MB_STATUS (R491): STATE [3:0], MODE [7:4], ERROR [31:16], SEQ [47:32], PROGRESS [63:48]. -/
def mbStatusFields : List FieldDef :=
  [⟨0, 4, .ro, 0, .soft⟩, ⟨4, 4, .ro, 1, .soft⟩, ⟨8, 8, .ro, 0, .soft⟩, ⟨16, 16, .ro, 0, .soft⟩, ⟨32, 16, .ro, 0, .soft⟩, ⟨48, 16, .ro, 0, .soft⟩]

/-- MB_ABORT (R491): SEQ [31:0]. -/
def mbAbortFields : List FieldDef :=
  [⟨0, 32, .wo, 0, .soft⟩, ⟨32, 32, .ro, 0, .soft⟩]

/-- CTL_BOOT (R492): MODE [3:0], KEY_SLOT [7:4], ROM_VERSION [15:8], BOOT_ERR [23:16], BOOTS [63:32]. -/
def ctlBootFields : List FieldDef :=
  [⟨0, 4, .ro, 1, .soft⟩, ⟨4, 4, .ro, 15, .soft⟩, ⟨8, 8, .ro, 0, .never⟩, ⟨16, 8, .ro, 0, .por⟩, ⟨24, 8, .ro, 0, .por⟩, ⟨32, 32, .ro, 0, .por⟩]

/-- CTL_FW_VERSION (R492): VERSION [63:0]. -/
def ctlFwVersionFields : List FieldDef :=
  [⟨0, 64, .ro, 0, .soft⟩]

/-- CTL_CORE (R493): STATE [1:0], UNDERSTUDY [2:2], ROLE [5:4]. -/
def ctlCoreFields : List FieldDef :=
  [⟨0, 2, .ro, 0, .soft⟩, ⟨2, 1, .ro, 0, .soft⟩, ⟨3, 1, .ro, 0, .soft⟩, ⟨4, 2, .ro, 0, .soft⟩, ⟨6, 58, .ro, 0, .soft⟩]

/-- CTL_POST_ADDR (R494): OFFSET [31:0]. -/
def ctlPostAddrFields : List FieldDef :=
  [⟨0, 32, .wo, 0, .soft⟩, ⟨32, 32, .ro, 0, .soft⟩]

/-- CTL_POST_DATA (R494): VALUE [63:0]. -/
def ctlPostDataFields : List FieldDef :=
  [⟨0, 64, .wo, 0, .soft⟩]

/-- CTL_POST_STAT (R494): PENDING [0:0], MISMATCH [1:1], SINGLE [2:2], COMMITS [63:32]. -/
def ctlPostStatFields : List FieldDef :=
  [⟨0, 1, .ro, 0, .soft⟩, ⟨1, 1, .w1c, 0, .soft⟩, ⟨2, 1, .w1c, 0, .soft⟩, ⟨3, 29, .ro, 0, .soft⟩, ⟨32, 32, .ro, 0, .soft⟩]

/-- CTL_RXRING (R495): HEAD [5:0], TAIL [13:8], WRITTEN [63:32]. -/
def ctlRxringFields : List FieldDef :=
  [⟨0, 6, .ro, 0, .soft⟩, ⟨6, 2, .ro, 0, .soft⟩, ⟨8, 6, .rw, 0, .soft⟩, ⟨14, 18, .ro, 0, .soft⟩, ⟨32, 32, .ro, 0, .soft⟩]

/-- CTL_TXRING (R495): HEAD [5:0], TAIL [13:8]. -/
def ctlTxringFields : List FieldDef :=
  [⟨0, 6, .rw, 0, .soft⟩, ⟨6, 2, .ro, 0, .soft⟩, ⟨8, 6, .ro, 0, .soft⟩, ⟨14, 50, .ro, 0, .soft⟩]

/-- CTL_PCIE_STAT (R512): SPEED [2:0], FLIT [3:3], WIDTH [8:4], BELOW_SERVICE [9:9], BAD_ACCESS [31:16], DROPPED_WRITES [47:32]. -/
def ctlPcieStatFields : List FieldDef :=
  [⟨0, 3, .ro, 0, .mod⟩, ⟨3, 1, .ro, 0, .mod⟩, ⟨4, 5, .ro, 0, .mod⟩, ⟨9, 1, .ro, 0, .mod⟩, ⟨10, 6, .ro, 0, .mod⟩, ⟨16, 16, .rw, 0, .soft⟩, ⟨32, 16, .rw, 0, .soft⟩, ⟨48, 16, .ro, 0, .soft⟩]

/-- CTL_HOST_ALERT (R513): FAULT [0:0], RETIRE [8:8], DEVICE_FAILED [9:9], HOST_MSG [10:10], LINK_SERVICE [11:11], TIME [12:12], VIN_WARN [16:16], THERMAL_WARN [17:17], MARGIN [18:18], AER_COR [24:24], AER_UNCOR [25:25], LINK_CHANGE [26:26]. -/
def ctlHostAlertFields : List FieldDef :=
  [⟨0, 1, .w1c, 0, .soft⟩, ⟨1, 7, .ro, 0, .soft⟩, ⟨8, 1, .w1c, 0, .soft⟩, ⟨9, 1, .w1c, 0, .soft⟩, ⟨10, 1, .w1c, 0, .soft⟩, ⟨11, 1, .w1c, 0, .soft⟩, ⟨12, 1, .w1c, 0, .soft⟩, ⟨13, 3, .ro, 0, .soft⟩, ⟨16, 1, .w1c, 0, .soft⟩, ⟨17, 1, .w1c, 0, .soft⟩, ⟨18, 1, .w1c, 0, .soft⟩, ⟨19, 5, .ro, 0, .soft⟩, ⟨24, 1, .w1c, 0, .soft⟩, ⟨25, 1, .w1c, 0, .soft⟩, ⟨26, 1, .w1c, 0, .soft⟩, ⟨27, 37, .ro, 0, .soft⟩]

/-- CTL_HOST_RAISE (R514): SET [31:0]. -/
def ctlHostRaiseFields : List FieldDef :=
  [⟨0, 32, .wo, 0, .soft⟩, ⟨32, 32, .ro, 0, .soft⟩]

/-- PWR_STATE (R541): STATE [1:0], TRANSITION [2:2], ALERT_EN [3:3]. -/
def pwrStateFields : List FieldDef :=
  [⟨0, 2, .ro, 0, .soft⟩, ⟨2, 1, .ro, 0, .soft⟩, ⟨3, 1, .rw, 1, .soft⟩, ⟨4, 60, .ro, 0, .soft⟩]

/-- PWR_VIN (R542): VIN [15:0], IIN [31:16], PIN [47:32], BELOW_WARN [48:48], HOLDUP [49:49]. -/
def pwrVinFields : List FieldDef :=
  [⟨0, 16, .ro, 0, .por⟩, ⟨16, 16, .ro, 0, .por⟩, ⟨32, 16, .ro, 0, .por⟩, ⟨48, 1, .ro, 0, .por⟩, ⟨49, 1, .ro, 0, .por⟩, ⟨50, 14, .ro, 0, .por⟩]

/-- PWR_SUPPLY_EVT (R543): DIP [0:0], HOLDUP_EXPIRED [1:1], BELOW_RESET [2:2], OVERVOLT [3:3], OVERPOWER [4:4], RAIL_FAULT [5:5], NET_DROOP_FAIL [6:6], RAIL [12:8], DIPS [63:32]. -/
def pwrSupplyEvtFields : List FieldDef :=
  [⟨0, 1, .w1c, 0, .por⟩, ⟨1, 1, .w1c, 0, .por⟩, ⟨2, 1, .w1c, 0, .por⟩, ⟨3, 1, .w1c, 0, .por⟩, ⟨4, 1, .w1c, 0, .por⟩, ⟨5, 1, .w1c, 0, .por⟩, ⟨6, 1, .w1c, 0, .por⟩, ⟨7, 1, .ro, 0, .por⟩, ⟨8, 5, .ro, 0, .por⟩, ⟨13, 19, .ro, 0, .por⟩, ⟨32, 32, .rw, 0, .por⟩]

/-- PWR_DIP_LOG (R544): MIN_V [15:0], DURATION [35:16]. -/
def pwrDipLogFields : List FieldDef :=
  [⟨0, 16, .ro, 0, .por⟩, ⟨16, 20, .ro, 0, .por⟩, ⟨36, 28, .ro, 0, .por⟩]

/-- PWR_ARITH (R545): STEP_0 [2:0], LOCKED_0 [3:3], STEP_1 [6:4], LOCKED_1 [7:7], STEP_2 [10:8], LOCKED_2 [11:11], STEP_3 [14:12], LOCKED_3 [15:15], STEP_4 [18:16], LOCKED_4 [19:19], STEP_5 [22:20], LOCKED_5 [23:23], STEP_6 [26:24], LOCKED_6 [27:27], STEP_7 [30:28], LOCKED_7 [31:31], TOP_STEP [34:32], STEP_REFUSED [35:35]. -/
def pwrArithFields : List FieldDef :=
  [⟨0, 3, .rw, 7, .soft⟩, ⟨3, 1, .ro, 0, .soft⟩, ⟨4, 3, .rw, 7, .soft⟩, ⟨7, 1, .ro, 0, .soft⟩, ⟨8, 3, .rw, 7, .soft⟩, ⟨11, 1, .ro, 0, .soft⟩, ⟨12, 3, .rw, 7, .soft⟩, ⟨15, 1, .ro, 0, .soft⟩, ⟨16, 3, .rw, 7, .soft⟩, ⟨19, 1, .ro, 0, .soft⟩, ⟨20, 3, .rw, 7, .soft⟩, ⟨23, 1, .ro, 0, .soft⟩, ⟨24, 3, .rw, 7, .soft⟩, ⟨27, 1, .ro, 0, .soft⟩, ⟨28, 3, .rw, 7, .soft⟩, ⟨31, 1, .ro, 0, .soft⟩, ⟨32, 3, .rw, 7, .soft⟩, ⟨35, 1, .w1c, 0, .soft⟩, ⟨36, 28, .ro, 0, .soft⟩]

/-- PWR_CAP (R546): STEP_CAP [2:0]. -/
def pwrCapFields : List FieldDef :=
  [⟨0, 3, .rw, 0, .mod⟩, ⟨3, 61, .ro, 0, .mod⟩]

/-- PWR_CLK (R547): LOST [3:0], SEEN [7:4], CTRL_STRETCH [23:8], NET_BOOST [39:24], CTRL_CEIL [43:40]. -/
def pwrClkFields : List FieldDef :=
  [⟨0, 4, .ro, 0, .por⟩, ⟨4, 4, .w1c, 0, .mod⟩, ⟨8, 16, .rw, 0, .soft⟩, ⟨24, 16, .rw, 0, .soft⟩, ⟨40, 4, .rw, 0, .mod⟩, ⟨44, 20, .ro, 0, .soft⟩]

/-- PWR_THERM_CTL (R548): DIE_WARN [7:0], DIE_CURTAIN [15:8], OE_WARN [23:16], OE_CURTAIN [31:24], DIE_TRIP [39:32], OE_TRIP [47:40]. -/
def pwrThermCtlFields : List FieldDef :=
  [⟨0, 8, .rw, 95, .soft⟩, ⟨8, 8, .rw, 105, .soft⟩, ⟨16, 8, .rw, 75, .soft⟩, ⟨24, 8, .rw, 80, .soft⟩, ⟨32, 8, .ro, 115, .soft⟩, ⟨40, 8, .ro, 85, .soft⟩, ⟨48, 16, .ro, 0, .soft⟩]

/-- PWR_THERM_STAT (R549): CD0_MAX [7:0], CD1_MAX [15:8], ND_MAX [23:16], OE_MAX [31:24], WARN [32:32], CURTAIN [33:33], TRIP [34:34], GROUP [38:36]. -/
def pwrThermStatFields : List FieldDef :=
  [⟨0, 8, .ro, 0, .soft⟩, ⟨8, 8, .ro, 0, .soft⟩, ⟨16, 8, .ro, 0, .soft⟩, ⟨24, 8, .ro, 0, .soft⟩, ⟨32, 1, .w1c, 0, .soft⟩, ⟨33, 1, .w1c, 0, .soft⟩, ⟨34, 1, .w1c, 0, .mod⟩, ⟨35, 1, .ro, 0, .soft⟩, ⟨36, 3, .ro, 0, .soft⟩, ⟨39, 25, .ro, 0, .soft⟩]

/-- PWR_RESURVEY (R550): PERIOD_MIN [7:0], GUARD [15:8], FLOOR [23:16], CRIT [31:24], RUNNING [32:32], COUNT [63:48]. -/
def pwrResurveyFields : List FieldDef :=
  [⟨0, 8, .rw, 15, .soft⟩, ⟨8, 8, .rw, 40, .soft⟩, ⟨16, 8, .rw, 25, .soft⟩, ⟨24, 8, .rw, 10, .soft⟩, ⟨32, 1, .ro, 0, .soft⟩, ⟨33, 15, .ro, 0, .soft⟩, ⟨48, 16, .ro, 0, .soft⟩]

/-- PWR_RESET (R551): LAST [2:0], MODS [31:16], HOTS [47:32], SOFTS [63:48]. -/
def pwrResetFields : List FieldDef :=
  [⟨0, 3, .ro, 0, .por⟩, ⟨3, 13, .ro, 0, .por⟩, ⟨16, 16, .rw, 0, .por⟩, ⟨32, 16, .rw, 0, .por⟩, ⟨48, 16, .rw, 0, .por⟩]

/-- PWR_SITE (R552): V_OP [9:0], V_FAIL [19:10], V_FAIL_TOP [29:20], V_MAX [39:30], TOP [42:40], BELOW_GUARD [43:43], AT_VMAX [44:44], BELOW_FLOOR [45:45], CRITICAL [46:46]. -/
def pwrSiteFields : List FieldDef :=
  [⟨0, 10, .rw, 0, .soft⟩, ⟨10, 10, .rw, 0, .soft⟩, ⟨20, 10, .rw, 0, .soft⟩, ⟨30, 10, .ro, 850, .soft⟩, ⟨40, 3, .rw, 7, .soft⟩, ⟨43, 1, .rw, 0, .soft⟩, ⟨44, 1, .rw, 0, .soft⟩, ⟨45, 1, .rw, 0, .soft⟩, ⟨46, 1, .rw, 0, .soft⟩, ⟨47, 17, .ro, 0, .soft⟩]

/-- PWR_RAIL (R553): SET [9:0], MEAS [19:10], MIN [29:20], OUT [30:30]. -/
def pwrRailFields : List FieldDef :=
  [⟨0, 10, .rw, 0, .por⟩, ⟨10, 10, .ro, 0, .por⟩, ⟨20, 10, .rw, 1023, .por⟩, ⟨30, 1, .w1c, 0, .por⟩, ⟨31, 33, .ro, 0, .por⟩]

/-- BRD_STRAP (R577): SLOT_X [0:0], SLOT_Y [1:1], CARRIER [2:2], SEPCLK [3:3]. -/
def brdStrapFields : List FieldDef :=
  [⟨0, 1, .ro, 0, .mod⟩, ⟨1, 1, .ro, 0, .mod⟩, ⟨2, 1, .ro, 0, .mod⟩, ⟨3, 1, .ro, 0, .mod⟩, ⟨4, 60, .ro, 0, .mod⟩]

/-- BRD_PIN (R578): RESET_IN [0:0], PERST_IN [1:1], ALERT_OUT [2:2], THERMTRIP_OUT [3:3], PWR_OK_OUT [4:4], HALT_OUT [5:5], GLITCHES [31:16]. -/
def brdPinFields : List FieldDef :=
  [⟨0, 1, .ro, 0, .por⟩, ⟨1, 1, .ro, 0, .por⟩, ⟨2, 1, .ro, 0, .por⟩, ⟨3, 1, .ro, 0, .por⟩, ⟨4, 1, .ro, 0, .por⟩, ⟨5, 1, .ro, 0, .por⟩, ⟨6, 10, .ro, 0, .por⟩, ⟨16, 16, .rw, 0, .por⟩, ⟨32, 32, .ro, 0, .por⟩]

/-- BRD_I3C (R579): STATIC_ADDR [6:0], DYN_ADDR [14:8], DYN_VALID [15:15], IBI_EN [16:16], WRITE_EN [17:17], NOT_ALLOWED [47:32], PROTO_ERR [63:48]. -/
def brdI3cFields : List FieldDef :=
  [⟨0, 7, .ro, 88, .mod⟩, ⟨7, 1, .ro, 0, .mod⟩, ⟨8, 7, .ro, 0, .mod⟩, ⟨15, 1, .ro, 0, .mod⟩, ⟨16, 1, .ro, 1, .mod⟩, ⟨17, 1, .rw, 0, .soft⟩, ⟨18, 14, .ro, 0, .soft⟩, ⟨32, 16, .rw, 0, .soft⟩, ⟨48, 16, .rw, 0, .soft⟩]

/-- BRD_JTAG (R580): DEBUG_LOCK [0:0], TAP_RESET [1:1], IR [9:2], REFUSED [31:16]. -/
def brdJtagFields : List FieldDef :=
  [⟨0, 1, .ro, 0, .never⟩, ⟨1, 1, .ro, 1, .por⟩, ⟨2, 8, .ro, 1, .por⟩, ⟨10, 6, .ro, 0, .por⟩, ⟨16, 16, .rw, 0, .por⟩, ⟨32, 32, .ro, 0, .por⟩]

/-- MSIX_TABLE (R500): WORD [63:0]. -/
def msixTableFields : List FieldDef :=
  [⟨0, 64, .rw, 0, .hot⟩]

/-- MSIX_PBA (R500): PENDING [3:0]. -/
def msixPbaFields : List FieldDef :=
  [⟨0, 4, .ro, 0, .hot⟩, ⟨4, 60, .ro, 0, .hot⟩]

/-- The fields of a register kind. -/
def RegKind.fields : RegKind → List FieldDef
  | .ctlChipId => ctlChipIdFields
  | .netPlace => netPlaceFields
  | .chCtl => chCtlFields
  | .chStatus => chStatusFields
  | .chFault => chFaultFields
  | .chOverrun => chOverrunFields
  | .chTeMap => chTeMapFields
  | .chShadow => chShadowFields
  | .chBankMap => chBankMapFields
  | .chArithCtl => chArithCtlFields
  | .chArithFlags => chArithFlagsFields
  | .chSrSeed => chSrSeedFields
  | .chSrRank => chSrRankFields
  | .chXslotCtl => chXslotCtlFields
  | .chXslotStat => chXslotStatFields
  | .chQRing => chQRingFields
  | .chQCount => chQCountFields
  | .chNqStatus => chNqStatusFields
  | .chCue => chCueFields
  | .chXcap => chXcapFields
  | .chXdrop => chXdropFields
  | .mcStatus => mcStatusFields
  | .mcScrubCtl => mcScrubCtlFields
  | .mcHostwin => mcHostwinFields
  | .mcLendStat => mcLendStatFields
  | .mcSeErr => mcSeErrFields
  | .mcChStatus => mcChStatusFields
  | .mcChEcc => mcChEccFields
  | .mcChErr => mcChErrFields
  | .mcRemapSel => mcRemapSelFields
  | .mcRemapData => mcRemapDataFields
  | .arbCtlM => arbCtlMFields
  | .arbCtlB => arbCtlBFields
  | .arbPrioM => arbPrioMFields
  | .arbPrioB => arbPrioBFields
  | .arbStatM => arbStatMFields
  | .arbStatB => arbStatBFields
  | .arbCntM => arbCntMFields
  | .arbCntB => arbCntBFields
  | .arbLongestM => arbLongestMFields
  | .arbLongestB => arbLongestBFields
  | .netFabCtl => netFabCtlFields
  | .netFabStat => netFabStatFields
  | .netSwapTick => netSwapTickFields
  | .netVc0Fault => netVc0FaultFields
  | .netVc0FaultTick => netVc0FaultTickFields
  | .netMapStat => netMapStatFields
  | .netPortMap => netPortMapFields
  | .netPortHop => netPortHopFields
  | .netVc0Err => netVc0ErrFields
  | .netVc0Cnt => netVc0CntFields
  | .netRxWatch => netRxWatchFields
  | .netCircuit => netCircuitFields
  | .netRoute => netRouteFields
  | .netUnsCtl => netUnsCtlFields
  | .netUnsStat => netUnsStatFields
  | .netFlowClear => netFlowClearFields
  | .netTelemCtl => netTelemCtlFields
  | .netTelemStat => netTelemStatFields
  | .netUnsDrop0 => netUnsDrop0Fields
  | .netUnsDrop1 => netUnsDrop1Fields
  | .netTelemHist => netTelemHistFields
  | .netTelemDrops => netTelemDropsFields
  | .lnkCtl => lnkCtlFields
  | .lnkStatus => lnkStatusFields
  | .lnkSeq => lnkSeqFields
  | .lnkLaneMap => lnkLaneMapFields
  | .lnkLaneCtl => lnkLaneCtlFields
  | .lnkEvent => lnkEventFields
  | .lnkErr0 => lnkErr0Fields
  | .lnkErr1 => lnkErr1Fields
  | .lnkErr2 => lnkErr2Fields
  | .lnkLaneErr => lnkLaneErrFields
  | .lnkPeer => lnkPeerFields
  | .lnkCredTx => lnkCredTxFields
  | .lnkCredRx => lnkCredRxFields
  | .lnkPhyStatus => lnkPhyStatusFields
  | .lnkSurvey => lnkSurveyFields
  | .lnkMarginCtl => lnkMarginCtlFields
  | .lnkMargin => lnkMarginFields
  | .lnkLaser => lnkLaserFields
  | .timNow => timNowFields
  | .timCtl => timCtlFields
  | .timServo => timServoFields
  | .timStat => timStatFields
  | .timRefused => timRefusedFields
  | .timTrim => timTrimFields
  | .timRebaseAt => timRebaseAtFields
  | .timRebaseTo => timRebaseToFields
  | .timLink => timLinkFields
  | .timCnt => timCntFields
  | .safCtl => safCtlFields
  | .safStat => safStatFields
  | .safFault => safFaultFields
  | .safFirst => safFirstFields
  | .safFirstTick => safFirstTickFields
  | .safRaise => safRaiseFields
  | .safKick => safKickFields
  | .safNotice => safNoticeFields
  | .safLockViolCount => safLockViolCountFields
  | .safRegion => safRegionFields
  | .safInt => safIntFields
  | .safSramEcc => safSramEccFields
  | .mbSubmit => mbSubmitFields
  | .mbStatus => mbStatusFields
  | .mbAbort => mbAbortFields
  | .ctlBoot => ctlBootFields
  | .ctlFwVersion => ctlFwVersionFields
  | .ctlCore => ctlCoreFields
  | .ctlPostAddr => ctlPostAddrFields
  | .ctlPostData => ctlPostDataFields
  | .ctlPostStat => ctlPostStatFields
  | .ctlRxring => ctlRxringFields
  | .ctlTxring => ctlTxringFields
  | .ctlPcieStat => ctlPcieStatFields
  | .ctlHostAlert => ctlHostAlertFields
  | .ctlHostRaise => ctlHostRaiseFields
  | .pwrState => pwrStateFields
  | .pwrVin => pwrVinFields
  | .pwrSupplyEvt => pwrSupplyEvtFields
  | .pwrDipLog => pwrDipLogFields
  | .pwrArith => pwrArithFields
  | .pwrCap => pwrCapFields
  | .pwrClk => pwrClkFields
  | .pwrThermCtl => pwrThermCtlFields
  | .pwrThermStat => pwrThermStatFields
  | .pwrResurvey => pwrResurveyFields
  | .pwrReset => pwrResetFields
  | .pwrSite => pwrSiteFields
  | .pwrRail => pwrRailFields
  | .brdStrap => brdStrapFields
  | .brdPin => brdPinFields
  | .brdI3c => brdI3cFields
  | .brdJtag => brdJtagFields
  | .msixTable => msixTableFields
  | .msixPba => msixPbaFields

/-- BAR0 offset of CTL_CHIP_ID (R6). -/
def ctlChipId : Nat := 0x00000000
/-- BAR0 offset of NET_PLACE (R34). -/
def netPlace : Nat := 0x00000008
/-- BAR0 offset of CH_CTL (R127), index `i` below 8. -/
def chCtl (i : Nat) : Nat := 0x01000000 + 0x100000 * i
/-- BAR0 offset of CH_STATUS (R128), index `i` below 8. -/
def chStatus (i : Nat) : Nat := 0x01000008 + 0x100000 * i
/-- BAR0 offset of CH_FAULT (R129), index `i` below 8. -/
def chFault (i : Nat) : Nat := 0x01000010 + 0x100000 * i
/-- BAR0 offset of CH_OVERRUN (R130), index `i` below 8. -/
def chOverrun (i : Nat) : Nat := 0x01000018 + 0x100000 * i
/-- BAR0 offset of CH_TE_MAP (R131), index `i` below 8. -/
def chTeMap (i : Nat) : Nat := 0x01000020 + 0x100000 * i
/-- BAR0 offset of CH_SHADOW (R132), index `i` below 8. -/
def chShadow (i : Nat) : Nat := 0x01000028 + 0x100000 * i
/-- BAR0 offset of CH_BANK_MAP (R133), index `i` below 8. -/
def chBankMap (i : Nat) : Nat := 0x01000030 + 0x100000 * i
/-- BAR0 offset of CH_ARITH_CTL (R71), index `i` below 8. -/
def chArithCtl (i : Nat) : Nat := 0x01000800 + 0x100000 * i
/-- BAR0 offset of CH_ARITH_FLAGS (R72), index `i` below 8. -/
def chArithFlags (i : Nat) : Nat := 0x01000808 + 0x100000 * i
/-- BAR0 offset of CH_SR_SEED (R73), index `i` below 8. -/
def chSrSeed (i : Nat) : Nat := 0x01000810 + 0x100000 * i
/-- BAR0 offset of CH_SR_RANK (R74), index `i` below 8. -/
def chSrRank (i : Nat) : Nat := 0x01000818 + 0x100000 * i
/-- BAR0 offset of CH_XSLOT_CTL (R138), index `i` below 8. -/
def chXslotCtl (i : Nat) : Nat := 0x01000900 + 0x100000 * i
/-- BAR0 offset of CH_XSLOT_STAT (R139), index `i` below 8. -/
def chXslotStat (i : Nat) : Nat := 0x01000908 + 0x100000 * i
/-- BAR0 offset of CH_Q_RING (R134), indices `i` below 8 and `j` below 24. -/
def chQRing (i j : Nat) : Nat := 0x01000100 + 0x100000 * i + 0x8 * j
/-- BAR0 offset of CH_Q_COUNT (R135), indices `i` below 8 and `j` below 24. -/
def chQCount (i j : Nat) : Nat := 0x01000200 + 0x100000 * i + 0x8 * j
/-- BAR0 offset of CH_NQ_STATUS (R136), indices `i` below 8 and `j` below 16. -/
def chNqStatus (i j : Nat) : Nat := 0x01000300 + 0x100000 * i + 0x8 * j
/-- BAR0 offset of CH_CUE (R137), indices `i` below 8 and `j` below 16. -/
def chCue (i j : Nat) : Nat := 0x01000400 + 0x100000 * i + 0x8 * j
/-- BAR0 offset of CH_XCAP (R140), indices `i` below 8 and `j` below 256. -/
def chXcap (i j : Nat) : Nat := 0x01001000 + 0x100000 * i + 0x8 * j
/-- BAR0 offset of CH_XDROP (R141), indices `i` below 8 and `j` below 256. -/
def chXdrop (i j : Nat) : Nat := 0x01002000 + 0x100000 * i + 0x8 * j
/-- BAR0 offset of MC_STATUS (R213). -/
def mcStatus : Nat := 0x02000000
/-- BAR0 offset of MC_SCRUB_CTL (R214). -/
def mcScrubCtl : Nat := 0x02000008
/-- BAR0 offset of MC_HOSTWIN (R215). -/
def mcHostwin : Nat := 0x02000010
/-- BAR0 offset of MC_LEND_STAT (R216). -/
def mcLendStat : Nat := 0x02000018
/-- BAR0 offset of MC_SE_ERR (R217), index `i` below 8. -/
def mcSeErr (i : Nat) : Nat := 0x02000020 + 0x8 * i
/-- BAR0 offset of MC_CH_STATUS (R218), index `i` below 128. -/
def mcChStatus (i : Nat) : Nat := 0x02010000 + 0x1000 * i
/-- BAR0 offset of MC_CH_ECC (R219), index `i` below 128. -/
def mcChEcc (i : Nat) : Nat := 0x02010008 + 0x1000 * i
/-- BAR0 offset of MC_CH_ERR (R220), index `i` below 128. -/
def mcChErr (i : Nat) : Nat := 0x02010010 + 0x1000 * i
/-- BAR0 offset of MC_REMAP_SEL (R221), index `i` below 128. -/
def mcRemapSel (i : Nat) : Nat := 0x02010018 + 0x1000 * i
/-- BAR0 offset of MC_REMAP_DATA (R221), index `i` below 128. -/
def mcRemapData (i : Nat) : Nat := 0x02010020 + 0x1000 * i
/-- BAR0 offset of ARB_CTL_M (R222), index `i` below 128. -/
def arbCtlM (i : Nat) : Nat := 0x02010800 + 0x1000 * i
/-- BAR0 offset of ARB_CTL_B (R222), index `i` below 8. -/
def arbCtlB (i : Nat) : Nat := 0x02100000 + 0x1000 * i
/-- BAR0 offset of ARB_PRIO_M (R223), index `i` below 128. -/
def arbPrioM (i : Nat) : Nat := 0x02010808 + 0x1000 * i
/-- BAR0 offset of ARB_PRIO_B (R223), index `i` below 8. -/
def arbPrioB (i : Nat) : Nat := 0x02100008 + 0x1000 * i
/-- BAR0 offset of ARB_STAT_M (R224), index `i` below 128. -/
def arbStatM (i : Nat) : Nat := 0x02010810 + 0x1000 * i
/-- BAR0 offset of ARB_STAT_B (R224), index `i` below 8. -/
def arbStatB (i : Nat) : Nat := 0x02100010 + 0x1000 * i
/-- BAR0 offset of ARB_CNT_M (R225), indices `i` below 128 and `j` below 10. -/
def arbCntM (i j : Nat) : Nat := 0x02010900 + 0x1000 * i + 0x8 * j
/-- BAR0 offset of ARB_CNT_B (R225), indices `i` below 8 and `j` below 5. -/
def arbCntB (i j : Nat) : Nat := 0x02100100 + 0x1000 * i + 0x8 * j
/-- BAR0 offset of ARB_LONGEST_M (R225), indices `i` below 128 and `j` below 10. -/
def arbLongestM (i j : Nat) : Nat := 0x02010a00 + 0x1000 * i + 0x8 * j
/-- BAR0 offset of ARB_LONGEST_B (R225), indices `i` below 8 and `j` below 5. -/
def arbLongestB (i j : Nat) : Nat := 0x02100200 + 0x1000 * i + 0x8 * j
/-- BAR0 offset of NET_FAB_CTL (R258). -/
def netFabCtl : Nat := 0x03000000
/-- BAR0 offset of NET_FAB_STAT (R259). -/
def netFabStat : Nat := 0x03000008
/-- BAR0 offset of NET_SWAP_TICK (R260). -/
def netSwapTick : Nat := 0x03000010
/-- BAR0 offset of NET_VC0_FAULT (R261). -/
def netVc0Fault : Nat := 0x03000018
/-- BAR0 offset of NET_VC0_FAULT_TICK (R261). -/
def netVc0FaultTick : Nat := 0x03000020
/-- BAR0 offset of NET_MAP_STAT (R374). -/
def netMapStat : Nat := 0x03000028
/-- BAR0 offset of NET_PORT_MAP (R373), index `i` below 24. -/
def netPortMap (i : Nat) : Nat := 0x03000800 + 0x8 * i
/-- BAR0 offset of NET_PORT_HOP (R262), index `i` below 24. -/
def netPortHop (i : Nat) : Nat := 0x03001000 + 0x40 * i
/-- BAR0 offset of NET_VC0_ERR (R263), index `i` below 34. -/
def netVc0Err (i : Nat) : Nat := 0x03001008 + 0x40 * i
/-- BAR0 offset of NET_VC0_CNT (R264), index `i` below 34. -/
def netVc0Cnt (i : Nat) : Nat := 0x03001010 + 0x40 * i
/-- BAR0 offset of NET_RX_WATCH (R265), index `i` below 8. -/
def netRxWatch (i : Nat) : Nat := 0x03001618 + 0x40 * i
/-- BAR0 offset of NET_CIRCUIT (R242), indices `i` below 2 and `j` below 4096. -/
def netCircuit (i j : Nat) : Nat := 0x03040000 + 0x8000 * i + 0x8 * j
/-- BAR0 offset of NET_ROUTE (R270), index `i` below 4096. -/
def netRoute (i : Nat) : Nat := 0x03050000 + 0x8 * i
/-- BAR0 offset of NET_UNS_CTL (R295). -/
def netUnsCtl : Nat := 0x03060000
/-- BAR0 offset of NET_UNS_STAT (R296). -/
def netUnsStat : Nat := 0x03060008
/-- BAR0 offset of NET_FLOW_CLEAR (R297). -/
def netFlowClear : Nat := 0x03060010
/-- BAR0 offset of NET_TELEM_CTL (R298). -/
def netTelemCtl : Nat := 0x03060018
/-- BAR0 offset of NET_TELEM_STAT (R298). -/
def netTelemStat : Nat := 0x03060020
/-- BAR0 offset of NET_UNS_DROP0 (R299), index `i` below 34. -/
def netUnsDrop0 (i : Nat) : Nat := 0x03061000 + 0x40 * i
/-- BAR0 offset of NET_UNS_DROP1 (R299), index `i` below 34. -/
def netUnsDrop1 (i : Nat) : Nat := 0x03061008 + 0x40 * i
/-- BAR0 offset of NET_TELEM_HIST (R300), indices `i` below 136 and `j` below 4. -/
def netTelemHist (i j : Nat) : Nat := 0x03064000 + 0x40 * i + 0x8 * j
/-- BAR0 offset of NET_TELEM_DROPS (R300), index `i` below 136. -/
def netTelemDrops (i : Nat) : Nat := 0x03064020 + 0x40 * i
/-- BAR0 offset of LNK_CTL (R338), index `i` below 24. -/
def lnkCtl (i : Nat) : Nat := 0x04000000 + 0x1000 * i
/-- BAR0 offset of LNK_STATUS (R339), index `i` below 24. -/
def lnkStatus (i : Nat) : Nat := 0x04000008 + 0x1000 * i
/-- BAR0 offset of LNK_SEQ (R340), index `i` below 24. -/
def lnkSeq (i : Nat) : Nat := 0x04000010 + 0x1000 * i
/-- BAR0 offset of LNK_LANE_MAP (R341), index `i` below 24. -/
def lnkLaneMap (i : Nat) : Nat := 0x04000018 + 0x1000 * i
/-- BAR0 offset of LNK_LANE_CTL (R342), index `i` below 24. -/
def lnkLaneCtl (i : Nat) : Nat := 0x04000020 + 0x1000 * i
/-- BAR0 offset of LNK_EVENT (R343), index `i` below 24. -/
def lnkEvent (i : Nat) : Nat := 0x04000028 + 0x1000 * i
/-- BAR0 offset of LNK_ERR0 (R344), index `i` below 24. -/
def lnkErr0 (i : Nat) : Nat := 0x04000030 + 0x1000 * i
/-- BAR0 offset of LNK_ERR1 (R344), index `i` below 24. -/
def lnkErr1 (i : Nat) : Nat := 0x04000038 + 0x1000 * i
/-- BAR0 offset of LNK_ERR2 (R344), index `i` below 24. -/
def lnkErr2 (i : Nat) : Nat := 0x04000040 + 0x1000 * i
/-- BAR0 offset of LNK_LANE_ERR (R344), index `i` below 24. -/
def lnkLaneErr (i : Nat) : Nat := 0x04000048 + 0x1000 * i
/-- BAR0 offset of LNK_PEER (R345), index `i` below 24. -/
def lnkPeer (i : Nat) : Nat := 0x04000050 + 0x1000 * i
/-- BAR0 offset of LNK_CRED_TX (R346), indices `i` below 24 and `j` below 4. -/
def lnkCredTx (i j : Nat) : Nat := 0x04000100 + 0x1000 * i + 0x8 * j
/-- BAR0 offset of LNK_CRED_RX (R346), indices `i` below 24 and `j` below 4. -/
def lnkCredRx (i j : Nat) : Nat := 0x04000140 + 0x1000 * i + 0x8 * j
/-- BAR0 offset of LNK_PHY_STATUS (R368), index `i` below 24. -/
def lnkPhyStatus (i : Nat) : Nat := 0x04800000 + 0x1000 * i
/-- BAR0 offset of LNK_SURVEY (R369), index `i` below 24. -/
def lnkSurvey (i : Nat) : Nat := 0x04800008 + 0x1000 * i
/-- BAR0 offset of LNK_MARGIN_CTL (R370), index `i` below 24. -/
def lnkMarginCtl (i : Nat) : Nat := 0x04800010 + 0x1000 * i
/-- BAR0 offset of LNK_MARGIN (R371), indices `i` below 24 and `j` below 10. -/
def lnkMargin (i j : Nat) : Nat := 0x04800100 + 0x1000 * i + 0x8 * j
/-- BAR0 offset of LNK_LASER (R372), indices `i` below 16 and `j` below 10. -/
def lnkLaser (i j : Nat) : Nat := 0x04808200 + 0x1000 * i + 0x8 * j
/-- BAR0 offset of TIM_NOW (R400). -/
def timNow : Nat := 0x05000000
/-- BAR0 offset of TIM_CTL (R401). -/
def timCtl : Nat := 0x05000008
/-- BAR0 offset of TIM_SERVO (R402). -/
def timServo : Nat := 0x05000010
/-- BAR0 offset of TIM_STAT (R403). -/
def timStat : Nat := 0x05000018
/-- BAR0 offset of TIM_REFUSED (R404). -/
def timRefused : Nat := 0x05000020
/-- BAR0 offset of TIM_TRIM (R405). -/
def timTrim : Nat := 0x05000028
/-- BAR0 offset of TIM_REBASE_AT (R406). -/
def timRebaseAt : Nat := 0x05000030
/-- BAR0 offset of TIM_REBASE_TO (R406). -/
def timRebaseTo : Nat := 0x05000038
/-- BAR0 offset of TIM_LINK (R407), index `i` below 24. -/
def timLink (i : Nat) : Nat := 0x05000100 + 0x8 * i
/-- BAR0 offset of TIM_CNT (R408), index `i` below 8. -/
def timCnt (i : Nat) : Nat := 0x05000200 + 0x8 * i
/-- BAR0 offset of SAF_CTL (R442). -/
def safCtl : Nat := 0x06000000
/-- BAR0 offset of SAF_STAT (R443). -/
def safStat : Nat := 0x06000008
/-- BAR0 offset of SAF_FAULT (R444). -/
def safFault : Nat := 0x06000010
/-- BAR0 offset of SAF_FIRST (R445). -/
def safFirst : Nat := 0x06000018
/-- BAR0 offset of SAF_FIRST_TICK (R445). -/
def safFirstTick : Nat := 0x06000020
/-- BAR0 offset of SAF_RAISE (R446). -/
def safRaise : Nat := 0x06000028
/-- BAR0 offset of SAF_KICK (R446). -/
def safKick : Nat := 0x06000030
/-- BAR0 offset of SAF_NOTICE (R447). -/
def safNotice : Nat := 0x06000038
/-- BAR0 offset of SAF_LOCK_VIOL_COUNT (R448). -/
def safLockViolCount : Nat := 0x06000040
/-- BAR0 offset of SAF_REGION (R449). -/
def safRegion : Nat := 0x06000048
/-- BAR0 offset of SAF_INT (R450). -/
def safInt : Nat := 0x06000050
/-- BAR0 offset of SAF_SRAM_ECC (R451), indices `i` below 8 and `j` below 85. -/
def safSramEcc (i j : Nat) : Nat := 0x06001000 + 0x400 * i + 0x8 * j
/-- BAR0 offset of MB_SUBMIT (R491), index `i` below 16. -/
def mbSubmit (i : Nat) : Nat := 0x00101000 + 0x4000 * i
/-- BAR0 offset of MB_STATUS (R491), index `i` below 16. -/
def mbStatus (i : Nat) : Nat := 0x00101008 + 0x4000 * i
/-- BAR0 offset of MB_ABORT (R491), index `i` below 16. -/
def mbAbort (i : Nat) : Nat := 0x00101010 + 0x4000 * i
/-- BAR0 offset of CTL_BOOT (R492). -/
def ctlBoot : Nat := 0x07000000
/-- BAR0 offset of CTL_FW_VERSION (R492). -/
def ctlFwVersion : Nat := 0x07000008
/-- BAR0 offset of CTL_CORE (R493), index `i` below 5. -/
def ctlCore (i : Nat) : Nat := 0x07000010 + 0x8 * i
/-- BAR0 offset of CTL_POST_ADDR (R494), index `i` below 5. -/
def ctlPostAddr (i : Nat) : Nat := 0x07000040 + 0x10 * i
/-- BAR0 offset of CTL_POST_DATA (R494), index `i` below 5. -/
def ctlPostData (i : Nat) : Nat := 0x07000048 + 0x10 * i
/-- BAR0 offset of CTL_POST_STAT (R494). -/
def ctlPostStat : Nat := 0x07000100
/-- BAR0 offset of CTL_RXRING (R495). -/
def ctlRxring : Nat := 0x07000108
/-- BAR0 offset of CTL_TXRING (R495). -/
def ctlTxring : Nat := 0x07000110
/-- BAR0 offset of CTL_PCIE_STAT (R512). -/
def ctlPcieStat : Nat := 0x07001000
/-- BAR0 offset of CTL_HOST_ALERT (R513). -/
def ctlHostAlert : Nat := 0x07001008
/-- BAR0 offset of CTL_HOST_RAISE (R514). -/
def ctlHostRaise : Nat := 0x07001010
/-- BAR0 offset of PWR_STATE (R541). -/
def pwrState : Nat := 0x08000000
/-- BAR0 offset of PWR_VIN (R542). -/
def pwrVin : Nat := 0x08000008
/-- BAR0 offset of PWR_SUPPLY_EVT (R543). -/
def pwrSupplyEvt : Nat := 0x08000010
/-- BAR0 offset of PWR_DIP_LOG (R544). -/
def pwrDipLog : Nat := 0x08000018
/-- BAR0 offset of PWR_ARITH (R545). -/
def pwrArith : Nat := 0x08000020
/-- BAR0 offset of PWR_CAP (R546). -/
def pwrCap : Nat := 0x08000028
/-- BAR0 offset of PWR_CLK (R547). -/
def pwrClk : Nat := 0x08000030
/-- BAR0 offset of PWR_THERM_CTL (R548). -/
def pwrThermCtl : Nat := 0x08000038
/-- BAR0 offset of PWR_THERM_STAT (R549). -/
def pwrThermStat : Nat := 0x08000040
/-- BAR0 offset of PWR_RESURVEY (R550). -/
def pwrResurvey : Nat := 0x08000048
/-- BAR0 offset of PWR_RESET (R551). -/
def pwrReset : Nat := 0x08000050
/-- BAR0 offset of PWR_SITE (R552), index `i` below 14. -/
def pwrSite (i : Nat) : Nat := 0x08000100 + 0x8 * i
/-- BAR0 offset of PWR_RAIL (R553), index `i` below 20. -/
def pwrRail (i : Nat) : Nat := 0x08000200 + 0x8 * i
/-- BAR0 offset of BRD_STRAP (R577). -/
def brdStrap : Nat := 0x09000000
/-- BAR0 offset of BRD_PIN (R578). -/
def brdPin : Nat := 0x09000008
/-- BAR0 offset of BRD_I3C (R579). -/
def brdI3c : Nat := 0x09000010
/-- BAR0 offset of BRD_JTAG (R580). -/
def brdJtag : Nat := 0x09000018
/-- BAR0 offset of MSIX_TABLE (R500), index `i` below 8. -/
def msixTable (i : Nat) : Nat := 0x00002000 + 0x8 * i
/-- BAR0 offset of MSIX_PBA (R500). -/
def msixPba : Nat := 0x00003000

/-- A register with no index at offset `b`. -/
def at0 (k : RegKind) (b off : Nat) : Option (RegKind × Nat × Nat) :=
  if off = b then some (k, 0, 0) else none

/-- A register family of `n` members from `b`, `st` bytes apart. -/
def at1 (k : RegKind) (b st n off : Nat) : Option (RegKind × Nat × Nat) :=
  if b ≤ off ∧ (off - b) % st = 0 ∧ (off - b) / st < n then some (k, (off - b) / st, 0) else none

/-- A register family of `n` blocks from `b`, `st` bytes apart, each with `m` members `st2` bytes apart. -/
def at2 (k : RegKind) (b st n st2 m off : Nat) : Option (RegKind × Nat × Nat) :=
  if b ≤ off ∧ (off - b) / st < n ∧ (off - b) % st % st2 = 0 ∧ (off - b) % st / st2 < m then
    some (k, (off - b) / st, (off - b) % st / st2)
  else none

/-- The register at a BAR0 offset of the first 64 KiB and the mailboxes. -/
def locateHost (off : Nat) : Option (RegKind × Nat × Nat) :=
  (at0 .ctlChipId 0x0 off) <|>
  (at0 .netPlace 0x8 off) <|>
  (at1 .mbSubmit 0x101000 0x4000 16 off) <|>
  (at1 .mbStatus 0x101008 0x4000 16 off) <|>
  (at1 .mbAbort 0x101010 0x4000 16 off) <|>
  (at1 .msixTable 0x2000 0x8 8 off) <|>
  (at0 .msixPba 0x3000 off)

/-- The register at a BAR0 offset of the channel blocks (R126). -/
def locateChan (off : Nat) : Option (RegKind × Nat × Nat) :=
  (at1 .chCtl 0x1000000 0x100000 8 off) <|>
  (at1 .chStatus 0x1000008 0x100000 8 off) <|>
  (at1 .chFault 0x1000010 0x100000 8 off) <|>
  (at1 .chOverrun 0x1000018 0x100000 8 off) <|>
  (at1 .chTeMap 0x1000020 0x100000 8 off) <|>
  (at1 .chShadow 0x1000028 0x100000 8 off) <|>
  (at1 .chBankMap 0x1000030 0x100000 8 off) <|>
  (at1 .chArithCtl 0x1000800 0x100000 8 off) <|>
  (at1 .chArithFlags 0x1000808 0x100000 8 off) <|>
  (at1 .chSrSeed 0x1000810 0x100000 8 off) <|>
  (at1 .chSrRank 0x1000818 0x100000 8 off) <|>
  (at1 .chXslotCtl 0x1000900 0x100000 8 off) <|>
  (at1 .chXslotStat 0x1000908 0x100000 8 off) <|>
  (at2 .chQRing 0x1000100 0x100000 8 0x8 24 off) <|>
  (at2 .chQCount 0x1000200 0x100000 8 0x8 24 off) <|>
  (at2 .chNqStatus 0x1000300 0x100000 8 0x8 16 off) <|>
  (at2 .chCue 0x1000400 0x100000 8 0x8 16 off) <|>
  (at2 .chXcap 0x1001000 0x100000 8 0x8 256 off) <|>
  (at2 .chXdrop 0x1002000 0x100000 8 0x8 256 off)

/-- The register at a BAR0 offset of the memory and arbiter blocks (R212). -/
def locateMem (off : Nat) : Option (RegKind × Nat × Nat) :=
  (at0 .mcStatus 0x2000000 off) <|>
  (at0 .mcScrubCtl 0x2000008 off) <|>
  (at0 .mcHostwin 0x2000010 off) <|>
  (at0 .mcLendStat 0x2000018 off) <|>
  (at1 .mcSeErr 0x2000020 0x8 8 off) <|>
  (at1 .mcChStatus 0x2010000 0x1000 128 off) <|>
  (at1 .mcChEcc 0x2010008 0x1000 128 off) <|>
  (at1 .mcChErr 0x2010010 0x1000 128 off) <|>
  (at1 .mcRemapSel 0x2010018 0x1000 128 off) <|>
  (at1 .mcRemapData 0x2010020 0x1000 128 off) <|>
  (at1 .arbCtlM 0x2010800 0x1000 128 off) <|>
  (at1 .arbCtlB 0x2100000 0x1000 8 off) <|>
  (at1 .arbPrioM 0x2010808 0x1000 128 off) <|>
  (at1 .arbPrioB 0x2100008 0x1000 8 off) <|>
  (at1 .arbStatM 0x2010810 0x1000 128 off) <|>
  (at1 .arbStatB 0x2100010 0x1000 8 off) <|>
  (at2 .arbCntM 0x2010900 0x1000 128 0x8 10 off) <|>
  (at2 .arbCntB 0x2100100 0x1000 8 0x8 5 off) <|>
  (at2 .arbLongestM 0x2010a00 0x1000 128 0x8 10 off) <|>
  (at2 .arbLongestB 0x2100200 0x1000 8 0x8 5 off)

/-- The register at a BAR0 offset of the fabric and unscheduled blocks (R257, R294, R367). -/
def locateNet (off : Nat) : Option (RegKind × Nat × Nat) :=
  (at0 .netFabCtl 0x3000000 off) <|>
  (at0 .netFabStat 0x3000008 off) <|>
  (at0 .netSwapTick 0x3000010 off) <|>
  (at0 .netVc0Fault 0x3000018 off) <|>
  (at0 .netVc0FaultTick 0x3000020 off) <|>
  (at0 .netMapStat 0x3000028 off) <|>
  (at1 .netPortMap 0x3000800 0x8 24 off) <|>
  (at1 .netPortHop 0x3001000 0x40 24 off) <|>
  (at1 .netVc0Err 0x3001008 0x40 34 off) <|>
  (at1 .netVc0Cnt 0x3001010 0x40 34 off) <|>
  (at1 .netRxWatch 0x3001618 0x40 8 off) <|>
  (at2 .netCircuit 0x3040000 0x8000 2 0x8 4096 off) <|>
  (at1 .netRoute 0x3050000 0x8 4096 off) <|>
  (at0 .netUnsCtl 0x3060000 off) <|>
  (at0 .netUnsStat 0x3060008 off) <|>
  (at0 .netFlowClear 0x3060010 off) <|>
  (at0 .netTelemCtl 0x3060018 off) <|>
  (at0 .netTelemStat 0x3060020 off) <|>
  (at1 .netUnsDrop0 0x3061000 0x40 34 off) <|>
  (at1 .netUnsDrop1 0x3061008 0x40 34 off) <|>
  (at2 .netTelemHist 0x3064000 0x40 136 0x8 4 off) <|>
  (at1 .netTelemDrops 0x3064020 0x40 136 off)

/-- The register at a BAR0 offset of the link and physical blocks (R337, R367). -/
def locateLnk (off : Nat) : Option (RegKind × Nat × Nat) :=
  (at1 .lnkCtl 0x4000000 0x1000 24 off) <|>
  (at1 .lnkStatus 0x4000008 0x1000 24 off) <|>
  (at1 .lnkSeq 0x4000010 0x1000 24 off) <|>
  (at1 .lnkLaneMap 0x4000018 0x1000 24 off) <|>
  (at1 .lnkLaneCtl 0x4000020 0x1000 24 off) <|>
  (at1 .lnkEvent 0x4000028 0x1000 24 off) <|>
  (at1 .lnkErr0 0x4000030 0x1000 24 off) <|>
  (at1 .lnkErr1 0x4000038 0x1000 24 off) <|>
  (at1 .lnkErr2 0x4000040 0x1000 24 off) <|>
  (at1 .lnkLaneErr 0x4000048 0x1000 24 off) <|>
  (at1 .lnkPeer 0x4000050 0x1000 24 off) <|>
  (at2 .lnkCredTx 0x4000100 0x1000 24 0x8 4 off) <|>
  (at2 .lnkCredRx 0x4000140 0x1000 24 0x8 4 off) <|>
  (at1 .lnkPhyStatus 0x4800000 0x1000 24 off) <|>
  (at1 .lnkSurvey 0x4800008 0x1000 24 off) <|>
  (at1 .lnkMarginCtl 0x4800010 0x1000 24 off) <|>
  (at2 .lnkMargin 0x4800100 0x1000 24 0x8 10 off) <|>
  (at2 .lnkLaser 0x4808200 0x1000 16 0x8 10 off)

/-- The register at a BAR0 offset of the time block (R399). -/
def locateTim (off : Nat) : Option (RegKind × Nat × Nat) :=
  (at0 .timNow 0x5000000 off) <|>
  (at0 .timCtl 0x5000008 off) <|>
  (at0 .timServo 0x5000010 off) <|>
  (at0 .timStat 0x5000018 off) <|>
  (at0 .timRefused 0x5000020 off) <|>
  (at0 .timTrim 0x5000028 off) <|>
  (at0 .timRebaseAt 0x5000030 off) <|>
  (at0 .timRebaseTo 0x5000038 off) <|>
  (at1 .timLink 0x5000100 0x8 24 off) <|>
  (at1 .timCnt 0x5000200 0x8 8 off)

/-- The register at a BAR0 offset of the safety block (R441). -/
def locateSaf (off : Nat) : Option (RegKind × Nat × Nat) :=
  (at0 .safCtl 0x6000000 off) <|>
  (at0 .safStat 0x6000008 off) <|>
  (at0 .safFault 0x6000010 off) <|>
  (at0 .safFirst 0x6000018 off) <|>
  (at0 .safFirstTick 0x6000020 off) <|>
  (at0 .safRaise 0x6000028 off) <|>
  (at0 .safKick 0x6000030 off) <|>
  (at0 .safNotice 0x6000038 off) <|>
  (at0 .safLockViolCount 0x6000040 off) <|>
  (at0 .safRegion 0x6000048 off) <|>
  (at0 .safInt 0x6000050 off) <|>
  (at2 .safSramEcc 0x6001000 0x400 8 0x8 85 off)

/-- The register at a BAR0 offset of the control and host-interface blocks (R490, R511). -/
def locateCtl (off : Nat) : Option (RegKind × Nat × Nat) :=
  (at0 .ctlBoot 0x7000000 off) <|>
  (at0 .ctlFwVersion 0x7000008 off) <|>
  (at1 .ctlCore 0x7000010 0x8 5 off) <|>
  (at1 .ctlPostAddr 0x7000040 0x10 5 off) <|>
  (at1 .ctlPostData 0x7000048 0x10 5 off) <|>
  (at0 .ctlPostStat 0x7000100 off) <|>
  (at0 .ctlRxring 0x7000108 off) <|>
  (at0 .ctlTxring 0x7000110 off) <|>
  (at0 .ctlPcieStat 0x7001000 off) <|>
  (at0 .ctlHostAlert 0x7001008 off) <|>
  (at0 .ctlHostRaise 0x7001010 off)

/-- The register at a BAR0 offset of the power block (R540). -/
def locatePwr (off : Nat) : Option (RegKind × Nat × Nat) :=
  (at0 .pwrState 0x8000000 off) <|>
  (at0 .pwrVin 0x8000008 off) <|>
  (at0 .pwrSupplyEvt 0x8000010 off) <|>
  (at0 .pwrDipLog 0x8000018 off) <|>
  (at0 .pwrArith 0x8000020 off) <|>
  (at0 .pwrCap 0x8000028 off) <|>
  (at0 .pwrClk 0x8000030 off) <|>
  (at0 .pwrThermCtl 0x8000038 off) <|>
  (at0 .pwrThermStat 0x8000040 off) <|>
  (at0 .pwrResurvey 0x8000048 off) <|>
  (at0 .pwrReset 0x8000050 off) <|>
  (at1 .pwrSite 0x8000100 0x8 14 off) <|>
  (at1 .pwrRail 0x8000200 0x8 20 off)

/-- The register at a BAR0 offset of the board block (R576). -/
def locateBrd (off : Nat) : Option (RegKind × Nat × Nat) :=
  (at0 .brdStrap 0x9000000 off) <|>
  (at0 .brdPin 0x9000008 off) <|>
  (at0 .brdI3c 0x9000010 off) <|>
  (at0 .brdJtag 0x9000018 off)

/-- The register at a BAR0 offset, with its indices (R500); none where no register stands, which reads 0 and ignores writes. -/
def locate (off : Nat) : Option (RegKind × Nat × Nat) :=
  if off < 0x1000000 then locateHost off else
  if off < 0x2000000 then locateChan off else
  if off < 0x3000000 then locateMem off else
  if off < 0x4000000 then locateNet off else
  if off < 0x5000000 then locateLnk off else
  if off < 0x6000000 then locateTim off else
  if off < 0x7000000 then locateSaf off else
  if off < 0x8000000 then locateCtl off else
  if off < 0x9000000 then locatePwr off else
  locateBrd off

/-- CTL_CHIP_ID.STEPPING (R6). -/
def CTL_CHIP_ID_STEPPING : Fld := ⟨0, 8⟩
/-- CTL_CHIP_ID.LAT_TABLE_MAX (R6). -/
def CTL_CHIP_ID_LAT_TABLE_MAX : Fld := ⟨8, 8⟩
/-- CTL_CHIP_ID.PART (R6). -/
def CTL_CHIP_ID_PART : Fld := ⟨16, 16⟩
/-- CTL_CHIP_ID.OPT_ENGINES (R6). -/
def CTL_CHIP_ID_OPT_ENGINES : Fld := ⟨32, 16⟩
/-- NET_PLACE.DEVICE_ID (R34). -/
def NET_PLACE_DEVICE_ID : Fld := ⟨0, 12⟩
/-- NET_PLACE.PLACE_ERR (R34). -/
def NET_PLACE_PLACE_ERR : Fld := ⟨15, 1⟩
/-- NET_PLACE.X (R34). -/
def NET_PLACE_X : Fld := ⟨16, 4⟩
/-- NET_PLACE.Y (R34). -/
def NET_PLACE_Y : Fld := ⟨20, 4⟩
/-- NET_PLACE.Z (R34). -/
def NET_PLACE_Z : Fld := ⟨24, 4⟩
/-- NET_PLACE.SIZE_X_M1 (R34). -/
def NET_PLACE_SIZE_X_M1 : Fld := ⟨32, 4⟩
/-- NET_PLACE.SIZE_Y_M1 (R34). -/
def NET_PLACE_SIZE_Y_M1 : Fld := ⟨36, 4⟩
/-- NET_PLACE.SIZE_Z_M1 (R34). -/
def NET_PLACE_SIZE_Z_M1 : Fld := ⟨40, 4⟩
/-- NET_PLACE.SLICE_ID (R34). -/
def NET_PLACE_SLICE_ID : Fld := ⟨48, 12⟩
/-- NET_PLACE.LOCK (R34). -/
def NET_PLACE_LOCK : Fld := ⟨63, 1⟩
/-- CH_CTL.RUN (R127). -/
def CH_CTL_RUN : Fld := ⟨0, 1⟩
/-- CH_CTL.STOP_AT_CUE (R127). -/
def CH_CTL_STOP_AT_CUE : Fld := ⟨1, 1⟩
/-- CH_CTL.REHEARSAL (R127). -/
def CH_CTL_REHEARSAL : Fld := ⟨2, 1⟩
/-- CH_CTL.PAD_A1 (R127). -/
def CH_CTL_PAD_A1 : Fld := ⟨3, 1⟩
/-- CH_CTL.COUNTED (R127). -/
def CH_CTL_COUNTED : Fld := ⟨4, 1⟩
/-- CH_CTL.START (R127). -/
def CH_CTL_START : Fld := ⟨8, 15⟩
/-- CH_STATUS.STATE (R128). -/
def CH_STATUS_STATE : Fld := ⟨0, 3⟩
/-- CH_STATUS.HOLD_CUE (R128). -/
def CH_STATUS_HOLD_CUE : Fld := ⟨3, 1⟩
/-- CH_STATUS.HOLD_Q (R128). -/
def CH_STATUS_HOLD_Q : Fld := ⟨4, 1⟩
/-- CH_STATUS.START_ERR (R128). -/
def CH_STATUS_START_ERR : Fld := ⟨5, 1⟩
/-- CH_STATUS.PC (R128). -/
def CH_STATUS_PC : Fld := ⟨8, 15⟩
/-- CH_STATUS.CUE_FIRED (R128). -/
def CH_STATUS_CUE_FIRED : Fld := ⟨32, 16⟩
/-- CH_FAULT.ILLEGAL (R129). -/
def CH_FAULT_ILLEGAL : Fld := ⟨0, 1⟩
/-- CH_FAULT.CUE_OVERRUN (R129). -/
def CH_FAULT_CUE_OVERRUN : Fld := ⟨1, 1⟩
/-- CH_FAULT.QUEUE_OVF (R129). -/
def CH_FAULT_QUEUE_OVF : Fld := ⟨2, 1⟩
/-- CH_FAULT.QUEUE_UNF (R129). -/
def CH_FAULT_QUEUE_UNF : Fld := ⟨3, 1⟩
/-- CH_FAULT.SEND_LATE (R129). -/
def CH_FAULT_SEND_LATE : Fld := ⟨4, 1⟩
/-- CH_FAULT.SRAM_RANGE (R129). -/
def CH_FAULT_SRAM_RANGE : Fld := ⟨5, 1⟩
/-- CH_FAULT.SRAM_UE (R129). -/
def CH_FAULT_SRAM_UE : Fld := ⟨6, 1⟩
/-- CH_FAULT.TE_RESIDUE (R129). -/
def CH_FAULT_TE_RESIDUE : Fld := ⟨7, 1⟩
/-- CH_FAULT.TE_SHADOW (R129). -/
def CH_FAULT_TE_SHADOW : Fld := ⟨8, 1⟩
/-- CH_FAULT.NONFIN (R129). -/
def CH_FAULT_NONFIN : Fld := ⟨9, 1⟩
/-- CH_FAULT.HAZARD (R129). -/
def CH_FAULT_HAZARD : Fld := ⟨10, 1⟩
/-- CH_FAULT.REG_UE (R129). -/
def CH_FAULT_REG_UE : Fld := ⟨11, 1⟩
/-- CH_FAULT.FIRST (R129). -/
def CH_FAULT_FIRST : Fld := ⟨16, 5⟩
/-- CH_FAULT.FIRST_VALID (R129). -/
def CH_FAULT_FIRST_VALID : Fld := ⟨21, 1⟩
/-- CH_FAULT.FIRST_PC (R129). -/
def CH_FAULT_FIRST_PC : Fld := ⟨22, 15⟩
/-- CH_FAULT.FIRST_ENGINE (R129). -/
def CH_FAULT_FIRST_ENGINE : Fld := ⟨37, 4⟩
/-- CH_OVERRUN.CUE (R130). -/
def CH_OVERRUN_CUE : Fld := ⟨0, 4⟩
/-- CH_OVERRUN.QUEUE (R130). -/
def CH_OVERRUN_QUEUE : Fld := ⟨4, 5⟩
/-- CH_OVERRUN.KIND (R130). -/
def CH_OVERRUN_KIND : Fld := ⟨9, 2⟩
/-- CH_OVERRUN.DETAIL (R130). -/
def CH_OVERRUN_DETAIL : Fld := ⟨32, 32⟩
/-- CH_TE_MAP.REPLACED (R131). -/
def CH_TE_MAP_REPLACED : Fld := ⟨0, 4⟩
/-- CH_TE_MAP.REPLACE_EN (R131). -/
def CH_TE_MAP_REPLACE_EN : Fld := ⟨4, 1⟩
/-- CH_TE_MAP.SHADOW_AVAIL (R131). -/
def CH_TE_MAP_SHADOW_AVAIL : Fld := ⟨5, 1⟩
/-- CH_TE_MAP.TE16_SUSPECT (R131). -/
def CH_TE_MAP_TE16_SUSPECT : Fld := ⟨6, 1⟩
/-- CH_SHADOW.EN (R132). -/
def CH_SHADOW_EN : Fld := ⟨0, 1⟩
/-- CH_SHADOW.PERIOD (R132). -/
def CH_SHADOW_PERIOD : Fld := ⟨8, 32⟩
/-- CH_SHADOW.TARGET (R132). -/
def CH_SHADOW_TARGET : Fld := ⟨40, 4⟩
/-- CH_SHADOW.COMPARING (R132). -/
def CH_SHADOW_COMPARING : Fld := ⟨44, 1⟩
/-- CH_SHADOW.TE16_RESIDUE (R132). -/
def CH_SHADOW_TE16_RESIDUE : Fld := ⟨45, 1⟩
/-- CH_BANK_MAP.U0_LOGICAL (R133). -/
def CH_BANK_MAP_U0_LOGICAL : Fld := ⟨0, 6⟩
/-- CH_BANK_MAP.U0_EN (R133). -/
def CH_BANK_MAP_U0_EN : Fld := ⟨6, 1⟩
/-- CH_BANK_MAP.U1_LOGICAL (R133). -/
def CH_BANK_MAP_U1_LOGICAL : Fld := ⟨8, 6⟩
/-- CH_BANK_MAP.U1_EN (R133). -/
def CH_BANK_MAP_U1_EN : Fld := ⟨14, 1⟩
/-- CH_ARITH_CTL.NONFIN_FAULT (R71). -/
def CH_ARITH_CTL_NONFIN_FAULT : Fld := ⟨0, 1⟩
/-- CH_ARITH_FLAGS.INEXACT_ALIGN (R72). -/
def CH_ARITH_FLAGS_INEXACT_ALIGN : Fld := ⟨0, 1⟩
/-- CH_ARITH_FLAGS.INEXACT_MX (R72). -/
def CH_ARITH_FLAGS_INEXACT_MX : Fld := ⟨1, 1⟩
/-- CH_ARITH_FLAGS.NONFIN_IN (R72). -/
def CH_ARITH_FLAGS_NONFIN_IN : Fld := ⟨2, 1⟩
/-- CH_ARITH_FLAGS.WIDE_WRAP (R72). -/
def CH_ARITH_FLAGS_WIDE_WRAP : Fld := ⟨3, 1⟩
/-- CH_ARITH_FLAGS.OUT_OVF (R72). -/
def CH_ARITH_FLAGS_OUT_OVF : Fld := ⟨4, 1⟩
/-- CH_ARITH_FLAGS.OUT_UNF (R72). -/
def CH_ARITH_FLAGS_OUT_UNF : Fld := ⟨5, 1⟩
/-- CH_ARITH_FLAGS.VEC_INVALID (R72). -/
def CH_ARITH_FLAGS_VEC_INVALID : Fld := ⟨6, 1⟩
/-- CH_ARITH_FLAGS.VEC_DIVZERO (R72). -/
def CH_ARITH_FLAGS_VEC_DIVZERO : Fld := ⟨7, 1⟩
/-- CH_ARITH_FLAGS.VEC_OVF (R72). -/
def CH_ARITH_FLAGS_VEC_OVF : Fld := ⟨8, 1⟩
/-- CH_ARITH_FLAGS.VEC_UNF (R72). -/
def CH_ARITH_FLAGS_VEC_UNF : Fld := ⟨9, 1⟩
/-- CH_ARITH_FLAGS.VEC_INEXACT (R72). -/
def CH_ARITH_FLAGS_VEC_INEXACT : Fld := ⟨10, 1⟩
/-- CH_SR_SEED.SEED (R73). -/
def CH_SR_SEED_SEED : Fld := ⟨0, 64⟩
/-- CH_SR_RANK.RANK (R74). -/
def CH_SR_RANK_RANK : Fld := ⟨0, 15⟩
/-- CH_XSLOT_CTL.EXPERTS (R138). -/
def CH_XSLOT_CTL_EXPERTS : Fld := ⟨0, 9⟩
/-- CH_XSLOT_CTL.POLICY (R138). -/
def CH_XSLOT_CTL_POLICY : Fld := ⟨9, 1⟩
/-- CH_XSLOT_CTL.DEFER_CAP (R138). -/
def CH_XSLOT_CTL_DEFER_CAP : Fld := ⟨16, 16⟩
/-- CH_XSLOT_STAT.DEFER_USED (R139). -/
def CH_XSLOT_STAT_DEFER_USED : Fld := ⟨0, 16⟩
/-- CH_XSLOT_STAT.BAD_INDEX (R139). -/
def CH_XSLOT_STAT_BAD_INDEX : Fld := ⟨32, 32⟩
/-- CH_Q_RING.BASE (R134). -/
def CH_Q_RING_BASE : Fld := ⟨0, 14⟩
/-- CH_Q_RING.SIZE_M1 (R134). -/
def CH_Q_RING_SIZE_M1 : Fld := ⟨16, 10⟩
/-- CH_Q_COUNT.AVAIL (R135). -/
def CH_Q_COUNT_AVAIL : Fld := ⟨0, 17⟩
/-- CH_Q_COUNT.SE_BUSY (R135). -/
def CH_Q_COUNT_SE_BUSY : Fld := ⟨17, 1⟩
/-- CH_Q_COUNT.MAX_WAIT (R135). -/
def CH_Q_COUNT_MAX_WAIT : Fld := ⟨32, 32⟩
/-- CH_NQ_STATUS.FLITS (R136). -/
def CH_NQ_STATUS_FLITS : Fld := ⟨0, 7⟩
/-- CH_NQ_STATUS.DESCS (R136). -/
def CH_NQ_STATUS_DESCS : Fld := ⟨8, 5⟩
/-- CH_CUE.TICK (R137). -/
def CH_CUE_TICK : Fld := ⟨0, 64⟩
/-- CH_XCAP.CAP (R140). -/
def CH_XCAP_CAP : Fld := ⟨0, 16⟩
/-- CH_XCAP.FILL (R140). -/
def CH_XCAP_FILL : Fld := ⟨16, 16⟩
/-- CH_XDROP.DROPPED (R141). -/
def CH_XDROP_DROPPED : Fld := ⟨0, 32⟩
/-- CH_XDROP.DEFERRED (R141). -/
def CH_XDROP_DEFERRED : Fld := ⟨32, 32⟩
/-- MC_STATUS.INIT_DONE (R213). -/
def MC_STATUS_INIT_DONE : Fld := ⟨0, 1⟩
/-- MC_STATUS.REMAP_REFUSED (R213). -/
def MC_STATUS_REMAP_REFUSED : Fld := ⟨1, 1⟩
/-- MC_STATUS.SWEEPS (R213). -/
def MC_STATUS_SWEEPS : Fld := ⟨32, 32⟩
/-- MC_SCRUB_CTL.EN (R214). -/
def MC_SCRUB_CTL_EN : Fld := ⟨0, 1⟩
/-- MC_SCRUB_CTL.PERIOD_H (R214). -/
def MC_SCRUB_CTL_PERIOD_H : Fld := ⟨8, 8⟩
/-- MC_SCRUB_CTL.PAGE_THRESH (R214). -/
def MC_SCRUB_CTL_PAGE_THRESH : Fld := ⟨16, 8⟩
/-- MC_HOSTWIN.BASE (R215). -/
def MC_HOSTWIN_BASE : Fld := ⟨0, 10⟩
/-- MC_HOSTWIN.RATE_EN (R215). -/
def MC_HOSTWIN_RATE_EN : Fld := ⟨32, 1⟩
/-- MC_HOSTWIN.RATE (R215). -/
def MC_HOSTWIN_RATE : Fld := ⟨40, 24⟩
/-- MC_LEND_STAT.LATE (R216). -/
def MC_LEND_STAT_LATE : Fld := ⟨0, 16⟩
/-- MC_LEND_STAT.BAD_OP (R216). -/
def MC_LEND_STAT_BAD_OP : Fld := ⟨16, 16⟩
/-- MC_LEND_STAT.RANGE (R216). -/
def MC_LEND_STAT_RANGE : Fld := ⟨32, 16⟩
/-- MC_SE_ERR.VALID (R217). -/
def MC_SE_ERR_VALID : Fld := ⟨0, 1⟩
/-- MC_SE_ERR.QUEUE (R217). -/
def MC_SE_ERR_QUEUE : Fld := ⟨1, 5⟩
/-- MC_SE_ERR.KIND (R217). -/
def MC_SE_ERR_KIND : Fld := ⟨6, 2⟩
/-- MC_SE_ERR.ADDR (R217). -/
def MC_SE_ERR_ADDR : Fld := ⟨24, 40⟩
/-- MC_CH_STATUS.STATE (R218). -/
def MC_CH_STATUS_STATE : Fld := ⟨0, 2⟩
/-- MC_CH_STATUS.RETIRED (R218). -/
def MC_CH_STATUS_RETIRED : Fld := ⟨2, 1⟩
/-- MC_CH_STATUS.PIN_FAIL (R218). -/
def MC_CH_STATUS_PIN_FAIL : Fld := ⟨3, 1⟩
/-- MC_CH_STATUS.PIN (R218). -/
def MC_CH_STATUS_PIN : Fld := ⟨4, 4⟩
/-- MC_CH_STATUS.CAND (R218). -/
def MC_CH_STATUS_CAND : Fld := ⟨8, 1⟩
/-- MC_CH_ECC.CORRECTED (R219). -/
def MC_CH_ECC_CORRECTED : Fld := ⟨0, 32⟩
/-- MC_CH_ECC.UNCORRECTABLE (R219). -/
def MC_CH_ECC_UNCORRECTABLE : Fld := ⟨32, 32⟩
/-- MC_CH_ERR.PAGE (R220). -/
def MC_CH_ERR_PAGE : Fld := ⟨0, 12⟩
/-- MC_CH_ERR.SECTOR (R220). -/
def MC_CH_ERR_SECTOR : Fld := ⟨16, 16⟩
/-- MC_CH_ERR.KIND (R220). -/
def MC_CH_ERR_KIND : Fld := ⟨32, 3⟩
/-- MC_CH_ERR.VALID (R220). -/
def MC_CH_ERR_VALID : Fld := ⟨35, 1⟩
/-- MC_REMAP_SEL.PAGE (R221). -/
def MC_REMAP_SEL_PAGE : Fld := ⟨0, 12⟩
/-- MC_REMAP_DATA.TO_PAGE (R221). -/
def MC_REMAP_DATA_TO_PAGE : Fld := ⟨0, 12⟩
/-- MC_REMAP_DATA.TO_CHAN (R221). -/
def MC_REMAP_DATA_TO_CHAN : Fld := ⟨12, 7⟩
/-- ARB_CTL.N (R222). -/
def ARB_CTL_N : Fld := ⟨0, 7⟩
/-- ARB_CTL.STARVE_THRESH (R222). -/
def ARB_CTL_STARVE_THRESH : Fld := ⟨8, 32⟩
/-- ARB_CTL.STARVE_IE (R222). -/
def ARB_CTL_STARVE_IE : Fld := ⟨40, 1⟩
/-- ARB_STAT.STARVE (R224). -/
def ARB_STAT_STARVE : Fld := ⟨0, 1⟩
/-- ARB_STAT.STARVE_REQ (R224). -/
def ARB_STAT_STARVE_REQ : Fld := ⟨4, 4⟩
/-- ARB_STAT.HELD (R224). -/
def ARB_STAT_HELD : Fld := ⟨8, 1⟩
/-- ARB_STAT.HOLDER (R224). -/
def ARB_STAT_HOLDER : Fld := ⟨12, 4⟩
/-- ARB_STAT.MASK (R224). -/
def ARB_STAT_MASK : Fld := ⟨16, 10⟩
/-- ARB_STAT.GRANT_COUNT (R224). -/
def ARB_STAT_GRANT_COUNT : Fld := ⟨32, 6⟩
/-- ARB_CNT.GRANTS (R225). -/
def ARB_CNT_GRANTS : Fld := ⟨0, 32⟩
/-- ARB_CNT.WAITS (R225). -/
def ARB_CNT_WAITS : Fld := ⟨32, 32⟩
/-- ARB_LONGEST.LONGEST (R225). -/
def ARB_LONGEST_LONGEST : Fld := ⟨0, 32⟩
/-- NET_FAB_CTL.VC0_EN (R258). -/
def NET_FAB_CTL_VC0_EN : Fld := ⟨0, 1⟩
/-- NET_FAB_CTL.ACTIVE_BANK (R258). -/
def NET_FAB_CTL_ACTIVE_BANK : Fld := ⟨1, 1⟩
/-- NET_FAB_CTL.ARM (R258). -/
def NET_FAB_CTL_ARM : Fld := ⟨2, 1⟩
/-- NET_FAB_CTL.FENCE_CURTAIN (R258). -/
def NET_FAB_CTL_FENCE_CURTAIN : Fld := ⟨3, 1⟩
/-- NET_FAB_CTL.SWAP_CH (R258). -/
def NET_FAB_CTL_SWAP_CH : Fld := ⟨8, 3⟩
/-- NET_FAB_CTL.SWAP_EN (R258). -/
def NET_FAB_CTL_SWAP_EN : Fld := ⟨11, 1⟩
/-- NET_FAB_CTL.SWAP_CUE (R258). -/
def NET_FAB_CTL_SWAP_CUE : Fld := ⟨12, 4⟩
/-- NET_FAB_STAT.SWAP_MISSED (R259). -/
def NET_FAB_STAT_SWAP_MISSED : Fld := ⟨0, 1⟩
/-- NET_FAB_STAT.TABLE_WRITE_REFUSED (R259). -/
def NET_FAB_STAT_TABLE_WRITE_REFUSED : Fld := ⟨1, 1⟩
/-- NET_FAB_STAT.FENCE_DROP (R259). -/
def NET_FAB_STAT_FENCE_DROP : Fld := ⟨2, 1⟩
/-- NET_FAB_STAT.VC0_FAULT (R259). -/
def NET_FAB_STAT_VC0_FAULT : Fld := ⟨3, 1⟩
/-- NET_FAB_STAT.SWAPS (R259). -/
def NET_FAB_STAT_SWAPS : Fld := ⟨16, 16⟩
/-- NET_SWAP_TICK.TICK (R260). -/
def NET_SWAP_TICK_TICK : Fld := ⟨0, 64⟩
/-- NET_VC0_FAULT.KIND (R261). -/
def NET_VC0_FAULT_KIND : Fld := ⟨0, 4⟩
/-- NET_VC0_FAULT.VALID (R261). -/
def NET_VC0_FAULT_VALID : Fld := ⟨4, 1⟩
/-- NET_VC0_FAULT.PORT (R261). -/
def NET_VC0_FAULT_PORT : Fld := ⟨6, 6⟩
/-- NET_VC0_FAULT.CIRCUIT (R261). -/
def NET_VC0_FAULT_CIRCUIT : Fld := ⟨16, 12⟩
/-- NET_VC0_FAULT.BANK (R261). -/
def NET_VC0_FAULT_BANK : Fld := ⟨28, 1⟩
/-- NET_VC0_FAULT.SLOT (R261). -/
def NET_VC0_FAULT_SLOT : Fld := ⟨32, 16⟩
/-- NET_VC0_FAULT_TICK.TICK (R261). -/
def NET_VC0_FAULT_TICK_TICK : Fld := ⟨0, 64⟩
/-- NET_MAP_STAT.MAP_WRITE_REFUSED (R374). -/
def NET_MAP_STAT_MAP_WRITE_REFUSED : Fld := ⟨0, 1⟩
/-- NET_MAP_STAT.MAP_CONFLICT (R374). -/
def NET_MAP_STAT_MAP_CONFLICT : Fld := ⟨1, 1⟩
/-- NET_MAP_STAT.CONFLICT_PORT (R374). -/
def NET_MAP_STAT_CONFLICT_PORT : Fld := ⟨2, 5⟩
/-- NET_PORT_MAP.ROLE (R373). -/
def NET_PORT_MAP_ROLE : Fld := ⟨0, 2⟩
/-- NET_PORT_MAP.DIR (R373). -/
def NET_PORT_MAP_DIR : Fld := ⟨2, 3⟩
/-- NET_PORT_MAP.POS (R373). -/
def NET_PORT_MAP_POS : Fld := ⟨5, 2⟩
/-- NET_PORT_MAP.EXP_PEER_ID (R373). -/
def NET_PORT_MAP_EXP_PEER_ID : Fld := ⟨8, 12⟩
/-- NET_PORT_MAP.EXP_PEER_PORT (R373). -/
def NET_PORT_MAP_EXP_PEER_PORT : Fld := ⟨20, 5⟩
/-- NET_PORT_HOP.DELAY (R262). -/
def NET_PORT_HOP_DELAY : Fld := ⟨0, 10⟩
/-- NET_PORT_HOP.DMAX (R262). -/
def NET_PORT_HOP_DMAX : Fld := ⟨16, 10⟩
/-- NET_PORT_HOP.H (R262). -/
def NET_PORT_HOP_H : Fld := ⟨32, 12⟩
/-- NET_PORT_HOP.VC0_OK (R262). -/
def NET_PORT_HOP_VC0_OK : Fld := ⟨48, 1⟩
/-- NET_VC0_ERR.UNKNOWN (R263). -/
def NET_VC0_ERR_UNKNOWN : Fld := ⟨0, 16⟩
/-- NET_VC0_ERR.NOCREDIT (R263). -/
def NET_VC0_ERR_NOCREDIT : Fld := ⟨16, 16⟩
/-- NET_VC0_ERR.LATE (R263). -/
def NET_VC0_ERR_LATE : Fld := ⟨32, 16⟩
/-- NET_VC0_ERR.EARLY (R263). -/
def NET_VC0_ERR_EARLY : Fld := ⟨48, 16⟩
/-- NET_VC0_CNT.FLITS (R264). -/
def NET_VC0_CNT_FLITS : Fld := ⟨0, 40⟩
/-- NET_VC0_CNT.NOCREDIT_SENT (R264). -/
def NET_VC0_CNT_NOCREDIT_SENT : Fld := ⟨40, 8⟩
/-- NET_VC0_CNT.FENCED (R264). -/
def NET_VC0_CNT_FENCED : Fld := ⟨48, 8⟩
/-- NET_VC0_CNT.MISSING (R264). -/
def NET_VC0_CNT_MISSING : Fld := ⟨56, 8⟩
/-- NET_RX_WATCH.LIMIT (R265). -/
def NET_RX_WATCH_LIMIT : Fld := ⟨0, 32⟩
/-- NET_CIRCUIT.ENTRY (R242). -/
def NET_CIRCUIT_ENTRY : Fld := ⟨0, 64⟩
/-- NET_ROUTE.DIR (R270). -/
def NET_ROUTE_DIR : Fld := ⟨0, 3⟩
/-- NET_ROUTE.FENCE (R270). -/
def NET_ROUTE_FENCE : Fld := ⟨3, 1⟩
/-- NET_UNS_CTL.INJECT_STOP (R295). -/
def NET_UNS_CTL_INJECT_STOP : Fld := ⟨0, 1⟩
/-- NET_UNS_CTL.TABLE_OPEN (R295). -/
def NET_UNS_CTL_TABLE_OPEN : Fld := ⟨1, 1⟩
/-- NET_UNS_CTL.SPREAD_EN (R295). -/
def NET_UNS_CTL_SPREAD_EN : Fld := ⟨2, 1⟩
/-- NET_UNS_CTL.EVENT_IE (R295). -/
def NET_UNS_CTL_EVENT_IE : Fld := ⟨3, 1⟩
/-- NET_UNS_CTL.HOLD_TIMEOUT (R295). -/
def NET_UNS_CTL_HOLD_TIMEOUT : Fld := ⟨16, 16⟩
/-- NET_UNS_CTL.ACK_TIMEOUT (R295). -/
def NET_UNS_CTL_ACK_TIMEOUT : Fld := ⟨32, 16⟩
/-- NET_UNS_STAT.DRAINED (R296). -/
def NET_UNS_STAT_DRAINED : Fld := ⟨0, 1⟩
/-- NET_UNS_STAT.ROUTE_WRITE_REFUSED (R296). -/
def NET_UNS_STAT_ROUTE_WRITE_REFUSED : Fld := ⟨1, 1⟩
/-- NET_UNS_STAT.DRAIN_BREACH (R296). -/
def NET_UNS_STAT_DRAIN_BREACH : Fld := ⟨2, 1⟩
/-- NET_UNS_STAT.EVENT (R296). -/
def NET_UNS_STAT_EVENT : Fld := ⟨3, 1⟩
/-- NET_UNS_STAT.STALLED (R296). -/
def NET_UNS_STAT_STALLED : Fld := ⟨4, 1⟩
/-- NET_UNS_STAT.STALLED_DEST (R296). -/
def NET_UNS_STAT_STALLED_DEST : Fld := ⟨16, 12⟩
/-- NET_UNS_STAT.ARRIVALS (R296). -/
def NET_UNS_STAT_ARRIVALS : Fld := ⟨32, 32⟩
/-- NET_FLOW_CLEAR.DEVICE_ID (R297). -/
def NET_FLOW_CLEAR_DEVICE_ID : Fld := ⟨0, 12⟩
/-- NET_TELEM_CTL.WIN_LOG2 (R298). -/
def NET_TELEM_CTL_WIN_LOG2 : Fld := ⟨0, 6⟩
/-- NET_TELEM_STAT.WINDOW (R298). -/
def NET_TELEM_STAT_WINDOW : Fld := ⟨0, 32⟩
/-- NET_UNS_DROP0.ROUTE (R299). -/
def NET_UNS_DROP0_ROUTE : Fld := ⟨0, 16⟩
/-- NET_UNS_DROP0.ORDER (R299). -/
def NET_UNS_DROP0_ORDER : Fld := ⟨16, 16⟩
/-- NET_UNS_DROP0.FENCED (R299). -/
def NET_UNS_DROP0_FENCED : Fld := ⟨32, 16⟩
/-- NET_UNS_DROP0.BAD_HDR (R299). -/
def NET_UNS_DROP0_BAD_HDR : Fld := ⟨48, 16⟩
/-- NET_UNS_DROP1.ENDPOINT (R299). -/
def NET_UNS_DROP1_ENDPOINT : Fld := ⟨0, 16⟩
/-- NET_UNS_DROP1.BREACH (R299). -/
def NET_UNS_DROP1_BREACH : Fld := ⟨16, 16⟩
/-- NET_UNS_DROP1.HOLD_TIMEOUT (R299). -/
def NET_UNS_DROP1_HOLD_TIMEOUT : Fld := ⟨32, 16⟩
/-- NET_UNS_DROP1.HOLD_OVF (R299). -/
def NET_UNS_DROP1_HOLD_OVF : Fld := ⟨48, 16⟩
/-- NET_TELEM_HIST.BIN_EVEN (R300). -/
def NET_TELEM_HIST_BIN_EVEN : Fld := ⟨0, 32⟩
/-- NET_TELEM_HIST.BIN_ODD (R300). -/
def NET_TELEM_HIST_BIN_ODD : Fld := ⟨32, 32⟩
/-- NET_TELEM_DROPS.DROPS (R300). -/
def NET_TELEM_DROPS_DROPS : Fld := ⟨0, 32⟩
/-- LNK_CTL.EN (R338). -/
def LNK_CTL_EN : Fld := ⟨0, 1⟩
/-- LNK_CTL.RETRAIN (R338). -/
def LNK_CTL_RETRAIN : Fld := ⟨1, 1⟩
/-- LNK_CTL.NARROW_FIRST (R338). -/
def LNK_CTL_NARROW_FIRST : Fld := ⟨2, 1⟩
/-- LNK_CTL.EVENT_IE (R338). -/
def LNK_CTL_EVENT_IE : Fld := ⟨3, 1⟩
/-- LNK_CTL.WIDTH_REQ (R338). -/
def LNK_CTL_WIDTH_REQ : Fld := ⟨4, 2⟩
/-- LNK_CTL.WIDTH_GO (R338). -/
def LNK_CTL_WIDTH_GO : Fld := ⟨6, 1⟩
/-- LNK_CTL.TIMEOUT (R338). -/
def LNK_CTL_TIMEOUT : Fld := ⟨8, 16⟩
/-- LNK_CTL.GRACE_US (R338). -/
def LNK_CTL_GRACE_US : Fld := ⟨24, 17⟩
/-- LNK_CTL.REPLAY_LIMIT (R338). -/
def LNK_CTL_REPLAY_LIMIT : Fld := ⟨41, 4⟩
/-- LNK_STATUS.STATE (R339). -/
def LNK_STATUS_STATE : Fld := ⟨0, 3⟩
/-- LNK_STATUS.HOLD (R339). -/
def LNK_STATUS_HOLD : Fld := ⟨3, 1⟩
/-- LNK_STATUS.WIDTH (R339). -/
def LNK_STATUS_WIDTH : Fld := ⟨4, 2⟩
/-- LNK_STATUS.POOL (R339). -/
def LNK_STATUS_POOL : Fld := ⟨6, 1⟩
/-- LNK_STATUS.REPLAYING (R339). -/
def LNK_STATUS_REPLAYING : Fld := ⟨7, 1⟩
/-- LNK_STATUS.EFF_TIMEOUT (R339). -/
def LNK_STATUS_EFF_TIMEOUT : Fld := ⟨8, 16⟩
/-- LNK_STATUS.GRACE_LEFT (R339). -/
def LNK_STATUS_GRACE_LEFT : Fld := ⟨24, 17⟩
/-- LNK_SEQ.TX_NEXT (R340). -/
def LNK_SEQ_TX_NEXT : Fld := ⟨0, 12⟩
/-- LNK_SEQ.TX_ACKED (R340). -/
def LNK_SEQ_TX_ACKED : Fld := ⟨12, 12⟩
/-- LNK_SEQ.TX_FLOOR (R340). -/
def LNK_SEQ_TX_FLOOR : Fld := ⟨24, 12⟩
/-- LNK_SEQ.RX_EXPECTED (R340). -/
def LNK_SEQ_RX_EXPECTED : Fld := ⟨36, 12⟩
/-- LNK_SEQ.RING_USED (R340). -/
def LNK_SEQ_RING_USED : Fld := ⟨48, 11⟩
/-- LNK_LANE_MAP.RX_MAP (R341). -/
def LNK_LANE_MAP_RX_MAP : Fld := ⟨0, 32⟩
/-- LNK_LANE_MAP.TX_MAP (R341). -/
def LNK_LANE_MAP_TX_MAP : Fld := ⟨32, 32⟩
/-- LNK_LANE_CTL.RX_FAILED (R342). -/
def LNK_LANE_CTL_RX_FAILED : Fld := ⟨0, 10⟩
/-- LNK_LANE_CTL.TX_FAILED (R342). -/
def LNK_LANE_CTL_TX_FAILED : Fld := ⟨10, 10⟩
/-- LNK_LANE_CTL.PAR_THRESH (R342). -/
def LNK_LANE_CTL_PAR_THRESH : Fld := ⟨20, 8⟩
/-- LNK_EVENT.DOWN (R343). -/
def LNK_EVENT_DOWN : Fld := ⟨0, 1⟩
/-- LNK_EVENT.FLUSH (R343). -/
def LNK_EVENT_FLUSH : Fld := ⟨1, 1⟩
/-- LNK_EVENT.RESUMED (R343). -/
def LNK_EVENT_RESUMED : Fld := ⟨2, 1⟩
/-- LNK_EVENT.FRESH_PEER (R343). -/
def LNK_EVENT_FRESH_PEER : Fld := ⟨3, 1⟩
/-- LNK_EVENT.LANE_REPLACED (R343). -/
def LNK_EVENT_LANE_REPLACED : Fld := ⟨4, 1⟩
/-- LNK_EVENT.LANE_EXHAUSTED (R343). -/
def LNK_EVENT_LANE_EXHAUSTED : Fld := ⟨5, 1⟩
/-- LNK_EVENT.WIDTH_CHANGED (R343). -/
def LNK_EVENT_WIDTH_CHANGED : Fld := ⟨6, 1⟩
/-- LNK_EVENT.WIDTH_WITHDRAWN (R343). -/
def LNK_EVENT_WIDTH_WITHDRAWN : Fld := ⟨7, 1⟩
/-- LNK_EVENT.RETRAIN_MERGED (R343). -/
def LNK_EVENT_RETRAIN_MERGED : Fld := ⟨8, 1⟩
/-- LNK_EVENT.SEQ_BREACH (R343). -/
def LNK_EVENT_SEQ_BREACH : Fld := ⟨9, 1⟩
/-- LNK_EVENT.CREDIT_OVF (R343). -/
def LNK_EVENT_CREDIT_OVF : Fld := ⟨10, 1⟩
/-- LNK_EVENT.MODE_MISMATCH (R343). -/
def LNK_EVENT_MODE_MISMATCH : Fld := ⟨11, 1⟩
/-- LNK_EVENT.CMD_TIMEOUT (R343). -/
def LNK_EVENT_CMD_TIMEOUT : Fld := ⟨12, 1⟩
/-- LNK_EVENT.WIDTH_REFUSED (R343). -/
def LNK_EVENT_WIDTH_REFUSED : Fld := ⟨13, 1⟩
/-- LNK_EVENT.REPLAY_LIMIT (R343). -/
def LNK_EVENT_REPLAY_LIMIT : Fld := ⟨14, 1⟩
/-- LNK_ERR0.FEC_CORR (R344). -/
def LNK_ERR0_FEC_CORR : Fld := ⟨0, 32⟩
/-- LNK_ERR0.FEC_UE (R344). -/
def LNK_ERR0_FEC_UE : Fld := ⟨32, 16⟩
/-- LNK_ERR0.CRC_ERR (R344). -/
def LNK_ERR0_CRC_ERR : Fld := ⟨48, 16⟩
/-- LNK_ERR1.REPLAYS (R344). -/
def LNK_ERR1_REPLAYS : Fld := ⟨0, 16⟩
/-- LNK_ERR1.DUP (R344). -/
def LNK_ERR1_DUP : Fld := ⟨16, 16⟩
/-- LNK_ERR1.OOS (R344). -/
def LNK_ERR1_OOS : Fld := ⟨32, 16⟩
/-- LNK_ERR1.CREDIT_OVF (R344). -/
def LNK_ERR1_CREDIT_OVF : Fld := ⟨48, 16⟩
/-- LNK_ERR2.RING_FULL (R344). -/
def LNK_ERR2_RING_FULL : Fld := ⟨0, 16⟩
/-- LNK_ERR2.FLUSHED (R344). -/
def LNK_ERR2_FLUSHED : Fld := ⟨16, 16⟩
/-- LNK_ERR2.DOWNS (R344). -/
def LNK_ERR2_DOWNS : Fld := ⟨32, 16⟩
/-- LNK_ERR2.MALFORMED (R344). -/
def LNK_ERR2_MALFORMED : Fld := ⟨48, 16⟩
/-- LNK_PEER.PEER_ID (R345). -/
def LNK_PEER_PEER_ID : Fld := ⟨0, 12⟩
/-- LNK_PEER.PEER_PORT (R345). -/
def LNK_PEER_PEER_PORT : Fld := ⟨12, 5⟩
/-- LNK_CRED_TX.ADV_H (R346). -/
def LNK_CRED_TX_ADV_H : Fld := ⟨0, 16⟩
/-- LNK_CRED_TX.ADV_D (R346). -/
def LNK_CRED_TX_ADV_D : Fld := ⟨16, 16⟩
/-- LNK_CRED_TX.OUT_H (R346). -/
def LNK_CRED_TX_OUT_H : Fld := ⟨32, 16⟩
/-- LNK_CRED_TX.OUT_D (R346). -/
def LNK_CRED_TX_OUT_D : Fld := ⟨48, 16⟩
/-- LNK_CRED_RX.RET_H (R346). -/
def LNK_CRED_RX_RET_H : Fld := ⟨0, 16⟩
/-- LNK_CRED_RX.RET_D (R346). -/
def LNK_CRED_RX_RET_D : Fld := ⟨16, 16⟩
/-- LNK_CRED_RX.HELD_H (R346). -/
def LNK_CRED_RX_HELD_H : Fld := ⟨32, 16⟩
/-- LNK_CRED_RX.HELD_D (R346). -/
def LNK_CRED_RX_HELD_D : Fld := ⟨48, 16⟩
/-- LNK_PHY_STATUS.STEP (R368). -/
def LNK_PHY_STATUS_STEP : Fld := ⟨0, 3⟩
/-- LNK_PHY_STATUS.RX_GOOD (R368). -/
def LNK_PHY_STATUS_RX_GOOD : Fld := ⟨3, 10⟩
/-- LNK_PHY_STATUS.CROSSED (R368). -/
def LNK_PHY_STATUS_CROSSED : Fld := ⟨13, 10⟩
/-- LNK_PHY_STATUS.POLARITY (R368). -/
def LNK_PHY_STATUS_POLARITY : Fld := ⟨23, 10⟩
/-- LNK_PHY_STATUS.FAIL_STEP (R368). -/
def LNK_PHY_STATUS_FAIL_STEP : Fld := ⟨33, 3⟩
/-- LNK_PHY_STATUS.LASER_REFUSED (R368). -/
def LNK_PHY_STATUS_LASER_REFUSED : Fld := ⟨36, 1⟩
/-- LNK_PHY_STATUS.TRAIN_FAILS (R368). -/
def LNK_PHY_STATUS_TRAIN_FAILS : Fld := ⟨48, 16⟩
/-- LNK_SURVEY.VALID (R369). -/
def LNK_SURVEY_VALID : Fld := ⟨0, 1⟩
/-- LNK_SURVEY.UNSTABLE (R369). -/
def LNK_SURVEY_UNSTABLE : Fld := ⟨1, 1⟩
/-- LNK_SURVEY.OVER (R369). -/
def LNK_SURVEY_OVER : Fld := ⟨2, 1⟩
/-- LNK_SURVEY.DELAY_Q4 (R369). -/
def LNK_SURVEY_DELAY_Q4 : Fld := ⟨4, 14⟩
/-- LNK_SURVEY.SPREAD_Q4 (R369). -/
def LNK_SURVEY_SPREAD_Q4 : Fld := ⟨18, 10⟩
/-- LNK_SURVEY.TURN_Q4 (R369). -/
def LNK_SURVEY_TURN_Q4 : Fld := ⟨32, 16⟩
/-- LNK_MARGIN_CTL.V_FLOOR (R370). -/
def LNK_MARGIN_CTL_V_FLOOR : Fld := ⟨0, 10⟩
/-- LNK_MARGIN_CTL.H_FLOOR (R370). -/
def LNK_MARGIN_CTL_H_FLOOR : Fld := ⟨10, 10⟩
/-- LNK_MARGIN.EYE_V (R371). -/
def LNK_MARGIN_EYE_V : Fld := ⟨0, 10⟩
/-- LNK_MARGIN.EYE_H (R371). -/
def LNK_MARGIN_EYE_H : Fld := ⟨10, 10⟩
/-- LNK_MARGIN.LOW (R371). -/
def LNK_MARGIN_LOW : Fld := ⟨20, 1⟩
/-- LNK_MARGIN.UNDERSTUDY (R371). -/
def LNK_MARGIN_UNDERSTUDY : Fld := ⟨21, 1⟩
/-- LNK_MARGIN.PRBS_ERR (R371). -/
def LNK_MARGIN_PRBS_ERR : Fld := ⟨32, 32⟩
/-- LNK_LASER.BIAS (R372). -/
def LNK_LASER_BIAS : Fld := ⟨0, 8⟩
/-- LNK_LASER.POWER (R372). -/
def LNK_LASER_POWER : Fld := ⟨8, 8⟩
/-- LNK_LASER.SOURCE (R372). -/
def LNK_LASER_SOURCE : Fld := ⟨16, 2⟩
/-- LNK_LASER.WARN (R372). -/
def LNK_LASER_WARN : Fld := ⟨18, 1⟩
/-- LNK_LASER.FAIL (R372). -/
def LNK_LASER_FAIL : Fld := ⟨19, 1⟩
/-- TIM_NOW.TICK (R400). -/
def TIM_NOW_TICK : Fld := ⟨0, 64⟩
/-- TIM_CTL.BENCHMARK (R401). -/
def TIM_CTL_BENCHMARK : Fld := ⟨0, 1⟩
/-- TIM_CTL.ACQUIRE (R401). -/
def TIM_CTL_ACQUIRE : Fld := ⟨1, 1⟩
/-- TIM_CTL.ACQ_LINK (R401). -/
def TIM_CTL_ACQ_LINK : Fld := ⟨2, 5⟩
/-- TIM_CTL.REBASE_ARM (R401). -/
def TIM_CTL_REBASE_ARM : Fld := ⟨7, 1⟩
/-- TIM_CTL.RELEASE (R401). -/
def TIM_CTL_RELEASE : Fld := ⟨8, 1⟩
/-- TIM_CTL.EVENT_IE (R401). -/
def TIM_CTL_EVENT_IE : Fld := ⟨9, 1⟩
/-- TIM_CTL.HOLD_MS (R401). -/
def TIM_CTL_HOLD_MS : Fld := ⟨16, 4⟩
/-- TIM_SERVO.MASK (R402). -/
def TIM_SERVO_MASK : Fld := ⟨0, 24⟩
/-- TIM_SERVO.KP_SHIFT (R402). -/
def TIM_SERVO_KP_SHIFT : Fld := ⟨24, 4⟩
/-- TIM_SERVO.KI_SHIFT (R402). -/
def TIM_SERVO_KI_SHIFT : Fld := ⟨28, 4⟩
/-- TIM_SERVO.JUMP_THRESH (R402). -/
def TIM_SERVO_JUMP_THRESH : Fld := ⟨32, 12⟩
/-- TIM_SERVO.DELAY_TOL (R402). -/
def TIM_SERVO_DELAY_TOL : Fld := ⟨44, 4⟩
/-- TIM_STAT.STATE (R403). -/
def TIM_STAT_STATE : Fld := ⟨0, 3⟩
/-- TIM_STAT.REFCLK_LOST (R403). -/
def TIM_STAT_REFCLK_LOST : Fld := ⟨3, 1⟩
/-- TIM_STAT.EVENT (R403). -/
def TIM_STAT_EVENT : Fld := ⟨4, 1⟩
/-- TIM_STAT.JUMP (R403). -/
def TIM_STAT_JUMP : Fld := ⟨5, 1⟩
/-- TIM_STAT.HOLD_EXPIRED (R403). -/
def TIM_STAT_HOLD_EXPIRED : Fld := ⟨6, 1⟩
/-- TIM_STAT.REBASE_REFUSED (R403). -/
def TIM_STAT_REBASE_REFUSED : Fld := ⟨7, 1⟩
/-- TIM_STAT.LOCK_LOST (R403). -/
def TIM_STAT_LOCK_LOST : Fld := ⟨8, 1⟩
/-- TIM_STAT.JUMP_LINK (R403). -/
def TIM_STAT_JUMP_LINK : Fld := ⟨9, 5⟩
/-- TIM_STAT.SAMPLES (R403). -/
def TIM_STAT_SAMPLES : Fld := ⟨16, 5⟩
/-- TIM_STAT.OFFSET (R403). -/
def TIM_STAT_OFFSET : Fld := ⟨32, 32⟩
/-- TIM_REFUSED.LINKS (R404). -/
def TIM_REFUSED_LINKS : Fld := ⟨0, 24⟩
/-- TIM_TRIM.TRIM (R405). -/
def TIM_TRIM_TRIM : Fld := ⟨0, 32⟩
/-- TIM_TRIM.INTEG (R405). -/
def TIM_TRIM_INTEG : Fld := ⟨32, 32⟩
/-- TIM_REBASE_AT.AT (R406). -/
def TIM_REBASE_AT_AT : Fld := ⟨0, 64⟩
/-- TIM_REBASE_TO.TO (R406). -/
def TIM_REBASE_TO_TO : Fld := ⟨0, 64⟩
/-- TIM_LINK.THETA (R407). -/
def TIM_LINK_THETA : Fld := ⟨0, 32⟩
/-- TIM_LINK.DELAY_Q4 (R407). -/
def TIM_LINK_DELAY_Q4 : Fld := ⟨32, 16⟩
/-- TIM_LINK.FRESH (R407). -/
def TIM_LINK_FRESH : Fld := ⟨48, 1⟩
/-- TIM_LINK.USED (R407). -/
def TIM_LINK_USED : Fld := ⟨49, 1⟩
/-- TIM_LINK.BAD_DELAY (R407). -/
def TIM_LINK_BAD_DELAY : Fld := ⟨56, 8⟩
/-- TIM_CNT.ERR (R408). -/
def TIM_CNT_ERR : Fld := ⟨0, 16⟩
/-- TIM_CNT.SLIPS (R408). -/
def TIM_CNT_SLIPS : Fld := ⟨16, 16⟩
/-- TIM_CNT.ATRIM (R408). -/
def TIM_CNT_ATRIM : Fld := ⟨32, 32⟩
/-- SAF_CTL.ARMED (R442). -/
def SAF_CTL_ARMED : Fld := ⟨0, 1⟩
/-- SAF_CTL.STOP_US (R442). -/
def SAF_CTL_STOP_US : Fld := ⟨8, 8⟩
/-- SAF_CTL.WDOG_MS (R442). -/
def SAF_CTL_WDOG_MS : Fld := ⟨16, 4⟩
/-- SAF_STAT.STATE (R443). -/
def SAF_STAT_STATE : Fld := ⟨0, 2⟩
/-- SAF_STAT.CORE_FAILED (R443). -/
def SAF_STAT_CORE_FAILED : Fld := ⟨8, 5⟩
/-- SAF_STAT.FOREIGN (R443). -/
def SAF_STAT_FOREIGN : Fld := ⟨16, 16⟩
/-- SAF_STAT.DUPLICATE (R443). -/
def SAF_STAT_DUPLICATE : Fld := ⟨32, 16⟩
/-- SAF_FAULT.CHANNEL (R444). -/
def SAF_FAULT_CHANNEL : Fld := ⟨0, 8⟩
/-- SAF_FAULT.MEMORY (R444). -/
def SAF_FAULT_MEMORY : Fld := ⟨8, 1⟩
/-- SAF_FAULT.LENDING (R444). -/
def SAF_FAULT_LENDING : Fld := ⟨9, 1⟩
/-- SAF_FAULT.VC0 (R444). -/
def SAF_FAULT_VC0 : Fld := ⟨10, 1⟩
/-- SAF_FAULT.LINK_DOWN (R444). -/
def SAF_FAULT_LINK_DOWN : Fld := ⟨11, 1⟩
/-- SAF_FAULT.TIME (R444). -/
def SAF_FAULT_TIME : Fld := ⟨12, 1⟩
/-- SAF_FAULT.UNARMED (R444). -/
def SAF_FAULT_UNARMED : Fld := ⟨13, 1⟩
/-- SAF_FAULT.CONTROL (R444). -/
def SAF_FAULT_CONTROL : Fld := ⟨14, 1⟩
/-- SAF_FAULT.SUPERVISOR (R444). -/
def SAF_FAULT_SUPERVISOR : Fld := ⟨15, 1⟩
/-- SAF_FAULT.CLOCK (R444). -/
def SAF_FAULT_CLOCK : Fld := ⟨16, 1⟩
/-- SAF_FAULT.SUPPLY (R444). -/
def SAF_FAULT_SUPPLY : Fld := ⟨17, 1⟩
/-- SAF_FAULT.THERMAL (R444). -/
def SAF_FAULT_THERMAL : Fld := ⟨18, 1⟩
/-- SAF_FAULT.NOTICE (R444). -/
def SAF_FAULT_NOTICE : Fld := ⟨19, 1⟩
/-- SAF_FAULT.HOST (R444). -/
def SAF_FAULT_HOST : Fld := ⟨20, 1⟩
/-- SAF_FAULT.SELF_TEST (R444). -/
def SAF_FAULT_SELF_TEST : Fld := ⟨21, 1⟩
/-- SAF_FAULT.LANE (R444). -/
def SAF_FAULT_LANE : Fld := ⟨22, 1⟩
/-- SAF_FIRST.CAUSE (R445). -/
def SAF_FIRST_CAUSE : Fld := ⟨0, 8⟩
/-- SAF_FIRST.UNIT (R445). -/
def SAF_FIRST_UNIT : Fld := ⟨8, 8⟩
/-- SAF_FIRST.ORIGIN (R445). -/
def SAF_FIRST_ORIGIN : Fld := ⟨16, 12⟩
/-- SAF_FIRST.VALID (R445). -/
def SAF_FIRST_VALID : Fld := ⟨31, 1⟩
/-- SAF_FIRST.DETAIL (R445). -/
def SAF_FIRST_DETAIL : Fld := ⟨32, 32⟩
/-- SAF_FIRST_TICK.TICK (R445). -/
def SAF_FIRST_TICK_TICK : Fld := ⟨0, 64⟩
/-- SAF_RAISE.CAUSE (R446). -/
def SAF_RAISE_CAUSE : Fld := ⟨0, 8⟩
/-- SAF_RAISE.UNIT (R446). -/
def SAF_RAISE_UNIT : Fld := ⟨8, 8⟩
/-- SAF_KICK.CORE (R446). -/
def SAF_KICK_CORE : Fld := ⟨0, 3⟩
/-- SAF_NOTICE.ORIGIN (R447). -/
def SAF_NOTICE_ORIGIN : Fld := ⟨0, 12⟩
/-- SAF_NOTICE.CAUSE (R447). -/
def SAF_NOTICE_CAUSE : Fld := ⟨16, 8⟩
/-- SAF_NOTICE.UNIT (R447). -/
def SAF_NOTICE_UNIT : Fld := ⟨24, 8⟩
/-- SAF_NOTICE.LINK (R447). -/
def SAF_NOTICE_LINK : Fld := ⟨32, 5⟩
/-- SAF_LOCK_VIOL_COUNT.COUNT (R448). -/
def SAF_LOCK_VIOL_COUNT_COUNT : Fld := ⟨0, 32⟩
/-- SAF_REGION.PROT (R449). -/
def SAF_REGION_PROT : Fld := ⟨0, 19⟩
/-- SAF_REGION.CKPT_BASE (R449). -/
def SAF_REGION_CKPT_BASE : Fld := ⟨20, 19⟩
/-- SAF_REGION.MIRROR_BASE (R449). -/
def SAF_REGION_MIRROR_BASE : Fld := ⟨40, 19⟩
/-- SAF_INT.BUDDY (R450). -/
def SAF_INT_BUDDY : Fld := ⟨0, 12⟩
/-- SAF_INT.STEP (R450). -/
def SAF_INT_STEP : Fld := ⟨12, 3⟩
/-- SAF_INT.DIRTY_VALID (R450). -/
def SAF_INT_DIRTY_VALID : Fld := ⟨15, 1⟩
/-- SAF_INT.FAILED (R450). -/
def SAF_INT_FAILED : Fld := ⟨16, 1⟩
/-- SAF_INT.FAIL_KIND (R450). -/
def SAF_INT_FAIL_KIND : Fld := ⟨17, 3⟩
/-- SAF_INT.BIST_FAIL (R450). -/
def SAF_INT_BIST_FAIL : Fld := ⟨24, 17⟩
/-- SAF_INT.COMMITTED (R450). -/
def SAF_INT_COMMITTED : Fld := ⟨48, 16⟩
/-- SAF_SRAM_ECC.CORRECTED (R451). -/
def SAF_SRAM_ECC_CORRECTED : Fld := ⟨0, 32⟩
/-- SAF_SRAM_ECC.UNCORRECTABLE (R451). -/
def SAF_SRAM_ECC_UNCORRECTABLE : Fld := ⟨32, 16⟩
/-- MB_SUBMIT.SEQ (R491). -/
def MB_SUBMIT_SEQ : Fld := ⟨0, 32⟩
/-- MB_STATUS.STATE (R491). -/
def MB_STATUS_STATE : Fld := ⟨0, 4⟩
/-- MB_STATUS.MODE (R491). -/
def MB_STATUS_MODE : Fld := ⟨4, 4⟩
/-- MB_STATUS.ERROR (R491). -/
def MB_STATUS_ERROR : Fld := ⟨16, 16⟩
/-- MB_STATUS.SEQ (R491). -/
def MB_STATUS_SEQ : Fld := ⟨32, 16⟩
/-- MB_STATUS.PROGRESS (R491). -/
def MB_STATUS_PROGRESS : Fld := ⟨48, 16⟩
/-- MB_ABORT.SEQ (R491). -/
def MB_ABORT_SEQ : Fld := ⟨0, 32⟩
/-- CTL_BOOT.MODE (R492). -/
def CTL_BOOT_MODE : Fld := ⟨0, 4⟩
/-- CTL_BOOT.KEY_SLOT (R492). -/
def CTL_BOOT_KEY_SLOT : Fld := ⟨4, 4⟩
/-- CTL_BOOT.ROM_VERSION (R492). -/
def CTL_BOOT_ROM_VERSION : Fld := ⟨8, 8⟩
/-- CTL_BOOT.BOOT_ERR (R492). -/
def CTL_BOOT_BOOT_ERR : Fld := ⟨16, 8⟩
/-- CTL_BOOT.BOOTS (R492). -/
def CTL_BOOT_BOOTS : Fld := ⟨32, 32⟩
/-- CTL_FW_VERSION.VERSION (R492). -/
def CTL_FW_VERSION_VERSION : Fld := ⟨0, 64⟩
/-- CTL_CORE.STATE (R493). -/
def CTL_CORE_STATE : Fld := ⟨0, 2⟩
/-- CTL_CORE.UNDERSTUDY (R493). -/
def CTL_CORE_UNDERSTUDY : Fld := ⟨2, 1⟩
/-- CTL_CORE.ROLE (R493). -/
def CTL_CORE_ROLE : Fld := ⟨4, 2⟩
/-- CTL_POST_ADDR.OFFSET (R494). -/
def CTL_POST_ADDR_OFFSET : Fld := ⟨0, 32⟩
/-- CTL_POST_DATA.VALUE (R494). -/
def CTL_POST_DATA_VALUE : Fld := ⟨0, 64⟩
/-- CTL_POST_STAT.PENDING (R494). -/
def CTL_POST_STAT_PENDING : Fld := ⟨0, 1⟩
/-- CTL_POST_STAT.MISMATCH (R494). -/
def CTL_POST_STAT_MISMATCH : Fld := ⟨1, 1⟩
/-- CTL_POST_STAT.SINGLE (R494). -/
def CTL_POST_STAT_SINGLE : Fld := ⟨2, 1⟩
/-- CTL_POST_STAT.COMMITS (R494). -/
def CTL_POST_STAT_COMMITS : Fld := ⟨32, 32⟩
/-- CTL_RXRING.HEAD (R495). -/
def CTL_RXRING_HEAD : Fld := ⟨0, 6⟩
/-- CTL_RXRING.TAIL (R495). -/
def CTL_RXRING_TAIL : Fld := ⟨8, 6⟩
/-- CTL_RXRING.WRITTEN (R495). -/
def CTL_RXRING_WRITTEN : Fld := ⟨32, 32⟩
/-- CTL_TXRING.HEAD (R495). -/
def CTL_TXRING_HEAD : Fld := ⟨0, 6⟩
/-- CTL_TXRING.TAIL (R495). -/
def CTL_TXRING_TAIL : Fld := ⟨8, 6⟩
/-- CTL_PCIE_STAT.SPEED (R512). -/
def CTL_PCIE_STAT_SPEED : Fld := ⟨0, 3⟩
/-- CTL_PCIE_STAT.FLIT (R512). -/
def CTL_PCIE_STAT_FLIT : Fld := ⟨3, 1⟩
/-- CTL_PCIE_STAT.WIDTH (R512). -/
def CTL_PCIE_STAT_WIDTH : Fld := ⟨4, 5⟩
/-- CTL_PCIE_STAT.BELOW_SERVICE (R512). -/
def CTL_PCIE_STAT_BELOW_SERVICE : Fld := ⟨9, 1⟩
/-- CTL_PCIE_STAT.BAD_ACCESS (R512). -/
def CTL_PCIE_STAT_BAD_ACCESS : Fld := ⟨16, 16⟩
/-- CTL_PCIE_STAT.DROPPED_WRITES (R512). -/
def CTL_PCIE_STAT_DROPPED_WRITES : Fld := ⟨32, 16⟩
/-- CTL_HOST_ALERT.FAULT (R513). -/
def CTL_HOST_ALERT_FAULT : Fld := ⟨0, 1⟩
/-- CTL_HOST_ALERT.RETIRE (R513). -/
def CTL_HOST_ALERT_RETIRE : Fld := ⟨8, 1⟩
/-- CTL_HOST_ALERT.DEVICE_FAILED (R513). -/
def CTL_HOST_ALERT_DEVICE_FAILED : Fld := ⟨9, 1⟩
/-- CTL_HOST_ALERT.HOST_MSG (R513). -/
def CTL_HOST_ALERT_HOST_MSG : Fld := ⟨10, 1⟩
/-- CTL_HOST_ALERT.LINK_SERVICE (R513). -/
def CTL_HOST_ALERT_LINK_SERVICE : Fld := ⟨11, 1⟩
/-- CTL_HOST_ALERT.TIME (R513). -/
def CTL_HOST_ALERT_TIME : Fld := ⟨12, 1⟩
/-- CTL_HOST_ALERT.VIN_WARN (R513). -/
def CTL_HOST_ALERT_VIN_WARN : Fld := ⟨16, 1⟩
/-- CTL_HOST_ALERT.THERMAL_WARN (R513). -/
def CTL_HOST_ALERT_THERMAL_WARN : Fld := ⟨17, 1⟩
/-- CTL_HOST_ALERT.MARGIN (R513). -/
def CTL_HOST_ALERT_MARGIN : Fld := ⟨18, 1⟩
/-- CTL_HOST_ALERT.AER_COR (R513). -/
def CTL_HOST_ALERT_AER_COR : Fld := ⟨24, 1⟩
/-- CTL_HOST_ALERT.AER_UNCOR (R513). -/
def CTL_HOST_ALERT_AER_UNCOR : Fld := ⟨25, 1⟩
/-- CTL_HOST_ALERT.LINK_CHANGE (R513). -/
def CTL_HOST_ALERT_LINK_CHANGE : Fld := ⟨26, 1⟩
/-- CTL_HOST_RAISE.SET (R514). -/
def CTL_HOST_RAISE_SET : Fld := ⟨0, 32⟩
/-- PWR_STATE.STATE (R541). -/
def PWR_STATE_STATE : Fld := ⟨0, 2⟩
/-- PWR_STATE.TRANSITION (R541). -/
def PWR_STATE_TRANSITION : Fld := ⟨2, 1⟩
/-- PWR_STATE.ALERT_EN (R541). -/
def PWR_STATE_ALERT_EN : Fld := ⟨3, 1⟩
/-- PWR_VIN.VIN (R542). -/
def PWR_VIN_VIN : Fld := ⟨0, 16⟩
/-- PWR_VIN.IIN (R542). -/
def PWR_VIN_IIN : Fld := ⟨16, 16⟩
/-- PWR_VIN.PIN (R542). -/
def PWR_VIN_PIN : Fld := ⟨32, 16⟩
/-- PWR_VIN.BELOW_WARN (R542). -/
def PWR_VIN_BELOW_WARN : Fld := ⟨48, 1⟩
/-- PWR_VIN.HOLDUP (R542). -/
def PWR_VIN_HOLDUP : Fld := ⟨49, 1⟩
/-- PWR_SUPPLY_EVT.DIP (R543). -/
def PWR_SUPPLY_EVT_DIP : Fld := ⟨0, 1⟩
/-- PWR_SUPPLY_EVT.HOLDUP_EXPIRED (R543). -/
def PWR_SUPPLY_EVT_HOLDUP_EXPIRED : Fld := ⟨1, 1⟩
/-- PWR_SUPPLY_EVT.BELOW_RESET (R543). -/
def PWR_SUPPLY_EVT_BELOW_RESET : Fld := ⟨2, 1⟩
/-- PWR_SUPPLY_EVT.OVERVOLT (R543). -/
def PWR_SUPPLY_EVT_OVERVOLT : Fld := ⟨3, 1⟩
/-- PWR_SUPPLY_EVT.OVERPOWER (R543). -/
def PWR_SUPPLY_EVT_OVERPOWER : Fld := ⟨4, 1⟩
/-- PWR_SUPPLY_EVT.RAIL_FAULT (R543). -/
def PWR_SUPPLY_EVT_RAIL_FAULT : Fld := ⟨5, 1⟩
/-- PWR_SUPPLY_EVT.NET_DROOP_FAIL (R543). -/
def PWR_SUPPLY_EVT_NET_DROOP_FAIL : Fld := ⟨6, 1⟩
/-- PWR_SUPPLY_EVT.RAIL (R543). -/
def PWR_SUPPLY_EVT_RAIL : Fld := ⟨8, 5⟩
/-- PWR_SUPPLY_EVT.DIPS (R543). -/
def PWR_SUPPLY_EVT_DIPS : Fld := ⟨32, 32⟩
/-- PWR_DIP_LOG.MIN_V (R544). -/
def PWR_DIP_LOG_MIN_V : Fld := ⟨0, 16⟩
/-- PWR_DIP_LOG.DURATION (R544). -/
def PWR_DIP_LOG_DURATION : Fld := ⟨16, 20⟩
/-- PWR_ARITH.TOP_STEP (R545). -/
def PWR_ARITH_TOP_STEP : Fld := ⟨32, 3⟩
/-- PWR_ARITH.STEP_REFUSED (R545). -/
def PWR_ARITH_STEP_REFUSED : Fld := ⟨35, 1⟩
/-- PWR_CAP.STEP_CAP (R546). -/
def PWR_CAP_STEP_CAP : Fld := ⟨0, 3⟩
/-- PWR_CLK.LOST (R547). -/
def PWR_CLK_LOST : Fld := ⟨0, 4⟩
/-- PWR_CLK.SEEN (R547). -/
def PWR_CLK_SEEN : Fld := ⟨4, 4⟩
/-- PWR_CLK.CTRL_STRETCH (R547). -/
def PWR_CLK_CTRL_STRETCH : Fld := ⟨8, 16⟩
/-- PWR_CLK.NET_BOOST (R547). -/
def PWR_CLK_NET_BOOST : Fld := ⟨24, 16⟩
/-- PWR_CLK.CTRL_CEIL (R547). -/
def PWR_CLK_CTRL_CEIL : Fld := ⟨40, 4⟩
/-- PWR_THERM_CTL.DIE_WARN (R548). -/
def PWR_THERM_CTL_DIE_WARN : Fld := ⟨0, 8⟩
/-- PWR_THERM_CTL.DIE_CURTAIN (R548). -/
def PWR_THERM_CTL_DIE_CURTAIN : Fld := ⟨8, 8⟩
/-- PWR_THERM_CTL.OE_WARN (R548). -/
def PWR_THERM_CTL_OE_WARN : Fld := ⟨16, 8⟩
/-- PWR_THERM_CTL.OE_CURTAIN (R548). -/
def PWR_THERM_CTL_OE_CURTAIN : Fld := ⟨24, 8⟩
/-- PWR_THERM_CTL.DIE_TRIP (R548). -/
def PWR_THERM_CTL_DIE_TRIP : Fld := ⟨32, 8⟩
/-- PWR_THERM_CTL.OE_TRIP (R548). -/
def PWR_THERM_CTL_OE_TRIP : Fld := ⟨40, 8⟩
/-- PWR_THERM_STAT.CD0_MAX (R549). -/
def PWR_THERM_STAT_CD0_MAX : Fld := ⟨0, 8⟩
/-- PWR_THERM_STAT.CD1_MAX (R549). -/
def PWR_THERM_STAT_CD1_MAX : Fld := ⟨8, 8⟩
/-- PWR_THERM_STAT.ND_MAX (R549). -/
def PWR_THERM_STAT_ND_MAX : Fld := ⟨16, 8⟩
/-- PWR_THERM_STAT.OE_MAX (R549). -/
def PWR_THERM_STAT_OE_MAX : Fld := ⟨24, 8⟩
/-- PWR_THERM_STAT.WARN (R549). -/
def PWR_THERM_STAT_WARN : Fld := ⟨32, 1⟩
/-- PWR_THERM_STAT.CURTAIN (R549). -/
def PWR_THERM_STAT_CURTAIN : Fld := ⟨33, 1⟩
/-- PWR_THERM_STAT.TRIP (R549). -/
def PWR_THERM_STAT_TRIP : Fld := ⟨34, 1⟩
/-- PWR_THERM_STAT.GROUP (R549). -/
def PWR_THERM_STAT_GROUP : Fld := ⟨36, 3⟩
/-- PWR_RESURVEY.PERIOD_MIN (R550). -/
def PWR_RESURVEY_PERIOD_MIN : Fld := ⟨0, 8⟩
/-- PWR_RESURVEY.GUARD (R550). -/
def PWR_RESURVEY_GUARD : Fld := ⟨8, 8⟩
/-- PWR_RESURVEY.FLOOR (R550). -/
def PWR_RESURVEY_FLOOR : Fld := ⟨16, 8⟩
/-- PWR_RESURVEY.CRIT (R550). -/
def PWR_RESURVEY_CRIT : Fld := ⟨24, 8⟩
/-- PWR_RESURVEY.RUNNING (R550). -/
def PWR_RESURVEY_RUNNING : Fld := ⟨32, 1⟩
/-- PWR_RESURVEY.COUNT (R550). -/
def PWR_RESURVEY_COUNT : Fld := ⟨48, 16⟩
/-- PWR_RESET.LAST (R551). -/
def PWR_RESET_LAST : Fld := ⟨0, 3⟩
/-- PWR_RESET.MODS (R551). -/
def PWR_RESET_MODS : Fld := ⟨16, 16⟩
/-- PWR_RESET.HOTS (R551). -/
def PWR_RESET_HOTS : Fld := ⟨32, 16⟩
/-- PWR_RESET.SOFTS (R551). -/
def PWR_RESET_SOFTS : Fld := ⟨48, 16⟩
/-- PWR_SITE.V_OP (R552). -/
def PWR_SITE_V_OP : Fld := ⟨0, 10⟩
/-- PWR_SITE.V_FAIL (R552). -/
def PWR_SITE_V_FAIL : Fld := ⟨10, 10⟩
/-- PWR_SITE.V_FAIL_TOP (R552). -/
def PWR_SITE_V_FAIL_TOP : Fld := ⟨20, 10⟩
/-- PWR_SITE.V_MAX (R552). -/
def PWR_SITE_V_MAX : Fld := ⟨30, 10⟩
/-- PWR_SITE.TOP (R552). -/
def PWR_SITE_TOP : Fld := ⟨40, 3⟩
/-- PWR_SITE.BELOW_GUARD (R552). -/
def PWR_SITE_BELOW_GUARD : Fld := ⟨43, 1⟩
/-- PWR_SITE.AT_VMAX (R552). -/
def PWR_SITE_AT_VMAX : Fld := ⟨44, 1⟩
/-- PWR_SITE.BELOW_FLOOR (R552). -/
def PWR_SITE_BELOW_FLOOR : Fld := ⟨45, 1⟩
/-- PWR_SITE.CRITICAL (R552). -/
def PWR_SITE_CRITICAL : Fld := ⟨46, 1⟩
/-- PWR_RAIL.SET (R553). -/
def PWR_RAIL_SET : Fld := ⟨0, 10⟩
/-- PWR_RAIL.MEAS (R553). -/
def PWR_RAIL_MEAS : Fld := ⟨10, 10⟩
/-- PWR_RAIL.MIN (R553). -/
def PWR_RAIL_MIN : Fld := ⟨20, 10⟩
/-- PWR_RAIL.OUT (R553). -/
def PWR_RAIL_OUT : Fld := ⟨30, 1⟩
/-- BRD_STRAP.SLOT_X (R577). -/
def BRD_STRAP_SLOT_X : Fld := ⟨0, 1⟩
/-- BRD_STRAP.SLOT_Y (R577). -/
def BRD_STRAP_SLOT_Y : Fld := ⟨1, 1⟩
/-- BRD_STRAP.CARRIER (R577). -/
def BRD_STRAP_CARRIER : Fld := ⟨2, 1⟩
/-- BRD_STRAP.SEPCLK (R577). -/
def BRD_STRAP_SEPCLK : Fld := ⟨3, 1⟩
/-- BRD_PIN.RESET_IN (R578). -/
def BRD_PIN_RESET_IN : Fld := ⟨0, 1⟩
/-- BRD_PIN.PERST_IN (R578). -/
def BRD_PIN_PERST_IN : Fld := ⟨1, 1⟩
/-- BRD_PIN.ALERT_OUT (R578). -/
def BRD_PIN_ALERT_OUT : Fld := ⟨2, 1⟩
/-- BRD_PIN.THERMTRIP_OUT (R578). -/
def BRD_PIN_THERMTRIP_OUT : Fld := ⟨3, 1⟩
/-- BRD_PIN.PWR_OK_OUT (R578). -/
def BRD_PIN_PWR_OK_OUT : Fld := ⟨4, 1⟩
/-- BRD_PIN.HALT_OUT (R578). -/
def BRD_PIN_HALT_OUT : Fld := ⟨5, 1⟩
/-- BRD_PIN.GLITCHES (R578). -/
def BRD_PIN_GLITCHES : Fld := ⟨16, 16⟩
/-- BRD_I3C.STATIC_ADDR (R579). -/
def BRD_I3C_STATIC_ADDR : Fld := ⟨0, 7⟩
/-- BRD_I3C.DYN_ADDR (R579). -/
def BRD_I3C_DYN_ADDR : Fld := ⟨8, 7⟩
/-- BRD_I3C.DYN_VALID (R579). -/
def BRD_I3C_DYN_VALID : Fld := ⟨15, 1⟩
/-- BRD_I3C.IBI_EN (R579). -/
def BRD_I3C_IBI_EN : Fld := ⟨16, 1⟩
/-- BRD_I3C.WRITE_EN (R579). -/
def BRD_I3C_WRITE_EN : Fld := ⟨17, 1⟩
/-- BRD_I3C.NOT_ALLOWED (R579). -/
def BRD_I3C_NOT_ALLOWED : Fld := ⟨32, 16⟩
/-- BRD_I3C.PROTO_ERR (R579). -/
def BRD_I3C_PROTO_ERR : Fld := ⟨48, 16⟩
/-- BRD_JTAG.DEBUG_LOCK (R580). -/
def BRD_JTAG_DEBUG_LOCK : Fld := ⟨0, 1⟩
/-- BRD_JTAG.TAP_RESET (R580). -/
def BRD_JTAG_TAP_RESET : Fld := ⟨1, 1⟩
/-- BRD_JTAG.IR (R580). -/
def BRD_JTAG_IR : Fld := ⟨2, 8⟩
/-- BRD_JTAG.REFUSED (R580). -/
def BRD_JTAG_REFUSED : Fld := ⟨16, 16⟩
/-- MSIX_TABLE.WORD (R500). -/
def MSIX_TABLE_WORD : Fld := ⟨0, 64⟩
/-- MSIX_PBA.PENDING (R500). -/
def MSIX_PBA_PENDING : Fld := ⟨0, 4⟩
/-- PWR_ARITH.STEP_j (R545). -/
def PWR_ARITH_STEP (j : Nat) : Fld := ⟨4 * j, 3⟩
/-- PWR_ARITH.LOCKED_j (R545). -/
def PWR_ARITH_LOCKED (j : Nat) : Fld := ⟨4 * j + 3, 1⟩
/-- ARB_PRIO.BASE_k (R223). -/
def ARB_PRIO_BASE (k : Nat) : Fld := ⟨4 * k, 3⟩
/-- LNK_LANE_ERR.PAR_j (R344). -/
def LNK_LANE_ERR_PAR (j : Nat) : Fld := ⟨8 * j, 8⟩

end Sys2Proof.Machine
end

