-- ==== Sys2Proof/Machine/State.lean ====
section
/-!
DEFINITION. The state of the module, as plain data: the BAR0 registers as one sparse map, and beside them everything the manual gives the
module that no register shows (memories, queues, operations in flight, engines), the queue of waiting commands, and what has left the module.
-/

namespace Sys2Proof.Machine

/-! ### A channel (chapter 3) -/

/-- An entry of an accumulator file (R108): the 96-bit sum and its weight tag. -/
structure AccEnt where
  n : BitVec 96
  w : Int
  deriving DecidableEq, Repr

/-- The contents of a weight buffer (R104, R105): element bytes, scale bytes, and whether the LOADW named scales. -/
structure Tile where
  elems : List Byte
  scales : List Byte
  mx : Bool
  deriving DecidableEq, Repr

/-- What a tensor-engine operation in flight is (R90). Engines are logical, 0 to 15; TE16 stands in for one only where its state is read or
written (R103). -/
inductive JobOp where
  /-- LOADW for one engine. -/
  | loadw (e : Nat) (len : Nat) (mx : Bool)
  /-- PASS: engines with the tile each took active, formats, rows, first accumulator row, CONT, anchor, scales named, shadowed engine. -/
  | pass (tiles : List (Nat × Tile)) (fa fw rows accRow : Nat) (cont : Bool) (anchor : Int) (mxA : Bool) (shadow : Option Nat)
  /-- DRAIN for one engine: format, MX, mode, SAT, stream, rows, first accumulator row, addresses, whether TE16 shadows it. -/
  | drain (e fmt : Nat) (mx : Bool) (mode : BitVec 2) (sat : Bool) (stream rows accRow addr scaleAddr : Nat) (shadow : Bool)
  /-- LOADACC for one engine: rows, first accumulator row, anchor. -/
  | loadacc (e rows accRow : Nat) (anchor : Int)
  deriving DecidableEq, Repr

/-- A tensor-engine operation in flight: what it has read so far, the engines whose result is undefined with the free value their results
start from (R104, R113), and the errors its reads meet (R81). -/
structure Job where
  op : JobOp
  /-- Element bytes read, by read of the operation, and scale bytes likewise. -/
  buf : KMap (List Byte)
  sbuf : KMap (List Byte)
  /-- Accumulator rows a drain has read. -/
  rows : KMap (List AccEnt)
  undef : List Nat
  base : Nat
  errs : List ReadErr
  pc : Nat
  deriving DecidableEq, Repr

/-- Something an issued operation does at a fixed later cycle (R144, R145). -/
inductive Ev where
  /-- A result lands in a scalar register. -/
  | sreg (r : Nat) (v : Word64)
  /-- A result lands in a vector register. -/
  | vreg (r : Nat) (lanes : List (BitVec 32))
  /-- LDV reads its 64 banks; its result lands at cycle `due`. -/
  | ldv (r addr : Nat) (errs : EccObs) (due : Nat)
  /-- STV writes its 64 banks. -/
  | stv (addr : Nat) (lanes : List (BitVec 32))
  /-- LDS reads one bank; its result lands at cycle `due`. -/
  | lds (r addr : Nat) (errs : EccObs) (due : Nat)
  /-- STS writes one bank. -/
  | sts (addr : Nat) (v : Word64)
  /-- A CUESET writes its cue register and clears the fired flag (R99, R100, R144). -/
  | cueWrite (c : Nat) (tick : Word64)
  /-- A tensor-engine operation makes its read number `k` of elements or of scales: `len` bytes at `addr`. -/
  | read (job : Nat) (scale : Bool) (k addr len : Nat)
  /-- A weight tile is complete in the standby buffer (R104). -/
  | tileDone (job : Nat)
  /-- Row `r` of a pass or of a LOADACC is complete in the file of engine `e` (R107). -/
  | rowDone (job e r : Nat)
  /-- A drain reads accumulator row `i` of its rows (R109). -/
  | drainRead (job i : Nat)
  /-- A drain writes output row `i`: third `m` of it for wide partials, its scales when `m` is 9. -/
  | drainWrite (job i m : Nat)
  deriving DecidableEq, Repr

/-- An event in flight: the cycle it is due, its order among the events of that cycle, the slot that caused it (coded as in R161), the
bundle address, and the event. -/
structure Flight where
  due : Nat
  ord : Nat
  slot : Nat
  pc : Nat
  ev : Ev
  deriving DecidableEq, Repr

/-- The vector operations (R91). -/
inductive VOp where
  | vadd | vsub | vmul | vfma | vdiv | vsqrt | vmax | vmin | vcmp | vsel
  | viadd | visub | viand | vior | vixor | vishl | vishr
  | vcvt | vunpk | vwadd | vwrnd | vshuf | vrsum | vbcast | vmovs | xfill | xreset | xread
  deriving DecidableEq, Repr

/-- The special functions (R95). -/
inductive SfOp where
  | recip | rsqrt | exp | log | tanh
  deriving DecidableEq, Repr

/-- The control operations (R99). -/
inductive COp where
  | cue | cueset | sadd | saddi | ssub | smul | sand | sor | sxor | sshl | sshr | ssra | slui | scmplt
  | br | beqz | bnez | intermit | halt | signal
  deriving DecidableEq, Repr

/-- One occupied slot of a bundle (R85). -/
inductive Op where
  | loadw (f : LoadwF)
  | pass (f : PassF)
  | drain (f : DrainF)
  | loadacc (f : LoadaccF)
  | vec (o : VOp) (f : VecF)
  | sf (o : SfOp) (f : SfF)
  | ldv (f : MemF)
  | stv (f : MemF)
  | lds (f : MemF)
  | sts (f : MemF)
  | qwait (f : QueF)
  | qrel (f : QueF)
  | qcommit (f : QueF)
  | qstart (f : QueF)
  | nsend (f : NetF)
  | nrecv (f : NetF)
  | ctl (o : COp) (f : CtlF)
  deriving DecidableEq, Repr

/-- A bundle: its header byte, its occupied slots, whether a slot of it carries a reserved opcode or an empty slot that is not all zero
(R86), and the errors its fetch and its reads meet. -/
structure Bundle where
  hdr : Nat
  ops : List Op
  bad : Bool
  errs : List ReadErr
  deriving DecidableEq, Repr

/-- A held bundle (R89): since when, whether its cue has fired while it was held, its waits not yet met, and whether the cue of one of them
has fired in the present tick, in which the count may still reach it (R102). -/
structure Hold where
  bundle : Bundle
  tick : Nat
  cueMet : Bool
  unmet : List QueF
  miss : Bool
  deriving DecidableEq, Repr

/-- A send descriptor of a TXQ (R117): circuit, first SRAM address, flits, first departure slot (R231), tick of issue, the cue NSEND named,
the payloads read so far, each with the tick by which it is in the TXQ, the flits that have left, and the errors its reads meet. -/
structure TxDesc where
  circuit : Nat
  addr : Nat
  n : Nat
  slot0 : Nat
  issued : Nat
  cue : Nat
  data : List (Nat × List Byte)
  sent : Nat
  errs : EccObs
  deriving DecidableEq, Repr

/-- A receive descriptor of an RXQ (R118, R250): first address, flits, flits deposited, tick of posting, whether the watch has fired. -/
structure RxDesc where
  addr : Nat
  n : Nat
  done : Nat
  posted : Nat
  missed : Bool
  deriving DecidableEq, Repr

/-- A stream engine (R156, R188, R189) with its descriptor and cumulative counts. `w r` are written and released entries of a load queue,
`ws rm` the values the other side sees; `c m` are committed and written entries of a store queue, `cm ms` the values the other side sees.
`issued` entries are in bursts issued, `landed` entries have their data in the ring, or are accepted by the controller, ahead of the count.
`desc` is a descriptor not yet read (R188); `redo` are bursts a rising mask withdrew, to be requested afresh (R194). `up` and `down` are the changes of the counts on their way from MEM to
ARITH and back: the new value and the tick of the change (R155). -/
structure Stream where
  busy : Bool
  desc : Option (Nat × EccObs)
  addr : Nat
  entries : Nat
  rowEntries : Nat
  stride : Int
  issued : Nat
  bursts : List (Nat × Nat)
  redo : List (Nat × Nat)
  landed : List (Nat × List Byte)
  counted : Nat
  failed : Bool
  w : Nat
  ws : Nat
  r : Nat
  rm : Nat
  c : Nat
  cm : Nat
  m : Nat
  ms : Nat
  up : List (Nat × Nat)
  down : List (Nat × Nat)
  deriving DecidableEq, Repr

/-- A stream engine at reset. -/
def Stream.idle : Stream where
  busy := false
  desc := none
  addr := 0
  entries := 0
  rowEntries := 1
  stride := 0
  issued := 0
  bursts := []
  redo := []
  landed := []
  counted := 0
  failed := false
  w := 0
  ws := 0
  r := 0
  rm := 0
  c := 0
  cm := 0
  m := 0
  ms := 0
  up := []
  down := []

/-- The settings a channel applied when it last started (R82, R112, R123). -/
structure Applied where
  bankMap : Word64
  teMap : Word64
  rehearsal : Bool
  padA1 : Bool
  counted : Bool
  deriving DecidableEq, Repr

/-- A compute channel beside its registers. -/
structure Chan where
  sregs : KMap Word64
  vregs : KMap (List (BitVec 32))
  /-- Channel SRAM by physical byte address: bank × 786,432 + byte within the bank. -/
  sram : KMap Byte
  isram : KMap (BitVec 512)
  /-- Accumulator files of the physical engines TE0 to TE16 (R76, R103): engine × 32,768 + row × 128 + column. -/
  acc : KMap AccEnt
  /-- Kind bits (R108): physical engine × 256 + row. -/
  kind : KMap Bool
  /-- Weight buffers of the physical engines (R104). -/
  active : KMap Tile
  standby : KMap Tile
  /-- ARITH cycles since the channel started. -/
  cycle : Nat
  /-- Counted mode (R394): the grid number of cycle 0. -/
  grid0 : Int
  nextJob : Nat
  jobs : KMap Job
  flight : List Flight
  claimCycle : Nat
  claims : List (Nat × Nat × Nat)
  regCycle : Nat
  regClaims : List (Nat × Nat × Nat)
  /-- Rehearsal: last cycle and length of the run of busy cycles of each bank. -/
  bankRun : KMap (Nat × Nat)
  /-- First cycle at which each unit takes its next operation, and the bundle address of the operation that holds it. -/
  busyUntil : KMap (Nat × Nat)
  /-- Cycle from which the tile of each engine is in the standby buffer, and the bundle address of its LOADW. -/
  tileReady : KMap (Nat × Nat)
  /-- Expert slot table (R119) as an XREAD sees it: the fills landed, and those of operations in flight with the cycle they land. -/
  xBase : KMap Nat
  xPend : List (Nat × KMap Nat)
  asm : List Op
  asmHdr : Nat
  asmErrs : List ReadErr
  held : Option Hold
  shadowLeft : Nat
  target : Option Nat
  applied : Applied
  /-- Cycle in which each fired cue fired. -/
  firedAt : KMap Nat
  /-- CH_STATUS as firmware read it in the poll of R154: HOLD flags and PC. -/
  lastPoll : Option Nat
  txq : Vector (List TxDesc) 8
  rxq : Vector (List (List Byte)) 8
  rxd : Vector (List RxDesc) 8
  portClosed : Bool
  streams : Vector Stream 24
  /-- Shadow engine (R110, R111): target copied from, tick the copy began, stopped by a residue fault, and whether a PASS on the target has
  issued since the copy. -/
  shTarget : Nat
  shCopying : Option Nat
  shStopped : Bool
  shLive : Bool
  /-- The cycle in which CH_FAULT.FIRST was recorded (R129). -/
  faultCycle : Option Nat
  /-- Corrections of each physical bank in its present scrub sweep, and the banks to retire: those that passed 16 corrections in a sweep or
  reported an uncorrectable error (R81, R83). -/
  sweep : KMap Nat
  worn : KMap Bool
  deriving DecidableEq, Repr

/-- A channel at reset (R122): memories and registers zero, queues empty. -/
def Chan.reset : Chan where
  sregs := []
  vregs := []
  sram := []
  isram := []
  acc := []
  kind := []
  active := []
  standby := []
  cycle := 0
  grid0 := 0
  nextJob := 0
  jobs := []
  flight := []
  claimCycle := 0
  claims := []
  regCycle := 0
  regClaims := []
  bankRun := []
  busyUntil := []
  tileReady := []
  xBase := []
  xPend := []
  asm := []
  asmHdr := 0
  asmErrs := []
  held := none
  shadowLeft := 0
  target := none
  applied := ⟨0, 0, false, false, false⟩
  firedAt := []
  lastPoll := none
  txq := Vector.replicate 8 []
  rxq := Vector.replicate 8 []
  rxd := Vector.replicate 8 []
  portClosed := false
  streams := Vector.replicate 24 Stream.idle
  shTarget := 0
  shCopying := none
  shStopped := false
  shLive := false
  faultCycle := none
  sweep := []
  worn := []

/-! ### Device memory and the arbiters (chapter 5) -/

/-- A host request to BAR2, or a write to BAR0 that waits behind one (R503, R504): offset, length, data of a write, EP of a write, bit errors
met by its sectors, and whether the rate limit has admitted it, so that it waits for its memory lane (R27). -/
structure HostReq where
  bar0 : Bool
  write : Bool
  off : Nat
  len : Nat
  data : List Byte
  ep : Bool
  errs : List (Nat × SymErr)
  admitted : Bool
  deriving DecidableEq, Repr

/-- Device memory and what the controllers and the bridge keep beside their registers. -/
structure MemSt where
  /-- Bytes of device memory by physical place: memory channel × 2^33 + channel address (R172). -/
  bytes : List Host.Cell
  /-- Poisoned sectors (R178), by memory channel × 2^28 + physical sector. -/
  poison : KMap Bool
  /-- Remap tables (R187): key memory channel × 3,776 + page; value memory channel and physical page. -/
  remap : KMap (Nat × Nat)
  /-- Dirty bits of the protected range (R424), by 2 MiB logical page. -/
  dirty : KMap Bool
  /-- Corrections of the sweep by page (R184: channel × 4,096 + page) and by pin (R181: channel × 16 + pin). -/
  pageCorr : KMap Nat
  pinCorr : KMap Nat
  /-- Candidate pages that firmware has not retired yet (R184), as channel × 4,096 + page. -/
  cands : List Nat
  /-- Sectors of each memory channel that the present sweep of the patrol scrub has read, and its completed sweeps (R183). -/
  scrubPos : KMap Nat
  sweeps : KMap Nat
  /-- Bytes the host window may still move (R209), the tick up to which it is reckoned, and the host requests held. -/
  budget : Int
  refill : Nat
  hostq : List HostReq
  /-- Memory is in self-refresh (R211). -/
  selfRefresh : Bool
  deriving DecidableEq, Repr

/-- One requester of an arbiter (R192, R194): whether it requests, its boost, the cycles its wait has lasted, and accesses queued behind. -/
structure ArbReq where
  asking : Bool
  boost : Nat
  wait : Option Nat
  masked : Bool
  deriving DecidableEq, Repr

/-- An arbiter beside its registers (R191 to R193): the holder, its requesters, and grants since the last reserved grant. -/
structure Arb where
  holder : Option Nat
  reqs : Vector ArbReq 10
  since : Nat
  deriving DecidableEq, Repr

/-- An arbiter at reset. -/
def Arb.reset : Arb := ⟨none, Vector.replicate 10 ⟨false, 0, none, false⟩, 0⟩

/-! ### The fabric and unscheduled traffic (chapters 6 and 7) -/

/-- A VC0 flit inside the device (R235): circuit stamp, the slot in which it left the last output, bank stamp, payload. -/
structure Vc0Flit where
  circuit : Nat
  slot : Nat
  bank : Nat
  data : List Byte
  deriving DecidableEq, Repr

/-- A VC0 flit that passed its lookup (R243): the slot in which it is due at its output, its input port, its circuit entry. -/
structure Vc0Due where
  due : Nat
  inp : Nat
  entry : Word64
  flit : Vc0Flit
  deriving DecidableEq, Repr

/-- A packet (R268): class, payloads of its flits, the port at which it entered the device, and its pool class, for VC3: management, or bulk
(R320). -/
structure Pkt where
  cls : Nat
  flits : List (List Byte)
  inp : Nat
  mgmt : Bool
  deriving DecidableEq, Repr

/-- A packet leaving by an output: how many of its flits have been sent. -/
structure OutPkt where
  pkt : Pkt
  sent : Nat
  deriving DecidableEq, Repr

/-- A send entry (R279, R280, R284): epoch bit, unflagged packets of the epoch, the tick since which AWAIT is 1, STALLED, and the packets
held behind an open flag. -/
structure SendFlow where
  epoch : Nat
  count : Nat
  await : Option Nat
  stalled : Bool
  held : List Pkt
  deriving DecidableEq, Repr

/-- A lending request at the memory port (R202): circuit, arrival slot, payload. -/
structure LendReq where
  circuit : Nat
  slot : Nat
  data : List Byte
  deriving DecidableEq, Repr

/-- A lending reply that waits for its departure slot (R206): circuit, slot, payload, whether its data came in time. -/
structure LendReply where
  circuit : Nat
  slot : Nat
  data : List Byte
  ready : Bool
  deriving DecidableEq, Repr

/-- The network die's traffic in motion. Maps by port have the port as key; maps by port and class 4 × port + class; send and receive entries
16,384 × endpoint + 8,192 × other port + 4,096 × (class − 1) + device. -/
structure NetSt where
  /-- VC0 flits on their way from a channel or the memory port to the crossbar. -/
  enter : KMap (List Vc0Flit)
  /-- VC0 holds of the link ports (R241). -/
  hold : KMap (List Vc0Due)
  /-- VC0 flits in the crossbar, by output. -/
  due : KMap (List Vc0Due)
  /-- The first slot each output has not yet filled. -/
  slotNext : KMap Nat
  /-- Flits crossing to a channel: output slot, RXQ, flit. -/
  toChan : KMap (List (Nat × Nat × Vc0Flit))
  lend : List LendReq
  /-- What waits for the memory lanes, in the order of its coming (R27): what it is, 0 a lending operation, 1 a packet at port 33, 2 the host
  request in front, and the dies whose lanes it takes, as a mask. -/
  lane : List (Nat × Nat)
  replies : List LendReply
  /-- CUESETs of the swap cue being copied to NET_SWAP_TICK (R245). -/
  swapCopy : List Nat
  /-- Packets whose last flit has arrived and which are not yet tested. -/
  arrived : KMap (List Pkt)
  /-- Packets tested, at their input. -/
  waiting : KMap (List Pkt)
  /-- The packet each output is sending, by class, and the input it last served (R277). -/
  out : KMap (Option OutPkt)
  served : KMap Nat
  /-- Packets whose last flit has left by an endpoint's output. -/
  toEnd : KMap (List Pkt)
  sendF : KMap SendFlow
  /-- ARRIVED_0 and ARRIVED_1 (R281). -/
  recvF : KMap (Nat × Nat)
  /-- Hold stores (R283), with the tick of arrival. -/
  store : KMap (List (Pkt × Nat))
  /-- Flagged packets delivered and not yet acknowledged (R282). -/
  toAck : KMap (List Pkt)
  /-- FLAG_FAIL packets that wait while INJECT_STOP is 1 (R295). -/
  toFail : KMap (List Pkt)
  /-- FLAG_ACK and FLAG_FAIL packets that reached an endpoint. -/
  flags : KMap (List Pkt)
  /-- Live histograms (R291), 8 × (4 × port + class) + bin, bins 1 to 7: the slots of the window that stand in none of them stand in bin 0. The
  first slot of the window; the first slot not yet counted, by port; the window exponent in use; the last window boundary reckoned. -/
  hist : KMap Nat
  winSlot : Nat
  counted : KMap Nat
  window : Nat
  winTick : Nat
  deriving DecidableEq, Repr

/-- The fabric at reset: nothing is in motion, and the window in use is the reset value of WIN_LOG2 (R300). -/
def NetSt.reset : NetSt where
  enter := []
  hold := []
  due := []
  slotNext := []
  toChan := []
  lend := []
  lane := []
  replies := []
  swapCopy := []
  arrived := []
  waiting := []
  out := []
  served := []
  toEnd := []
  sendF := []
  recvF := []
  store := []
  toAck := []
  toFail := []
  flags := []
  hist := []
  winSlot := 0
  counted := []
  window := 20
  winTick := 0

/-! ### Links (chapters 8 and 9) -/

/-- An entry of a replay ring (R313, R317): KIND, class fields (header bits [63:35]), payload, sequence number once sent, tick of its last
sending and number of sendings. -/
structure RingEnt where
  kind : Nat
  cls : Nat
  data : List Byte
  seq : Option Nat
  tick : Nat
  sends : Nat
  deriving DecidableEq, Repr

/-- A link-control flit to send (R309): CTYPE and the payload from byte 32. -/
structure Lctl where
  ctype : Nat
  body : List Byte
  deriving DecidableEq, Repr

/-- A link-control flit received, with the time of its reception in ticks and sixteenths. -/
structure LctlIn where
  ctype : Nat
  body : List Byte
  tick : Nat
  frac : Nat
  deriving DecidableEq, Repr

/-- A command that waits for its answer (R334): the flit, its sendings, the tick of the last. -/
structure PendCmd where
  cmd : Lctl
  sends : Nat
  tick : Nat
  deriving DecidableEq, Repr

/-- What the peer's INIT said (R309, R325). -/
structure PeerInit where
  device : Nat
  port : Nat
  resume : Bool
  expected : Nat
  adv : List Byte
  deriving DecidableEq, Repr

/-- A lane replacement at its receiver (R332): logical lane, failed and understudy lanes, the switch point once known. -/
structure ReplRx where
  logical : Nat
  failed : Nat
  under : Nat
  switch : Option Nat
  deriving DecidableEq, Repr

/-- A lane replacement at its transmitter: logical lane, understudy, the switch point answered. -/
structure ReplTx where
  logical : Nat
  under : Nat
  switch : Nat
  deriving DecidableEq, Repr

/-- A link port beside its registers. -/
structure LinkSt where
  ring : List RingEnt
  /-- Position in the ring of the next copy of a replay. -/
  ptr : Nat
  /-- Sendings of the last EFF_TIMEOUT ticks, with their SEQ (R315). -/
  copies : List (Nat × Nat)
  /-- EXPECTED with the tick of each change, newest first (R312). -/
  acks : List (Nat × Nat)
  /-- Commands and answers waiting to be sent, oldest first (R310), and the commands not yet answered. -/
  cmds : List Lctl
  pend : List PendCmd
  /-- A return count changed since the last LCTL flit. -/
  retDirty : Bool
  /-- The peer's return counts seen last, by class (R324). -/
  retSeen : KMap (Nat × Nat)
  /-- Flits and packets still in a receive buffer from before the books last started afresh, by row: their room goes back to no one (R326). -/
  stale : KMap (Nat × Nat)
  /-- VC0 flits accepted, with the time at which they reach the hold, in sixteenths of a tick. -/
  vc0In : List (Nat × Vc0Flit)
  /-- Packets arriving, by class, 4 for the management class of a pool link, and whether the rest of one is being discarded (R320, R323). -/
  part : KMap (List (List Byte))
  dropping : KMap Bool
  lctlIn : List LctlIn
  /-- First slot in which the transmitter may begin a flit. -/
  txFree : Nat
  /-- The flit put on the line last, and its slot. -/
  line : Option (Nat × List Byte)
  /-- Link-layer state from before the link went down is held (R326). -/
  held : Bool
  grace : Option Nat
  oldPeer : Nat × Nat
  peerInit : Option PeerInit
  sentSeen : Bool
  gotSeen : Bool
  /-- Lane-parity errors of the window of R331, by logical lane, and the window. -/
  parity : KMap Nat
  parWin : Nat
  replRx : Option ReplRx
  replTx : Option ReplTx
  /-- The failed lane of the last replacement, while the peer still drives it (R334). -/
  mirror : Option Nat
  /-- Failing physical lanes not yet acted on (R335). -/
  failing : List Nat
  /-- A width change (R333): the request sent, the peer's request not yet answered, the lanes this end named; the code, the copies sent and the
  peer's lanes of the WIDTH_GO to send; the code and the flits left until the receiver switches. -/
  reqOut : Option (Nat × Nat)
  reqIn : Option (Nat × Nat)
  rxLanes : Nat
  goTx : Option (Nat × Nat × Nat)
  goRx : Option (Nat × Nat)
  /-- Widths in use, as codes, of the transmitter; the receiver's is LNK_STATUS.WIDTH. -/
  txWidth : Nat
  /-- Peer's TX_TICK of the last TIMESTAMP received, and the local time of its reception, both in sixteenths of a tick (R309, R376). -/
  stamp : Nat × Nat
  /-- TX_TICK of the last two TIMESTAMP flits sent (R381). -/
  sentStamps : List Nat
  /-- Training (R355): tick at which the step began, tick from which the next attempt may begin, lanes locked. -/
  stepTick : Nat
  restart : Option Nat
  locked : Nat
  /-- Laser sources the engine applied at the last DETECT, by lane, and the lanes whose laser is lit (R352, R353). -/
  source : KMap Nat
  lit : Nat
  /-- Scrambler seeds of the transmit lanes, and the slot in which ALIGN set them (R348). -/
  seeds : KMap Nat
  alignSlot : Nat
  deriving DecidableEq, Repr

/-- A link at reset (R336). -/
def LinkSt.reset : LinkSt where
  ring := []
  ptr := 0
  copies := []
  acks := []
  cmds := []
  pend := []
  retDirty := false
  retSeen := []
  stale := []
  vc0In := []
  part := []
  dropping := []
  lctlIn := []
  txFree := 0
  line := none
  held := false
  grace := none
  oldPeer := (0, 0)
  peerInit := none
  sentSeen := false
  gotSeen := false
  parity := []
  parWin := 0
  replRx := none
  replTx := none
  mirror := none
  failing := []
  reqOut := none
  reqIn := none
  rxLanes := 0
  goTx := none
  goRx := none
  txWidth := 0
  stamp := (0, 0)
  sentStamps := []
  stepTick := 0
  restart := none
  locked := 0
  source := []
  lit := 0
  seeds := []
  alignSlot := 0

/-! ### Huawald time (chapter 10) -/

/-- The time block beside its registers. -/
structure TimSt where
  /-- The state beneath HOLDOVER (R378). -/
  base : Nat
  /-- Samples accepted since the last servo run: arrival in sixteenths of a tick, link, theta (R381, R382). -/
  samples : List (Nat × Nat × Int)
  /-- Consecutive runs within, and beyond, the bounds of R383. -/
  good : Nat
  bad : Nat
  /-- The first sample of an acquisition: theta and arrival (R390). -/
  acq : Option (Int × Nat)
  /-- Tick at which HOLD or HOLDOVER began, and whether its expiry has been raised (R388, R392). -/
  holdSince : Option Nat
  expired : Bool
  /-- The first stamp interval whose servo run has not been made (R382). -/
  lastRun : Nat
  /-- Tick of the last move of a released trim (R386). -/
  slewTick : Nat
  deriving DecidableEq, Repr

/-- Time at reset (R398). -/
def TimSt.reset : TimSt := ⟨0, [], 0, 0, none, none, false, 0, 0⟩

/-! ### Safety (chapter 11) -/

/-- A curtain notice (R418), beside its magic number. -/
structure Notice where
  slice : Nat
  origin : Nat
  cause : Nat
  unit : Nat
  tick : Nat
  detail : Nat
  deriving DecidableEq, Repr

/-- The safety logic beside its registers: tick of entry into the curtain, the notice to send on each of these links, whether the control
cores were interrupted, whether a halt cause has come and whether the further steps of halt are made (R416, R417). -/
structure SafSt where
  entry : Option Nat
  notices : List (Nat × Notice)
  /-- The tick in which SAF_FIRST was filled and, if a notice filled it, whether that newly set SAF_FAULT.NOTICE and SAF_NOTICE (R413, R421);
  whether SAF_NOTICE holds a notice. -/
  fresh : Option (Nat × Option (Bool × Bool))
  noticed : Bool
  /-- Notices that reached port 32, with the port at which each entered the device (R418). -/
  inbox : List (Notice × Nat × Nat)
  stopped : Bool
  haltCause : Bool
  haltSteps : Bool
  /-- Tick of the last kick of each control core (R422). -/
  kicks : Vector Nat 5
  /-- The offset each core wrote to its CTL_POST_ADDR, and the post that waits for its pair: core, offset, value, tick (R454). -/
  postAddr : Vector Nat 5
  post : Option (Nat × Nat × Word64 × Nat)
  deriving DecidableEq, Repr

/-- Safety at reset (R440). -/
def SafSt.reset : SafSt := ⟨none, [], none, false, [], false, false, false, Vector.replicate 5 0, Vector.replicate 5 0, none⟩

/-! ### Control cores and firmware (chapter 12) -/

/-- A mailbox beside its registers (R457, R458): the SUBMIT value last accepted, the copy of the command, the tick of acceptance or of the
present wait, the step a long command has reached, and a number kept for it. -/
structure MbSt where
  seen : Nat
  cmd : List Byte
  since : Nat
  phase : Nat
  aux : Nat
  deriving DecidableEq, Repr

/-- A firmware message not yet acknowledged (R467, R468): destination, data, sendings, the mailbox whose MSG_SEND it is, and where it
stands: 0 waiting, 1 sent, 2 acknowledged, 3 given up. -/
structure OutMsg where
  dest : Nat
  data : List Byte
  tries : Nat
  mb : Option Nat
  at_ : Nat
  deriving DecidableEq, Repr

/-- A record of the retirement list (R483). -/
structure Retired where
  kind : Nat
  unit : Nat
  index : Nat
  extra : Nat
  deriving DecidableEq, Repr

/-- What firmware keeps of the loaded image (R166, R168, R248, R470, R471). -/
structure Prog where
  /-- Channels with a CODE section. -/
  coded : List Nat
  /-- Phases of the circuit tables (circuit, entry), their sequence, whether it is cyclic, the position reached and the bank it stands in
  (R247 to R249). -/
  phases : List (List (Nat × Nat))
  seq : List Nat
  cyclic : Bool
  pos : Nat
  bank : Nat
  /-- DEVICE_ID of each logical index, and this device's index. -/
  devmap : List Nat
  logical : Nat
  partner : Nat
  /-- INPUT_REGIONS: start and length. -/
  inputs : List (Nat × Nat)
  hash : List Byte
  deriving DecidableEq, Repr

/-- A run that START or RESTORE reports (R472, R473): its mailbox, resume tick, report region and signal, SIGNAL counts and last codes by
channel, SIGNAL events reported so far, whether RUN has been set, RUN_STATE. -/
structure Run where
  mb : Nat
  t0 : Nat
  repAddr : Nat
  repBytes : Nat
  repSignal : Nat
  sig : List Nat
  last : List Nat
  taken : Nat
  going : Bool
  state : Nat
  deriving DecidableEq, Repr

/-- The intermission in progress or last made (R427, R431, R474), and the messages of a restore (R478). -/
structure IntSt where
  /-- Index of the intermission, and of the last committed one. -/
  k : Nat
  committed : Nat
  /-- Devices whose CAPTURED and DONE the coordinator holds (coded k × 4,096 + device), the last k for which it sent COPY, the tick of the last DONE, HOLD_AT_INT asked. -/
  captured : List Nat
  done : List Nat
  copySent : Nat
  doneTick : Nat
  holdReq : Bool
  /-- The copies of this device are under way. -/
  copying : Bool
  /-- The buddy copy has been sent. -/
  sent : Bool
  /-- Channels and memory channels whose closing checks are done. -/
  tested : List Nat
  pins : List Nat
  /-- Host-input count (R475). -/
  inputs : Nat
  /-- Restore: COPY_DONE regions received, devices whose DONE has come, and the T_R awaited. -/
  copyDone : List Nat
  restoreDone : List Nat
  resumeAt : Option Nat
  deriving DecidableEq, Repr

/-- No intermission yet. -/
def IntSt.reset : IntSt := ⟨0, 0, [], [], 0, 0, false, false, false, [], [], 0, [], [], none⟩

/-- A daily entry of the margin ledger (R539). -/
structure Daily where
  hours : Nat
  worst : Nat
  margin : Int
  top : Nat
  flags : Nat
  deriving DecidableEq, Repr

/-- The margin ledger (R538, R539): generation, power-on hours when it was written, resurveys, V_OP at the first resurvey by site, V_FAIL by
site and clock (8 × site + clock), hour of the last change by site, dated V_FAIL of every site, daily entries newest first, first bias of each
laser (42 × engine + laser), V_OP of the rails in 5 mV, top step of each channel, CTRL ceiling, flags. -/
structure Ledger where
  gen : Nat
  hours : Nat
  surveys : Nat
  first : KMap Nat
  vfail : KMap Nat
  changed : KMap Nat
  records : List (Nat × List Nat)
  daily : List Daily
  bias : KMap Nat
  rails : KMap Nat
  tops : KMap Nat
  ceil : Nat
  flags : Nat
  deriving DecidableEq, Repr

/-- An empty ledger. -/
def Ledger.reset : Ledger := ⟨0, 0, 0, [], [], [], [], [], [], [], [], 0, 0⟩

/-- The control and status registers of a control core that can change (R452): the 16 PMP entries, mtimecmp, and the privilege mode, M or U; and
how the debug module has it (R570): halted, to stop after one instruction, reset since last acknowledged, resumed since last asked. -/
structure CoreSt where
  pmpcfg : Vector Byte 16
  pmpaddr : Vector Word64 16
  mtimecmp : Word64
  user : Bool
  halted : Bool
  step : Bool
  haveReset : Bool
  resumeAck : Bool
  deriving DecidableEq, Repr

/-- A core at reset: no PMP entry in force, in M, running (log entry 74). -/
def CoreSt.reset : CoreSt := ⟨Vector.replicate 16 0, Vector.replicate 16 0, 0, false, false, false, true, false⟩

/-- Control SRAM, mailboxes, fuses, flash, and what firmware keeps. -/
structure FwSt where
  cores : Vector CoreSt 5
  /-- Control SRAM (R455). -/
  csram : KMap Byte
  /-- Command areas and result windows (R456), by 0x4000 × mailbox + offset. -/
  mbmem : KMap Byte
  mb : Vector MbSt 16
  /-- The mailbox that holds the device lock (R464). -/
  lock : Option Nat
  /-- The tick of acceptance of the command that took the lock last (R462). -/
  took : Option Nat
  out : List OutMsg
  /-- MSG_SEQ last sent to, and last taken from, each device (R467, R468). -/
  sentSeq : KMap Nat
  seenSeq : KMap Nat
  /-- HOST messages held: source and body (R469). -/
  hostMsgs : List (Nat × List Byte)
  prog : Option Prog
  run : Option Run
  int : IntSt
  retired : List Retired
  /-- Flash: the image region (R480); the ledger as firmware holds it and as flash holds it. -/
  flash : KMap Byte
  ledger : Ledger
  ledgerFlash : Ledger
  /-- Fuses (R483): key-hash slot 1 once programmed, SVN minimum. DEBUG_LOCK stands in BRD_JTAG. -/
  slot1 : Option (List Byte)
  svnMin : Nat
  /-- Measurement and SVN of the running firmware (R484, R489). -/
  meas : List Byte
  svn : Nat
  /-- Resets that RESET commands have asked for: kind, unit, tick (R479). -/
  resetAt : List (Nat × Nat × Nat)
  deriving DecidableEq, Repr

/-- Firmware before its first boot. -/
def FwSt.reset : FwSt where
  cores := Vector.replicate 5 CoreSt.reset
  csram := []
  mbmem := []
  mb := Vector.replicate 16 ⟨0, [], 0, 0, 0⟩
  lock := none
  took := none
  out := []
  sentSeq := []
  seenSeq := []
  hostMsgs := []
  prog := none
  run := none
  int := IntSt.reset
  retired := []
  flash := []
  ledger := Ledger.reset
  ledgerFlash := Ledger.reset
  slot1 := none
  svnMin := 0
  meas := []
  svn := 0
  resetAt := []

/-! ### Host interface (chapter 13) -/

/-- The identity and base address registers of the configuration header (R498); the Revision ID is CTL_CHIP_ID.STEPPING. -/
structure CfgHeader where
  vendor : BitVec 16
  device : BitVec 16
  classCode : BitVec 24
  subVendor : BitVec 16
  subsystem : BitVec 16
  /-- BAR0 to BAR5, with the type bits of the base specification. -/
  bars : Vector (BitVec 32) 6
  rom : BitVec 32
  deriving DecidableEq, Repr

/-- The header at reset (R498): BAR0 and BAR2 64-bit memory, BAR2 prefetchable, no address assigned. -/
def CfgHeader.reset : CfgHeader := ⟨0x1E7C, 0x0A01, 0x120000, 0x1E7C, 0x0072, #v[0x4, 0, 0xC, 0, 0, 0], 0⟩

/-- The PCI Express function beside BAR0. -/
structure HostSt where
  cfg : CfgHeader
  msixEnable : Bool
  msixMask : Bool
  busMaster : Bool
  /-- MSI-X messages sent, oldest first. -/
  msixSent : List Nat
  /-- The size of BAR2 (R502): 2^bar2 GiB. -/
  bar2 : Nat
  /-- The last completion sent to the host: 0 successful, 1 Unsupported Request, 2 with EP set; and its data. -/
  cpl : Option (Nat × List Byte)
  /-- AER errors logged (R507): bits 0 to 7 as AerErr lists them, 8 Unsupported Request, 9 Poisoned TLP Received. -/
  aer : Nat
  /-- The function is in D3hot (R510). -/
  d3 : Bool
  deriving DecidableEq, Repr

/-! ### Power and board (chapters 14, 15) -/

/-- Supplies, power state and heat beside their registers. -/
structure PwrSt where
  /-- Consecutive samples of VIN below VIN_WARN, at or above its release, below VIN_RESET, above VIN_OV (R515). -/
  warnRun : Nat
  okRun : Nat
  resetRun : Nat
  ovRun : Nat
  /-- The lowest VIN since it first sampled below VIN_WARN, and when the dip under way crossed it, in ticks since power-on (R517). -/
  low : Nat
  dip : Option Nat
  /-- When POR is to be asserted, in ticks since power-on (R517). -/
  porAt : Option Nat
  /-- POR is held, with the rails down (R521, R522); MOD is held (R559). -/
  por : Bool
  mod : Bool
  /-- The compute dies are power-gated (R524, R533). -/
  gated : Bool
  /-- A change of power state: the state it goes to, the tick it began, the mailbox that asked (R525). -/
  change : Option (Nat × Nat × Option Nat)
  /-- Hottest sensor of each group in °C (R533). -/
  temps : KMap Int
  /-- Voltages the resurvey wants, in 5 mV, and the tick of the last step, by rail (R536). -/
  goal : KMap Nat
  railTick : KMap Nat
  /-- Ticks since power-on, and the power-on hours before it. -/
  onTicks : Nat
  hours0 : Nat
  deriving DecidableEq, Repr

/-- Power right after POR. -/
def PwrSt.reset : PwrSt := ⟨0, 0, 0, 0, 0, none, none, false, false, false, none, [], [], [], 0, 0⟩

/-- The debug module of the control cores (R570): dmactive, the hart selected, data0 and data1, the program buffer, cmderr, and the value that the
next scan of DMI shifts out. -/
structure DebugSt where
  active : Bool
  hart : Nat
  data : Vector (BitVec 32) 2
  progbuf : Vector (BitVec 32) 4
  cmdErr : Nat
  last : BitVec 32
  deriving DecidableEq, Repr

/-- The debug module while dmactive is 0. -/
def DebugSt.reset : DebugSt := ⟨false, 0, Vector.replicate 2 0, Vector.replicate 4 0, 0, 0⟩

/-- The management interfaces beside their registers. -/
structure BrdSt where
  /-- The BAR0 offset a READ selected, and the status of the last WRITE: 0, 1 or 2 (R567). -/
  sel : Option Nat
  status : Nat
  /-- The last bytes sent to the I3C controller, and to the tester. -/
  reply : List Byte
  shift : List Byte
  /-- What the boundary-scan register makes ALERT_N, THERMTRIP_N, PWR_OK_N and HALT_N pull low, bits 0 to 3, under EXTEST, CLAMP or HIGHZ. -/
  drive : Option Nat
  dbg : DebugSt
  deriving DecidableEq, Repr

/-! ### The module -/

/-- The state of the module. -/
structure State where
  /-- BAR0 registers by offset; an unlisted register holds its reset value. -/
  regs : KMap Word64
  /-- The registers as they stood when the present cycle began (R11; log entry 67). -/
  before : KMap Word64
  /-- Commands waiting, first in first out. -/
  pending : List Instr
  /-- Free values taken so far (the model's own field). -/
  free : Nat
  ch : Vector Chan 8
  mem : MemSt
  /-- Arbiters: memory channel c at c, bank b of channel n at 128 + 64 n + b. -/
  arbs : KMap Arb
  net : NetSt
  lnk : Vector LinkSt 24
  tim : TimSt
  saf : SafSt
  fw : FwSt
  host : HostSt
  pwr : PwrSt
  brd : BrdSt
  /-- Event codes posted to firmware by SIGNAL (R99): channel and code. -/
  signals : List (Nat × Nat)
  /-- Vectors that rose since the last in-band interrupt was acknowledged (R569). -/
  ibi : Nat
  deriving DecidableEq, Repr

/-- Why a step faults. The manual gives every command an effect in every state, so no step faults. -/
inductive Fault where
  deriving DecidableEq, Repr

/-- Why a command is refused. -/
inductive Refusal where
  /-- Raised by an arm of exec that has no meaning yet; safe, since nothing is claimed of it. -/
  | notModelled (mnemonic : String)
  deriving DecidableEq, Repr

/-- The module right after power-on reset, its initialisations not yet done. -/
def State.reset : State where
  regs := (List.range 8).map (fun n => (chStatus n, 5)) ++ [(netRoute 0, 6), (netUnsStat, 1), (brdPin, 16)]
  before := (List.range 8).map (fun n => (chStatus n, 5)) ++ [(netRoute 0, 6), (netUnsStat, 1), (brdPin, 16)]
  pending := []
  free := 0
  ch := Vector.replicate 8 Chan.reset
  mem := ⟨[], [], [], [], [], [], [], [], [], 0, 0, [], false⟩
  arbs := []
  net := NetSt.reset
  lnk := Vector.replicate 24 LinkSt.reset
  tim := TimSt.reset
  saf := SafSt.reset
  fw := FwSt.reset
  host := ⟨CfgHeader.reset, true, false, true, [], 6, none, 0, false⟩
  pwr := PwrSt.reset
  brd := ⟨none, 0, [], [0xCF, 0x19, 0x30, 0x1A], none, DebugSt.reset⟩
  signals := []
  ibi := 0

end Sys2Proof.Machine
end

