-- ==== Sys2Proof/Machine/Ops.lean ====
section
/-!
DEFINITION. Operations every family uses: registers and their fields (R8 to R16), free values, host alerts (R505, R506, R569), the raising
of a safety cause with the curtain it may begin (R413, R414, R417), stopping a channel (R124), and a channel fault (R129).
-/

namespace Sys2Proof.Machine

/-- The numbers below `n`, as indices. -/
def fins (n : Nat) : List (Fin n) := List.finRange n

/-! ### Registers -/

/-- The setpoint field of a rail out of reset, in units of 5 mV (R520, R521): fixed rails at their nominal voltage. Log entry 9. -/
def railReset (i : Nat) : Nat := nth 160 [160, 160, 160, 160, 160, 160, 160, 160, 160, 160, 160, 160, 180, 360, 210, 180, 100, 240, 660, 360] i

/-- A register of this kind and indices at reset (the Reset columns). -/
def kindReset (k : RegKind) (i _j : Nat) : Word64 :=
  let v := k.fields.foldl (fun v f => setF v ⟨f.lo, f.w⟩ f.reset) 0
  match k with
  | .pwrRail => setF v PWR_RAIL_SET (railReset i)
  | .mcRemapData => setF v MC_REMAP_DATA_TO_CHAN i
  | _ => v

/-- What a BAR0 offset holds at reset; 0 where no register stands (R500). -/
def regReset (off : Nat) : Word64 :=
  match locate off with
  | none => 0
  | some (k, i, j) => kindReset k i j

/-- The register at an offset. -/
def State.rd (s : State) (off : Nat) : Word64 := kget regReset s.regs off

/-- Sets the register at an offset. -/
def State.wr (s : State) (off : Nat) (v : Word64) : State := { s with regs := kset regReset s.regs off v }

/-- A field of a register. -/
def State.fld (s : State) (off : Nat) (f : Fld) : Nat := getF (s.rd off) f

/-- Sets a field of a register. -/
def State.setFld (s : State) (off : Nat) (f : Fld) (x : Nat) : State := s.wr off (setF (s.rd off) f x)

/-- Whether a one-bit field is 1. -/
def State.flag (s : State) (off : Nat) (f : Fld) : Bool := decide (s.fld off f ≠ 0)

/-- Hardware has set bits in the present cycle: a write of 1 to them in it clears none (R11; log entry 67). -/
def State.keepSet (s : State) (off : Nat) (m : Word64) : State := { s with before := kset regReset s.before off (kget regReset s.before off &&& ~~~m) }

/-- Hardware sets bits of a register. -/
def State.orBits (s : State) (off : Nat) (m : Word64) : State := (s.wr off (s.rd off ||| m)).keepSet off m

/-- Sets a one-bit field to 1. -/
def State.setFlag (s : State) (off : Nat) (f : Fld) : State := (s.setFld off f 1).keepSet off (setF 0 f 1)

/-- Adds to a saturating counter (R12). -/
def State.addFld (s : State) (off : Nat) (f : Fld) (x : Nat) : State :=
  s.setFld off f (min (2 ^ f.w - 1) (s.fld off f + x))

/-- Adds one to a saturating counter (R12). -/
def State.bump (s : State) (off : Nat) (f : Fld) : State := s.addFld off f 1

/-- Raises a record of a greatest value. -/
def State.maxFld (s : State) (off : Nat) (f : Fld) (x : Nat) : State :=
  s.setFld off f (max (s.fld off f) (min (2 ^ f.w - 1) x))

/-- The place of a single bit. -/
def bitF (i : Nat) : Fld := ⟨i, 1⟩

/-- Huawald time in ticks (R375). -/
def State.now (s : State) : Nat := (s.rd timNow).toNat

/-- The slot in progress (R228). -/
def State.slotNow (s : State) : Nat := 7 * s.now / 8

/-- A free value below `n`. -/
def State.pick (s : State) (n : Nat) : Nat := Config.freeNat s.free % n

/-- The state after taking `k` free values. -/
def State.take (s : State) (k : Nat) : State := { s with free := s.free + k }

/-- Whether the device is of stepping B0 (R5). -/
def State.isB0 (s : State) : Bool := decide (s.fld ctlChipId CTL_CHIP_ID_STEPPING = 0x20)

/-- A channel's state. -/
def State.chan (s : State) (n : Fin 8) : Chan := s.ch[n.val]

/-- Replaces a channel's state. -/
def State.setChan (s : State) (n : Fin 8) (c : Chan) : State := { s with ch := s.ch.set n.val c }

/-- Whether the module is held in POR or MOD (R521, R559). -/
def State.heldReset (s : State) : Bool := s.pwr.por || s.pwr.mod

/-- Whether a register stands on a compute die, whose registers ignore writes while the dies are power-gated (R501). -/
def onComputeDie (off : Nat) : Bool := decide ((0x01000000 ≤ off ∧ off < 0x01800000) ∨ (0x02010000 ≤ off ∧ off < 0x02180000))

/-- Whether the register at an offset takes writes (R501). -/
def State.takesWrites (s : State) (off : Nat) : Bool := !s.heldReset && !(s.pwr.gated && onComputeDie off)

/-! ### Host alerts (R505, R506, R513, R569) -/

/-- The vector that a bit of CTL_HOST_ALERT belongs to (R505). -/
def alertVector (bit : Nat) : Nat :=
  if bit = 0 then 0 else if bit < 16 then 2 else if bit < 24 then 1 else 3

/-- Whether a vector is masked in the MSI-X table or by the function mask. -/
def State.vectorMasked (s : State) (v : Nat) : Bool :=
  s.host.msixMask || bit (s.rd (msixTable (2 * v + 1))).toNat 32

/-- Logs an AER error (R507): its bit, and the alert of its severity (R513). -/
def State.aerLog (s : State) (b : Nat) : State :=
  { s with host := { s.host with aer := s.host.aer ||| 2 ^ b } }

/-- Sends a vector's message, or marks it pending, as the MSI-X capability says (R506); the in-band interrupt of R569 is requested
whichever happens. -/
def State.sendVector (s : State) (v : Nat) : State :=
  let s := { s with ibi := if s.flag brdI3c BRD_I3C_IBI_EN then s.ibi ||| 2 ^ v else s.ibi }
  if s.host.msixEnable && s.host.busMaster then
    if s.vectorMasked v then s.setFld msixPba (bitF v) 1
    else { s with host := { s.host with msixSent := s.host.msixSent ++ [v] } }
  else s

/-- Each vector that one of these alert bits belongs to sends one message. -/
def State.sendVectors (s : State) (bits : List Nat) : State :=
  ((List.range 4).filter fun v => bits.any fun b => decide (alertVector b = v)).foldl State.sendVector s

/-- Where State.before keeps the bits of CTL_HOST_ALERT that were raised again in the present cycle while they were 1 (R506): no register. -/
def alertAgain : Nat := ctlHostAlert + 1

/-- Sets bits of CTL_HOST_ALERT; each vector with a bit that rises sends one message (R506). -/
def State.alert (s : State) (bits : List Nat) : State :=
  let rising := bits.filter (fun b => !bit (s.rd ctlHostAlert).toNat b)
  let again := bits.filter (fun b => bit (s.rd ctlHostAlert).toNat b)
  let s := bits.foldl (fun s b => s.setFlag ctlHostAlert (bitF b)) s
  let s := again.foldl (fun s b =>
    { s with before := kset regReset s.before alertAgain (kget regReset s.before alertAgain ||| BitVec.ofNat 64 (2 ^ b)) }) s
  s.sendVectors rising

/-! ### Stopping a channel (R121, R124) -/

/-- CH_STATUS.STATE values (R121). -/
def stIdle : Nat := 0
def stRunning : Nat := 1
def stHalted : Nat := 2
def stIntermission : Nat := 3
def stFault : Nat := 4
def stInit : Nat := 5

/-- Whether a channel is RUNNING. -/
def State.running (s : State) (n : Nat) : Bool := decide (s.fld (chStatus n) CH_STATUS_STATE = stRunning)

/-- Whether any channel is RUNNING. -/
def State.anyRunning (s : State) : Bool := (List.range 8).any s.running

/-- The counts of a channel's network queues as CH_NQ_STATUS shows them (R136). -/
def State.showQueues (s : State) (n : Fin 8) : State :=
  (fins 8).foldl (fun s (q : Fin 8) =>
    let c := s.chan n
    let tx := c.txq[q.val]
    let s := s.setFld (chNqStatus n q) CH_NQ_STATUS_FLITS (sumNat (tx.map fun d => d.data.length - d.sent))
    let s := s.setFld (chNqStatus n q) CH_NQ_STATUS_DESCS tx.length
    let s := s.setFld (chNqStatus n (8 + q)) CH_NQ_STATUS_FLITS c.rxq[q.val].length
    s.setFld (chNqStatus n (8 + q)) CH_NQ_STATUS_DESCS c.rxd[q.val].length) s

/-- Empties a channel's RXQs and posted receives, and closes its port to arriving flits (R124). -/
def Chan.discardRx (c : Chan) : Chan :=
  { c with rxq := Vector.replicate 8 [], rxd := Vector.replicate 8 [], portClosed := true }

/-- Keeps, of a channel's TXQs, the flits whose departure slot lies before slot `n` (R124). -/
def Chan.keepTxBefore (c : Chan) (n : Nat) : Chan :=
  { c with txq := c.txq.map fun q =>
      (q.map fun d => { d with n := min d.n (n - d.slot0), data := d.data.take (n - d.slot0) }).filter (fun d => decide (d.sent < d.n)) }

/-- What ends with the sequencer whatever the stop: the hold, the bundle being assembled, the branch under way. -/
def Chan.endRun (c : Chan) : Chan :=
  { c with held := none, asm := [], asmHdr := 0, asmErrs := [], shadowLeft := 0, target := none }

/-! ### Cycles of a channel -/

/-- The ARITH step of a channel in MHz (R2, R545). -/
def State.arithMHz (s : State) (n : Nat) : Nat :=
  nth 1300 [1300, 1250, 1200, 1100, 1000, 900, 800, 650] (s.fld pwrArith (PWR_ARITH_STEP n))

/-- The ARITH cycle now: while a bundle is held, cycles pass with time (R89). -/
def State.cycleNow (s : State) (n : Fin 8) : Nat :=
  match (s.chan n).held with
  | some h => (s.chan n).cycle + (s.now - h.tick) * s.arithMHz n / 1000
  | none => (s.chan n).cycle

/-- The tick of an ARITH cycle: of one that passed during a hold, reckoned from the tick in which the hold began. -/
def State.tickOf (s : State) (n : Fin 8) (cycle : Nat) : Nat :=
  match (s.chan n).held with
  | some h => min s.now (h.tick + ((cycle - (s.chan n).cycle) * 1000 + s.arithMHz n - 1) / s.arithMHz n)
  | none => s.now

/-- Notes the length of waits that are over (R135). -/
def State.noteWaits (s : State) (n : Fin 8) (l : List QueF) : State :=
  let len := s.cycleNow n - (s.chan n).cycle
  l.foldl (fun s f => s.maxFld (chQCount n f.q.toNat) CH_Q_COUNT_MAX_WAIT len) s

/-- The sequencer stops: the waits of a held bundle end, and what `Chan.endRun` names goes. -/
def State.endRun (s : State) (n : Fin 8) : State :=
  let s := match (s.chan n).held with
    | some h => s.noteWaits n h.unmet
    | none => s
  s.setChan n (s.chan n).endRun

/-- The registers of a stop (R121): STATE as given, RUN, STOP_AT_CUE and the hold flags 0. -/
def State.stopRegs (s : State) (n : Nat) (st : Nat) : State :=
  ((((s.setFld (chStatus n) CH_STATUS_STATE st).setFld (chCtl n) CH_CTL_RUN 0).setFld (chCtl n) CH_CTL_STOP_AT_CUE 0).setFld
    (chStatus n) CH_STATUS_HOLD_CUE 0).setFld (chStatus n) CH_STATUS_HOLD_Q 0

/-- A stop that discards every queue: a fault, or RUN written 0 (R124). -/
def State.stopDiscard (s : State) (n : Fin 8) (st : Nat) : State :=
  let s := s.endRun n
  ((s.setChan n { (s.chan n).discardRx with txq := Vector.replicate 8 [] }).stopRegs n st).showQueues n

/-- The stop at a cue (R124): flits with slots before the cue's slot leave, the rest and the RXQs are discarded. -/
def State.stopCue (s : State) (n : Fin 8) (cue : Nat) : State :=
  let t := (s.rd (chCue n cue)).toNat
  let s := s.endRun n
  ((s.setChan n ((s.chan n).discardRx.keepTxBefore ((7 * t + 7) / 8))).stopRegs n stHalted).showQueues n

/-- HALT and INTERMIT (R124): everything queued stays. -/
def State.stopKeep (s : State) (n : Fin 8) (st : Nat) : State := (s.endRun n).stopRegs n st

/-- The cue a bundle holds on, if it carries CUE. -/
def Bundle.cue? (b : Bundle) : Option Nat :=
  b.ops.findSome? fun o => match o with
    | .ctl .cue f => some (f.imm.toNat % 16)
    | _ => none

/-- STOP_AT_CUE written 1 (R124, R127): without effect on a channel that does not run; a channel already held on a CUE stops at once. -/
def State.setStopAtCue (s : State) (n : Fin 8) : State :=
  if s.running n then
    let s := s.setFld (chCtl n) CH_CTL_STOP_AT_CUE 1
    match (s.chan n).held with
    | some h => match h.bundle.cue? with
      | some q => s.stopCue n q
      | none => s
    | none => s
  else s.setFld (chCtl n) CH_CTL_STOP_AT_CUE 0

/-! ### Safety causes and the curtain (R413 to R417) -/

/-- The bit of SAF_FAULT that a cause sets (R414, R444). -/
def causeBit (code unit : Nat) : Nat := if code = 1 then unit % 8 else code + 6

/-- Whether a cause leads to the halt state (R414). -/
def haltCode (code : Nat) : Bool := decide (9 ≤ code ∧ code ≤ 12)

/-- The links on which a curtain notice leaves (R417): ROLE 1, UP, the peer's route entry open, one link for each distinct peer. -/
def State.noticeLinks (s : State) : List Nat :=
  ((List.range 24).foldl (fun (acc : List Nat × List Nat) l =>
    let p := s.fld (lnkPeer l) LNK_PEER_PEER_ID
    let ok := s.fld (netPortMap l) NET_PORT_MAP_ROLE = 1 ∧ s.fld (lnkStatus l) LNK_STATUS_STATE = 3 ∧
      s.fld (netRoute p) NET_ROUTE_FENCE = 0 ∧ s.fld (netRoute p) NET_ROUTE_DIR ≠ 7
    if ok ∧ !acc.2.contains p then (acc.1 ++ [l], acc.2 ++ [p]) else acc) ([], [])).1

/-- Entering the curtain (R417): STATE 1, STOP_AT_CUE on every running channel, one notice to each peer. -/
def State.enterCurtain (s : State) (nt : Notice) : State :=
  let s := s.setFld safStat SAF_STAT_STATE 1
  let s := { s with saf := { s.saf with entry := some s.now, notices := s.saf.notices ++ s.noticeLinks.map (fun l => (l, nt)), stopped := false } }
  (fins 8).foldl (fun s (n : Fin 8) => if s.running n then s.setStopAtCue n else s) s

/-- The intermission in progress fails (R427, R432): FAILED and the kind; it is not committed. -/
def State.intFail (s : State) (kind : Nat) : State :=
  if s.fld safInt SAF_INT_STEP = 0 then s
  else ((s.setFlag safInt SAF_INT_FAILED).setFld safInt SAF_INT_FAIL_KIND kind).setFld safInt SAF_INT_STEP 0

/-- What a raised cause does to an intermission in progress (R432): a closing check, or a fault during the intermission. -/
def State.intFault (s : State) (code : Nat) : State :=
  s.intFail (if s.fld safInt SAF_INT_STEP = 2 ∧ (code = 2 ∨ code = 15) then 1 else 5)

/-- The notice a device sends for the cause in SAF_FIRST (R418). -/
def State.ownNotice (s : State) : Notice :=
  ⟨s.fld netPlace NET_PLACE_SLICE_ID, s.fld netPlace NET_PLACE_DEVICE_ID, s.fld safFirst SAF_FIRST_CAUSE, s.fld safFirst SAF_FIRST_UNIT,
    s.fld safFirstTick SAF_FIRST_TICK_TICK, s.fld safFirst SAF_FIRST_DETAIL⟩

/-- Whether a cause fills SAF_FIRST (R413, R421): it holds no record, or one of the same tick that yields: to a lower code, or, filled by a
notice, to any local cause. -/
def State.firstYields (s : State) (code : Nat) : Bool :=
  !s.flag safFirst SAF_FIRST_VALID ||
    (match s.saf.fresh with
     | some (t, by_) => decide (t = s.now) && (decide (code < s.fld safFirst SAF_FIRST_CAUSE) || (by_.isSome && decide (code ≠ 13)))
     | none => false)

/-- A local cause takes the place of a notice of the same cycle, which then counts as a duplicate and leaves no record (R421). -/
def State.dropNotice (s : State) : State :=
  match s.saf.fresh with
  | some (_, some (bitNew, regNew)) =>
    let s := s.bump safStat SAF_STAT_DUPLICATE
    let s := if bitNew then s.setFld safFault SAF_FAULT_NOTICE 0 else s
    if regNew then { s.wr safNotice 0 with saf := { s.saf with noticed := false } } else s
  | _ => s

/-- Fills SAF_FIRST and SAF_FIRST_TICK (R445). -/
def State.fillFirst (s : State) (code unit detail org : Nat) : State :=
  (((((s.setFld safFirst SAF_FIRST_CAUSE code).setFld safFirst SAF_FIRST_UNIT unit).setFld safFirst SAF_FIRST_ORIGIN org).setFld safFirst
    SAF_FIRST_DETAIL detail).setFlag safFirst SAF_FIRST_VALID).wr safFirstTick (s.rd timNow)

/-- Raises a safety cause (R413): SAF_FAULT, SAF_FIRST when it yields, the FAULT alert; an intermission in progress fails (R432); an armed
device in its normal state enters the curtain (R417). A halt cause stops the device whether armed or not, and is kept for the further
steps of R416 (R421; log entry 21). `origin` is the notice answered, if any. -/
def State.raiseCause (s : State) (code unit detail : Nat) (origin : Option Notice) : State :=
  let was := s.flag safFault (bitF (causeBit code unit))
  let same := decide (s.saf.fresh.map (·.1) = some s.now)
  let own := s.fld netPlace NET_PLACE_DEVICE_ID
  let fill := s.firstYields code
  let s := if fill && s.flag safFirst SAF_FIRST_VALID then s.dropNotice else s
  let s := s.setFlag safFault (bitF (causeBit code unit))
  let s := if fill then
      let s := s.fillFirst code unit detail (match origin with | some n => n.origin | none => own)
      { s with saf := { s.saf with
        fresh := some (s.now, origin.map fun _ => (!was, false))
        notices := if same && origin.isNone then s.saf.notices.map fun x => (x.1, s.ownNotice) else s.saf.notices } }
    else s
  let s := (s.alert [0]).intFault code
  let s := if haltCode code then { s with saf := { s.saf with haltCause := true } } else s
  if (s.flag safCtl SAF_CTL_ARMED || haltCode code) && decide (s.fld safStat SAF_STAT_STATE = 0) then
    s.enterCurtain (origin.getD s.ownNotice)
  else s

/-! ### Pins (R518, R556, R557, R578) -/

/-- What IDCODE shifts out (R570). -/
def State.idcode (s : State) : List Byte := leBytes 4 (s.fld ctlChipId CTL_CHIP_ID_STEPPING / 16 * 2 ^ 28 + 0xA3019CF)

/-- The trip point of a sensor group in °C (R533): dies 0 to 2, optical engines 3 to 6. -/
def tripPoint (g : Nat) : Int := if g < 3 then 115 else 85

/-- Shows in BRD_PIN what the module drives on ALERT_N, THERMTRIP_N, PWR_OK_N and HALT_N: each its function, or what boundary scan makes it
(R557, R570). -/
def State.showPins (s : State) : State :=
  let up := !s.pwr.por
  let runs := up && !s.pwr.mod
  let alert := s.flag pwrState PWR_STATE_ALERT_EN &&
    (decide ((s.rd pwrSupplyEvt).toNat % 64 ≠ 0) || s.flag pwrThermStat PWR_THERM_STAT_WARN)
  let trip := (List.range 7).any fun g => decide (tripPoint g ≤ kget (fun _ => 0) s.pwr.temps g)
  let out (i : Nat) (x : Bool) : Nat := b2n (match s.brd.drive with
    | some d => bit d i
    | none => x)
  (((s.setFld brdPin BRD_PIN_ALERT_OUT (out 0 (runs && alert))).setFld brdPin BRD_PIN_THERMTRIP_OUT (out 1 (up && trip))).setFld brdPin
    BRD_PIN_PWR_OK_OUT (out 2 up)).setFld brdPin BRD_PIN_HALT_OUT (out 3 (runs && decide (s.fld safStat SAF_STAT_STATE = 2)))

/-! ### Channel faults (R124, R129) -/

/-- Sets a CH_FAULT bit (R129), found in a cycle: FIRST is recorded when none was set, and again for a lower bit of the same cycle; the
channel stops in FAULT, CHANNEL is raised (R411). -/
def State.faultChanAt (s : State) (n : Fin 8) (b pc engine cycle : Nat) : State :=
  let none_ := decide ((s.rd (chFault n)).toNat % 4096 = 0)
  let lower := decide ((s.chan n).faultCycle = some cycle ∧ b < s.fld (chFault n) CH_FAULT_FIRST)
  let s := s.setFlag (chFault n) (bitF b)
  let s :=
    if none_ || lower then
      ((((s.setChan n { s.chan n with faultCycle := some cycle }).setFld (chFault n) CH_FAULT_FIRST b).setFlag (chFault n)
        CH_FAULT_FIRST_VALID).setFld (chFault n) CH_FAULT_FIRST_PC pc).setFld (chFault n) CH_FAULT_FIRST_ENGINE engine
    else s
  let s := s.stopDiscard n stFault
  s.raiseCause 1 n (s.fld (chFault n) CH_FAULT_FIRST + 32 * s.fld (chFault n) CH_FAULT_FIRST_ENGINE) none

/-- A channel fault at the present bundle address and cycle. -/
def State.faultChan (s : State) (n : Fin 8) (b : Nat) : State :=
  s.faultChanAt n b (s.fld (chStatus n) CH_STATUS_PC) 0 (s.cycleNow n)

/-- Records an overrun (R101, R130) and stops the channel: CH_OVERRUN is filled when CUE_OVERRUN and SEND_LATE were both 0. -/
def State.overrun (s : State) (n : Fin 8) (kind cue queue detail : Nat) : State :=
  let clear := s.fld (chFault n) CH_FAULT_CUE_OVERRUN = 0 ∧ s.fld (chFault n) CH_FAULT_SEND_LATE = 0
  let s := if clear then
      (((s.setFld (chOverrun n) CH_OVERRUN_CUE cue).setFld (chOverrun n) CH_OVERRUN_QUEUE queue).setFld (chOverrun n)
        CH_OVERRUN_KIND kind).setFld (chOverrun n) CH_OVERRUN_DETAIL (min detail (2 ^ 32 - 1))
    else s
  s.faultChan n (if kind = 2 then 4 else 1)

/-! ### Check symbols of a channel's memories (R81, R83) -/

/-- Units of SAF_SRAM_ECC (R451): instruction SRAM, the accumulator file of a physical engine, the register files. -/
def unitIsram : Nat := 66
def unitAcc (phys : Nat) : Nat := 67 + phys
def unitRegs : Nat := 84

/-- A correction, or an uncorrectable error, of a physical bank counts towards its retirement (R83). -/
def Chan.bankFound (c : Chan) (u : Nat) (bad : Bool) : Chan :=
  let k := kget (fun _ => 0) c.sweep u + 1
  if 66 ≤ u then c
  else if bad then { c with worn := kset (fun _ => false) c.worn u true }
  else { c with sweep := kset (fun _ => 0) c.sweep u k, worn := if 16 < k then kset (fun _ => false) c.worn u true else c.worn }

/-- What a read of a word of unit `u` found is counted (R81, R83, R451). -/
def State.eccCount (s : State) (n : Fin 8) (u : Nat) (o : WordOut) : State :=
  match o with
  | .clean => s
  | .corrected => (s.bump (safSramEcc n u) SAF_SRAM_ECC_CORRECTED).setChan n ((s.chan n).bankFound u false)
  | .bad => (s.bump (safSramEcc n u) SAF_SRAM_ECC_UNCORRECTABLE).setChan n ((s.chan n).bankFound u true)

/-- The same, and an uncorrectable error is fault `bit` of the channel (R81, R129). -/
def State.eccFound (s : State) (n : Fin 8) (u bit pc cycle : Nat) (o : WordOut) : State :=
  match o with
  | .bad => (s.eccCount n u .bad).faultChanAt n bit pc 0 cycle
  | o => s.eccCount n u o

/-- Adds arithmetic flags (R72). -/
def State.addFlags (s : State) (n : Nat) (f : AFlags) : State :=
  s.orBits (chArithFlags n) (f.setWidth 64)

end Sys2Proof.Machine
end

