-- ==== Sys2Proof/Machine/Access.lean ====
section
/-!
DEFINITION. Register writes by access type (R8 to R13), and the return of fields to their reset values by reset (R14, R15).
-/

namespace Sys2Proof.Machine

/-- The bits of the fields of a register whose access satisfies `p`. -/
def accMask (p : FieldDef → Bool) (fs : List FieldDef) : Word64 :=
  (fs.filter p).foldl (fun m f => m ||| BitVec.ofNat 64 ((2 ^ f.w - 1) * 2 ^ f.lo)) 0

/-- What a register holds after a write of `v` in the bits `m` (R8): RW fields are set, RWL fields too unless locked, W1C bits written 1 are
cleared, W1S bits written 1 are set, RO and WO fields keep their value. A W1C bit that hardware set in the cycle of the write, and which was
0 in `before`, stays set (R11). -/
def writeWord (fs : List FieldDef) (locked : Bool) (before old v m : Word64) : Word64 :=
  let rw := accMask (fun f => decide (f.acc = .rw) || (decide (f.acc = .rwl) && !locked)) fs &&& m
  let c := accMask (fun f => decide (f.acc = .w1c)) fs &&& m &&& v &&& before
  let s := accMask (fun f => decide (f.acc = .w1s)) fs &&& m &&& v
  (((old &&& ~~~rw) ||| (v &&& rw)) &&& ~~~c) ||| s

/-- Whether the block of a register is locked: only NET_PLACE has RWL fields and a LOCK bit (R34). -/
def State.locked (s : State) (k : RegKind) : Bool := decide (k = .netPlace) && s.flag netPlace NET_PLACE_LOCK

/-- Whether a write reaches RWL fields of a locked block (R9). -/
def State.lockViolated (s : State) (k : RegKind) (m : Word64) : Bool :=
  s.locked k && decide (accMask (fun f => decide (f.acc = .rwl)) k.fields &&& m ≠ 0)

/-- The register at an offset as it stood when the present cycle began (R11; log entry 67). -/
def State.beforeRd (s : State) (off : Nat) : Word64 := kget regReset s.before off

/-- The present cycle ends, and the next begins. -/
def State.nextCycle (s : State) : State := { s with before := s.regs }

/-- A write of the bits `m` of the register at an offset, by access type alone; an offset with no register ignores it (R500). No two writes
fall in one cycle (log entry 67). -/
def State.writePlain (s : State) (off : Nat) (v m : Word64) : State :=
  match locate off with
  | none => s
  | some (k, _, _) =>
    let s' := s.wr off (writeWord k.fields (s.locked k) (s.beforeRd off) (s.rd off) v m)
    (if s.lockViolated k m then s'.bump safLockViolCount SAF_LOCK_VIOL_COUNT_COUNT else s').nextCycle

/-- A write of a whole register. -/
def State.writeAll (s : State) (off : Nat) (v : Word64) : State := s.writePlain off v (~~~0)

/-! ### Resets of registers -/

/-- The strength of a reset (R14); a Cleared by code of `never` is reached by none. CHN and LNK reset only their own. -/
def rstRank : Rst → Nat
  | .por => 5
  | .mod => 4
  | .hot => 3
  | .soft => 2
  | .chn => 1
  | .lnk => 1
  | .never => 6

/-- Whether a reset returns a field with this Cleared by code to its reset value (R15): the code names that reset or a weaker one. -/
def rstClears (r clr : Rst) : Bool :=
  if r = .chn ∨ r = .lnk then decide (clr = r) else decide (clr ≠ .never ∧ rstRank clr ≤ rstRank r)

/-- A register after a reset: the fields the reset clears hold their reset values (R15). -/
def resetWord (r : Rst) (fs : List FieldDef) (dflt old : Word64) : Word64 :=
  let m := accMask (fun f => rstClears r f.clr) fs
  (old &&& ~~~m) ||| (dflt &&& m)

/-- Every register within a reset's scope returns the fields it clears to their reset values; only registers listed can differ. -/
def State.resetRegs (s : State) (r : Rst) (scope : Nat → Bool) : State :=
  (s.regs.map (·.1)).foldl (fun s off =>
    if scope off then
      match locate off with
      | some (k, _, _) => s.wr off (resetWord r k.fields (regReset off) (s.rd off))
      | none => s
    else s) s

end Sys2Proof.Machine
end

