-- ==== Sys2Proof/Machine/Float.lean ====
section
/-!
DEFINITION. Number formats and rounding: the value of an encoding (R40, R41, R43), rounding to a format (R59 to R62), and the FP32
arithmetic of the vector unit (R66). Everything is computed exactly and rounded once.
-/

namespace Sys2Proof.Machine

/-- What an encoding means (R41, R51): a finite value with its sign (zeros keep theirs), an infinity or a NaN. The value of
`fin neg m w` is m × 2^w, negated when `neg`. -/
inductive Num where
  | fin (neg : Bool) (m : Nat) (w : Int)
  | inf (neg : Bool)
  | nan
  deriving DecidableEq, Repr

/-- Bits in the exponent field and in the fraction field of a floating-point format code (R40). -/
def fmtEF (code : Nat) : Nat × Nat :=
  match code with
  | 2 => (2, 1)
  | 3 => (2, 3)
  | 4 => (3, 2)
  | 5 => (4, 3)
  | 6 => (5, 2)
  | 8 => (8, 7)
  | 9 => (5, 10)
  | _ => (8, 23)

/-- The bias of a floating-point format code (R40): 2^(e-1) - 1. -/
def fmtBias (code : Nat) : Int := 2 ^ ((fmtEF code).1 - 1) - 1

/-- Bits of one element of a format code (R40). -/
def fmtBits (code : Nat) : Nat :=
  match code with
  | 0 => 4
  | 1 => 8
  | 7 => 8
  | 11 => 96
  | c => 1 + (fmtEF c).1 + (fmtEF c).2

/-- The encoding of the largest finite magnitude of a floating-point format (R40, R59). -/
def fmtMaxEnc (code : Nat) : Nat :=
  match code with
  | 2 | 3 | 4 => 2 ^ ((fmtEF code).1 + (fmtEF code).2) - 1
  | 5 => 0x7E
  | c => (2 ^ (fmtEF c).1 - 1) * 2 ^ (fmtEF c).2 - 1

/-- A two's-complement number of `b` bits. -/
def toSigned (b n : Nat) : Int := if n < 2 ^ (b - 1) then n else (n : Int) - 2 ^ b

/-- The value of a floating-point encoding (R41). -/
def decodeFp (code bits : Nat) : Num :=
  let e := (fmtEF code).1
  let f := (fmtEF code).2
  let neg := bits / 2 ^ (e + f) % 2 = 1
  let ex := bits / 2 ^ f % 2 ^ e
  let fr := bits % 2 ^ f
  if code = 5 ∧ ex = 15 ∧ fr = 7 then .nan
  else if 6 ≤ code ∧ ex = 2 ^ e - 1 then (if fr = 0 then .inf neg else .nan)
  else if ex = 0 then .fin neg fr (1 - fmtBias code - f)
  else .fin neg (2 ^ f + fr) (ex - fmtBias code - f)

/-- The value of an element of any format but the wide partial (R40, R41). -/
def decodeElem (code bits : Nat) : Num :=
  match code with
  | 0 => .fin (decide (toSigned 4 bits < 0)) (toSigned 4 bits).natAbs 0
  | 1 => .fin (decide (toSigned 8 bits < 0)) (toSigned 8 bits).natAbs 0
  | 7 => .fin (decide (toSigned 8 bits < 0)) (toSigned 8 bits).natAbs (-6)
  | c => decodeFp c bits

/-- Bits needed to write a natural number. -/
def bitLen (n : Nat) : Nat := if n = 0 then 0 else Nat.log2 n + 1

/-- The weight of the leading bit of m × 2^w, for m not 0. -/
def leadOf (m : Nat) (w : Int) : Int := (bitLen m : Int) - 1 + w

/-- Rounding modes (R63, MODE of R90 and R91). -/
inductive RMode where
  | rne | rtz | sr
  deriving DecidableEq, Repr

/-- The mode a MODE field names (R90). -/
def rmodeOf (b : BitVec 2) : RMode := if b = 1 then .rtz else if b = 2 then .sr else .rne

/-- The kept part of m × 2^w in units of 2^q, rounded in a mode, and whether anything was lost (the middle of R60). -/
def roundUnits (m : Nat) (w q : Int) (mode : RMode) (r : Nat) : Nat × Bool :=
  if q ≤ w then (m * 2 ^ (w - q).toNat, false)
  else
    let d := (q - w).toNat
    let k := m / 2 ^ d
    let rest := m % 2 ^ d
    let up := match mode with
      | .rne => decide (2 ^ d < 2 * rest ∨ (2 * rest = 2 ^ d ∧ k % 2 = 1))
      | .rtz => false
      | .sr => decide (r < rest * 2 ^ 32 / 2 ^ d)
    (if up then k + 1 else k, decide (rest ≠ 0))

/-- The sign bit of a floating-point format, when set. -/
def signBit (code : Nat) (neg : Bool) : Nat := if neg then 2 ^ ((fmtEF code).1 + (fmtEF code).2) else 0

/-- The overflow result of R61; `mx` for an element of an MX format. -/
def overflowBits (code : Nat) (neg mx sat : Bool) (mode : RMode) : Nat :=
  signBit code neg +
    (if mx || sat || decide (mode = .rtz) || decide (code ≤ 4) then fmtMaxEnc code
     else fmtMaxEnc code + 1)

/-- Rounds m × 2^w, negated when `neg`, to a floating-point format (R60, R61). An exact zero takes the sign `neg` here: the callers
that follow R60 pass false for it. -/
def roundFp (code : Nat) (mx sat : Bool) (mode : RMode) (r : Nat) (neg : Bool) (m : Nat) (w : Int) : Nat × RndInfo :=
  if m = 0 then (signBit code neg, ⟨false, false, false, false⟩)
  else
    let f := (fmtEF code).2
    let emin : Int := 1 - fmtBias code
    let lead := leadOf m w
    let q := max lead emin - f
    let (k, lost) := roundUnits m w q mode r
    let ku := (roundUnits m w (lead - f) mode r).1
    let tiny := decide (lead + (if ku = 2 ^ (f + 1) then 1 else 0) < emin)
    let enc : Nat := if k < 2 ^ f then k else k - 2 ^ f + ((q + f + fmtBias code).toNat) * 2 ^ f
    if fmtMaxEnc code < enc then (overflowBits code neg mx sat mode, ⟨true, false, true, false⟩)
    else (signBit code neg + enc, ⟨false, decide (k = 0), lost, tiny⟩)

/-- Rounds to the MXINT8 element format (R62): a multiple of 2^-6, clamped to -2 to 1.984375. -/
def roundMxInt (mode : RMode) (r : Nat) (neg : Bool) (m : Nat) (w : Int) : Nat × RndInfo :=
  let (k, lost) := roundUnits m w (-6) mode r
  if neg then
    if 128 < k then (128, ⟨true, false, true, false⟩)
    else ((256 - k) % 256, ⟨false, decide (k = 0 ∧ m ≠ 0), lost, false⟩)
  else
    if 127 < k then (127, ⟨true, false, true, false⟩)
    else (k, ⟨false, decide (k = 0 ∧ m ≠ 0), lost, false⟩)

/-- Rounds one element of an MX block (R62), the value already divided by the block's scale. -/
def roundMxElem (code : Nat) (sat : Bool) (mode : RMode) (r : Nat) (neg : Bool) (m : Nat) (w : Int) : Nat × RndInfo :=
  if code = 7 then roundMxInt mode r neg m w else roundFp code true sat mode r neg m w

/-- e_elem of R62. -/
def mxElemExp (code : Nat) : Int :=
  match code with
  | 5 => 8
  | 6 => 15
  | 3 => 2
  | 4 => 4
  | 2 => 2
  | _ => 0

/-- The scale exponent X of R62 for a block of magnitudes, given as pairs (m, w). -/
def mxScaleExp (code : Nat) (vals : List (Nat × Int)) : Int :=
  match vals.filter (fun v => v.1 ≠ 0) with
  | [] => -127
  | v :: vs =>
    let lead := vs.foldl (fun a x => max a (leadOf x.1 x.2)) (leadOf v.1 v.2)
    max (-127) (min 127 (lead - mxElemExp code))

/-- The canonical quiet NaN of a format (R66). -/
def canonNan (code : Nat) : Nat :=
  match code with
  | 8 => 0x7FC0
  | 9 => 0x7E00
  | 6 => 0x7E
  | 5 => 0x7F
  | _ => 0x7FC00000

/-- The infinity of a format that has one (R40). -/
def infBits (code : Nat) (neg : Bool) : Nat := signBit code neg + fmtMaxEnc code + 1

/-- Stochastic-rounding random value (R64). -/
def srRandom (seed rank stream index : Nat) : Nat :=
  let mask (x : Nat) : Nat := x % 2 ^ 64
  let ctr := mask (rank <<< 49 ||| (stream % 2 ^ 24) <<< 25 ||| index % 2 ^ 25)
  let z := mask (seed + ctr * 0x9E3779B97F4A7C15)
  let z := mask ((z ^^^ (z >>> 30)) * 0xBF58476D1CE4E5B9)
  let z := mask ((z ^^^ (z >>> 27)) * 0x94D049BB133111EB)
  let z := z ^^^ (z >>> 31)
  z >>> 32

/-! FP32 arithmetic (R66). A result is the 32-bit encoding with the flags it sets. -/

/-- The canonical NaN of FP32. -/
def nan32 : Nat := 0x7FC00000

/-- Rounds to FP32 in RNE or RTZ (R66). -/
def round32 (mode : RMode) (neg : Bool) (m : Nat) (w : Int) : Nat × AFlags :=
  let (b, i) := roundFp 10 false false mode 0 neg m w
  (b, i.vecFlags)

/-- Invalid operation: the canonical NaN and VEC_INVALID (R66). -/
def invalid32 : Nat × AFlags := (nan32, afInvalid)

/-- The exact sum of two finite values, with IEEE 754's sign of zero for RNE and RTZ. -/
def addFin (na : Bool) (ma : Nat) (wa : Int) (nb : Bool) (mb : Nat) (wb : Int) : Bool × Nat × Int :=
  let w := min wa wb
  let a : Int := (ma * 2 ^ (wa - w).toNat : Nat)
  let b : Int := (mb * 2 ^ (wb - w).toNat : Nat)
  let s := (if na then -a else a) + (if nb then -b else b)
  (if s = 0 then na && nb else decide (s < 0), s.natAbs, w)

/-- FP32 addition of decoded values. -/
def addNum (mode : RMode) (a b : Num) : Nat × AFlags :=
  match a, b with
  | .nan, _ => (nan32, 0)
  | _, .nan => (nan32, 0)
  | .inf x, .inf y => if x = y then (infBits 10 x, 0) else invalid32
  | .inf x, .fin .. => (infBits 10 x, 0)
  | .fin .., .inf y => (infBits 10 y, 0)
  | .fin na ma wa, .fin nb mb wb =>
    let (n, m, w) := addFin na ma wa nb mb wb
    round32 mode n m w

/-- The value with its sign changed. -/
def negNum (a : Num) : Num :=
  match a with
  | .fin n m w => .fin (!n) m w
  | .inf n => .inf (!n)
  | .nan => .nan

/-- FP32 multiplication of decoded values. -/
def mulNum (mode : RMode) (a b : Num) : Nat × AFlags :=
  match a, b with
  | .nan, _ => (nan32, 0)
  | _, .nan => (nan32, 0)
  | .inf x, .inf y => (infBits 10 (x != y), 0)
  | .inf x, .fin y m _ => if m = 0 then invalid32 else (infBits 10 (x != y), 0)
  | .fin x m _, .inf y => if m = 0 then invalid32 else (infBits 10 (x != y), 0)
  | .fin x ma wa, .fin y mb wb => round32 mode (x != y) (ma * mb) (wa + wb)

/-- FP32 fused multiply-add of decoded values (R91): one rounding of a × b + c. `nanInv` is whether 0 × infinity + NaN signals
invalid, which IEEE 754 leaves to the implementation and the manual does not say. -/
def fmaNum (mode : RMode) (nanInv : Bool) (a b c : Num) : Nat × AFlags :=
  match a, b, c with
  | .nan, _, _ => (nan32, 0)
  | _, .nan, _ => (nan32, 0)
  | .inf _, .fin _ 0 _, .nan => (nan32, afIf nanInv afInvalid)
  | .fin _ 0 _, .inf _, .nan => (nan32, afIf nanInv afInvalid)
  | _, _, .nan => (nan32, 0)
  | .inf _, .fin _ 0 _, _ => invalid32
  | .fin _ 0 _, .inf _, _ => invalid32
  | .inf x, .inf y, c => addNum mode (.inf (x != y)) c
  | .inf x, .fin y _ _, c => addNum mode (.inf (x != y)) c
  | .fin x _ _, .inf y, c => addNum mode (.inf (x != y)) c
  | .fin _ _ _, .fin _ _ _, .inf z => (infBits 10 z, 0)
  | .fin x ma wa, .fin y mb wb, .fin z mc wc =>
    let (n, m, w) := addFin (x != y) (ma * mb) (wa + wb) z mc wc
    round32 mode n m w

/-- A quotient with a sticky bit: floor(a × 2^k / b) doubled, plus 1 when the division leaves a rest. -/
def stickyDiv (a b k : Nat) : Nat :=
  2 * (a * 2 ^ k / b) + (if a * 2 ^ k % b = 0 then 0 else 1)

/-- FP32 division of decoded values (R66). -/
def divNum (mode : RMode) (a b : Num) : Nat × AFlags :=
  match a, b with
  | .nan, _ => (nan32, 0)
  | _, .nan => (nan32, 0)
  | .inf _, .inf _ => invalid32
  | .inf x, .fin y _ _ => (infBits 10 (x != y), 0)
  | .fin x _ _, .inf y => (signBit 10 (x != y), 0)
  | .fin x ma wa, .fin y mb wb =>
    if mb = 0 then (if ma = 0 then invalid32 else (infBits 10 (x != y), afDivzero))
    else round32 mode (x != y) (stickyDiv ma mb 64) (wa - wb - 65)

/-- The integer square root, bit by bit from bit `k` - 1 down. -/
def isqrtAux (n : Nat) : Nat → Nat → Nat
  | 0, acc => acc
  | k + 1, acc => isqrtAux n k (if (acc + 2 ^ k) * (acc + 2 ^ k) ≤ n then acc + 2 ^ k else acc)

/-- The integer part of the square root. -/
def isqrt (n : Nat) : Nat := isqrtAux n (bitLen n / 2 + 1) 0

/-- The square root of m × 2^w with a sticky bit: a pair (m', w'). -/
def stickySqrt (m : Nat) (w : Int) : Nat × Int :=
  let k : Nat := 128 + (w % 2).toNat
  let n := m * 2 ^ k
  let r := isqrt n
  (2 * r + (if r * r = n then 0 else 1), (w - k) / 2 - 1)

/-- FP32 square root of a decoded value (R66). -/
def sqrtNum (mode : RMode) (a : Num) : Nat × AFlags :=
  match a with
  | .nan => (nan32, 0)
  | .inf false => (infBits 10 false, 0)
  | .inf true => invalid32
  | .fin neg m w =>
    if m = 0 then (signBit 10 neg, 0)
    else if neg then invalid32
    else
      let (r, w') := stickySqrt m w
      round32 mode false r w'

/-- A comparison of decoded values for VCMP and VMAX: a < b, for numbers that are not NaN. Zeros are equal. -/
def ltNum (a b : Num) : Bool :=
  match a, b with
  | .inf true, .inf true => false
  | .inf true, _ => true
  | .inf false, _ => false
  | .fin .., .inf n => !n
  | .fin na ma wa, .fin nb mb wb =>
    let (n, m, _) := addFin na ma wa (!nb) mb wb
    n && decide (m ≠ 0)
  | _, _ => false

/-- Equality of decoded values that are not NaN; +0 and -0 are equal (R91). -/
def eqNum (a b : Num) : Bool :=
  match a, b with
  | .nan, _ => false
  | _, .nan => false
  | a, b => !ltNum a b && !ltNum b a

/-- Whether a decoded value is NaN. -/
def isNan (a : Num) : Bool :=
  match a with
  | .nan => true
  | _ => false

end Sys2Proof.Machine
end

