-- ==== Sys2Proof/Machine/Operands.lean ====
section
/-!
DEFINITION. Operand forms of the slots (R85, R90 to R99): which slot an operation stands in, the encoding rules of R86 with the fields each
operation uses, the channel SRAM addresses it touches (R77), and reading and writing registers and channel SRAM.
-/

namespace Sys2Proof.Machine

/-! ### Registers of a channel (R76) -/

/-- A scalar register; S0 reads 0 (R76). -/
def Chan.s (c : Chan) (r : Nat) : Word64 := if r = 0 then 0 else kget (fun _ => 0) c.sregs r

/-- Writes a scalar register; writes to S0 are ignored (R76). -/
def Chan.setS (c : Chan) (r : Nat) (v : Word64) : Chan :=
  if r = 0 then c else { c with sregs := kset (fun _ => 0) c.sregs r v }

/-- A vector register of zeros. -/
def zeroLanes : List (BitVec 32) := List.replicate 1024 0

/-- A vector register: 1,024 lanes. -/
def Chan.v (c : Chan) (r : Nat) : List (BitVec 32) := kget (fun _ => zeroLanes) c.vregs r

/-- Writes a vector register. -/
def Chan.setV (c : Chan) (r : Nat) (l : List (BitVec 32)) : Chan := { c with vregs := kset (fun _ => zeroLanes) c.vregs r l }

/-- The bytes of lanes, little-endian (R76). -/
def laneBytes (l : List (BitVec 32)) : List Byte := (l.map fun x => leBytes 4 x.toNat).flatten

/-- `n` lanes from bytes. -/
def lanesOf (n : Nat) (b : List Byte) : List (BitVec 32) := (chunks 4 n b).map fun x => BitVec.ofNat 32 (leNat x)

/-! ### Channel SRAM (R77, R82) -/

/-- Bytes of channel SRAM (R77). -/
def sramSize : Nat := 0x3000000

/-- The physical bank that serves a logical bank under a map (R82, R133); U0 before U1. -/
def physBank (map : Word64) (b : Nat) : Nat :=
  if getF map CH_BANK_MAP_U0_EN = 1 ∧ getF map CH_BANK_MAP_U0_LOGICAL = b then 64
  else if getF map CH_BANK_MAP_U1_EN = 1 ∧ getF map CH_BANK_MAP_U1_LOGICAL = b then 65
  else b

/-- The logical bank of an address (R77). -/
def bankOf (addr : Nat) : Nat := addr / 64 % 64

/-- The place of a byte in the physical banks (R77, R82). -/
def physByte (map : Word64) (addr : Nat) : Nat := physBank map (bankOf addr) * 786432 + addr / 4096 * 64 + addr % 64

/-- The bank map in use (R82): the applied one while the channel runs, CH_BANK_MAP otherwise. -/
def State.bankMap (s : State) (n : Fin 8) : Word64 := if s.running n then (s.chan n).applied.bankMap else s.rd (chBankMap n)

/-- `len` bytes of channel SRAM under a map. -/
def Chan.sramRead (c : Chan) (map : Word64) (addr len : Nat) : List Byte :=
  (List.range len).map fun i => kget (fun _ => 0) c.sram (physByte map (addr + i))

/-- Writes bytes to channel SRAM under a map. -/
def Chan.sramWrite (c : Chan) (map : Word64) (addr : Nat) : List Byte → Chan
  | [] => c
  | b :: bs => Chan.sramWrite { c with sram := kset (fun _ => 0) c.sram (physByte map addr) b } map (addr + 1) bs

/-- The granules that `len` bytes at an address touch. -/
def granules (addr len : Nat) : List Nat :=
  if len = 0 then [] else (List.range ((addr + len - 1) / 64 - addr / 64 + 1)).map (· + addr / 64)

/-- Whether `len` bytes at an address lie within channel SRAM (R77). -/
def inSram (r : Nat × Nat) : Bool := decide (r.1 + r.2 ≤ sramSize)

/-! ### Slots and encoding rules -/

/-- The slot of an operation, coded as SLOT_A of R161. -/
def Op.slot : Op → Nat
  | .loadw f => 1 + f.grp
  | .pass f => 1 + f.grp
  | .drain f => 1 + f.grp
  | .loadacc f => 1 + f.grp
  | .vec _ f => 3 + f.slot
  | .sf _ _ => 5
  | .ldv f => 6 + f.slot
  | .stv f => 6 + f.slot
  | .lds f => 6 + f.slot
  | .sts f => 6 + f.slot
  | .qwait f => 8 + f.slot
  | .qrel f => 8 + f.slot
  | .qcommit f => 8 + f.slot
  | .qstart f => 8 + f.slot
  | .nsend _ => 10
  | .nrecv _ => 10
  | .ctl _ _ => 11

/-- The logical engines a mask selects in a group (R90, R103). -/
def engines (grp : Nat) (mask : BitVec 8) : List Nat := (maskList 8 mask.toNat).map (· + 8 * grp)

/-- Operand formats of eight bits or fewer (R47). -/
def isNarrow (fmt : Nat) : Bool := decide (fmt ≤ 7)

/-- BF16 and FP16. -/
def is16 (fmt : Nat) : Bool := decide (fmt = 8 ∨ fmt = 9)

/-- Formats whose operand may carry block scales (R47). -/
def mayScale (fmt : Nat) : Bool := decide (2 ≤ fmt ∧ fmt ≤ 7)

/-- The physical engine that serves a logical one (R103): TE16 where the applied CH_TE_MAP names it as replaced. -/
def Chan.phys (c : Chan) (e : Nat) : Nat :=
  if getF c.applied.teMap CH_TE_MAP_REPLACE_EN = 1 ∧ getF c.applied.teMap CH_TE_MAP_REPLACED = e then 16 else e

/-- Whether the tile an engine takes active next carries scales: that of a LOADW in flight, else the standby buffer. -/
def Chan.nextMx (c : Chan) (e : Nat) : Bool :=
  match c.jobs.reverse.findSome? (fun j => match j.2.op with
    | .loadw e' _ mx => if e' = e then some mx else none
    | _ => none) with
  | some mx => mx
  | none => (kget (fun _ => ⟨[], [], false⟩) c.standby (c.phys e)).mx

/-- The kind bit of an accumulator row of a logical engine (R108). -/
def Chan.kindBit (c : Chan) (e row : Nat) : Bool := kget (fun _ => false) c.kind (c.phys e * 256 + row)

/-- Format codes that VCVT, VUNPK and VWRND accept (R91). -/
def vecFmtOk (fmt : Nat) (mx : Bool) : Bool :=
  if mx then decide (2 ≤ fmt ∧ fmt ≤ 7) else decide ((2 ≤ fmt ∧ fmt ≤ 6) ∨ (8 ≤ fmt ∧ fmt ≤ 10))

/-- The fields of a vector operation that it does not use are 0 (R86, R91, R99), given as whether it uses VD, VA, VB, VC, FMT, MX, MODE,
SAT and SX. -/
def vecUnused (f : VecF) (d a b c fm m mo sa sx : Bool) : Bool :=
  (d || f.vd = 0) && (a || f.va = 0) && (b || f.vb = 0) && (c || f.vc = 0) && (fm || f.fmt = 0) && (m || !f.mx) &&
    (mo || f.mode = 0) && (sa || !f.sat) && (sx || f.sx = 0) && f.rsv = 0

/-- The encoding rules of a vector operation (R91 to R93). -/
def vecLegal (o : VOp) (f : VecF) : Bool :=
  let fp := f.mode.toNat < 2
  let cv := decide (f.mode.toNat < 3) && vecFmtOk f.fmt.toNat f.mx
  match o with
  | .vadd | .vsub | .vmul | .vdiv => vecUnused f true true true false false false true false false && fp
  | .vfma => vecUnused f true true true true false false true false false && fp
  | .vsqrt => vecUnused f true true false false false false true false false && fp
  | .vmax | .vmin | .viadd | .visub | .viand | .vior | .vixor | .vishl | .vishr | .vshuf =>
    vecUnused f true true true false false false false false false
  | .vcmp => vecUnused f true true true false true false false false false && decide (f.fmt.toNat < 4)
  | .vsel => vecUnused f true true true true false false false false false
  | .vcvt => vecUnused f true true false false true true true true true && cv
  | .vunpk => vecUnused f true true false false true true false false false && vecFmtOk f.fmt.toNat f.mx
  | .vwadd => vecUnused f true true true false false false false false false && decide (f.vd.toNat ≤ 29 ∧ f.va.toNat ≤ 29 ∧ f.vb.toNat ≤ 29)
  | .vwrnd => vecUnused f true true false false true true true true true && cv && decide (f.va.toNat ≤ 29)
  | .vrsum => vecUnused f true true false false false false false false false
  | .vbcast => vecUnused f true false false false false false false false true
  | .vmovs => vecUnused f false true false false false false false false true
  | .xfill => vecUnused f true true false false false false false false false && decide (f.slot = 0)
  | .xreset => vecUnused f false false false false false false false false false && decide (f.slot = 0)
  | .xread => vecUnused f true false false false false false false false false && decide (f.slot = 0)

/-- The encoding rules of a control operation (R99). -/
def ctlLegal (o : COp) (f : CtlF) : Bool :=
  match o with
  | .cue => decide (f.imm.toNat < 16 ∧ f.sd = 0 ∧ f.sa = 0 ∧ f.sb = 0)
  | .cueset => decide (f.sd.toNat < 16 ∧ f.sb = 0)
  | .sadd | .ssub | .smul | .sand | .sor | .sxor | .sshl | .sshr | .ssra | .scmplt => decide (f.imm = 0)
  | .saddi => decide (f.sb = 0)
  | .slui => decide (f.sa = 0 ∧ f.sb = 0)
  | .br => decide (f.imm.toNat < 32768 ∧ f.sd = 0 ∧ f.sa = 0 ∧ f.sb = 0)
  | .beqz | .bnez => decide (f.imm.toNat < 32768 ∧ f.sd = 0 ∧ f.sb = 0)
  | .intermit | .halt => decide (f.imm = 0 ∧ f.sd = 0 ∧ f.sa = 0 ∧ f.sb = 0)
  | .signal => decide (f.sd = 0 ∧ f.sa = 0 ∧ f.sb = 0)

/-- The encoding rules of PASS (R47, R54, R90, R108). A weight operand is MX when its format may carry scales and the tile has them. -/
def passLegal (c : Chan) (f : PassF) : Bool :=
  let a := f.fmtA.toNat
  let w := f.fmtW.toNat
  ((isNarrow a && isNarrow w) || (is16 a && is16 w)) && (f.ss = 0 || mayScale a) &&
    decide (f.accRow.toNat + f.rowsM1.toNat ≤ 255) && !(f.cont && is16 a) && f.rsv = 0 &&
    (f.anchor = 0 || f.ss ≠ 0 || (mayScale w && (engines f.grp f.eng).all c.nextMx))

/-- The encoding rules of DRAIN (R90, R109). -/
def drainLegal (c : Chan) (f : DrainF) : Bool :=
  let o := f.fmtO.toNat
  let fmtOk := if f.mx then decide (2 ≤ o ∧ o ≤ 7) else decide (o = 5 ∨ o = 6 ∨ (8 ≤ o ∧ o ≤ 11))
  let wide := (engines f.grp f.eng).any fun e => (List.range (f.rowsM1.toNat + 1)).any fun i => c.kindBit e (f.accRow.toNat + i)
  fmtOk && decide (f.mode ≠ 3) && decide (f.accRow.toNat + f.rowsM1.toNat ≤ 255) && f.rsv = 0 && (f.mx || f.ss = 0) &&
    (!wide || (!f.mx && decide (8 ≤ o ∧ o ≤ 10)))

/-- Whether one operation keeps the encoding rules (R86). -/
def Op.legal (c : Chan) : Op → Bool
  | .loadw f => (isNarrow f.fmtW.toNat || is16 f.fmtW.toNat) && (f.ss = 0 || mayScale f.fmtW.toNat) && f.rsv = 0
  | .pass f => passLegal c f
  | .drain f => drainLegal c f
  | .loadacc f => decide (f.accRow.toNat + f.rowsM1.toNat ≤ 255) && f.rsvLo = 0 && f.rsv = 0
  | .vec o f => vecLegal o f
  | .sf _ f => f.rsv = 0
  | .ldv f => f.sd = 0 && f.rsv = 0
  | .stv f => f.sd = 0 && f.rsv = 0
  | .lds f => f.v = 0 && f.rsv = 0
  | .sts f => f.v = 0 && f.rsv = 0
  | .qwait f => decide (f.q.toNat < 24) && f.rsv = 0
  | .qrel f => decide (f.q.toNat < 16) && f.cue = 0 && f.rsv = 0
  | .qcommit f => decide (16 ≤ f.q.toNat ∧ f.q.toNat < 24) && f.cue = 0 && f.rsv = 0
  | .qstart f => decide (f.q.toNat < 24 ∧ f.count.toNat < 64) && f.cue = 0 && f.rsv = 0
  | .nsend _ => true
  | .nrecv f => f.circuit = 0 && f.cue = 0 && f.slot = 0
  | .ctl o f => ctlLegal o f

/-- Operations of the FMA array (R86, R91). -/
def Op.isFma : Op → Bool
  | .vec o _ => match o with
    | .vadd | .vsub | .vmul | .vfma => true
    | _ => false
  | _ => false

/-- Branches (R87). -/
def Op.isBranch : Op → Bool
  | .ctl o _ => match o with
    | .br | .beqz | .bnez => true
    | _ => false
  | _ => false

/-- Whether a bundle keeps the encoding rules (R86, R87): FORMAT 1 with the reserved header bits 0, every opcode one of its table and every
slot legal, one FMA operation at most, no branch in a branch shadow. -/
def Bundle.legal (c : Chan) (b : Bundle) : Bool :=
  decide (b.hdr = 1) && !b.bad && b.ops.all (Op.legal c) && decide ((b.ops.filter Op.isFma).length ≤ 1) &&
    !(decide (c.shadowLeft ≠ 0) && b.ops.any Op.isBranch)

/-! ### Registers an operation reads -/

/-- The scalar registers an operation reads in its issue cycle (R84, R90 to R99). -/
def Op.sReads : Op → List Nat
  | .loadw f => [f.sa.toNat, f.ss.toNat]
  | .pass f => [f.sa.toNat, f.ss.toNat]
  | .drain f => [f.sa.toNat, f.ss.toNat, f.sx.toNat]
  | .loadacc f => [f.sa.toNat]
  | .vec o f => match o with
    | .vcvt | .vwrnd | .vbcast | .vmovs => [f.sx.toNat]
    | _ => []
  | .sf _ _ => []
  | .ldv f => [f.sa.toNat]
  | .stv f => [f.sa.toNat]
  | .lds f => [f.sa.toNat]
  | .sts f => [f.sa.toNat, f.sd.toNat]
  | .qstart f => [f.count.toNat % 64]
  | .nsend f => [f.sa.toNat]
  | .nrecv f => [f.sa.toNat]
  | .ctl o f => match o with
    | .cueset | .saddi | .beqz | .bnez => [f.sa.toNat]
    | .slui => [f.sd.toNat]
    | .sadd | .ssub | .smul | .sand | .sor | .sxor | .sshl | .sshr | .ssra | .scmplt => [f.sa.toNat, f.sb.toNat]
    | _ => []
  | _ => []

/-- The vector registers an operation reads. -/
def Op.vReads : Op → List Nat
  | .vec o f => match o with
    | .vfma | .vsel => [f.va.toNat, f.vb.toNat, f.vc.toNat]
    | .vwadd => [f.va.toNat, f.va.toNat + 1, f.va.toNat + 2, f.vb.toNat, f.vb.toNat + 1, f.vb.toNat + 2]
    | .vwrnd => [f.va.toNat, f.va.toNat + 1, f.va.toNat + 2]
    | .vsqrt | .vcvt | .vunpk | .vrsum | .vmovs | .xfill => [f.va.toNat]
    | .vbcast | .xreset | .xread => []
    | _ => [f.va.toNat, f.vb.toNat]
  | .sf _ f => [f.va.toNat]
  | .stv f => [f.v.toNat]
  | _ => []

/-- A register with the errors of a word of it decoded: the channel an operation then reads, and what was found (R81). Register S0 is no
storage. -/
def Chan.readErr (c : Chan) (b : Bundle) (x : ReadErr) : Chan × WordOut :=
  match x.src with
  | .sreg r =>
    if r ≠ 0 ∧ b.ops.any (fun o => o.sReads.contains r) then
      let (v, o) := readWord (c.s r) x.err
      (c.setS r v, o)
    else (c, .clean)
  | .vreg r =>
    if x.word < 512 ∧ b.ops.any (fun o => o.vReads.contains r) then
      let l := c.v r
      let (v, o) := readWord (nth 0 l (2 * x.word + 1) ++ nth 0 l (2 * x.word)) x.err
      (c.setV r ((l.set (2 * x.word) (v.setWidth 32)).set (2 * x.word + 1) (v.extractLsb' 32 32)), o)
    else (c, .clean)
  | _ => (c, .clean)

/-- The channel as the operations of a bundle read its registers, and what was found in each word read with errors. -/
def Chan.readRegs (c : Chan) (b : Bundle) : Chan × List WordOut :=
  b.errs.foldl (fun acc x =>
    let (c, o) := acc.1.readErr b x
    (c, acc.2 ++ [o])) (c, [])

/-- The words of channel SRAM that a bundle's operations read with errors. -/
def Bundle.sramErrs (b : Bundle) : EccObs :=
  b.errs.filterMap fun x => if x.src = .sram then some (x.word, x.err) else none

/-- The same of a row of an accumulator file. -/
def accErrs (l : List ReadErr) (e row : Nat) : EccObs :=
  l.filterMap fun x => if x.src = .acc e row then some (x.word, x.err) else none

/-! ### Addresses -/

/-- Bytes of an activation row (R106). -/
def actRowBytes (fmt : Nat) : Nat := 256 * fmtBits fmt / 8

/-- Bytes of a weight tile (R105, R106). -/
def tileBytes (fmt : Nat) : Nat := 256 * 128 * fmtBits fmt / 8

/-- Bytes of an output row of 128 elements (R109). -/
def outRowBytes (fmt : Nat) : Nat := 128 * fmtBits fmt / 8

/-- The wider operand of a pass decides its rate (R106): bits. -/
def passWidth (fa fw : Nat) : Nat := max (fmtBits fa) (fmtBits fw)

/-- The address of a memory slot (R96): S[SA] + scale × OFFS, low bits ignored. -/
def memAddr (c : Chan) (f : MemF) (scale align : Nat) : Nat :=
  ((c.s f.sa.toNat).toInt + f.offs.toInt * scale).toNat / align * align

/-- The same address when the sum is negative: it wraps, and lies outside channel SRAM. -/
def memAddrOk (c : Chan) (f : MemF) (scale : Nat) : Bool := decide (0 ≤ (c.s f.sa.toNat).toInt + f.offs.toInt * scale)

/-- Every channel SRAM range an operation will touch (R77), as address and length. -/
def Op.touches (c : Chan) : Op → List (Nat × Nat)
  | .loadw f =>
    let sz := tileBytes f.fmtW.toNat
    (maskList 8 f.eng.toNat).flatMap fun j =>
      ((c.s f.sa.toNat).toNat + j * sz, sz) :: (if f.ss = 0 then [] else [((c.s f.ss.toNat).toNat + j * 1024, 1024)])
  | .pass f =>
    let n := f.rowsM1.toNat + 1
    if f.eng = 0 then []
    else ((c.s f.sa.toNat).toNat, n * actRowBytes f.fmtA.toNat) :: (if f.ss = 0 then [] else [((c.s f.ss.toNat).toNat, 8 * n)])
  | .drain f =>
    let n := f.rowsM1.toNat + 1
    let sz := n * outRowBytes f.fmtO.toNat
    (maskList 8 f.eng.toNat).flatMap fun j =>
      ((c.s f.sa.toNat).toNat + j * sz, sz) :: (if f.mx then [((c.s f.ss.toNat).toNat + j * 4 * n, 4 * n)] else [])
  | .loadacc f =>
    let sz := (f.rowsM1.toNat + 1) * 1536
    (maskList 8 f.eng.toNat).map fun j => ((c.s f.sa.toNat).toNat + j * sz, sz)
  | .ldv f => if memAddrOk c f 64 then [(memAddr c f 64 64, 4096)] else [(sramSize, 1)]
  | .stv f => if memAddrOk c f 64 then [(memAddr c f 64 64, 4096)] else [(sramSize, 1)]
  | .lds f => if memAddrOk c f 8 then [(memAddr c f 8 8, 8)] else [(sramSize, 1)]
  | .sts f => if memAddrOk c f 8 then [(memAddr c f 8 8, 8)] else [(sramSize, 1)]
  | .qstart f => [((c.s f.count.toNat).toNat, 32)]
  | .nsend f => (List.range (f.nflM1.toNat + 1)).map fun j => ((c.s f.sa.toNat).toNat + 256 * j, 232)
  | .nrecv f => (List.range (f.nflM1.toNat + 1)).map fun j => ((c.s f.sa.toNat).toNat + 256 * j, 232)
  | _ => []

end Sys2Proof.Machine
end

