-- ==== Sys2Proof/Machine/Arbiter.lean ====
section
/-!
DEFINITION. The arbiters (R191 to R197): rounds, reserved grants, boosts, masks, wait counts and starvation, with their registers
(R212, R222 to R225), and the accesses that need their grants.
-/

namespace Sys2Proof.Machine

/-- The key of an arbiter in State.arbs. -/
def arbKey : ArbId → Nat
  | .mem c => c
  | .bank n b => 128 + 64 * n + b

/-- The number of requesters (R191). -/
def arbSize : ArbId → Nat
  | .mem _ => 10
  | .bank _ _ => 5

def arbCtlOf : ArbId → Nat
  | .mem c => arbCtlM c
  | .bank n _ => arbCtlB n

def arbPrioOf : ArbId → Nat
  | .mem c => arbPrioM c
  | .bank n _ => arbPrioB n

def arbStatOf : ArbId → Nat
  | .mem c => arbStatM c
  | .bank n _ => arbStatB n

def arbCntOf (a : ArbId) (k : Nat) : Nat :=
  match a with
  | .mem c => arbCntM c k
  | .bank n _ => arbCntB n k

def arbLongestOf (a : ArbId) (k : Nat) : Nat :=
  match a with
  | .mem c => arbLongestM c k
  | .bank n _ => arbLongestB n k

/-- An arbiter's state. -/
def State.arb (s : State) (a : ArbId) : Arb := kget (fun _ => Arb.reset) s.arbs (arbKey a)

/-- Replaces an arbiter's state and shows it in ARB_STAT; the block of a channel's banks shows the bank that changed last (log entry 16). -/
def State.setArb (s : State) (a : ArbId) (x : Arb) : State :=
  let s := { s with arbs := kset (fun _ => Arb.reset) s.arbs (arbKey a) x }
  let mask := sumNat ((fins 10).map fun k => if x.reqs[k].masked then 2 ^ k.val else 0)
  (((s.setFld (arbStatOf a) ARB_STAT_HELD (b2n x.holder.isSome)).setFld (arbStatOf a) ARB_STAT_HOLDER (x.holder.getD 0)).setFld (arbStatOf a)
    ARB_STAT_MASK mask).setFld (arbStatOf a) ARB_STAT_GRANT_COUNT x.since

/-- Base priority of a requester (R223). -/
def State.arbBase (s : State) (a : ArbId) (k : Nat) : Nat := s.fld (arbPrioOf a) ⟨4 * k, 3⟩

/-- A requester's level (R192). -/
def State.arbLevel (s : State) (a : ArbId) (x : Arb) (k : Fin 10) : Nat := min 7 (s.arbBase a k + x.reqs[k].boost)

/-- N in effect (R222). -/
def State.arbN (s : State) (a : ArbId) : Nat := max 4 (min 64 (s.fld (arbCtlOf a) ARB_CTL_N))

/-- Sets STARVE for a requester (R196); STARVE_REQ names the one that set it. -/
def State.starve (s : State) (a : ArbId) (k : Nat) : State :=
  if s.flag (arbStatOf a) ARB_STAT_STARVE then s else (s.setFlag (arbStatOf a) ARB_STAT_STARVE).setFld (arbStatOf a) ARB_STAT_STARVE_REQ k

/-- Whether a requester's wait exceeds the threshold in force (R196). -/
def State.starved (s : State) (a : ArbId) (x : Arb) (k : Fin 10) : Bool :=
  let th := s.fld (arbCtlOf a) ARB_CTL_STARVE_THRESH
  match x.reqs[k].wait with
  | some w => decide (th ≠ 0 ∧ th < w)
  | none => false

/-- `dt` cycles of the arbiter pass: wait counts rise, and are compared with the threshold in force (R192, R196). -/
def State.arbPass (s : State) (a : ArbId) (dt : Nat) : State :=
  let x := s.arb a
  let x := { x with reqs := x.reqs.map fun r => { r with wait := r.wait.map (· + dt) } }
  let s := s.setArb a x
  match (fins 10).find? (s.starved a x) with
  | some k => s.starve a k
  | none => s

/-- The requesters that take part in a round. -/
def Arb.ready (x : Arb) : List (Fin 10) := (fins 10).filter fun k => x.reqs[k].asking && !x.reqs[k].masked

/-- The first of a list with the greatest value of `f`. -/
def bestOf (f : Fin 10 → Nat) : List (Fin 10) → Option (Fin 10)
  | [] => none
  | k :: l =>
    match bestOf f l with
    | some j => if f k < f j then some j else some k
    | none => some k

/-- Whether device memory takes accesses (R210, R211). -/
def State.memUsable (s : State) : Bool := s.flag mcStatus MC_STATUS_INIT_DONE && !s.mem.selfRefresh

/-- Whether the resource behind an arbiter is free in the present cycle for a grant: memory once it is usable (R210), a bank that no scheduled
access of its channel takes in this cycle (R79). -/
def State.arbFree (s : State) : ArbId → Bool
  | .mem _ => s.memUsable
  | .bank n b =>
    let c := s.chan n
    !(s.running n && decide (c.claimCycle = s.cycleNow n) && c.claims.any fun h => decide (h.1 = b.val))

/-- A requester raises its request and its wait count starts (R192); a masked one has none (R194), nor has one that holds or asks already. -/
def State.arbRaise (s : State) (a : ArbId) (k : Fin 10) : State :=
  let x := s.arb a
  let r := x.reqs[k]
  if (arbSize a) ≤ k.val ∨ r.masked ∨ r.asking ∨ x.holder = some k.val then s
  else s.setArb a { x with reqs := x.reqs.set k { r with asking := true, wait := some 0 } }

/-- ARB_REQUEST: a requester raises a request; its wait count starts (R192). A masked requester has none (R194). -/
def execArbRequest (a : ArbId) (k : Fin 10) (dt : Nat) (s : State) : Host.Outcome State Fault Refusal :=
  .next ((s.arbPass a dt).arbRaise a k)

/-- The grant of a round: winner, and whether it is the reserved grant (R192). -/
def State.arbPick (s : State) (a : ArbId) (x : Arb) : Option (Fin 10 × Bool) :=
  let reserved := decide (s.arbN a ≤ x.since + 1)
  (bestOf (if reserved then fun k => (x.reqs[k].wait).getD 0 else s.arbLevel a x) x.ready).map fun k => (k, reserved)

/-- A grant (R192): the winner's boost and wait end, every other requester gains a level; the counters of R225 take it in. -/
def State.arbGrant (s : State) (a : ArbId) (k : Fin 10) (reserved : Bool) : State :=
  let x := s.arb a
  let r := x.reqs[k]
  let s := s.bump (arbCntOf a k) ARB_CNT_GRANTS
  let s := if r.boost ≠ 0 then s.bump (arbCntOf a k) ARB_CNT_WAITS else s
  let s := s.maxFld (arbLongestOf a k) ARB_LONGEST_LONGEST (r.wait.getD 0)
  let reqs := (fins 10).foldl (fun (v : Vector ArbReq 10) j =>
    if j ≠ k ∧ v[j].asking ∧ !v[j].masked then v.set j { v[j] with boost := min 7 (v[j].boost + 1) } else v) x.reqs
  s.setArb a ⟨some k.val, reqs.set k ⟨false, 0, none, false⟩, if reserved then 0 else x.since + 1⟩

/-- The holder drops its request (R193). -/
def State.arbDrop (s : State) (a : ArbId) : State := s.setArb a { s.arb a with holder := none }

/-- ARB_ROUND: with no holder, a free resource and an unmasked request, the arbiter grants (R79, R192, R197, R210): reserved grants to the
longest wait, others to the highest level, lower index on a tie. Once `dt` is not 0 the scheduled accesses of the present cycle are past. -/
def execArbRound (a : ArbId) (dt : Nat) (s : State) : Host.Outcome State Fault Refusal :=
  .next
    (let s := s.arbPass a dt
     let x := s.arb a
     let free := match a with
       | .mem _ => s.memUsable
       | .bank _ _ => decide (dt ≠ 0) || s.arbFree a
     match x.holder, s.arbPick a x with
     | none, some (k, reserved) => if free then s.arbGrant a k reserved else s
     | _, _ => s)

/-! ### Accesses through the arbiters (R79, R193, R194)

An access command finds its requester holding the arbiter by an earlier round, or raises the request and takes part in a round of its own; it
drops the grant when it is done. Where the round goes to another, or another holds, the request stays and the access waits (log entry 68). -/

/-- One access of a requester: the state after it, and whether it was granted. -/
def State.arbAccess (s : State) (k : Fin 10) (a : ArbId) : State × Bool :=
  let x := s.arb a
  let usable := match a with
    | .mem _ => s.memUsable
    | .bank _ _ => true
  if x.reqs[k].masked then (s, false)
  else if !usable then (s.arbRaise a k, false)
  else if x.holder = some k.val then (s.arbDrop a, true)
  else
    let s := s.arbRaise a k
    match x.holder, s.arbPick a (s.arb a) with
    | none, some (j, reserved) => if j = k then ((s.arbGrant a k reserved).arbDrop a, true) else (s, false)
    | _, _ => (s, false)

/-- The accesses of one command, each of a requester at an arbiter: all of them, or, where one is not granted, none; the requests then stay. -/
def State.arbAccesses (s : State) (l : List (Fin 10 × ArbId)) : State × Bool :=
  let r := l.foldl (fun (acc : State × Bool) x => let r := acc.1.arbAccess x.1 x.2; (r.1, acc.2 && r.2)) (s, true)
  if r.2 then r else (l.foldl (fun s x => s.arbRaise x.2 x.1) s, false)

/-- The accesses of requester `k` to `len` bytes of channel SRAM: one of 64 bytes in each bank (R193). -/
def bankArbs (k : Fin 10) (n : Fin 8) (addr len : Nat) : List (Fin 10 × ArbId) :=
  (granules addr len).map fun g => (k, .bank n ⟨g % 64, Nat.mod_lt _ (by decide)⟩)

/-- ARB_RELEASE: the holder drops its request at the end of its bounded hold (R193). -/
def execArbRelease (a : ArbId) (dt : Nat) (s : State) : Host.Outcome State Fault Refusal :=
  .next ((s.arbPass a dt).arbDrop a)

/-- A mask rises on a requester: its request is withdrawn, its boost and wait are 0, and a hold of its ends at the burst's next sector
boundary (R194). -/
def State.arbMask (s : State) (a : ArbId) (k : Fin 10) : State :=
  let x := s.arb a
  if (arbSize a) ≤ k.val then s
  else s.setArb a { x with
    holder := if x.holder = some k.val then none else x.holder, reqs := x.reqs.set k ⟨false, 0, none, true⟩ }

/-- A mask falls: the requester may request afresh, with boost 0 (R194). -/
def State.arbUnmask (s : State) (a : ArbId) (k : Fin 10) : State :=
  let x := s.arb a
  if x.reqs[k].masked then s.setArb a { x with reqs := x.reqs.set k ⟨false, 0, none, false⟩ } else s

/-- ARB_MASK_FALL: the requester may request afresh, with boost 0 (R194). -/
def execArbMaskFall (a : ArbId) (k : Fin 10) (s : State) : Host.Outcome State Fault Refusal :=
  .next (s.arbUnmask a k)

/-- STARVE_DETECT: a wait count is compared with the threshold; beyond it STARVE is set (R196). -/
def execStarveDetect (a : ArbId) (k : Fin 10) (dt : Nat) (s : State) : Host.Outcome State Fault Refusal :=
  .next (let s := s.arbPass a dt; if s.starved a (s.arb a) k then s.starve a k else s)

/-- ARB_PRIO_WRITE: base priorities apply from the next round; boosts stay (R195). -/
def execArbPrioWrite (a : ArbId) (value : Word64) (s : State) : Host.Outcome State Fault Refusal :=
  .next (if s.takesWrites (arbPrioOf a) then s.writeAll (arbPrioOf a) value else s)

/-- A write to ARB_CTL.N resets the count toward the next reserved grant (R195), in every bank of a channel's block. -/
def State.writeArbCtl (s : State) (a : ArbId) (value m : Word64) : State :=
  let s := s.writePlain (arbCtlOf a) value m
  if getF m ARB_CTL_N = 0 then s
  else match a with
  | .mem _ => s.setArb a { s.arb a with since := 0 }
  | .bank n _ => (fins 64).foldl (fun s b => let i := ArbId.bank n b; s.setArb i { s.arb i with since := 0 }) s

/-- ARB_CTL_WRITE (R195, R222). -/
def execArbCtlWrite (a : ArbId) (value : Word64) (s : State) : Host.Outcome State Fault Refusal :=
  .next (if s.takesWrites (arbCtlOf a) then s.writeArbCtl a value (~~~0) else s)

end Sys2Proof.Machine
end

