-- ==== Sys2Proof/Machine/Traffic.lean ====
section
/-!
DEFINITION. Shared operations of the network die: slots in ticks (R228), circuit entries (R242), VC0 faults and drops (R254, R261), the hop
registers (R234, R237, R318), drops of unscheduled packets (R299, R300), and the conditions of DRAINED (R288).
-/

namespace Sys2Proof.Machine

/-! ### Slots -/

/-- The tick in which slot `n` starts, rounded up (R228). -/
def slotTick (n : Nat) : Nat := (8 * n + 6) / 7

/-- Whether slot `n` is a control slot of a link output (R230). -/
def isControl (n : Nat) : Bool := decide (n % 64 = 63)

/-- The slot number with these low 16 bits within 32,768 slots of the present slot (R235). -/
def slotOfStamp (now stamp : Nat) : Nat :=
  let base := now / 65536 * 65536 + stamp
  if base + 32768 ≤ now then base + 65536 else if now + 32768 < base then base - 65536 else base

/-! ### The state of a port -/

/-- What a map from ports to lists holds. -/
def kl {α : Type} (m : KMap (List α)) (k : Nat) : List α := kget (fun _ => []) m k

/-- Sets a list of such a map. -/
def klSet {α : Type} [DecidableEq α] (m : KMap (List α)) (k : Nat) (l : List α) : KMap (List α) := kset (fun _ => []) m k l

/-- Appends to a list of such a map. -/
def klAdd {α : Type} [DecidableEq α] (m : KMap (List α)) (k : Nat) (x : α) : KMap (List α) := klSet m k (kl m k ++ [x])

/-- A link port's state. -/
def State.link (s : State) (l : Fin 24) : LinkSt := s.lnk[l.val]

/-- Replaces a link port's state. -/
def State.setLink (s : State) (l : Fin 24) (x : LinkSt) : State := { s with lnk := s.lnk.set l.val x }

/-- Replaces the network die's traffic. -/
def State.setNet (s : State) (x : NetSt) : State := { s with net := x }

/-- Whether a number is that of a link, and which. -/
def linkOf (p : Nat) : Option (Fin 24) := if h : p < 24 then some ⟨p, h⟩ else none

/-! ### Circuit entries (R242) -/

def entValid (e : Word64) : Bool := bit e.toNat 0
def entLend (e : Word64) : Bool := bit e.toNat 1
def entIn (e : Word64) : Nat := bitsOf e.toNat 2 6
def entOut (e : Word64) : Nat := bitsOf e.toNat 8 6
def entOutCircuit (e : Word64) : Nat := bitsOf e.toNat 14 12
def entRxq (e : Word64) : Nat := bitsOf e.toNat 26 3
def entDest (e : Word64) : Nat := bitsOf e.toNat 32 12

/-- Reserved bits of an entry are 0. -/
def entClean (e : Word64) : Bool := decide (bitsOf e.toNat 29 3 = 0 ∧ bitsOf e.toNat 44 20 = 0)

/-! ### The hop registers -/

/-- Whether a port carries VC0 (R237). -/
def State.vc0Ok (s : State) (p : Nat) : Bool := decide (p < 24) && s.flag (netPortHop p) NET_PORT_HOP_VC0_OK

/-- Recomputes H, VC0_OK and EFF_TIMEOUT of a link port from DELAY, DMAX and TIMEOUT (R234, R237, R262, R318, R338). -/
def State.showHop (s : State) (l : Nat) : State :=
  let d := s.fld (netPortHop l) NET_PORT_HOP_DELAY
  let m := s.fld (netPortHop l) NET_PORT_HOP_DMAX
  let ok := decide (d ≠ 0x3FF ∧ d ≤ m ∧ m ≤ 440)
  let s := s.setFld (netPortHop l) NET_PORT_HOP_H (if m ≤ 440 then (7 * (364 + 3 * m) + 7) / 8 else 0)
  let s := s.setFld (netPortHop l) NET_PORT_HOP_VC0_OK (b2n ok)
  s.setFld (lnkStatus l) LNK_STATUS_EFF_TIMEOUT (if ok then 2 * d + 200 else max 200 (s.fld (lnkCtl l) LNK_CTL_TIMEOUT))

/-- Whether the device is in STANDBY, in which it carries neither VC0 nor VC3 (R29). -/
def State.standby (s : State) : Bool := decide (s.fld pwrState PWR_STATE_STATE = 2)

/-! ### VC0 faults -/

/-- Counts a drop of a class at a port (R300). -/
def State.telemDrop (s : State) (p cls : Nat) : State := s.bump (netTelemDrops (4 * p + cls)) NET_TELEM_DROPS_DROPS

/-- Records a VC0 fault (R254, R261). -/
def State.vc0Record (s : State) (kind port circuit bank slot : Nat) : State :=
  let s := s.setFlag netFabStat NET_FAB_STAT_VC0_FAULT
  if s.flag netVc0Fault NET_VC0_FAULT_VALID then s
  else
    ((((((s.setFld netVc0Fault NET_VC0_FAULT_KIND kind).setFlag netVc0Fault NET_VC0_FAULT_VALID).setFld netVc0Fault NET_VC0_FAULT_PORT
      port).setFld netVc0Fault NET_VC0_FAULT_CIRCUIT circuit).setFld netVc0Fault NET_VC0_FAULT_BANK bank).setFld netVc0Fault
        NET_VC0_FAULT_SLOT slot).wr netVc0FaultTick (s.rd timNow)

/-- Records and raises a VC0 fault (R254, R414). -/
def State.vc0Fault (s : State) (kind port circuit bank slot : Nat) : State :=
  let s := s.vc0Record kind port circuit bank slot
  s.raiseCause 4 port (s.fld netVc0Fault NET_VC0_FAULT_KIND) none

/-- What NET_VC0_FAULT.SLOT holds for a flit that came in at input `inp` (R261): its SLOT_STAMP, or, before it has left an output, the slot of
detection. -/
def State.faultSlot (s : State) (inp : Nat) (x : Vc0Flit) : Nat := (if inp < 24 then x.slot else s.slotNow) % 65536

/-- A VC0 flit that came in at input `inp` is dropped at a port with a fault: counted in a field of NET_VC0_ERR, recorded, raised. -/
def State.vc0Drop (s : State) (f : Fld) (kind port inp : Nat) (x : Vc0Flit) : State :=
  (((s.bump (netVc0Err port) f).telemDrop port 0).vc0Fault kind port x.circuit x.bank (s.faultSlot inp x))

/-- A VC0 flit is dropped without a fault, as with VC0_EN at 0 (R243). -/
def State.vc0Off (s : State) (port : Nat) : State := (s.bump (netVc0Err port) NET_VC0_ERR_UNKNOWN).telemDrop port 0

/-! ### Credits of a receive side (R321, R346) -/

/-- The row of LNK_CRED_TX and LNK_CRED_RX of a class: in pool mode bulk is row 1 and management row 2 (R346). -/
def State.credRow (s : State) (l cls : Nat) (mgmt : Bool) : Nat :=
  if s.flag (lnkStatus l) LNK_STATUS_POOL then if mgmt then 2 else 1 else cls

/-- Adds to a 16-bit field that wraps. -/
def State.wrapAdd (s : State) (off : Nat) (f : Fld) (x : Nat) : State := s.setFld off f (s.fld off f + x)

/-- Takes from a count. -/
def State.subFld (s : State) (off : Nat) (f : Fld) (x : Nat) : State := s.setFld off f (s.fld off f - x)

/-- A flit of a class leaves the receive buffer of a link: its data units are freed, and its header credit when `last`. What the buffer held
when the books last started afresh is returned to no one (R326; log entry 71). -/
def State.freeFlit (s : State) (l cls : Nat) (mgmt last : Bool) : State :=
  let row := s.credRow l cls mgmt
  let r := lnkCredRx l row
  let head := last && !s.flag (lnkStatus l) LNK_STATUS_POOL
  let s := s.subFld r LNK_CRED_RX_HELD_D 8
  let s := if head then s.subFld r LNK_CRED_RX_HELD_H 1 else s
  match linkOf l with
  | some k =>
    let (d, h) := kget (fun _ => (0, 0)) (s.link k).stale row
    let s := if d = 0 then s.wrapAdd r LNK_CRED_RX_RET_D 8 else s
    let s := if head && decide (h = 0) then s.wrapAdd r LNK_CRED_RX_RET_H 1 else s
    s.setLink k { s.link k with
      retDirty := true, stale := kset (fun _ => (0, 0)) (s.link k).stale row (d - 1, if head then h - 1 else h) }
  | none => s

/-- A flit is accepted into the receive buffer of a link. -/
def State.holdFlit (s : State) (l cls : Nat) (mgmt first : Bool) : State :=
  let r := lnkCredRx l (s.credRow l cls mgmt)
  let pool := s.flag (lnkStatus l) LNK_STATUS_POOL
  let s := s.wrapAdd r LNK_CRED_RX_HELD_D 8
  if first && !pool then s.wrapAdd r LNK_CRED_RX_HELD_H 1 else s

/-! ### Unscheduled packets -/

/-- A field of the packet header (R268), by byte and length. -/
def Pkt.hdr (p : Pkt) (i n : Nat) : Nat := leAt (p.flits.headD []) i n

def Pkt.dest (p : Pkt) : Nat := p.hdr 0 2 % 4096
def Pkt.src (p : Pkt) : Nat := p.hdr 2 2 % 4096
def Pkt.destPort (p : Pkt) : Nat := p.hdr 5 1 % 2
def Pkt.srcPort (p : Pkt) : Nat := p.hdr 5 1 / 2 % 2
def Pkt.flag (p : Pkt) : Bool := bit (p.hdr 6 1) 4
def Pkt.epoch (p : Pkt) : Nat := p.hdr 6 1 / 32 % 2
def Pkt.type (p : Pkt) : Nat := p.hdr 7 1
def Pkt.count (p : Pkt) : Nat := p.hdr 8 2
def Pkt.length (p : Pkt) : Nat := p.hdr 10 2

/-- The bytes of a packet after its header: the data of port 32, or the address and data of port 33 (R268). -/
def Pkt.body (p : Pkt) : List Byte := (p.flits.flatten.drop 16).take p.length

/-- The unscheduled event (R294, R296). -/
def State.unsEvent (s : State) : State := s.setFlag netUnsStat NET_UNS_STAT_EVENT

/-- Drops a packet that entered at port `p` (R271, R299, R300): a field of NET_UNS_DROP0 or NET_UNS_DROP1. A packet whose header names no class
counts in no class's drops. -/
def State.unsDrop (s : State) (reg : Nat → Nat) (f : Fld) (p cls : Nat) : State :=
  (if cls = 0 then s.bump (reg p) f else (s.bump (reg p) f).telemDrop p cls).unsEvent

/-- Data units of a class charged on a link and not returned, or ahead of its books: the credits do not stand as advertised. On a pool link
rows 1 and 2 are VC3's (R346). -/
def State.creditsOut (s : State) (l v : Nat) : Bool :=
  !s.flag (lnkStatus l) LNK_STATUS_POOL &&
    decide (s.fld (lnkCredTx l v) LNK_CRED_TX_OUT_H ≠ 0 ∨ s.fld (lnkCredTx l v) LNK_CRED_TX_OUT_D ≠ 0)

/-- DRAINED (R288): injection stopped, no VC1 or VC2 flit held anywhere in the device, every link's credits back. -/
def State.drained (s : State) : Bool :=
  let cls := [1, 2]
  let n := s.net
  s.flag netUnsCtl NET_UNS_CTL_INJECT_STOP &&
    (List.range 34).all (fun p => cls.all fun v => (kl n.arrived (4 * p + v)).isEmpty && (kl n.waiting (4 * p + v)).isEmpty) &&
    (List.range 34).all (fun p => cls.all fun v => (kget (fun _ => none) n.out (4 * p + v)).isNone) &&
    (List.range 24).all (fun l => cls.all fun v => !s.creditsOut l v) &&
    (fins 24).all (fun l => cls.all fun v => (kl (s.link l).part v).isEmpty) &&
    (fins 24).all (fun l => (s.link l).ring.all fun e => decide (e.kind ≠ 1 ∧ e.kind ≠ 2)) &&
    [0, 1].all fun e => ((kl n.store e).all fun x => decide (x.1.cls = 3)) && ((kl n.toEnd e).all fun x => decide (x.cls = 3))

/-- Shows DRAINED. -/
def State.showDrained (s : State) : State := s.setFld netUnsStat NET_UNS_STAT_DRAINED (b2n s.drained)

end Sys2Proof.Machine
end

