-- ==== Sys2Proof/Machine/Clock.lean ====
section
/-!
DEFINITION. The states of a device's time (R378) and what other blocks do to them: links going down (R378, R397), and a start or VC0_EN
meeting an armed slice step (R397).
-/

namespace Sys2Proof.Machine

/-- TIM_STAT.STATE values (R378). -/
def tsFree : Nat := 0
def tsBench : Nat := 1
def tsAcquiring : Nat := 2
def tsLocking : Nat := 3
def tsLocked : Nat := 4
def tsHold : Nat := 5
def tsHoldover : Nat := 6

/-- Changes the time block. -/
def State.modTim (s : State) (f : TimSt → TimSt) : State := { s with tim := f s.tim }

/-- Whether REFCLK_T is absent (R403). -/
def State.timLost (s : State) : Bool := s.flag timStat TIM_STAT_REFCLK_LOST

/-- Shows the state: 6 while REFCLK_T is absent, else the state beneath it; EVENT on a change but between 3 and 4 (R378). -/
def State.showTim (s : State) : State :=
  let new := if s.timLost then tsHoldover else s.tim.base
  let old := s.fld timStat TIM_STAT_STATE
  let s := s.setFld timStat TIM_STAT_STATE new
  if new = old then s
  else
    let s := if (new = tsLocking ∧ old = tsLocked) ∨ (new = tsLocked ∧ old = tsLocking) then s else s.setFlag timStat TIM_STAT_EVENT
    if new = tsHoldover then s.alert [12] else s

/-- Goes to a state of R378; a hold begins with HOLD. -/
def State.goTim (s : State) (st : Nat) : State :=
  if s.tim.base = st then s.showTim
  else (s.modTim fun x => { x with
      base := st, good := 0, bad := 0
      holdSince := if s.timLost then x.holdSince else if st = tsHold then some s.now else none
      expired := if s.timLost then x.expired else false }).showTim

/-- ACQUIRE is abandoned (R390, R397, R401). -/
def State.dropAcquire (s : State) : State := (s.setFld timCtl TIM_CTL_ACQUIRE 0).modTim fun x => { x with acq := none }

/-- What a link's going down does to time (R378, R397): its last sample is discarded, and an acquisition on it ends. -/
def State.timLinkDown (s : State) (l : Fin 24) : State :=
  let s := s.setLink l { s.link l with sentStamps := [] }
  let s := s.modTim fun x => { x with samples := x.samples.filter fun y => decide (y.2.1 ≠ l.val) }
  if s.tim.base = tsAcquiring ∧ s.fld timCtl TIM_CTL_ACQ_LINK = l then s.dropAcquire.goTim tsFree else s

end Sys2Proof.Machine
end

