-- ==== Sys2Proof/Machine/Codec.lean ====
section
/-!
DEFINITION. The flit on the line (R301 to R307): lane parity, CRC-32C, the two Reed–Solomon codewords with their decoder, and the header.
-/

namespace Sys2Proof.Machine

/-- A bytewise exclusive or over a list. -/
def xorAll (l : List Byte) : Byte := l.foldl (· ^^^ ·) 0

/-- Whether a byte has an odd number of ones. -/
def oddByte (b : Byte) : Bool := decide ((sumNat ((List.range 8).map fun i => b2n (bit b.toNat i))) % 2 = 1)

/-- LANE_PAR over a flit at a width of `w` lanes (R302, R303): byte 0 is left out. -/
def lanePar (w : Nat) (f : List Byte) : Nat :=
  sumNat ((List.range w).map fun j =>
    let lane := f.zipIdx.filterMap fun (b, i) => if i % w = j ∧ i ≠ 0 then some b else none
    if oddByte (xorAll lane) then 2 ^ j else 0)

/-! ### CRC-32C (R17, R304) -/

/-- One bit of the reflected CRC with polynomial 0x1EDC6F41. -/
def crcBit (c : BitVec 32) : BitVec 32 := if c.getLsbD 0 then (c >>> 1) ^^^ 0x82F63B78 else c >>> 1

/-- One byte. -/
def crcByte (c : BitVec 32) (b : Byte) : BitVec 32 := (List.range 8).foldl (fun c _ => crcBit c) (c ^^^ b.setWidth 32)

/-- CRC-32C of bytes. -/
def crc32c (l : List Byte) : BitVec 32 := (l.foldl crcByte 0xFFFFFFFF) ^^^ 0xFFFFFFFF

/-! ### Reed–Solomon over GF(2^8) (R305) -/

/-- Multiplication modulo x^8 + x^4 + x^3 + x^2 + 1. -/
def gfMul (a b : Nat) : Nat :=
  (List.range 8).foldr (fun i acc =>
    let d := acc * 2
    let d := if 256 ≤ d then (d - 256) ^^^ 0x1D else d
    if bit b i then d ^^^ a else d) 0

/-- A power, by squaring; the exponent is below 256. -/
def gfPow (a n : Nat) : Nat :=
  (List.range 8).foldr (fun i acc =>
    let d := gfMul acc acc
    if bit n i then gfMul d a else d) 1

/-- α to a power. -/
def gfExp (n : Nat) : Nat := gfPow 2 (n % 255)

/-- The inverse: the 254th power. -/
def gfInv (a : Nat) : Nat := gfPow a 254

/-- The generator's coefficients below degree 6, highest first. -/
def rsGen : List Nat :=
  let g := (List.range 6).foldl (fun (g : List Nat) i =>
    let r := gfExp i
    List.zipWith (· ^^^ ·) (g ++ [0]) (0 :: g.map (gfMul r))) [1]
  g.drop 1

/-- The six parity bytes of 122 data bytes: the remainder on division by the generator. -/
def rsParity (d : List Byte) : List Byte :=
  let g := rsGen
  let r := d.foldl (fun (r : List Nat) (b : Byte) =>
    let k := (r.headD 0) ^^^ b.toNat
    List.zipWith (fun a c => a ^^^ gfMul k c) (r.drop 1 ++ [0]) g) [0, 0, 0, 0, 0, 0]
  r.map (BitVec.ofNat 8)

/-- A polynomial's value, highest coefficient first. -/
def polyAt (p : List Nat) (x : Nat) : Nat := p.foldl (fun a c => gfMul a x ^^^ c) 0

/-- The six syndromes of a codeword of 128 bytes. -/
def rsSyn (c : List Byte) : List Nat := (List.range 6).map fun j => polyAt (c.map (·.toNat)) (gfExp j)

/-- A determinant of order 2. -/
def det2 (a b c d : Nat) : Nat := gfMul a d ^^^ gfMul b c

/-- A determinant of order 3, by rows. -/
def det3 (a b c d e f g h i : Nat) : Nat := gfMul a (det2 e f h i) ^^^ gfMul b (det2 d f g i) ^^^ gfMul c (det2 d e g h)

/-- The error locator 1 + L1 x + L2 x² + L3 x³ of a syndrome, lowest first, with the number of errors it stands for. -/
def rsLocator (s : List Nat) : Nat × List Nat :=
  let S (i : Nat) := nth 0 s i
  let d3 := det3 (S 0) (S 1) (S 2) (S 1) (S 2) (S 3) (S 2) (S 3) (S 4)
  let d2 := det2 (S 0) (S 1) (S 1) (S 2)
  if d3 ≠ 0 then
    let k := gfInv d3
    (3, [1,
      gfMul k (det3 (S 0) (S 1) (S 3) (S 1) (S 2) (S 4) (S 2) (S 3) (S 5)),
      gfMul k (det3 (S 0) (S 3) (S 2) (S 1) (S 4) (S 3) (S 2) (S 5) (S 4)),
      gfMul k (det3 (S 3) (S 1) (S 2) (S 4) (S 2) (S 3) (S 5) (S 3) (S 4))])
  else if d2 ≠ 0 then
    let k := gfInv d2
    (2, [1, gfMul k (det2 (S 0) (S 2) (S 1) (S 3)), gfMul k (det2 (S 2) (S 1) (S 3) (S 2)), 0])
  else (1, [1, gfMul (S 1) (gfInv (S 0)), 0, 0])

/-- The error at degree `i` of a locator's root (Forney). -/
def rsMagnitude (s loc : List Nat) (i : Nat) : Nat :=
  let x := gfExp i
  let y := gfExp (255 - i)
  let om := (List.range 3).map fun k =>
    (List.range (k + 1)).foldl (fun a j => a ^^^ gfMul (nth 0 s (k - j)) (nth 0 loc j)) 0
  let den := nth 0 loc 1 ^^^ gfMul (nth 0 loc 3) (gfMul y y)
  gfMul x (gfMul (polyAt om.reverse y) (gfInv den))

/-- Decodes a codeword (R305): the codeword, and whether it was corrected; none when no three bytes explain it. -/
def rsDecode (c : List Byte) : Option (List Byte × Bool) :=
  let s := rsSyn c
  if s.all (· = 0) then some (c, false)
  else
    let (v, loc) := rsLocator s
    let roots := (List.range 128).filter fun i => polyAt loc.reverse (gfExp (255 - i)) = 0
    let fixed := roots.foldl (fun (c : List Byte) i =>
      c.set (127 - i) (nth 0 c (127 - i) ^^^ BitVec.ofNat 8 (rsMagnitude s loc i))) c
    if roots.length = v ∧ (rsSyn fixed).all (· = 0) then some (fixed, true) else none

/-- The bytes of a flit that belong to codeword `k`, byte 0 as 0 (R305). -/
def codeword (k : Nat) (f : List Byte) : List Byte :=
  f.zipIdx.filterMap fun (b, i) => if i / 8 % 2 = k then some (if i = 0 then 0 else b) else none

/-- Puts the codewords back together; the byte with LANE_PAR is `b0`. -/
def mergeWords (b0 : Byte) (c0 c1 : List Byte) : List Byte :=
  (List.range 256).map fun i => if i = 0 then b0 else nth 0 (if i / 8 % 2 = 0 then c0 else c1) (i / 16 * 8 + i % 8)

/-- The flit that goes on the line (R301 to R306): a header word (with LANE_PAR 0) and a payload of 232 bytes, at a width of `w` lanes. -/
def encodeFlit (w hdr : Nat) (payload : List Byte) : List Byte :=
  let body := leBytes 8 hdr ++ slice payload 0 232
  let crc := leBytes 4 (crc32c body).toNat
  let f0 := body ++ crc.take 2 ++ List.replicate 6 0 ++ crc.drop 2 ++ List.replicate 6 0
  let p0 := rsParity ((codeword 0 f0).take 122)
  let p1 := rsParity ((codeword 1 f0).take 122)
  let f := body ++ crc.take 2 ++ p0 ++ crc.drop 2 ++ p1
  match f with
  | _ :: t => BitVec.ofNat 8 (lanePar w f) :: t
  | [] => []

/-- The CRC of a corrected flit is right (R304, R308). -/
def crcGood (f : List Byte) : Bool :=
  decide ((crc32c (0 :: (f.take 240).drop 1)).toNat = leNat (((f.drop 240).take 2) ++ ((f.drop 248).take 2)))

/-! ### Symbols (R302, R348) -/

/-- The PAM4 level of a bit pair, Gray coded. -/
def pam4 (x : Nat) : Int := if x = 0 then -3 else if x = 1 then -1 else if x = 3 then 1 else 3

/-- One step of the scrambler's register, of polynomial x^31 + x^28 + 1; the new bit 0 is the bit it gives. -/
def scrStep (x : Nat) : Nat := (2 * x + b2n (bit x 30 != bit x 27)) % 2 ^ 31

/-- `n` steps. -/
def scrRun (x : Nat) : Nat → Nat
  | 0 => x
  | n + 1 => scrStep (scrRun x n)

/-- The bytes of a flit on logical lane `j` of `w`. -/
def flitLane (w j : Nat) (f : List Byte) : List Byte := f.zipIdx.filterMap fun (b, i) => if i % w = j then some b else none

/-- The levels of bytes on a lane, least significant pair first, scrambled from `off` bits after the seed: each bit takes one bit of the
scrambler (DESIGN CHOICE: R348 does not say how the scrambler's bits pair with a symbol's; log entry 73). -/
def scrambled (seed off : Nat) (l : List Byte) : List Int :=
  let bits := (l.map fun b => (List.range 8).map fun i => b2n (bit b.toNat i)).flatten
  let x := bits.zipIdx.map fun (b, i) => (b + scrRun seed (off + i + 1)) % 2
  (List.range (x.length / 2)).map fun i => pam4 (nth 0 x (2 * i) + 2 * nth 0 x (2 * i + 1))

end Sys2Proof.Machine
end

