-- ==== Sys2Proof/Machine/Fabric.lean ====
section
/-!
DEFINITION. The scheduled fabric (chapter 6): lookups (R243), arrival windows (R236, R241), fences (R252), the circuit tables (R242, R244)
and their swaps (R245). The slots of the outputs stand with the link layer.
-/

namespace Sys2Proof.Machine

/-- What the lookup of a flit finds (R243). -/
inductive Lookup where
  | off
  | unknown
  | fenced
  | pass (e : Word64)
  deriving DecidableEq, Repr

/-- The tests of R243 on a flit that reaches input port `p`, in their order; at the source the fence of DEST is tested too (R252). In STANDBY
no VC0 is forwarded (R29). -/
def State.lookup (s : State) (p : Nat) (x : Vc0Flit) : Lookup :=
  let act := s.fld netFabCtl NET_FAB_CTL_ACTIVE_BANK
  let e := s.rd (netCircuit act x.circuit)
  let out := entOut e
  if !s.flag netFabCtl NET_FAB_CTL_VC0_EN || s.standby then .off
  else if x.bank ≠ act then .unknown
  else if !entValid e || decide (entIn e ≠ p) || !entClean e || decide (entLend e ≠ decide (out = 33)) then .unknown
  else if !(decide (out < 32 ∨ out = 33)) || (decide (out < 24) && !s.vc0Ok out) || (decide (p < 24) && !s.vc0Ok p) then .unknown
  else if decide (24 ≤ p) && s.flag (netRoute (entDest e)) NET_ROUTE_FENCE then .fenced
  else .pass e

/-- A flit fails its lookup: dropped, counted, and raised but for VC0_EN at 0 and for a fenced send with FENCE_CURTAIN 0 (R243, R252). -/
def State.lookupFail (s : State) (p : Nat) (x : Vc0Flit) (r : Lookup) : State :=
  match r with
  | .off => s.vc0Off p
  | .unknown => s.vc0Drop NET_VC0_ERR_UNKNOWN 1 p p x
  | .fenced =>
    let s := ((s.bump (netVc0Cnt p) NET_VC0_CNT_FENCED).telemDrop p 0).setFlag netFabStat NET_FAB_STAT_FENCE_DROP
    if s.flag netFabCtl NET_FAB_CTL_FENCE_CURTAIN then s.vc0Fault 6 p x.circuit x.bank (s.faultSlot p x)
    else s.vc0Record 6 p x.circuit x.bank (s.faultSlot p x)
  | .pass _ => s

/-- Puts a flit that passed its lookup into the crossbar for its due slot. -/
def State.toCrossbar (s : State) (d : Vc0Due) : State := s.setNet { s.net with due := klAdd s.net.due (entOut d.entry) d }

/-- VC0_CROSSBAR_ENTER: the oldest flit from a channel port, 40 ns after its departure slot began, or from the host port enters the
crossbar, is stamped with the active bank and looked up (R232, R235, R243). -/
def execVc0CrossbarEnter (p : Fin 34) (s : State) : Host.Outcome State Fault Refusal :=
  .next
    (match kl s.net.enter p with
     | [] => s
     | x :: rest =>
       if p.val ≠ 33 ∧ 7 * s.now < 8 * x.slot + 280 then s
       else
         let s := s.setNet { s.net with enter := klSet s.net.enter p rest }
         let x := { x with bank := s.fld netFabCtl NET_FAB_CTL_ACTIVE_BANK }
         match s.lookup p x with
         | .pass e => s.toCrossbar ⟨x.slot + (if p.val = 33 then 18 else 53), p, e, x⟩
         | r => s.lookupFail p x r)

/-- VC0_LINK_ARRIVE: the oldest flit that a link accepted reaches the VC0 hold: an entry must be free (R241), the lookup pass (R243), and
its window be open (R236). -/
def execVc0LinkArrive (l : Fin 24) (s : State) : Host.Outcome State Fault Refusal :=
  .next
    (match (s.link l).vc0In with
     | [] => s
     | (t, x) :: rest =>
       if 16 * s.now + 15 < t then s
       else
         let s := s.setLink l { s.link l with vc0In := rest }
         let drop (s : State) := s.freeFlit l 0 false true
         if 2048 ≤ (kl s.net.hold l).length then (s.vc0Drop NET_VC0_ERR_NOCREDIT 2 l l x).freeFlit l 0 false true
         else
           match s.lookup l x with
           | .pass e =>
             let d := s.fld (netPortHop l) NET_PORT_HOP_DELAY
             let due := x.slot + s.fld (netPortHop l) NET_PORT_HOP_H
             if 7 * t < 16 * (8 * x.slot + 7 * (136 + d)) then drop (s.vc0Drop NET_VC0_ERR_EARLY 4 l l x)
             else if 128 * due < 7 * t + 2240 then drop (s.vc0Drop NET_VC0_ERR_LATE 3 l l x)
             else s.setNet { s.net with hold := klAdd s.net.hold l ⟨due, l, e, x⟩ }
           | r => drop (s.lookupFail l x r))

/-- VC0_WINDOW_CLOSE: the window of a held flit closes, 20 ticks before its due slot; it enters the crossbar for that slot, and its hold entry is
free (R236, R321). In STANDBY no VC0 is forwarded (R29). -/
def execVc0WindowClose (l : Fin 24) (s : State) : Host.Outcome State Fault Refusal :=
  .next
    (match (kl s.net.hold l).find? (fun d => decide (8 * d.due ≤ 7 * s.now + 140)) with
     | none => s
     | some d =>
       let s := s.setNet { s.net with hold := klSet s.net.hold l ((kl s.net.hold l).erase d) }
       (if s.standby then s.vc0Off l else s.toCrossbar d).freeFlit l 0 false true)

/-- NET_SWAP_TICK with no swap pending. -/
def State.noSwap (s : State) : State := s.wr netSwapTick (~~~0)

/-- A missed swap (R245). -/
def State.missedSwap (s : State) : State :=
  (((s.setFlag netFabStat NET_FAB_STAT_SWAP_MISSED).noSwap).vc0Fault 7 (24 + s.fld netFabCtl NET_FAB_CTL_SWAP_CH) 0
    (s.fld netFabCtl NET_FAB_CTL_ACTIVE_BANK) (s.slotNow % 65536))

/-- SWAP_TICK_COPY: the tick of a CUESET to the swap cue reaches NET_SWAP_TICK; one already past is a missed swap (R245). -/
def execSwapTickCopy (s : State) : Host.Outcome State Fault Refusal :=
  .next
    (match s.net.swapCopy with
     | [] => s
     | t :: rest =>
       let s := s.setNet { s.net with swapCopy := rest }
       if !s.flag netFabCtl NET_FAB_CTL_SWAP_EN then s
       else if t < s.now then s.missedSwap
       else s.wr netSwapTick (BitVec.ofNat 64 t))

/-- BANK_SWAP: Huawald time reaches NET_SWAP_TICK: the banks swap when ARM is 1, else the swap is missed (R245). -/
def execBankSwap (s : State) : Host.Outcome State Fault Refusal :=
  .next
    (let t := (s.rd netSwapTick).toNat
     if !s.flag netFabCtl NET_FAB_CTL_SWAP_EN || decide (t = 2 ^ 64 - 1 ∨ s.now < t) then s
     else if s.flag netFabCtl NET_FAB_CTL_ARM then
       ((((s.setFld netFabCtl NET_FAB_CTL_ACTIVE_BANK (1 - s.fld netFabCtl NET_FAB_CTL_ACTIVE_BANK)).setFld netFabCtl
         NET_FAB_CTL_ARM 0).bump netFabStat NET_FAB_STAT_SWAPS).noSwap)
     else s.missedSwap)

/-- A write to a circuit-table entry (R244): refused in the active bank of running traffic and in an armed shadow bank; otherwise all 64
bits are held. -/
def State.writeCircuit (s : State) (b c : Nat) (v : Word64) : State :=
  let act := s.fld netFabCtl NET_FAB_CTL_ACTIVE_BANK
  if (decide (b = act) && s.flag netFabCtl NET_FAB_CTL_VC0_EN) || (decide (b ≠ act) && s.flag netFabCtl NET_FAB_CTL_ARM) then
    s.setFlag netFabStat NET_FAB_STAT_TABLE_WRITE_REFUSED
  else s.wr (netCircuit b c) v

/-- CIRCUIT_ENTRY_WRITE (R242, R244). -/
def execCircuitEntryWrite (bank : Fin 2) (c : Fin 4096) (value : Word64) (s : State) : Host.Outcome State Fault Refusal :=
  .next (if s.takesWrites (netCircuit bank c) then s.writeCircuit bank c value else s)

end Sys2Proof.Machine
end

