-- ==== Sys2Proof/Machine/Elementary.lean ====
section
/-!
DEFINITION. The special functions (R67): each is the exact mathematical value rounded once to FP32 in RNE. Reciprocal and reciprocal square
root are exact with a sticky bit. exp, log and tanh are computed in fixed point with 256 fraction bits and a sticky bit: DEDUCED, their
values at non-trivial FP32 arguments are irrational and keep far further from a rounding boundary than that error (log entry 7).
-/

namespace Sys2Proof.Machine

/-- Fraction bits of the fixed-point series. -/
def fxBits : Nat := 256

/-- One in fixed point. -/
def fxOne : Nat := 2 ^ 256

/-- The natural logarithm of 2 in fixed point, rounded down. -/
def fxLn2 : Nat := 80260960185991308862233904206310070533990667611589946606122867505419956976171

/-- The exponential series from term `i` on, `t` being that term: t + t r/(i+1) + ... -/
def expSeries (r : Nat) : Nat → Nat → Nat → Nat → Nat
  | 0, _, _, acc => acc
  | fuel + 1, i, t, acc => expSeries r fuel (i + 1) (t * r / fxOne / (i + 1)) (acc + t)

/-- e to a fixed-point argument: fixed-point mantissa from 1 to 2 and a binary exponent. -/
def fxExp (x : Int) : Nat × Int :=
  let k := x / fxLn2
  let r := (x - k * fxLn2).toNat
  (expSeries r 80 0 fxOne 0, k)

/-- The series z + z^3/3 + z^5/5 + ... -/
def atanhSeries (z2 : Nat) : Nat → Nat → Nat → Nat → Nat
  | 0, _, _, acc => acc
  | fuel + 1, i, t, acc => atanhSeries z2 fuel (i + 2) (t * z2 / fxOne) (acc + t / i)

/-- The natural logarithm of m × 2^w in fixed point. -/
def fxLog (m : Nat) (w : Int) : Int :=
  let b := bitLen m - 1
  let f := m * fxOne / 2 ^ b
  let z := (f - fxOne) * fxOne / (f + fxOne)
  (w + b) * fxLn2 + 2 * (atanhSeries (z * z / fxOne) 100 1 z 0 : Nat)

/-- Reciprocal (R67). -/
def recipNum (a : Num) : Nat × AFlags :=
  match a with
  | .nan => (nan32, 0)
  | .inf n => (signBit 10 n, 0)
  | .fin n m w =>
    if m = 0 then (infBits 10 n, afDivzero)
    else round32 .rne n (stickyDiv 1 m 128) (-w - 129)

/-- Reciprocal square root (R67). -/
def rsqrtNum (a : Num) : Nat × AFlags :=
  match a with
  | .nan => (nan32, 0)
  | .inf false => (0, 0)
  | .inf true => invalid32
  | .fin n m w =>
    if m = 0 then (infBits 10 n, afDivzero)
    else if n then invalid32
    else
      let mm := m * 2 ^ (w % 2).toNat
      let r := isqrt (fxOne / mm)
      round32 .rne false (2 * r + (if r * r * mm = fxOne then 0 else 1)) (-((w - w % 2) / 2) - 129)

/-- Exponential (R67). Beyond 256 in magnitude every result overflows or rounds to zero. -/
def expNum (a : Num) : Nat × AFlags :=
  match a with
  | .nan => (nan32, 0)
  | .inf false => (infBits 10 false, 0)
  | .inf true => (0, 0)
  | .fin n m w =>
    if m = 0 then round32 .rne false 1 0
    else if 8 ≤ leadOf m w then round32 .rne false 1 (if n then -400 else 400)
    else
      let x : Int := (m * 2 ^ (w + 256).toNat : Nat)
      let (e, k) := fxExp (if n then -x else x)
      round32 .rne false (2 * e + 1) (k - 257)

/-- Natural logarithm (R67). -/
def logNum (a : Num) : Nat × AFlags :=
  match a with
  | .nan => (nan32, 0)
  | .inf false => (infBits 10 false, 0)
  | .inf true => invalid32
  | .fin n m w =>
    if m = 0 then (infBits 10 true, afDivzero)
    else if n then invalid32
    else
      let l := fxLog m w
      if m = 2 ^ (bitLen m - 1) ∧ w + (bitLen m - 1 : Nat) = 0 then (0, 0)
      else round32 .rne (decide (l < 0)) (2 * l.natAbs + 1) (-257)

/-- Hyperbolic tangent (R67). From 64 on the result rounds to 1. -/
def tanhNum (a : Num) : Nat × AFlags :=
  match a with
  | .nan => (nan32, 0)
  | .inf n => round32 .rne n 1 0
  | .fin n m w =>
    if m = 0 then (signBit 10 n, 0)
    else if 6 ≤ leadOf m w then round32 .rne n (2 ^ 200 - 1) (-200)
    else
      let (e, k) := fxExp (m * 2 ^ (w + 257).toNat : Nat)
      let big := e * 2 ^ k.toNat
      round32 .rne n (2 * ((big - fxOne) * fxOne / (big + fxOne)) + 1) (-257)

end Sys2Proof.Machine
end

