-- ==== Sys2Proof/Machine/Flight.lean ====
section
/-!
DEFINITION. Operations in flight: when their events fall due (R144, R145, R147, R149), their order within a cycle (R78, R88), the bank
claims that suppress a second scheduled access (R78), and the hazard detector of rehearsal mode (R160, R161).
-/

namespace Sys2Proof.Machine

/-- Order of events within a cycle: accumulator reads, then scheduled accesses by the order of R78, then register writes by slot (R88),
then completions of rows and tiles. -/
def ordDrainRead : Nat := 0

/-- The order of a scheduled access (R78): kind, elements before scales, lower engine first. -/
def ordAccess (kind : Nat) (scale : Bool) (e : Nat) : Nat := 1000 + kind * 100 + (if scale then 50 else 0) + e

/-- The order of a register write: by slot. -/
def ordWrite (slot : Nat) : Nat := 2000 + slot

/-- The order of the write of a cue register. -/
def ordCue : Nat := 2900

/-- The order of a completion. -/
def ordDone : Nat := 3000

/-- Whether an event is a scheduled access. -/
def Flight.isAccess (f : Flight) : Bool := decide (1000 ≤ f.ord ∧ f.ord < 2000)

/-- Puts an event into the list in flight, which is kept in order of cycle and of order within it. `front` puts it before an access of
equal rank, an order R78 leaves open. -/
def insertFlight (front : Bool) (f : Flight) : List Flight → List Flight
  | [] => [f]
  | g :: l =>
    if g.due < f.due then g :: insertFlight front f l
    else if g.due = f.due ∧ (g.ord < f.ord ∨ (g.ord = f.ord ∧ !front)) then g :: insertFlight front f l
    else f :: g :: l

/-- Schedules an event of an operation. Where it is an access that meets another of equal rank in its cycle, which goes first is a free
value (R78 does not say). -/
def State.schedule (s : State) (n : Fin 8) (f : Flight) : State :=
  let c := s.chan n
  let clash := f.isAccess && c.flight.any (fun g => decide (g.due = f.due ∧ g.ord = f.ord))
  let front := clash && decide (s.pick 2 = 1)
  (s.setChan n { c with flight := insertFlight front f c.flight }).take (if clash then 1 else 0)

/-- Whether the channel runs in rehearsal mode. -/
def State.rehearsing (s : State) (n : Fin 8) : Bool := s.running n && (s.chan n).applied.rehearsal

/-- The cycle that rehearsal mode adds to every SRAM access (R147). -/
def Chan.extra (c : Chan) : Nat := if c.applied.rehearsal then 1 else 0

/-- Whether the channel gives the A1 latencies: on an A1 device, and on a B0 device that pads (R149). -/
def State.latA1 (s : State) (n : Fin 8) : Bool := !s.isB0 || (s.chan n).applied.padA1

/-- Whether the A1 issue intervals apply: B0 keeps its own, but in rehearsal mode with PAD_A1 the detector checks those of A1 (R149). -/
def State.intA1 (s : State) (n : Fin 8) : Bool := !s.isB0 || ((s.chan n).applied.padA1 && (s.chan n).applied.rehearsal)

/-! ### The hazard detector -/

/-- The hazard record (R161) as the bundle at 0x7FFF. -/
def hazardRecord (kind slotA slotB res cycle pcA pcB tick : Nat) : BitVec 512 :=
  BitVec.ofNat 512 (leNat (leBytes 2 0x4852 ++ leBytes 1 kind ++ leBytes 1 slotA ++ leBytes 1 slotB ++ leBytes 1 0 ++ leBytes 2 res ++
    leBytes 8 cycle ++ leBytes 2 pcA ++ leBytes 2 pcB ++ leBytes 4 0 ++ leBytes 8 tick ++ leBytes 32 0))

/-- A hazard of a cycle (R160): outside rehearsal mode nothing; in it the record, HAZARD and the stop. -/
def State.hazard (s : State) (n : Fin 8) (kind slotA slotB res cycle pcA pcB : Nat) : State :=
  if s.rehearsing n && decide (s.fld (chFault n) CH_FAULT_HAZARD = 0) then
    let c := s.chan n
    let s := s.setChan n { c with
      isram := kset (fun _ => 0) c.isram 0x7FFF (hazardRecord kind slotA slotB res cycle pcA pcB (s.tickOf n cycle)) }
    s.faultChanAt n 10 pcA 0 cycle
  else s

/-- Updates the runs of busy cycles of a bank and reports the eighth in a row (R80, kind 0x06). -/
def State.bankBusy (s : State) (n : Fin 8) (f : Flight) (b : Nat) : State :=
  if s.rehearsing n then
    let c := s.chan n
    let (last, run) := kget (fun _ => (0, 0)) c.bankRun b
    let run := if last + 1 = f.due then run + 1 else 1
    let s := s.setChan n { c with bankRun := kset (fun _ => (0, 0)) c.bankRun b (f.due, run) }
    if 8 ≤ run then s.hazard n 0x06 f.slot 0 b f.due f.pc 0 else s
  else s

/-- Claims banks for a scheduled access in its cycle: the granules it may use are those whose banks no access of the cycle holds yet;
the others are suppressed (R78), which rehearsal mode reports (kind 0x01). Of two accesses of one cycle the record calls the suppressed one the
later (log entry 58). -/
def State.claim (s : State) (n : Fin 8) (f : Flight) (grs : List Nat) : State × List Nat :=
  let c := s.chan n
  let held := if c.claimCycle = f.due then c.claims else []
  let ok := grs.filter fun g => !held.any fun h => decide (h.1 = g % 64)
  let lost := held.find? fun h => grs.any fun g => decide (g % 64 = h.1)
  let s := s.setChan n { c with claimCycle := f.due, claims := held ++ ok.map (fun g => (g % 64, f.slot, f.pc)) }
  let s := match lost with
    | some h => s.hazard n 0x01 f.slot h.2.1 h.1 f.due f.pc h.2.2
    | none => s
  (ok.foldl (fun s g => s.bankBusy n f (g % 64)) s, ok)

/-- Whether a byte lies in one of the granules. -/
def inGranules (ok : List Nat) (addr : Nat) : Bool := ok.contains (addr / 64)

/-- The SRAM slots of posted receives whose deposits are not complete (R118), for kind 0x07. -/
def Chan.pendingDeposit (c : Chan) (addr len : Nat) : Bool :=
  c.rxd.toList.any fun q => q.any fun d =>
    (List.range (d.n - d.done)).any fun j =>
      let a := d.addr + 256 * (d.done + j)
      decide (a < addr + len ∧ addr < a + 256)

/-- The queue whose ring entry an access goes beyond what AVAIL counts (kind 0x08): reads of load queues, writes of store queues. The
position follows the QREL and QCOMMIT counts. -/
def State.ringBeyond (s : State) (n : Fin 8) (write : Bool) (g : Nat) : Option Nat :=
  (List.range 24).find? fun q =>
    let st := nth Stream.idle (s.chan n).streams.toList q
    let base := s.fld (chQRing n q) CH_Q_RING_BASE * 64
    let e := (s.fld (chQRing n q) CH_Q_RING_SIZE_M1 + 1) * 64
    let pos := (if write then st.c else st.r) % e
    decide (write = decide (16 ≤ q)) && decide (base ≤ g ∧ g < base + e) &&
      decide (s.fld (chQCount n q) CH_Q_COUNT_AVAIL ≤ (g - base + e - pos) % e)

/-- The checks of kinds 0x07 and 0x08 on a scheduled access. RESOURCE of kind 0x07 is the bank of the address (log entry 59). -/
def State.checkAccess (s : State) (n : Fin 8) (f : Flight) (write : Bool) (addr len : Nat) : State :=
  if s.rehearsing n then
    let s := if !write && (s.chan n).pendingDeposit addr len then s.hazard n 0x07 f.slot 13 (bankOf addr) f.due f.pc 0 else s
    match (granules addr len).findSome? (s.ringBeyond n write) with
    | some q => s.hazard n 0x08 f.slot 0 q f.due f.pc 0
    | none => s
  else s

/-- What reads of SRAM words found (R81): counted for their physical banks. -/
def State.sramFound (s : State) (n : Fin 8) (map : Word64) (pc cycle : Nat) (l : List (Nat × WordOut)) : State :=
  l.foldl (fun s x => s.eccFound n (physBank map (bankOf (8 * x.1))) 6 pc cycle x.2) s

/-- A scheduled read: bytes in suppressed granules read 0 (R78), the others as the decoder gives them (R81). -/
def State.readSram (s : State) (n : Fin 8) (f : Flight) (addr len : Nat) (errs : EccObs) : State × List Byte :=
  let (s, ok) := s.claim n f (granules addr len)
  let s := s.checkAccess n f false addr len
  let map := (s.chan n).applied.bankMap
  let raw := (List.range len).map fun i =>
    if inGranules ok (addr + i) then kget (fun _ => 0) (s.chan n).sram (physByte map (addr + i)) else 0
  let (b, found) := readWords addr raw (errs.filter fun x => inGranules ok (8 * x.1))
  (s.sramFound n map f.pc f.due found, b)

/-- Writes those of the bytes that lie in the granules given. -/
def Chan.sramWriteOk (c : Chan) (map : Word64) (ok : List Nat) (addr : Nat) : List Byte → Chan
  | [] => c
  | b :: bs =>
    Chan.sramWriteOk
      (if inGranules ok addr then { c with sram := kset (fun _ => 0) c.sram (physByte map addr) b } else c) map ok (addr + 1) bs

/-- A scheduled write: bytes in suppressed granules are lost (R78). -/
def State.writeSram (s : State) (n : Fin 8) (f : Flight) (addr : Nat) (b : List Byte) : State :=
  let (s, ok) := s.claim n f (granules addr b.length)
  let s := s.checkAccess n f true addr b.length
  s.setChan n ((s.chan n).sramWriteOk (s.chan n).applied.bankMap ok addr b)

/-- A register write lands: two in one cycle to one register are a hazard of rehearsal mode (kind 0x02), in which the higher slot is the
later (log entry 58); the later in slot order stands (R88). -/
def State.regLand (s : State) (n : Fin 8) (f : Flight) (code : Nat) : State :=
  let c := s.chan n
  let held := if c.regCycle = f.due then c.regClaims else []
  let s := s.setChan n { c with regCycle := f.due, regClaims := held ++ [(code, f.slot, f.pc)] }
  match held.find? (fun h => decide (h.1 = code)) with
  | some h => s.hazard n 0x02 f.slot h.2.1 code f.due f.pc h.2.2
  | none => s

end Sys2Proof.Machine
end

