-- ==== Sys2Proof/Machine/TensorUnit.lean ====
section
/-!
DEFINITION. The tensor engines: the exact sums of a pass (R47 to R53), the accumulator file (R108), the residue check (R69), the understudy's
comparison (R111), the words of a drain (R58 to R64, R109), and the schedule of each operation's reads, completions and writes (R144, R145).
-/

namespace Sys2Proof.Machine

/-! ### Elements and packing (R42) -/

/-- Element `k` of `b` bits of a packed byte stream. -/
def elemBits (get : Nat → Byte) (b k : Nat) : Nat :=
  let o := b * k
  leNat ((List.range ((o % 8 + b + 7) / 8)).map fun i => get (o / 8 + i)) / 2 ^ (o % 8) % 2 ^ b

/-- Packs elements of `b` bits into bytes. -/
def packBits (b : Nat) (l : List Nat) : List Byte :=
  leBytes ((l.length * b + 7) / 8) (l.foldr (fun x acc => x % 2 ^ b + 2 ^ b * acc) 0)

/-- A signed number as 96 bits. -/
def wrap96 (x : Int) : BitVec 96 := BitVec.ofInt 96 x

/-- Whether a sum lies outside the 96-bit range (R57). -/
def wraps96 (x : Int) : Bool := decide (x < -(2 ^ 95) ∨ 2 ^ 95 ≤ x)

/-! ### One column of a pass -/

/-- What a column computed: its sums in order, each with the shift that makes it a contribution (0 outside MX), its tag when it has one of
its own, whether it met a non-finite operand, whether the alignment dropped a bit. -/
structure ColSum where
  parts : List (Int × Int)
  tag : Option Int
  nonfin : Bool
  lostAlign : Bool
  deriving DecidableEq, Repr

/-- An operand pair as a signed product m × 2^w; none when a factor is not finite (R51). -/
def product (a b : Num) : Option (Bool × Nat × Int) :=
  match a, b with
  | .fin na ma wa, .fin nb mb wb => some (na != nb, ma * mb, wa + wb)
  | _, _ => none

/-- The sum of products in units of 2^-32 (R48); products with a non-finite factor count as zero (R52). -/
def sumFixed (l : List (Option (Bool × Nat × Int))) : Int :=
  l.foldl (fun acc p => match p with
    | some (n, m, w) => let x : Int := (m * 2 ^ (w + 32).toNat : Nat); acc + (if n then -x else x)
    | none => acc) 0

/-- The shift of one MX block (R50): its scales less the anchor. -/
def blockShift (xa xb : Nat) (anchor : Int) : Int := (xa : Int) - 127 + ((xb : Int) - 127) - anchor

/-- A block sum shifted, toward minus infinity, and whether a 1 was shifted out (R50). -/
def shiftSum (s k : Int) : Int × Bool :=
  if 0 ≤ k then (s * 2 ^ k.toNat, false) else (s / 2 ^ (-k).toNat, decide (s % 2 ^ (-k).toNat ≠ 0))

/-- A column of operands of eight bits or fewer (R48, R50, R52): `a` and `b` give the pair at a depth, `xa` and `xb` the scales of a block. -/
def colNarrow (mx : Bool) (anchor : Int) (xa xb : Nat → Nat) (a b : Nat → Num) : ColSum :=
  if mx then
    let blocks := (List.range 8).map fun j =>
      let bad := xa j = 0xFF ∨ xb j = 0xFF
      let ps := (List.range 32).map fun i => if bad then none else product (a (32 * j + i)) (b (32 * j + i))
      (ps.contains none, (if bad then 0 else sumFixed ps), blockShift (xa j) (xb j) anchor)
    ⟨blocks.map (·.2), none, blocks.any (·.1), false⟩
  else
    let ps := (List.range 256).map fun k => product (a k) (b k)
    ⟨[(sumFixed ps, 0)], none, ps.contains none, false⟩

/-- A column of BF16 or FP16 operands (R53). The tag is none when every product is zero. -/
def colWide (a b : Nat → Num) : ColSum :=
  let ps := (List.range 256).map fun k => product (a k) (b k)
  let nz := ps.filterMap fun p => match p with
    | some (n, m, w) => if m = 0 then none else some (n, m, w)
    | none => none
  match nz with
  | [] => ⟨[(0, 0)], none, ps.contains none, false⟩
  | p :: _ =>
    let w0 := nz.foldl (fun l x => max l (leadOf x.2.1 x.2.2)) (leadOf p.2.1 p.2.2) - 86
    let kept := nz.map fun x => (x.1, roundUnits x.2.1 x.2.2 w0 .rtz 0)
    ⟨[(kept.foldl (fun acc x => acc + (if x.1 then -(x.2.1 : Int) else x.2.1)) 0, 0)], some w0, ps.contains none, kept.any (·.2.2)⟩

/-! ### Accumulation and the residue checks (R56, R57, R69) -/

/-- A number with bits of its 96-bit form flipped. -/
def flipInt (f : BitVec 96) (x : Int) : Int := if f = 0 then x else (wrap96 x ^^^ f).toInt

/-- The bits that an observation flips at a column, block and stage. -/
def flipOf (l : List FlipAt) (col block stage : Nat) : BitVec 96 :=
  match l.find? (fun x => decide (x.col = col ∧ x.block = block ∧ x.stage = stage)) with
  | some x => x.bits
  | none => 0

/-- The bits that an observation flips in the tag of a column. -/
def tagFlip (l : List (Nat × BitVec 10)) (col : Nat) : BitVec 10 :=
  match l.find? (fun x => decide (x.1 = col)) with
  | some x => x.2
  | none => 0

/-- What accumulating a column has come to: N, whether an addition left the 96-bit range, whether a shift dropped a 1, whether a residue
check failed. -/
structure AccRun where
  n : BitVec 96
  wrapped : Bool
  lostMx : Bool
  residue : Bool
  deriving DecidableEq, Repr

/-- One block is added: the tree's sum is checked against the predictor before its shift, N after the addition against N before it and the
shifted sum (R69; log entry 60). `fl` gives the bits flipped at each stage. -/
def AccRun.add (x : AccRun) (fl : Nat → BitVec 96) (p : Int × Int) : AccRun :=
  let sum := flipInt (fl 0) p.1
  let sh := shiftSum sum p.2
  let y := x.n.toInt + flipInt (fl 2) sh.1
  let n := wrap96 y ^^^ fl 1
  ⟨n, x.wrapped || wraps96 y, x.lostMx || sh.2,
    x.residue || decide (sum % 255 ≠ p.1 % 255) || decide (n.toInt % 255 ≠ (wrap96 y).toInt % 255)⟩

/-- A column's blocks are added in order to N. -/
def accumulate (n : BitVec 96) (parts : List (Int × Int)) (fl : Nat → Nat → BitVec 96) : AccRun :=
  parts.zipIdx.foldl (fun x p => x.add (fl p.2) p.1) ⟨n, false, false, false⟩

/-! ### The accumulator file (R108) -/

/-- An accumulator entry of a physical engine. -/
def Chan.accAt (c : Chan) (p row col : Nat) : AccEnt := kget (fun _ => ⟨0, 0⟩) c.acc (p * 32768 + row * 128 + col)

/-- A row of 128 entries of a physical engine. -/
def Chan.accRow (c : Chan) (p row : Nat) : List AccEnt := (List.range 128).map (c.accAt p row)

/-- Writes a row. -/
def Chan.setAccRow (c : Chan) (p row : Nat) (l : List AccEnt) : Chan :=
  { c with acc := ksets (fun _ => ⟨0, 0⟩) c.acc (p * 32768 + row * 128) l }

/-- Sets the kind bits of rows of a physical engine (R108). -/
def Chan.setKind (c : Chan) (p row n : Nat) (b : Bool) : Chan :=
  { c with kind := ksets (fun _ => false) c.kind (p * 256 + row) (List.replicate n b) }

/-- A row as bytes: the values, 12 bytes each, and then the tags, 10 bits each (R108). -/
def accBytes (l : List AccEnt) : List Byte :=
  (l.flatMap fun en => leBytes 12 en.n.toNat) ++ packBits 10 (l.map fun en => (en.w % 1024).toNat)

/-- A row from its bytes. -/
def accOf (b : List Byte) : List AccEnt :=
  (List.range 128).map fun col =>
    ⟨BitVec.ofNat 96 (leAt b (12 * col) 12), toSigned 10 (elemBits (fun i => nth 0 b (1536 + i)) 10 col)⟩

/-- A row as a read with errors gives it, and what was found (R81). -/
def readAcc (l : List AccEnt) (errs : EccObs) : List AccEnt × List (Nat × WordOut) :=
  if errs.isEmpty then (l, []) else
    let (b, found) := readWords 0 (accBytes l) errs
    (accOf b, found)

/-- What reads of the accumulator file of a physical engine found (R81). -/
def State.accFound (s : State) (n : Fin 8) (p pc cycle : Nat) (l : List (Nat × WordOut)) : State :=
  l.foldl (fun s x => s.eccFound n (unitAcc p) 11 pc cycle x.2) s

/-- An empty weight buffer. -/
def tile0 : Tile := ⟨[], [], false⟩

/-- What a pass reads at once (R106, R145): bytes of one read, by row bytes and width. -/
def pieceBytes (fa fw : Nat) : Nat :=
  if passWidth fa fw = 4 then 2 * actRowBytes fa else if passWidth fa fw = 16 then actRowBytes fa / 4 else actRowBytes fa

/-- Reads that `rows` rows take. -/
def pieceCount (fa fw rows : Nat) : Nat :=
  if passWidth fa fw = 4 then (rows + 1) / 2 else if passWidth fa fw = 16 then 4 * rows else rows

/-- The read that brings the start of row `r`. -/
def pieceOf (fa fw r : Nat) : Nat :=
  if passWidth fa fw = 4 then r / 2 else if passWidth fa fw = 16 then 4 * r else r

/-- A byte of activation row `r` among what the pass has read. -/
def rowByte (buf : KMap (List Byte)) (fa fw r i : Nat) : Byte :=
  let p := pieceBytes fa fw
  let o := (if passWidth fa fw = 4 then r % 2 * actRowBytes fa else 0) + i
  nth 0 (kget (fun _ => []) buf (pieceOf fa fw r + o / p)) (o % p)

/-- Whether a tile's scales apply: they do when the weight format may carry scales (R47; log entry 61). -/
def Tile.scaled (t : Tile) (fw : Nat) : Bool := t.mx && mayScale fw

/-- One column of row `r` of a pass. -/
def passCol (j : Job) (t : Tile) (fa fw : Nat) (anchor : Int) (mxA : Bool) (r col : Nat) : ColSum :=
  let a (k : Nat) : Num := decodeElem fa (elemBits (rowByte j.buf fa fw r) (fmtBits fa) k)
  let b (k : Nat) : Num := decodeElem fw (elemBits (fun i => nth 0 t.elems i) (fmtBits fw) (k * 128 + col))
  if is16 fa then colWide a b
  else
    let xa (i : Nat) : Nat := if mxA then (nth 0 (kget (fun _ => []) j.sbuf (r / 8)) (8 * (r % 8) + i)).toNat else 0x7F
    let xb (i : Nat) : Nat := if t.scaled fw then (nth 0 t.scales (128 * i + col)).toNat else 0x7F
    colNarrow (mxA || t.scaled fw) anchor xa xb a b

/-- The tag of a pass's entry (R53, R108); `free` stands for the tag of an all-zero BF16 or FP16 group, which has none. -/
def passTag (cs : ColSum) (fa : Nat) (mx : Bool) (anchor free : Int) : Int :=
  match cs.tag with
  | some w => w
  | none => if is16 fa then free else if mx then anchor - 32 else -32

/-- The row a pass row gives an engine: entries, flags, whether an operand was not finite, and whether a residue check failed (R52, R69,
R108). -/
structure RowResult where
  entries : List AccEnt
  flags : AFlags
  nonfin : Bool
  residue : Bool
  deriving DecidableEq, Repr

/-- Computes a pass row onto the entries `old`, with what the engine's hardware did to it. -/
def passRow (j : Job) (t : Tile) (fa fw : Nat) (anchor : Int) (mxA cont : Bool) (r : Nat) (old : List AccEnt) (free : Nat) (obs : FlipObs) :
    RowResult :=
  let cols := (List.range 128).map fun col =>
    let cs := passCol j t fa fw anchor mxA r col
    let o := nth ⟨0, 0⟩ old col
    let run := accumulate (if cont then o.n else 0) cs.parts (flipOf obs.sums col)
    let tag := if cont then o.w else passTag cs fa (mxA || t.scaled fw) anchor ((Config.freeNat (free + col) % 1024 : Nat) - 512)
    let x := tagFlip obs.tags col
    ((⟨run.n, if x = 0 then tag else toSigned 10 ((tag % 1024).toNat ^^^ x.toNat)⟩ : AccEnt), cs, run)
  { entries := cols.map (·.1)
    flags := afIf (cols.any (·.2.1.nonfin)) afNonfinIn ||| afIf (cols.any (·.2.2.lostMx)) afInexactMx |||
      afIf (cols.any (·.2.1.lostAlign)) afInexactAlign ||| afIf (cols.any (·.2.2.wrapped)) afWideWrap
    nonfin := cols.any (·.2.1.nonfin)
    residue := cols.any (·.2.2.residue) }

/-! ### Drains -/

/-- A drained word before packing (R58 to R61): entry, format, mode, SAT and random value. -/
def drainWord (en : AccEnt) (fmt : Nat) (sat : Bool) (mode : RMode) (r : Nat) : Nat × AFlags :=
  let n := en.n.toInt
  let (b, i) := roundFp fmt false sat mode r (decide (n < 0)) n.natAbs en.w
  (b, i.outFlags)

/-- One MX block of a drain (R62): element words, scale byte, flags. `rnd` gives the random value of an element. -/
def drainBlock (ens : List AccEnt) (fmt : Nat) (sat : Bool) (mode : RMode) (rnd : Nat → Nat) : List Nat × Nat × AFlags :=
  let x := mxScaleExp fmt (ens.map fun en => (en.n.toInt.natAbs, en.w))
  let ws := ens.zipIdx.map fun (en, i) =>
    let n := en.n.toInt
    roundMxElem fmt sat mode (rnd i) (decide (n < 0)) n.natAbs (en.w - x)
  (ws.map (·.1), (x + 127).toNat, ws.foldl (fun a w => a ||| w.2.outFlags) 0)

/-- A drained row: its element words, its scale bytes (MX only), its flags. -/
def drainRow (row : List AccEnt) (fmt : Nat) (mx sat : Bool) (mode : RMode) (rnd : Nat → Nat) : List Nat × List Nat × AFlags :=
  if fmt = 11 then (row.map fun en => en.n.toNat, [], 0)
  else if mx then
    let bs := (chunks 32 4 row).zipIdx.map fun (b, k) => drainBlock b fmt sat mode (fun i => rnd (32 * k + i))
    (bs.flatMap (·.1), bs.map (·.2.1), bs.foldl (fun a b => a ||| b.2.2) 0)
  else
    let ws := row.zipIdx.map fun (en, i) => drainWord en fmt sat mode (rnd i)
    (ws.map (·.1), [], ws.foldl (fun a w => a ||| w.2) 0)

/-! ### Issue of the tensor-engine operations -/

/-- Unit numbers for issue intervals (R143): an engine's operation kind, 0 LOADW, 1 PASS, 2 DRAIN, 3 LOADACC. -/
def teUnit (kind e : Nat) : Nat := kind * 16 + e

/-- Whether an operation issued now comes inside another's interval on a unit (R113, R143). -/
def Chan.unitBusy (c : Chan) (unit : Nat) : Bool := decide (c.cycle < (kget (fun _ => (0, 0)) c.busyUntil unit).1)

/-- Takes a unit for `interval` cycles from the present one; an interval that lasts longer stays. -/
def State.takeUnit (s : State) (n : Fin 8) (unit interval : Nat) : State :=
  let c := s.chan n
  let old := kget (fun _ => (0, 0)) c.busyUntil unit
  if c.cycle + interval ≤ old.1 then s
  else s.setChan n { c with
    busyUntil := kset (fun _ => (0, 0)) c.busyUntil unit (c.cycle + interval, s.fld (chStatus n) CH_STATUS_PC) }

/-- Whether a PASS issued now finds the tile of an engine not yet loaded (R104). -/
def Chan.tileEarly (c : Chan) (e : Nat) : Bool := decide (c.cycle < (kget (fun _ => (0, 0)) c.tileReady e).1)

/-- Free values kept for the undefined results of an operation. -/
def jobFree : Nat := 2 ^ 21

/-- Puts an operation in flight and gives its number. -/
def State.addJob (s : State) (n : Fin 8) (op : JobOp) (undef : List Nat) (errs : List ReadErr) : State × Nat :=
  let c := s.chan n
  let j : Job := ⟨op, [], [], [], undef, s.free, errs, s.fld (chStatus n) CH_STATUS_PC⟩
  ((s.setChan n { c with jobs := c.jobs ++ [(c.nextJob, j)], nextJob := c.nextJob + 1 }).take (if undef.isEmpty then 0 else jobFree),
    c.nextJob)

/-- Schedules an event of the bundle being issued, `k` cycles after its issue. -/
def State.after (s : State) (n : Fin 8) (slot k ord : Nat) (ev : Ev) : State :=
  s.schedule n ⟨(s.chan n).cycle + k, ord, slot, s.fld (chStatus n) CH_STATUS_PC, ev⟩

/-- LOADW for one engine (R104, R105, R145). -/
def State.issueLoadw (s : State) (n : Fin 8) (f : LoadwF) (e : Nat) (errs : List ReadErr) : State :=
  let c := s.chan n
  let j := e % 8
  let fmt := f.fmtW.toNat
  let slot := 1 + f.grp.val
  let mx := decide (f.ss ≠ 0)
  let base := (c.s f.sa.toNat).toNat + j * tileBytes fmt
  let sbase := (c.s f.ss.toNat).toNat + j * 1024
  let busy := c.unitBusy (teUnit 0 e)
  let (s, id) := (s.takeUnit n (teUnit 0 e) 64).addJob n (.loadw e (tileBytes fmt) mx) (if busy then [e] else []) errs
  let g := tileBytes fmt / 64
  let x := c.extra
  let s := (List.range 64).foldl (fun s m =>
    s.after n slot (1 + x + m) (ordAccess 2 false e) (.read id false m (base + g * m) g)) s
  let s := if mx then (List.range 16).foldl (fun s m =>
      s.after n slot (1 + x + m) (ordAccess 2 true e) (.read id true m (sbase + 64 * m) 64)) s
    else s
  let s := s.setChan n { s.chan n with
    tileReady := kset (fun _ => (0, 0)) (s.chan n).tileReady e ((s.chan n).cycle + 64, s.fld (chStatus n) CH_STATUS_PC) }
  s.after n slot (64 + x) ordDone (.tileDone id)

/-- The engine TE16 shadows now (R110). -/
def State.shadowing (s : State) (n : Fin 8) : Option Nat :=
  if s.flag (chShadow n) CH_SHADOW_COMPARING then some (s.fld (chShadow n) CH_SHADOW_TARGET) else none

/-- Swaps the weight buffers of a physical engine (R104). -/
def Chan.swapTiles (c : Chan) (p : Nat) : Chan :=
  let a := kget (fun _ => tile0) c.active p
  let b := kget (fun _ => tile0) c.standby p
  { c with active := kset (fun _ => tile0) c.active p b, standby := kset (fun _ => tile0) c.standby p a }

/-- PASS (R104 to R108): the buffers of each selected engine swap, the rows are read and complete at their cycles. An engine whose tile is not
yet loaded gives wrong data, and one inside its interval an undefined result: free values, in that engine only. TE16 takes the pass with the
engine it shadows (R110). -/
def State.issuePass (s : State) (n : Fin 8) (f : PassF) (errs : List ReadErr) : State :=
  let es := engines f.grp f.eng
  let slot := 1 + f.grp.val
  let fa := f.fmtA.toNat
  let fw := f.fmtW.toNat
  let rows := f.rowsM1.toNat + 1
  let c := s.chan n
  let undef := es.filter fun e => c.tileEarly e || c.unitBusy (teUnit 1 e)
  let shadow := (s.shadowing n).filter es.contains
  let s := es.foldl (fun s e => s.takeUnit n (teUnit 1 e) (pieceCount fa fw rows)) s
  let tiles := es.map fun e => (e, kget (fun _ => tile0) c.standby (c.phys e))
  let c := (es.map c.phys ++ (if shadow.isSome then [16] else [])).foldl (fun (c : Chan) p =>
    (c.swapTiles p).setKind p f.accRow.toNat rows (is16 fa)) (s.chan n)
  let s := s.setChan n { c with shLive := c.shLive || shadow.isSome }
  let mxA := decide (f.ss ≠ 0)
  let base := (c.s f.sa.toNat).toNat
  let sbase := (c.s f.ss.toNat).toNat
  let low := es.headD 0
  let (s, id) := s.addJob n (.pass tiles fa fw rows f.accRow.toNat f.cont f.anchor.toInt mxA shadow) undef errs
  let x := c.extra
  let pb := pieceBytes fa fw
  let total := rows * actRowBytes fa
  let s := if es.isEmpty then s else (List.range (pieceCount fa fw rows)).foldl (fun s p =>
    s.after n slot (1 + x + p) (ordAccess 1 false low) (.read id false p (base + pb * p) (min pb (total - pb * p)))) s
  let s := if mxA && !es.isEmpty then (List.range ((rows + 7) / 8)).foldl (fun s i =>
      s.after n slot (1 + x + pieceOf fa fw (8 * i)) (ordAccess 1 true low) (.read id true i (sbase + 64 * i) (min 64 (8 * rows - 64 * i)))) s
    else s
  let first := (if is16 fa then (if s.latA1 n then 276 else 270) else (if s.latA1 n then 268 else 262)) + x
  es.foldl (fun s e => (List.range rows).foldl (fun s r =>
    s.after n slot (first + pieceOf fa fw r) ordDone (.rowDone id e r)) s) s

/-- DRAIN for one engine (R109, R145). -/
def State.issueDrain (s : State) (n : Fin 8) (f : DrainF) (e : Nat) (errs : List ReadErr) : State :=
  let c := s.chan n
  let slot := 1 + f.grp.val
  let fmt := f.fmtO.toNat
  let rows := f.rowsM1.toNat + 1
  let rb := outRowBytes fmt
  let j := e % 8
  let addr := (c.s f.sa.toNat).toNat + j * (rows * rb)
  let saddr := (c.s f.ss.toNat).toNat + j * 4 * rows
  let stream := (c.s f.sx.toNat).toNat % 2 ^ 24
  let busy := c.unitBusy (teUnit 2 e)
  let (s, id) := (s.takeUnit n (teUnit 2 e) (if fmt = 11 then 3 * rows else rows)).addJob n
    (.drain e fmt f.mx f.mode f.sat stream rows f.accRow.toNat addr saddr (c.shLive && decide (s.shadowing n = some e)))
    (if busy then [e] else []) errs
  let x := c.extra
  (List.range rows).foldl (fun s i =>
    let s := s.after n slot (1 + i) ordDrainRead (.drainRead id i)
    if fmt = 11 then (List.range 3).foldl (fun s m => s.after n slot (8 + x + 3 * i + m) (ordAccess 4 false e) (.drainWrite id i m)) s
    else
      let s := s.after n slot (10 + x + i) (ordAccess 4 false e) (.drainWrite id i 0)
      if f.mx then s.after n slot (10 + x + i) (ordAccess 4 true e) (.drainWrite id i 9) else s) s

/-- LOADACC for one engine (R108, R145). -/
def State.issueLoadacc (s : State) (n : Fin 8) (f : LoadaccF) (e : Nat) (errs : List ReadErr) : State :=
  let c := s.chan n
  let slot := 1 + f.grp.val
  let rows := f.rowsM1.toNat + 1
  let addr := (c.s f.sa.toNat).toNat + e % 8 * (rows * 1536)
  let busy := c.unitBusy (teUnit 3 e)
  let s := s.takeUnit n (teUnit 3 e) (3 * rows)
  let s := s.setChan n ((s.chan n).setKind (c.phys e) f.accRow.toNat rows false)
  let (s, id) := s.addJob n (.loadacc e rows f.accRow.toNat f.anchor.toInt) (if busy then [e] else []) errs
  let x := c.extra
  (List.range rows).foldl (fun s i =>
    let s := (List.range 3).foldl (fun s m =>
      s.after n slot (1 + x + 3 * i + m) (ordAccess 3 false e) (.read id false (3 * i + m) (addr + 1536 * i + 512 * m) 512)) s
    s.after n slot (12 + x + 3 * i) ordDone (.rowDone id e i)) s

/-! ### Landing of their events -/

/-- The operation in flight with a number. -/
def Chan.job? (c : Chan) (id : Nat) : Option Job := (c.jobs.find? (fun j => decide (j.1 = id))).map (·.2)

/-- Replaces an operation in flight. -/
def Chan.setJob (c : Chan) (id : Nat) (j : Job) : Chan :=
  { c with jobs := c.jobs.map fun x => if x.1 = id then (id, j) else x }

/-- Whether an event belongs to operation `id`. -/
def Ev.ofJob (id : Nat) : Ev → Bool
  | .read j _ _ _ _ => decide (j = id)
  | .tileDone j => decide (j = id)
  | .rowDone j _ _ => decide (j = id)
  | .drainRead j _ => decide (j = id)
  | .drainWrite j _ _ => decide (j = id)
  | _ => false

/-- Forgets an operation none of whose events is left. -/
def State.endJob (s : State) (n : Fin 8) (id : Nat) : State :=
  let c := s.chan n
  if c.flight.any (fun f => f.ev.ofJob id) then s
  else s.setChan n { c with jobs := c.jobs.filter fun x => decide (x.1 ≠ id) }

/-- The SRAM words that an operation reads with errors. -/
def Job.sramErrs (j : Job) : EccObs := j.errs.filterMap fun x => if x.src = .sram then some (x.word, x.err) else none

/-- A drain ends with its last output row. -/
def State.endDrain (s : State) (n : Fin 8) (id i rows : Nat) : State := if i + 1 = rows then s.endJob n id else s

/-- A read of an operation lands in its buffer. -/
def State.landRead (s : State) (n : Fin 8) (f : Flight) (id : Nat) (scale : Bool) (k addr len : Nat) : State :=
  let (s, b) := s.readSram n f addr len (((s.chan n).job? id).elim [] Job.sramErrs)
  match (s.chan n).job? id with
  | none => s
  | some j =>
    s.setChan n ((s.chan n).setJob id
      (if scale then { j with sbuf := kset (fun _ => []) j.sbuf k b } else { j with buf := kset (fun _ => []) j.buf k b }))

/-- What a buffer of reads holds, in order. -/
def bufBytes (b : KMap (List Byte)) (reads : Nat) : List Byte := ((List.range reads).map (kget (fun _ => []) b)).flatten

/-- `k` free bytes from free value `base` on. -/
def freeBytes (base k : Nat) : List Byte := (List.range k).map fun i => BitVec.ofNat 8 (Config.freeNat (base + i))

/-- A weight tile is complete in the standby buffer (R104); TE16 takes the loads of the engine it shadows (R110). -/
def State.landTile (s : State) (n : Fin 8) (id : Nat) : State :=
  match (s.chan n).job? id with
  | some j =>
    match j.op with
    | .loadw e len mx =>
      let elems := if j.undef.contains e then freeBytes j.base len else bufBytes j.buf 64
      let put (c : Chan) (p : Nat) : Chan :=
        let old := kget (fun _ => tile0) c.standby p
        let new : Tile := ⟨elems ++ old.elems.drop len, if mx then bufBytes j.sbuf 16 else old.scales, mx⟩
        { c with standby := kset (fun _ => tile0) c.standby p new }
      let c := put (s.chan n) ((s.chan n).phys e)
      (s.setChan n (if s.shadowing n = some e then put c 16 else c)).endJob n id
    | _ => s
  | none => s

/-- Operations in flight are no longer compared: shadowing stops (R111). -/
def Chan.unshadow (c : Chan) : Chan :=
  { c with
    shLive := false
    jobs := c.jobs.map fun x => (x.1, { x.2 with op := match x.2.op with
      | .pass t fa fw rows a cont anchor mxA _ => .pass t fa fw rows a cont anchor mxA none
      | .drain e fmt mx mode sat st rows a ad sd _ => .drain e fmt mx mode sat st rows a ad sd false
      | o => o }) }

/-- Outcomes of the residue check and of the understudy's comparison (R69, R111); `cmp` says whether TE16 shadowed the operation. -/
def State.teOutcome (s : State) (n : Fin 8) (f : Flight) (e : Nat) (cmp residue residue16 differ : Bool) : State :=
  if residue then s.faultChanAt n 7 f.pc e f.due
  else if cmp && residue16 then
    let s := (s.setFlag (chShadow n) CH_SHADOW_TE16_RESIDUE).setFld (chShadow n) CH_SHADOW_COMPARING 0
    s.setChan n { (s.chan n).unshadow with shStopped := true, shCopying := none }
  else if cmp && differ then s.faultChanAt n 8 f.pc e f.due
  else s

/-- Free entries of accumulator row `row` of an engine, from free value `u` on. -/
def freeRow (u e row : Nat) : List AccEnt :=
  (List.range 128).map fun col =>
    let i := 32768 * e + 128 * row + col
    ⟨BitVec.ofNat 96 (Config.freeNat (u + i)), (Config.freeNat (u + 524288 + i) % 1024 : Nat) - 512⟩

/-- Free flags among those of a mask. -/
def freeFlags (u : Nat) (mask : AFlags) : AFlags := BitVec.ofNat 11 (Config.freeNat u) &&& mask

/-- A row of a pass is complete in the accumulator file (R107, R108). TE16 computes the row it shadows from the same operands, onto the same
accumulator entries, and keeps it in its own file (R110, R111; log entry 62). -/
def State.landPassRow (s : State) (n : Fin 8) (f : Flight) (id e r : Nat) (j : Job) (t : Tile) (fa fw row : Nat) (cont : Bool) (anchor : Int)
    (mxA shadowed : Bool) (obs : TeObs) : State :=
  let p := (s.chan n).phys e
  let (old, found) := readAcc ((s.chan n).accRow p row) (if cont then accErrs j.errs e row else [])
  let res := passRow j t fa fw anchor mxA cont r old s.free obs.te
  let res16 := if shadowed then passRow j t fa fw anchor mxA cont r old s.free obs.te16 else res
  let bad := j.undef.contains e
  let entries := if bad then freeRow j.base e r else res.entries
  let fl := if bad then freeFlags (j.base + 2 ^ 20 + 256 * e + r) (afInexactAlign ||| afInexactMx ||| afNonfinIn ||| afWideWrap) else res.flags
  let c := (s.chan n).setAccRow p row entries
  let c := if shadowed then c.setAccRow 16 row (if bad then entries else res16.entries) else c
  let s := (s.setChan n c).take (if is16 fa then 128 else 0)
  let s := (s.addFlags n fl).accFound n p f.pc f.due found
  let s := s.teOutcome n f e shadowed res.residue res16.residue (decide (res.entries ≠ res16.entries))
  let s := if fl &&& afNonfinIn ≠ 0 ∧ s.flag (chArithCtl n) CH_ARITH_CTL_NONFIN_FAULT then s.faultChanAt n 9 f.pc 0 f.due else s
  s.endJob n id

/-- A row of a LOADACC is complete in the accumulator file (R108). -/
def State.landAccRow (s : State) (n : Fin 8) (id e r : Nat) (j : Job) (row : Nat) (anchor : Int) : State :=
  let b := (List.range 3).flatMap fun m => kget (fun _ => []) j.buf (3 * r + m)
  let entries := if j.undef.contains e then freeRow j.base e r
    else (List.range 128).map fun col => ⟨BitVec.ofNat 96 (leAt b (12 * col) 12), anchor - 32⟩
  (s.setChan n ((s.chan n).setAccRow ((s.chan n).phys e) row entries)).endJob n id

/-- A row is complete in the accumulator file (R107, R108). -/
def State.landRow (s : State) (n : Fin 8) (f : Flight) (id e r : Nat) (obs : TeObs) : State :=
  match (s.chan n).job? id with
  | some j =>
    match j.op with
    | .pass tiles fa fw _ accRow cont anchor mxA shadow =>
      let t := ((tiles.find? fun x => decide (x.1 = e)).map (·.2)).getD tile0
      s.landPassRow n f id e r j t fa fw (accRow + r) cont anchor mxA (decide (shadow = some e)) obs
    | .loadacc _ _ accRow anchor => s.landAccRow n id e r j (accRow + r) anchor
    | _ => s
  | none => s

/-- The operation issued before `id` that has still to complete accumulator row `row` of an engine: its bundle address. -/
def Chan.rowPending (c : Chan) (id e row : Nat) : Option Nat :=
  c.flight.findSome? fun g => match g.ev with
    | .rowDone id' e' r' =>
      if e' = e ∧ id' < id then
        match c.job? id' with
        | some j => match j.op with
          | .pass _ _ _ _ a _ _ _ _ => if a + r' = row then some j.pc else none
          | .loadacc _ _ a _ => if a + r' = row then some j.pc else none
          | _ => none
        | none => none
      else none
    | _ => none

/-- A drain reads an accumulator row; a row that an earlier operation has still to complete is read as it stands (R84), which rehearsal mode
reports (kind 0x05). -/
def State.landDrainRead (s : State) (n : Fin 8) (f : Flight) (id i : Nat) : State :=
  match (s.chan n).job? id with
  | some j =>
    match j.op with
    | .drain e _ _ _ _ _ _ accRow _ _ _ =>
      let c := s.chan n
      let (row, found) := readAcc (c.accRow (c.phys e) (accRow + i)) (accErrs j.errs e (accRow + i))
      let s := s.setChan n (c.setJob id { j with rows := kset (fun _ => []) j.rows i row })
      let s := s.accFound n (c.phys e) f.pc f.due found
      match c.rowPending id e (accRow + i) with
      | some pc => s.hazard n 0x05 f.slot 12 e f.due f.pc pc
      | none => s
    | _ => s
  | none => s

/-- A drain writes an output row, a third of one, or its scales (R58 to R64, R109, R111). CH_SR_SEED and CH_SR_RANK are those at the write of
the row, and the row's flags are set with it (log entry 63). -/
def State.landDrainWrite (s : State) (n : Fin 8) (f : Flight) (id i m : Nat) (obs : TeObs) : State :=
  match (s.chan n).job? id with
  | some j =>
    match j.op with
    | .drain e fmt mx mode sat stream rows accRow addr saddr shadow =>
      let row := kget (fun _ => []) j.rows i
      let seed := (s.rd (chSrSeed n)).toNat
      let rank := s.fld (chSrRank n) CH_SR_RANK_RANK
      let rnd (col : Nat) : Nat := srRandom seed rank stream ((256 * e + accRow + i) * 128 + col)
      let (ws, scales, fl) := drainRow row fmt mx sat (rmodeOf mode) rnd
      let b := fmtBits fmt
      let flip (l : List FlipAt) : List Nat := ws.zipIdx.map fun (w, col) => (w ^^^ (flipOf l col 0 0).toNat) % 2 ^ b
      let bad := j.undef.contains e
      let bytes := if bad then freeBytes (j.base + 2048 * i) (outRowBytes fmt) else packBits b (flip obs.te.sums)
      if m = 9 then
        s.writeSram n f (saddr + 4 * i)
          (if bad then freeBytes (j.base + 600000 + 4 * i) 4 else scales.map (BitVec.ofNat 8)) |>.endDrain n id i rows
      else
        let s := if fmt = 11 then s.writeSram n f (addr + 1536 * i + 512 * m) (slice bytes (512 * m) 512)
          else s.writeSram n f (addr + outRowBytes fmt * i) bytes
        let s := s.addFlags n (if bad then freeFlags (j.base + 2 ^ 20 + i) (afOutOvf ||| afOutUnf) else fl)
        (s.teOutcome n f e shadow false false (decide (flip obs.te.sums ≠ flip obs.te16.sums))).endDrain n id i rows
    | _ => s
  | none => s

end Sys2Proof.Machine
end

