-- ==== Sys2Proof/Machine/VectorUnit.lean ====
section
/-!
DEFINITION. The vector and special-function units (R66, R67, R91 to R95, R581, R582) and the expert slot table (R119): what each operation
computes from its register operands, and its latency (R144).
-/

namespace Sys2Proof.Machine

/-- A lane of a vector operation: its bits and the flags it sets. -/
abbrev Lane := BitVec 32 × AFlags

/-- A lane from an FP32 result. -/
def lane (r : Nat × AFlags) : Lane := (BitVec.ofNat 32 r.1, r.2)

/-- The value of an FP32 lane. -/
def num32 (x : BitVec 32) : Num := decodeFp 10 x.toNat

/-- A free 32-bit value. -/
def freeLane (base i : Nat) : BitVec 32 := BitVec.ofNat 32 (Config.freeNat (base + i))

/-! ### Lane operations -/

def laneAdd (m : RMode) (a b : BitVec 32) : Lane := lane (addNum m (num32 a) (num32 b))
def laneSub (m : RMode) (a b : BitVec 32) : Lane := lane (addNum m (num32 a) (negNum (num32 b)))
def laneMul (m : RMode) (a b : BitVec 32) : Lane := lane (mulNum m (num32 a) (num32 b))
def laneDiv (m : RMode) (a b : BitVec 32) : Lane := lane (divNum m (num32 a) (num32 b))
def laneSqrt (m : RMode) (a : BitVec 32) : Lane := lane (sqrtNum m (num32 a))

/-- VFMA (R91); `nanInv` is the choice of fmaNum. -/
def laneFma (m : RMode) (nanInv : Bool) (a b c : BitVec 32) : Lane := lane (fmaNum m nanInv (num32 a) (num32 b) (num32 c))

/-- A NaN result is the canonical quiet NaN (R66). -/
def canon32 (x : BitVec 32) : BitVec 32 := if isNan (num32 x) then BitVec.ofNat 32 nan32 else x

/-- VMAX and VMIN of two lanes: the manual gives no result for a NaN operand, which `fr` then gives, nor the sign for zeros of opposite signs,
which is that of `fr`; `pick` says whether the second operand is the result otherwise. -/
def laneExtreme (fr a b : BitVec 32) (pick : Bool) : Lane :=
  (if isNan (num32 a) || isNan (num32 b) then canon32 fr
   else if eqNum (num32 a) (num32 b) && decide (a ≠ b) then fr &&& 0x80000000#32
   else if pick then b else a, 0)

/-- VMAX. -/
def laneMax (a b : BitVec 32) : Lane := laneExtreme (Config.vmaxOpen a b) a b (ltNum (num32 a) (num32 b))

/-- VMIN. -/
def laneMin (a b : BitVec 32) : Lane := laneExtreme (Config.vminOpen a b) a b (ltNum (num32 b) (num32 a))

/-- VCMP: test 0 equal, 1 less, 2 less or equal, 3 unordered (R91). -/
def laneCmp (test : Nat) (a b : BitVec 32) : Lane :=
  let x := num32 a
  let y := num32 b
  let un := isNan x || isNan y
  let r := match test with
    | 0 => !un && eqNum x y
    | 1 => !un && ltNum x y
    | 2 => !un && (ltNum x y || eqNum x y)
    | _ => un
  (BitVec.ofNat 32 (b2n r), 0)

/-- VSEL (R91). -/
def laneSel (a b c : BitVec 32) : Lane := (if c ≠ 0 then a else b, 0)

def laneIadd (a b : BitVec 32) : Lane := (a + b, 0)
def laneIsub (a b : BitVec 32) : Lane := (a - b, 0)
def laneIand (a b : BitVec 32) : Lane := (a &&& b, 0)
def laneIor (a b : BitVec 32) : Lane := (a ||| b, 0)
def laneIxor (a b : BitVec 32) : Lane := (a ^^^ b, 0)
/-- VISHL: counts are taken mod 32 (R91). -/
def laneIshl (a b : BitVec 32) : Lane := (a <<< (b.toNat % 32), 0)
/-- VISHR: logical; counts are taken mod 32 (R91). -/
def laneIshr (a b : BitVec 32) : Lane := (a >>> (b.toNat % 32), 0)

/-- All flags of a list of lanes. -/
def laneFlags (l : List Lane) : AFlags := l.foldl (fun a x => a ||| x.2) 0

/-! ### Conversions -/

/-- One lane of VCVT to a format without block scales (R581): encoding and flags. -/
def cvtLane (code : Nat) (sat : Bool) (mode : RMode) (r : Nat) (x : BitVec 32) : Nat × AFlags :=
  match num32 x with
  | .fin n m w =>
    let (b, i) := roundFp code false sat mode r n m w
    (b, i.vecFlags)
  | .inf n =>
    if code = 5 then
      (if sat || decide (mode = .rtz) then signBit 5 n + fmtMaxEnc 5 else signBit 5 n + 0x7F, afOvf)
    else if code ≤ 4 then (signBit code n + fmtMaxEnc code, afOvf)
    else (infBits code n, 0)
  | .nan => if code ≤ 4 then (0, afInvalid) else (canonNan code, 0)

/-- One block of VCVT with block scales (R62, R581): elements, scale byte, flags. -/
def cvtBlock (code : Nat) (sat : Bool) (mode : RMode) (rnd : Nat → Nat) (xs : List (BitVec 32)) : List Nat × Nat × AFlags :=
  let ns := xs.map num32
  let mags := ns.filterMap fun x => match x with
    | .fin _ m w => some (m, w)
    | _ => none
  if mags.length < ns.length then (ns.map fun _ => 0, 0xFF, afInvalid)
  else
    let x := mxScaleExp code mags
    let ws := ns.zipIdx.map fun (v, i) => match v with
      | .fin n m w =>
        if m = 0 then (if code = 7 then 0 else signBit code n, (0 : AFlags))
        else
          let (b, inf) := roundMxElem code sat mode (rnd i) n m (w - x)
          (b, if code = 7 then inf.mxIntFlags else inf.vecFlags)
      | _ => (0, 0)
    (ws.map (·.1), (x + 127).toNat, ws.foldl (fun a w => a ||| w.2) 0)

/-- A vector register that holds packed elements, then scale bytes, then zeros (R92). -/
def packedReg (code : Nat) (elems scales : List Nat) : List (BitVec 32) :=
  lanesOf 1024 (slice (packBits (fmtBits code) elems ++ scales.map (BitVec.ofNat 8)) 0 4096)

/-- VCVT (R91, R92, R581). -/
def vcvtReg (code : Nat) (mx sat : Bool) (mode : RMode) (rnd : Nat → Nat) (va : List (BitVec 32)) : List (BitVec 32) × AFlags :=
  if mx then
    let bs := (chunks 32 32 va).zipIdx.map fun (b, k) => cvtBlock code sat mode (fun i => rnd (32 * k + i)) b
    (packedReg code (bs.flatMap (·.1)) (bs.map (·.2.1)), bs.foldl (fun a b => a ||| b.2.2) 0)
  else
    let ws := va.zipIdx.map fun (x, i) => cvtLane code sat mode (rnd i) x
    (packedReg code (ws.map (·.1)) [], ws.foldl (fun a w => a ||| w.2) 0)

/-- One lane of VUNPK (R582): element bits and, with block scales, the scale byte. -/
def unpkLane (code bits : Nat) (scale : Option Nat) : Lane :=
  match scale with
  | some 0xFF => (BitVec.ofNat 32 nan32, 0)
  | _ =>
    match decodeElem code bits with
    | .fin n m w =>
      let x : Int := match scale with
        | some b => (b : Int) - 127
        | none => 0
      lane (round32 .rne n m (w + x))
    | .inf n => (BitVec.ofNat 32 (infBits 10 n), 0)
    | .nan => (BitVec.ofNat 32 nan32, 0)

/-- VUNPK (R91, R92, R582). -/
def vunpkLanes (code : Nat) (mx : Bool) (va : List (BitVec 32)) : List Lane :=
  let bytes := laneBytes va
  (List.range 1024).map fun i =>
    let e := elemBits (fun k => nth 0 bytes k) (fmtBits code) i
    unpkLane code e (if mx then some (nth 0 bytes (128 * fmtBits code + i / 32)).toNat else none)

/-- A lane of a wide-partial triple (R93). -/
def wideLane (a b c : List (BitVec 32)) (i : Nat) : BitVec 96 := nth 0 c i ++ nth 0 b i ++ nth 0 a i

/-- VWADD (R56, R57, R93): the three registers of the sum, and WIDE_WRAP. -/
def vwaddRegs (x y : Nat → BitVec 96) : List (List (BitVec 32)) × AFlags :=
  let sums := (List.range 1024).map fun i => (x i + y i, wraps96 ((x i).toInt + (y i).toInt))
  ((List.range 3).map (fun k => sums.map fun z => z.1.extractLsb' (32 * k) 32), afIf (sums.any (·.2)) afWideWrap)

/-- VWRND (R60 to R62, R93): N × 2^W rounded to a format. -/
def vwrndReg (code : Nat) (mx sat : Bool) (mode : RMode) (rnd : Nat → Nat) (w : Int) (x : Nat → BitVec 96) : List (BitVec 32) × AFlags :=
  let ens : List AccEnt := (List.range 1024).map fun i => ⟨x i, w⟩
  if mx then
    let bs := (chunks 32 32 ens).zipIdx.map fun (b, k) => drainBlock b code sat mode (fun i => rnd (32 * k + i))
    (packedReg code (bs.flatMap (·.1)) (bs.map (·.2.1)), bs.foldl (fun a b => a ||| b.2.2) 0)
  else
    let ws := ens.zipIdx.map fun (en, i) => drainWord en code sat mode (rnd i)
    (packedReg code (ws.map (·.1)) [], ws.foldl (fun a w => a ||| w.2) 0)

/-- One level of the tree of VRSUM (R94). -/
def rsumLevel (l : List Lane) : List Lane :=
  (chunks 2 l.length l).map fun p => match p with
    | [a, b] => let r := laneAdd .rne a.1 b.1; (r.1, r.2 ||| a.2 ||| b.2)
    | [a] => a
    | _ => (0, 0)

/-- VRSUM (R94): ten levels. -/
def vrsum (va : List (BitVec 32)) : Lane :=
  nth (0, 0) ((List.range 10).foldl (fun l _ => rsumLevel l) (va.map fun x => (x, 0))) 0

/-! ### Latencies (R144) -/

/-- The latency of a vector operation; `a1` for the A1 column. -/
def vecLatency (o : VOp) (mx a1 : Bool) : Nat :=
  match o with
  | .vadd | .vsub | .vmul => 4
  | .vfma => 6
  | .vdiv | .vsqrt => if a1 then 24 else 18
  | .vmax | .vmin | .vcmp | .vsel => 2
  | .viadd | .visub | .viand | .vior | .vixor | .vishl | .vishr => 2
  | .vcvt => if mx then 8 else 6
  | .vunpk => 4
  | .vwadd => 3
  | .vwrnd => if mx then 10 else 8
  | .vshuf => 5
  | .vrsum => 40
  | .vbcast => 2
  | .vmovs => 3
  | .xfill => 12
  | .xreset => 1
  | .xread => 3

/-- The latency of a special function. -/
def sfLatency (o : SfOp) (a1 : Bool) : Nat :=
  match o with
  | .recip => if a1 then 10 else 8
  | .rsqrt => if a1 then 12 else 10
  | .exp | .log => if a1 then 14 else 11
  | .tanh => if a1 then 16 else 13

/-- A lane of a special function (R67). -/
def sfLane (o : SfOp) (x : BitVec 32) : Lane :=
  match o with
  | .recip => lane (recipNum (num32 x))
  | .rsqrt => lane (rsqrtNum (num32 x))
  | .exp => lane (expNum (num32 x))
  | .log => lane (logNum (num32 x))
  | .tanh => lane (tanhNum (num32 x))

/-! ### The expert slot table (R119) -/

/-- One lane of XFILL: the row it gives and the table after it. -/
def State.xfillLane (s : State) (n : Fin 8) (x : BitVec 32) : BitVec 32 × State :=
  let e := x.toNat
  if e = 0xFFFFFFFF then (0xFFFFFFFF, s)
  else if s.fld (chXslotCtl n) CH_XSLOT_CTL_EXPERTS ≤ e then (0xFFFFFFFF, s.bump (chXslotStat n) CH_XSLOT_STAT_BAD_INDEX)
  else if s.fld (chXcap n e) CH_XCAP_FILL < s.fld (chXcap n e) CH_XCAP_CAP then
    (BitVec.ofNat 32 (s.fld (chXcap n e) CH_XCAP_FILL), s.bump (chXcap n e) CH_XCAP_FILL)
  else if s.fld (chXslotCtl n) CH_XSLOT_CTL_POLICY = 1 ∧
      s.fld (chXslotStat n) CH_XSLOT_STAT_DEFER_USED < s.fld (chXslotCtl n) CH_XSLOT_CTL_DEFER_CAP then
    (0xFFFFFFFE, (s.bump (chXslotStat n) CH_XSLOT_STAT_DEFER_USED).bump (chXdrop n e) CH_XDROP_DEFERRED)
  else (0xFFFFFFFD, s.bump (chXdrop n e) CH_XDROP_DROPPED)

/-- XFILL over the lanes in ascending order. -/
def State.xfill (s : State) (n : Fin 8) : List (BitVec 32) → List (BitVec 32) × State
  | [] => ([], s)
  | x :: xs =>
    let (y, s) := s.xfillLane n x
    let (ys, s) := State.xfill s n xs
    (y :: ys, s)

/-- The FILL counts of the table. -/
def State.xfills (s : State) (n : Fin 8) : KMap Nat :=
  (List.range 256).foldl (fun m e => kset (fun _ => 0) m e (s.fld (chXcap n e) CH_XCAP_FILL)) []

/-- The FILL counts that an operation issued now reads: those landed by the present cycle. -/
def Chan.xLanded (c : Chan) : KMap Nat :=
  match (c.xPend.filter fun p => decide (p.1 ≤ c.cycle)).getLast? with
  | some p => p.2
  | none => c.xBase

/-- Notes that the table as it now stands is seen from `lat` cycles on. -/
def State.xLater (s : State) (n : Fin 8) (lat : Nat) : State :=
  let c := s.chan n
  s.setChan n { c with xBase := c.xLanded, xPend := (c.xPend.filter fun p => decide (c.cycle < p.1)) ++ [(c.cycle + lat, s.xfills n)] }

/-- XRESET: every FILL and DEFER_USED become 0 (R119). -/
def State.xreset (s : State) (n : Fin 8) : State :=
  (List.range 256).foldl (fun s e => s.setFld (chXcap n e) CH_XCAP_FILL 0) (s.setFld (chXslotStat n) CH_XSLOT_STAT_DEFER_USED 0)

/-- An XFILL inside another's issue interval (R113): the table and its counters hold free values. -/
def State.xundefined (s : State) (n : Fin 8) : State :=
  let base := s.free
  let s := (List.range 256).foldl (fun s e =>
    (((s.setFld (chXcap n e) CH_XCAP_FILL (Config.freeNat (base + 3 * e))).setFld (chXdrop n e) CH_XDROP_DROPPED
      (Config.freeNat (base + 3 * e + 1))).setFld (chXdrop n e) CH_XDROP_DEFERRED (Config.freeNat (base + 3 * e + 2)))) s
  ((s.setFld (chXslotStat n) CH_XSLOT_STAT_DEFER_USED (Config.freeNat (base + 768))).setFld (chXslotStat n)
    CH_XSLOT_STAT_BAD_INDEX (Config.freeNat (base + 769))).take 770

/-! ### Issue -/

/-- Unit numbers for issue intervals (R91, R143): the divide and square-root unit of a vector slot, and the other units of the slot. -/
def divUnit (slot : Nat) : Nat := 64 + slot
def slotUnit (slot : Nat) : Nat := 70 + slot

/-- The unit of a vector operation that may be busy: the FMA array takes an operation in every cycle. -/
def vecUnit (o : VOp) (slot : Nat) : Option Nat :=
  match o with
  | .vadd | .vsub | .vmul | .vfma => none
  | .vdiv | .vsqrt => some (divUnit slot)
  | _ => some (slotUnit slot)

/-- The issue interval of a vector operation (R144); `a1` for the A1 column. -/
def vecInterval (o : VOp) (a1 : Bool) : Nat :=
  match o with
  | .vdiv | .vsqrt => if a1 then 8 else 6
  | .xfill => 4
  | _ => 1

/-- Lands a vector result after a latency. -/
def State.afterV (s : State) (n : Fin 8) (slot lat r : Nat) (l : List (BitVec 32)) : State :=
  s.after n slot lat (ordWrite slot) (.vreg r l)

/-- A lane-wise result: its flags now, its lanes at its latency. -/
def State.vecResult (s : State) (n : Fin 8) (slot lat r : Nat) (l : List Lane) : State :=
  (s.addFlags n (laneFlags l)).afterV n slot lat r (l.map (·.1))

/-- Lane-wise operations of one and of two registers. -/
def lanes1 (f : BitVec 32 → Lane) (a : List (BitVec 32)) : List Lane := a.map f
def lanes2 (f : BitVec 32 → BitVec 32 → Lane) (a b : List (BitVec 32)) : List Lane := List.zipWith f a b

/-- The same with the lane number. -/
def lanes2i (f : Nat → BitVec 32 → BitVec 32 → Lane) (a b : List (BitVec 32)) : List Lane :=
  (a.zip b).zipIdx.map fun x => f x.2 x.1.1 x.1.2

/-- The flags that a vector operation may set (R72). -/
def vecFlagMask (o : VOp) : AFlags :=
  match o with
  | .vdiv | .vsqrt | .vcvt | .vrsum => afInvalid ||| afDivzero ||| afOvf ||| afUnf ||| afInexact
  | .vunpk => afOvf ||| afUnf ||| afInexact
  | .vwadd => afWideWrap
  | .vwrnd => afOutOvf ||| afOutUnf
  | _ => 0

/-- An operation issued inside another's interval on its unit (R113): its result, and the flags it may set, are free. -/
def State.vecUndefined (s : State) (n : Fin 8) (o : VOp) (f : VecF) (slot lat : Nat) : State :=
  let base := s.free
  let d := f.vd.toNat
  let free (k : Nat) : List (BitVec 32) := (List.range 1024).map (freeLane (base + 1024 * k))
  let s := (s.addFlags n (freeFlags (base + 3072) (vecFlagMask o))).take 3073
  match o with
  | .vwadd => (List.range 3).foldl (fun s k => s.afterV n slot lat (d + k) (free k)) s
  | .vmovs => s.after n slot lat (ordWrite slot) (.sreg f.sx.toNat (BitVec.ofNat 64 (Config.freeNat base)))
  | .xreset => (s.xundefined n).xLater n lat
  | .xfill => ((s.xundefined n).xLater n lat).afterV n slot lat d (free 0)
  | _ => s.afterV n slot lat d (free 0)

/-- What a vector operation computes and puts in flight (R91). -/
def State.vecDefined (s : State) (n : Fin 8) (o : VOp) (f : VecF) : State :=
  let c := s.chan n
  let a := c.v f.va.toNat
  let b := c.v f.vb.toNat
  let d := f.vd.toNat
  let slot := 3 + f.slot.val
  let m := rmodeOf f.mode
  let lat := vecLatency o f.mx (s.latA1 n)
  let sx := c.s f.sx.toNat
  let rnd (i : Nat) : Nat := srRandom (s.rd (chSrSeed n)).toNat (s.fld (chSrRank n) CH_SR_RANK_RANK) (sx.toNat % 2 ^ 24) i
  match o with
  | .vadd => s.vecResult n slot lat d (lanes2 (laneAdd m) a b)
  | .vsub => s.vecResult n slot lat d (lanes2 (laneSub m) a b)
  | .vmul => s.vecResult n slot lat d (lanes2 (laneMul m) a b)
  | .vfma => s.vecResult n slot lat d (lanes2i (fun i x y => laneFma m Config.fmaNanInvalid x y (nth 0 (c.v f.vc.toNat) i)) a b)
  | .vdiv => s.vecResult n slot lat d (lanes2 (laneDiv m) a b)
  | .vsqrt => s.vecResult n slot lat d (lanes1 (laneSqrt m) a)
  | .vmax => s.vecResult n slot lat d (lanes2 laneMax a b)
  | .vmin => s.vecResult n slot lat d (lanes2 laneMin a b)
  | .vcmp => s.vecResult n slot lat d (lanes2 (laneCmp f.fmt.toNat) a b)
  | .vsel => s.vecResult n slot lat d (lanes2i (fun i x y => laneSel x y (nth 0 (c.v f.vc.toNat) i)) a b)
  | .viadd => s.vecResult n slot lat d (lanes2 laneIadd a b)
  | .visub => s.vecResult n slot lat d (lanes2 laneIsub a b)
  | .viand => s.vecResult n slot lat d (lanes2 laneIand a b)
  | .vior => s.vecResult n slot lat d (lanes2 laneIor a b)
  | .vixor => s.vecResult n slot lat d (lanes2 laneIxor a b)
  | .vishl => s.vecResult n slot lat d (lanes2 laneIshl a b)
  | .vishr => s.vecResult n slot lat d (lanes2 laneIshr a b)
  | .vcvt =>
    let (l, fl) := vcvtReg f.fmt.toNat f.mx f.sat m rnd a
    (s.addFlags n fl).afterV n slot lat d l
  | .vunpk => s.vecResult n slot lat d (vunpkLanes f.fmt.toNat f.mx a)
  | .vwadd =>
    let x := wideLane a (c.v (f.va.toNat + 1)) (c.v (f.va.toNat + 2))
    let y := wideLane b (c.v (f.vb.toNat + 1)) (c.v (f.vb.toNat + 2))
    let (rs, fl) := vwaddRegs x y
    (rs.zipIdx).foldl (fun s r => s.afterV n slot lat (d + r.2) r.1) (s.addFlags n fl)
  | .vwrnd =>
    let x := wideLane a (c.v (f.va.toNat + 1)) (c.v (f.va.toNat + 2))
    let (l, fl) := vwrndReg f.fmt.toNat f.mx f.sat m rnd (toSigned 10 (bitsOf sx.toNat 32 10)) x
    (s.addFlags n fl).afterV n slot lat d l
  | .vshuf => s.afterV n slot lat d (b.map fun i => nth 0 a (i.toNat % 1024))
  | .vrsum =>
    let r := vrsum a
    (s.addFlags n r.2).afterV n slot lat d (r.1 :: List.replicate 1023 0)
  | .vbcast => s.afterV n slot lat d (List.replicate 1024 (sx.setWidth 32))
  | .vmovs => s.after n slot lat (ordWrite slot) (.sreg f.sx.toNat ((nth 0 a (sx.toNat % 1024)).setWidth 64))
  | .xfill =>
    let (l, s) := s.xfill n a
    (s.xLater n lat).afterV n slot lat d l
  | .xreset => (s.xreset n).xLater n lat
  | .xread => s.afterV n slot lat d ((List.range 1024).map fun e =>
      if e < 256 then BitVec.ofNat 32 (kget (fun _ => 0) c.xLanded e) else 0)

/-- Issues a vector operation (R91, R113, R143). -/
def State.issueVec (s : State) (n : Fin 8) (o : VOp) (f : VecF) : State :=
  match vecUnit o f.slot with
  | none => s.vecDefined n o f
  | some u =>
    let busy := (s.chan n).unitBusy u
    let s := s.takeUnit n u (vecInterval o (s.intA1 n))
    if busy then s.vecUndefined n o f (3 + f.slot.val) (vecLatency o f.mx (s.latA1 n)) else s.vecDefined n o f

/-- Issues a special function (R95). -/
def State.issueSf (s : State) (n : Fin 8) (o : SfOp) (f : SfF) : State :=
  s.vecResult n 5 (sfLatency o (s.latA1 n)) f.vd.toNat (lanes1 (sfLane o) ((s.chan n).v f.va.toNat))

end Sys2Proof.Machine
end

