-- ==== Sys2Proof/Machine/Sequencer.lean ====
section
/-!
DEFINITION. The sequencer (R84 to R89): landing what is in flight, the checks a bundle meets, its issue as a whole, holds on cues and waits
(R100 to R102, R151, R152), the queue operations (R114, R115, R188), the network operations (R116 to R118, R231), and starting a channel
(R123).
-/

namespace Sys2Proof.Machine

/-! ### Time as a channel sees it -/

/-- Whether the channel's view of time has reached a cue's tick at a cycle (R100, R394). -/
def State.cueReached (s : State) (n : Fin 8) (tick cycle : Nat) : Bool :=
  decide (tick ≠ 2 ^ 64 - 1) &&
    (if (s.chan n).applied.counted then decide (((tick * s.arithMHz n + 999) / 1000 : Nat) ≤ (s.chan n).grid0 + cycle)
     else decide (tick ≤ s.now))

/-- The place of the fired flag of a cue (R128). -/
def firedF (c : Nat) : Fld := ⟨32 + c, 1⟩

/-- Sets a fired flag, in a cycle. -/
def State.setFired (s : State) (n : Fin 8) (c cycle : Nat) : State :=
  (s.setChan n { s.chan n with firedAt := kset (fun _ => 0) (s.chan n).firedAt c cycle }).setFld (chStatus n) (firedF c) 1

/-- Whether a cue has fired. -/
def State.fired (s : State) (n : Fin 8) (c : Nat) : Bool := s.flag (chStatus n) (firedF c)

/-- Whether a cue is the swap cue (R245). -/
def State.isSwapCue (s : State) (n : Fin 8) (c : Nat) : Bool :=
  s.flag netFabCtl NET_FAB_CTL_SWAP_EN && decide (s.fld netFabCtl NET_FAB_CTL_SWAP_CH = n ∧ s.fld netFabCtl NET_FAB_CTL_SWAP_CUE = c)

/-- The write of a CUESET lands (R99, R100): the register is written and its flag cleared; a cue already reached fires in that cycle. A tick
for the swap cue starts on its way to NET_SWAP_TICK (R245). -/
def State.cueLand (s : State) (n : Fin 8) (c : Nat) (tick : Word64) (cycle : Nat) : State :=
  let s := (s.wr (chCue n c) tick).setFld (chStatus n) (firedF c) 0
  let s := if s.isSwapCue n c then { s with net := { s.net with swapCopy := s.net.swapCopy ++ [tick.toNat] } } else s
  if s.cueReached n tick.toNat cycle then s.setFired n c cycle else s

/-! ### Landing -/

/-- An event lands. -/
def State.landEv (s : State) (n : Fin 8) (f : Flight) (obs : TeObs) : State :=
  match f.ev with
  | .sreg r v => let s := s.regLand n f r; s.setChan n ((s.chan n).setS r v)
  | .vreg r l => let s := s.regLand n f (r + 2 ^ 15); s.setChan n ((s.chan n).setV r l)
  | .cueWrite c tick => s.cueLand n c tick f.due
  | .ldv r addr errs due =>
    let (s, b) := s.readSram n f addr 4096 errs
    s.schedule n ⟨due, ordWrite f.slot, f.slot, f.pc, .vreg r (lanesOf 1024 b)⟩
  | .stv addr l => s.writeSram n f addr (laneBytes l)
  | .lds r addr errs due =>
    let (s, b) := s.readSram n f addr 8 errs
    s.schedule n ⟨due, ordWrite f.slot, f.slot, f.pc, .sreg r (BitVec.ofNat 64 (leNat b))⟩
  | .sts addr v => s.writeSram n f addr (leBytes 8 v.toNat)
  | .read j sc k addr len => s.landRead n f j sc k addr len
  | .tileDone j => s.landTile n j
  | .rowDone j e r => s.landRow n f j e r obs
  | .drainRead j i => s.landDrainRead n f j i
  | .drainWrite j i m => s.landDrainWrite n f j i m obs

/-- Nothing flipped. -/
def noObs : TeObs := ⟨⟨[], []⟩, ⟨[], []⟩⟩

/-- Takes the first event out of the list in flight and lands it. -/
def State.landHead (s : State) (n : Fin 8) (f : Flight) (rest : List Flight) (obs : TeObs) : State :=
  (s.setChan n { s.chan n with flight := rest }).landEv n f obs

/-- Lands, in order, every event due by a cycle. A load adds one event, so twice the list's length bounds the number of steps. -/
def State.landTo (s : State) (n : Fin 8) (cycle : Nat) : Nat → State
  | 0 => s
  | k + 1 =>
    match (s.chan n).flight with
    | [] => s
    | f :: rest => if f.due ≤ cycle then State.landTo (s.landHead n f rest noObs) n cycle k else s

/-- Lands every event due by a cycle. -/
def State.landDue (s : State) (n : Fin 8) (cycle : Nat) : State := s.landTo n cycle (2 * (s.chan n).flight.length)

/-- Lands everything in flight. -/
def State.landAll (s : State) (n : Fin 8) : State :=
  (List.range 2).foldl (fun s _ => s.landTo n (2 ^ 64) (2 * (s.chan n).flight.length)) s

/-- Lands events in order up to and with the first that satisfies `p`, which gets the observation. -/
def State.landUntil (s : State) (n : Fin 8) (p : Ev → Bool) (obs : TeObs) : Nat → State
  | 0 => s
  | k + 1 =>
    match (s.chan n).flight with
    | [] => s
    | f :: rest =>
      if p f.ev then s.landHead n f rest obs else State.landUntil (s.landHead n f rest noObs) n p obs k

/-! ### Queues -/

/-- Entries of a ring (R114, R134). -/
def State.ringEntries (s : State) (n : Fin 8) (q : Nat) : Nat := (s.fld (chQRing n q) CH_Q_RING_SIZE_M1 + 1) * 64

/-- A stream engine of a channel. -/
def Chan.stream (c : Chan) (q : Nat) : Stream := nth Stream.idle c.streams.toList q

/-- Replaces a stream engine. -/
def State.setStream (s : State) (n : Fin 8) (q : Nat) (x : Stream) : State :=
  let c := s.chan n
  if h : q < 24 then s.setChan n { c with streams := c.streams.set q x h } else s

/-- AVAIL as the sequencer sees it (R114, R156). -/
def State.availOf (s : State) (n : Fin 8) (q : Nat) : Nat :=
  let x := (s.chan n).stream q
  if q < 16 then x.ws - x.r else s.ringEntries n q + x.ms - x.c

/-- Shows a queue's count and its engine's state in CH_Q_COUNT (R135). -/
def State.showCount (s : State) (n : Fin 8) (q : Nat) : State :=
  (s.setFld (chQCount n q) CH_Q_COUNT_AVAIL (s.availOf n q)).setFld (chQCount n q) CH_Q_COUNT_SE_BUSY (b2n ((s.chan n).stream q).busy)

/-- Records a stream engine's stop in MC_SE_ERR while no record is held (R182, R217). -/
def State.seErr (s : State) (n : Fin 8) (q kind addr : Nat) : State :=
  if s.flag (mcSeErr n) MC_SE_ERR_VALID then s
  else (((s.setFlag (mcSeErr n) MC_SE_ERR_VALID).setFld (mcSeErr n) MC_SE_ERR_QUEUE q).setFld (mcSeErr n) MC_SE_ERR_KIND kind).setFld
    (mcSeErr n) MC_SE_ERR_ADDR addr

/-- The ring port reads a descriptor, with the errors given, once the banks grant it; the engine takes it or refuses it (R79, R81, R188). -/
def State.readDesc (s : State) (n : Fin 8) (q : Nat) : State :=
  match ((s.chan n).stream q).desc with
  | none => s
  | some (addr, errs) =>
    match s.arbAccesses (bankArbs 1 n addr 32) with
    | (s, false) => s
    | (s, true) =>
      let map := s.bankMap n
      let (b, found) := readWords addr ((s.chan n).sramRead map addr 32) errs
      let s := s.sramFound n map (s.fld (chStatus n) CH_STATUS_PC) (s.chan n).cycle found
      let a := leAt b 0 8
      let entries := leAt b 8 4
      let row := leAt b 12 2
      let stride := toSigned 64 (leAt b 16 8)
      let bad := entries = 0 ∨ row = 0 ∨ leAt b 14 2 ≠ 0 ∨ leAt b 24 8 ≠ 0 ∨ a % 64 ≠ 0 ∨ stride % 64 ≠ 0
      let x := { (s.chan n).stream q with desc := none }
      if bad then ((s.seErr n q 1 a).setStream n q { x with busy := false }).showCount n q
      else (s.setStream n q { x with addr := a, entries := entries, rowEntries := row, stride := stride }).showCount n q

/-- QSTART: the engine starts on the descriptor at an address (R188). Of two QSTART of one bundle on one queue the second slot's descriptor
replaces the first (log entry 64). -/
def State.startStream (s : State) (n : Fin 8) (q addr : Nat) (errs : EccObs) : State :=
  let x := (s.chan n).stream q
  ((s.setStream n q { x with
    busy := true, desc := some (addr, errs), addr := 0, entries := 0, rowEntries := 1, stride := 0, issued := 0, bursts := [], redo := []
    landed := [], counted := 0, failed := false }).showCount n q).readDesc n q

/-- QREL and QCOMMIT (R115, R156): the sequencer's count changes, and the change sets out for the stream engine (R155). -/
def State.release (s : State) (n : Fin 8) (q count : Nat) : State :=
  let x := (s.chan n).stream q
  (s.setStream n q (if q < 16 then { x with r := x.r + count, down := x.down ++ [(x.r + count, s.now)] }
    else { x with c := x.c + count, down := x.down ++ [(x.c + count, s.now)] })).showCount n q

/-- What the queue operations of a bundle take from queue `q`, for the check of R115: their sum (log entry 64). -/
def Bundle.taken (b : Bundle) (q : Nat) : Nat :=
  sumNat (b.ops.map fun o => match o with
    | .qrel f => if f.q.toNat = q then f.count.toNat else 0
    | .qcommit f => if f.q.toNat = q then f.count.toNat else 0
    | _ => 0)

/-! ### Counts that cross between MEM and ARITH (R23, R155) -/

/-- The ticks that `c` cycles of MEM (4/3 GHz) and `d` of ARITH take, rounded up. -/
def State.crossTicks (s : State) (n : Fin 8) (c d : Nat) : Nat := (c * 750 * s.arithMHz n + d * 1000000 + 1000 * s.arithMHz n - 1) / (1000 * s.arithMHz n)

/-- The value that a crossing shows: the newest change that is at least `lag` ticks old, if there is one, and the changes left. -/
def crossed (now lag : Nat) (l : List (Nat × Nat)) : Option Nat × List (Nat × Nat) :=
  (((l.filter fun x => decide (x.2 + lag ≤ now)).getLast?).map (·.1), l.filter fun x => decide (now < x.2 + lag))

/-- A count becomes visible to the sequencer when it has crossed for `lag` ticks (R155). -/
def State.syncUp (s : State) (n : Fin 8) (q lag : Nat) : State :=
  let x := (s.chan n).stream q
  let (v, up) := crossed s.now lag x.up
  match v with
  | some v => (s.setStream n q (if q < 16 then { x with ws := v, up := up } else { x with ms := v, up := up })).showCount n q
  | none => s

/-- A count becomes visible to the stream engine when it has crossed for `lag` ticks (R155). -/
def State.syncDown (s : State) (n : Fin 8) (q lag : Nat) : State :=
  let x := (s.chan n).stream q
  let (v, down) := crossed s.now lag x.down
  match v with
  | some v => s.setStream n q (if q < 16 then { x with rm := v, down := down } else { x with cm := v, down := down })
  | none => s

/-! ### Network queues -/

/-- The bound for arbitrated SRAM access plus 4 cycles, in ticks (R146, R200), by which a payload is in its TXQ. -/
def State.payloadBound (s : State) (n : Fin 8) : Nat :=
  ((s.fld (arbCtlB n) ARB_CTL_N * 5 * 8 + 4) * 1000 + s.arithMHz n - 1) / s.arithMHz n

/-- Payloads of a TXQ in its flit entries (R116). -/
def txHeld (l : List TxDesc) : Nat := sumNat (l.map fun d => d.data.length - d.sent)

/-- The port reads payloads into a TXQ while it has a free entry of its 32 (R116, R117) and the banks grant it (R79), in descriptor order; each
is in its TXQ at a free time within the bound for arbitrated access. -/
def State.fillTx (s : State) (n q : Fin 8) : Nat → State
  | 0 => s
  | k + 1 =>
    let l := (s.chan n).txq[q.val]
    match l.findIdx? (fun d => decide (d.data.length < d.n)) with
    | none => s
    | some i =>
      if 32 ≤ txHeld l then s
      else
        match l[i]? with
        | none => s
        | some d =>
          let a := d.addr + 256 * d.data.length
          match s.arbAccesses (bankArbs 0 n a 232) with
          | (s, false) => s
          | (s, true) =>
            let map := s.bankMap n
            let (b, found) := readWords a ((s.chan n).sramRead map a 232) d.errs
            let d := { d with data := d.data ++ [(s.now + s.pick (s.payloadBound n + 1), b)] }
            let s := (s.setChan n { s.chan n with txq := (s.chan n).txq.set q.val (l.set i d) }).take 1
            State.fillTx (s.sramFound n map (s.fld (chStatus n) CH_STATUS_PC) (s.cycleNow n) found) n q k

/-- NSEND (R117, R231): a descriptor with its first departure slot, and the reads of its payloads. -/
def State.postSend (s : State) (n : Fin 8) (f : NetF) (errs : EccObs) : State :=
  let c := s.chan n
  let t := (s.rd (chCue n f.cue.toNat)).toNat
  let q : Fin 8 := f.qn.toFin
  let d : TxDesc := ⟨f.circuit.toNat, (c.s f.sa.toNat).toNat, f.nflM1.toNat + 1, (7 * t + 7) / 8 + f.slot.toNat, s.now, f.cue.toNat, [], 0, errs⟩
  ((s.setChan n { c with txq := c.txq.set q.val (c.txq[q.val] ++ [d]) }).fillTx n q 32).showQueues n

/-- NRECV (R118, R250). -/
def State.postRecv (s : State) (n : Fin 8) (f : NetF) : State :=
  let c := s.chan n
  let d : RxDesc := ⟨(c.s f.sa.toNat).toNat, f.nflM1.toNat + 1, 0, s.now, false⟩
  (s.setChan n { c with rxd := c.rxd.set f.qn.toNat (c.rxd[f.qn.toNat] ++ [d]) }).showQueues n

/-! ### Faults of a bundle at its issue (R86, R77, R115, R117, R118) -/

/-- The CH_FAULT bits a bundle raises in the cycle in which it would issue. The fields of an illegal bundle are not judged further (log
entry 64). -/
def State.bundleFaults (s : State) (n : Fin 8) (b : Bundle) : List Nat :=
  let c := s.chan n
  if !b.legal c then [0]
  else
    let ovf := b.ops.any fun o => match o with
      | .qwait f => decide (s.ringEntries n f.q.toNat < f.count.toNat)
      | .qstart f => (c.stream f.q.toNat).busy
      | .nsend f => decide (16 ≤ (c.txq[f.qn.toNat]).length)
      | .nrecv f => decide (16 ≤ (c.rxd[f.qn.toNat]).length)
      | _ => false
    let unf := (List.range 24).any fun q => decide (s.fld (chQCount n q) CH_Q_COUNT_AVAIL < b.taken q)
    let range := (b.ops.flatMap (Op.touches c)).any fun r => !inSram r
    (if ovf then [2] else []) ++ (if unf then [3] else []) ++ (if range then [5] else [])

/-! ### Hazards of a bundle at its issue (R160, kinds 0x03 and 0x04) -/

/-- The units an operation takes, each with the number that RESOURCE names: the engine, or the slot of a vector operation (log entry 59). -/
def Op.units : Op → List (Nat × Nat)
  | .loadw f => (engines f.grp f.eng).map fun e => (teUnit 0 e, e)
  | .pass f => (engines f.grp f.eng).map fun e => (teUnit 1 e, e)
  | .drain f => (engines f.grp f.eng).map fun e => (teUnit 2 e, e)
  | .loadacc f => (engines f.grp f.eng).map fun e => (teUnit 3 e, e)
  | .vec o f => (vecUnit o f.slot).toList.map fun u => (u, 3 + f.slot.val)
  | _ => []

/-- The engines of a PASS whose tiles are looked at (R104). -/
def Op.tiles : Op → List Nat
  | .pass f => engines f.grp f.eng
  | _ => []

/-- The first hazard that an operation meets at its issue: kind, resource, and the bundle address of the earlier operation. -/
def Chan.opHazard (c : Chan) (o : Op) : Option (Nat × Nat × Nat) :=
  match o.units.find? (fun u => c.unitBusy u.1) with
  | some u => some (0x03, u.2, (kget (fun _ => (0, 0)) c.busyUntil u.1).2)
  | none => (o.tiles.find? c.tileEarly).map fun e => (0x04, e, (kget (fun _ => (0, 0)) c.tileReady e).2)

/-- The first hazard that a bundle meets at its issue in rehearsal mode, in the order of its slots, with the slot. -/
def State.issueHazard (s : State) (n : Fin 8) (b : Bundle) : Option (Nat × Nat × Nat × Nat) :=
  if s.rehearsing n then b.ops.findSome? fun o => ((s.chan n).opHazard o).map fun h => (o.slot, h) else none

/-! ### Effects of the slots -/

/-- A scalar result, readable by the next bundle (R99). -/
def State.scalar (s : State) (n : Fin 8) (r : BitVec 6) (v : Word64) : State := s.after n 11 1 (ordWrite 11) (.sreg r.toNat v)

/-- A branch (R87): the two bundles after it issue, then the target if it is taken. -/
def State.branch (s : State) (n : Fin 8) (taken : Bool) (t : Nat) : State :=
  s.setChan n { s.chan n with shadowLeft := 3, target := if taken then some (t % 32768) else none }

/-- The control slot (R99). -/
def State.issueCtl (s : State) (n : Fin 8) (o : COp) (f : CtlF) : State :=
  let c := s.chan n
  let a := c.s f.sa.toNat
  let b := c.s f.sb.toNat
  match o with
  | .cue => s
  | .cueset => s.after n 11 1 ordCue (.cueWrite f.sd.toNat (a + f.imm.setWidth 64))
  | .sadd => s.scalar n f.sd (a + b)
  | .saddi => s.scalar n f.sd (a + f.imm.signExtend 64)
  | .ssub => s.scalar n f.sd (a - b)
  | .smul => s.scalar n f.sd (a * b)
  | .sand => s.scalar n f.sd (a &&& b)
  | .sor => s.scalar n f.sd (a ||| b)
  | .sxor => s.scalar n f.sd (a ^^^ b)
  | .sshl => s.scalar n f.sd (a <<< (b.toNat % 64))
  | .sshr => s.scalar n f.sd (a >>> (b.toNat % 64))
  | .ssra => s.scalar n f.sd (a.sshiftRight (b.toNat % 64))
  | .slui => s.scalar n f.sd ((c.s f.sd.toNat <<< 16) ||| f.imm.setWidth 64)
  | .scmplt => s.scalar n f.sd (if a.slt b then 1 else 0)
  | .br => s.branch n true f.imm.toNat
  | .beqz => s.branch n (decide (a = 0)) f.imm.toNat
  | .bnez => s.branch n (decide (a ≠ 0)) f.imm.toNat
  | .intermit => s
  | .halt => s
  | .signal => { s with signals := s.signals ++ [(n.val, f.imm.toNat)] }

/-- The effect of one slot; `errs` are the errors that the reads of its bundle meet. -/
def State.issueSlot (s : State) (n : Fin 8) (o : Op) (errs : List ReadErr) (sram : EccObs) : State :=
  let c := s.chan n
  match o with
  | .loadw f => (engines f.grp f.eng).foldl (fun s e => s.issueLoadw n f e errs) s
  | .pass f => s.issuePass n f errs
  | .drain f => (engines f.grp f.eng).foldl (fun s e => s.issueDrain n f e errs) s
  | .loadacc f => (engines f.grp f.eng).foldl (fun s e => s.issueLoadacc n f e errs) s
  | .vec o f => s.issueVec n o f
  | .sf o f => s.issueSf n o f
  | .ldv f =>
    s.after n (6 + f.slot) (1 + c.extra) (ordAccess (5 + f.slot) false 0)
      (.ldv f.v.toNat (memAddr c f 64 64) sram (c.cycle + 9 + c.extra))
  | .stv f => s.after n (6 + f.slot) (2 + c.extra) (ordAccess (5 + f.slot) false 0) (.stv (memAddr c f 64 64) (c.v f.v.toNat))
  | .lds f =>
    s.after n (6 + f.slot) (1 + c.extra) (ordAccess (5 + f.slot) false 0)
      (.lds f.sd.toNat (memAddr c f 8 8) sram (c.cycle + 9 + c.extra))
  | .sts f => s.after n (6 + f.slot) (2 + c.extra) (ordAccess (5 + f.slot) false 0) (.sts (memAddr c f 8 8) (c.s f.sd.toNat))
  | .qwait _ => s
  | .qrel f => s.release n f.q.toNat f.count.toNat
  | .qcommit f => s.release n f.q.toNat f.count.toNat
  | .qstart f => s.startStream n f.q.toNat (c.s f.count.toNat).toNat sram
  | .nsend f => s.postSend n f sram
  | .nrecv f => s.postRecv n f
  | .ctl o f => s.issueCtl n o f

/-- The state in which HALT or INTERMIT leaves the channel (R121), if the bundle carries one. -/
def Bundle.ends? (b : Bundle) : Option Nat :=
  b.ops.findSome? fun o => match o with
    | .ctl .halt _ => some stHalted
    | .ctl .intermit _ => some stIntermission
    | _ => none

/-- The program counter moves on (R84, R87): one bundle, or to the target after the second bundle of a branch's shadow. -/
def State.advance (s : State) (n : Fin 8) : State :=
  let c := s.chan n
  let pc := s.fld (chStatus n) CH_STATUS_PC
  let next := match c.target with
    | some t => if c.shadowLeft = 1 then t else (pc + 1) % 32768
    | none => (pc + 1) % 32768
  (s.setChan n { c with cycle := c.cycle + 1, shadowLeft := c.shadowLeft - 1, target := if c.shadowLeft ≤ 1 then none else c.target }).setFld
    (chStatus n) CH_STATUS_PC next

/-- A channel has come to its INTERMIT (R427): step 1 while coded channels still run, step 2 of a new intermission once every one has. -/
def State.intBegin (s : State) : State :=
  match s.fw.prog with
  | none => s
  | some p =>
    if 2 ≤ s.fld safInt SAF_INT_STEP then s
    else if p.coded.all (fun n => decide (s.fld (chStatus n) CH_STATUS_STATE = stIntermission)) then
      { s.setFld safInt SAF_INT_STEP 2 with
        fw := { s.fw with int := { s.fw.int with k := s.fw.int.k + 1, tested := [], pins := [], copying := false, sent := false } } }
    else s.setFld safInt SAF_INT_STEP 1

/-- The closing checks end: every channel has run its self-test and every usable memory channel its pin test (R427). -/
def State.intChecked (s : State) : State :=
  let i := s.fw.int
  if s.fld safInt SAF_INT_STEP = 2 ∧ (List.range 8).all i.tested.contains ∧
      (List.range 128).all (fun c => decide (s.fld (mcChStatus c) MC_CH_STATUS_STATE ≠ 1) || i.pins.contains c) then
    s.setFld safInt SAF_INT_STEP 3
  else s

/-- The state in which a bundle's operations read their registers: errors of register words decoded (R81). -/
def State.readPatched (s : State) (n : Fin 8) (b : Bundle) : State :=
  if b.errs.isEmpty then s
  else
    let c := ((s.chan n).readRegs b).1
    s.setChan n { s.chan n with sregs := c.sregs, vregs := c.vregs }

/-- The registers of a channel are again as they were stored. -/
def State.unpatch (s : State) (n : Fin 8) (b : Bundle) (old : Chan) : State :=
  if b.errs.isEmpty then s else s.setChan n { s.chan n with sregs := old.sregs, vregs := old.vregs }

/-- The slots of a bundle take effect, the program counter moves on, and a HALT or an INTERMIT stops the channel (R84, R86, R121). -/
def State.issueAll (s : State) (n : Fin 8) (b : Bundle) : State :=
  let s := b.ops.foldl (fun s o => s.issueSlot n o b.errs b.sramErrs) s
  let s := if s.running n then s.advance n else s
  match b.ends? with
  | some st =>
    if !s.running n then s
    else if st = stIntermission then (s.stopKeep n st).intBegin
    else s.stopKeep n st
  | none => s

/-- A bundle issues as a whole, or raises its faults, or the hazard it meets in rehearsal mode, and does not issue (R86, R89, R160). An
uncorrectable error in a register it reads is a fault of its issue (R81). -/
def State.issueNow (s : State) (n : Fin 8) (b : Bundle) : State :=
  let old := s.chan n
  let outs := (old.readRegs b).2
  let s := outs.foldl (fun s o => s.eccCount n unitRegs o) s
  let t := s.readPatched n b
  match t.bundleFaults n b ++ (if outs.contains .bad then [11] else []) with
  | [] =>
    match t.issueHazard n b with
    | some (slot, kind, res, pcB) => s.hazard n kind slot 12 res old.cycle (s.fld (chStatus n) CH_STATUS_PC) pcB
    | none => (t.issueAll n b).unpatch n b old
  | fs => fs.foldl (fun s x => s.faultChan n x) s

/-! ### Holds -/

/-- The QWAIT operations of a bundle. -/
def Bundle.waits (b : Bundle) : List QueF :=
  b.ops.filterMap fun o => match o with
    | .qwait f => some f
    | _ => none

/-- Whether a wait is met (R151). A wait on a queue number no ring has is left to the encoding check. -/
def State.waitMet (s : State) (n : Fin 8) (f : QueF) : Bool :=
  decide (24 ≤ f.q.toNat ∨ f.count.toNat ≤ s.fld (chQCount n f.q.toNat) CH_Q_COUNT_AVAIL)

/-- A held bundle's hold flags (R128). -/
def State.showHold (s : State) (n : Fin 8) (cueWait qWait : Bool) : State :=
  (s.setFld (chStatus n) CH_STATUS_HOLD_CUE (b2n cueWait)).setFld (chStatus n) CH_STATUS_HOLD_Q (b2n qWait)

/-- A bundle is held (R89). -/
def State.hold (s : State) (n : Fin 8) (h : Hold) : State :=
  (s.setChan n { s.chan n with held := some h }).showHold n (!h.cueMet) (!h.unmet.isEmpty)

/-- A missed wait (R101, R152): the cue, the queue and the entries short. -/
def State.missWait (s : State) (n : Fin 8) (f : QueF) : State :=
  s.overrun n 1 f.cue.toNat f.q.toNat (f.count.toNat - s.fld (chQCount n f.q.toNat) CH_Q_COUNT_AVAIL)

/-- A bundle is at issue: it issues when every condition it carries is met, records a missed wait, or is held (R89, R101, R152). `cueMet`
says whether its cue has fired. A wait whose cue fired in this very cycle may still be met in it (R102); one larger than its ring never is
(R115). -/
def State.tryIssue (s : State) (n : Fin 8) (b : Bundle) (cueMet : Bool) : State :=
  let short := b.waits.filter fun f => !s.waitMet n f
  if short.any (fun f => decide (s.ringEntries n f.q.toNat < f.count.toNat)) then
    (s.bundleFaults n b).foldl (fun s x => s.faultChan n x) s
  else
    match short.find? (fun f => s.fired n f.cue.toNat && decide (kget (fun _ => 0) (s.chan n).firedAt f.cue.toNat < (s.chan n).cycle)) with
    | some f => s.missWait n f
    | none =>
      if cueMet && short.isEmpty then (s.showHold n false false).issueNow n b
      else s.hold n ⟨b, s.now, cueMet, short, short.any fun f => s.fired n f.cue.toNat⟩

/-- The fetch of a bundle from instruction SRAM (R81): its word errors counted, an uncorrectable one a fault. -/
def State.fetch (s : State) (n : Fin 8) (b : Bundle) : State :=
  b.errs.foldl (fun s x =>
    if x.src = .fetch then s.eccFound n unitIsram 6 (s.fld (chStatus n) CH_STATUS_PC) (s.chan n).cycle (readWord 0 x.err).2 else s) s

/-- A bundle reaches issue (R89, R100 to R102, R124): late cues, then the stop at cue, then its conditions. -/
def State.reach (s : State) (n : Fin 8) (b : Bundle) : State :=
  let s := (s.landDue n (s.chan n).cycle).fetch n b
  if !s.running n then s
  else
    match b.cue? with
    | some q =>
      let fired := s.fired n q
      if fired && decide (kget (fun _ => 0) (s.chan n).firedAt q < (s.chan n).cycle) then
        s.overrun n 0 q 0 (s.now - (s.rd (chCue n q)).toNat)
      else if s.flag (chCtl n) CH_CTL_STOP_AT_CUE then s.stopCue n q
      else s.tryIssue n b fired
    | none => s.tryIssue n b true

/-- Looks again at a held bundle after a cue fired or a count changed. The waits now met are over, and their length is noted (R135); when
every condition is met the cycles of the hold have passed and the bundle issues. -/
def State.recheck (s : State) (n : Fin 8) : State :=
  match (s.chan n).held with
  | none => s
  | some h =>
    let cyc := s.cycleNow n
    let cueMet := h.cueMet || (match h.bundle.cue? with
      | some q => s.fired n q
      | none => true)
    let short := h.unmet.filter fun f => !s.waitMet n f
    let s := s.noteWaits n (h.unmet.filter (s.waitMet n))
    if cueMet && short.isEmpty then
      let s := s.landDue n cyc
      if !s.running n then s
      else ((s.setChan n { s.chan n with held := none, cycle := cyc }).showHold n false false).issueNow n h.bundle
    else s.hold n { h with cueMet := cueMet, unmet := short, miss := short.any fun f => s.fired n f.cue.toNat }

/-- The tick in which the cue of a wait fired is over and the count is still short: a missed wait (R101, R102; log entry 65). -/
def State.settleMiss (s : State) (n : Fin 8) : State :=
  match (s.chan n).held with
  | some h =>
    if h.miss then
      match h.unmet.find? (fun f => s.fired n f.cue.toNat) with
      | some f => s.missWait n f
      | none => s
    else s
  | none => s

/-- What time does by itself to the queues of a channel as a tick begins: counts that have crossed for the upper bound of R155 are visible, and
a bundle held on one is looked at again. -/
def State.syncChan (s : State) (n : Fin 8) : State :=
  if (s.chan n).streams.toList.all (fun x => x.up.isEmpty && x.down.isEmpty) then s
  else ((List.range 24).foldl (fun s q => (s.syncUp n q (s.crossTicks n 2 3)).syncDown n q (s.crossTicks n 3 2)) s).recheck n

/-! ### A slot arrives -/

/-- Puts an operation into the bundle being assembled, in the order of the slots, in place of one already in its slot. -/
def insertOp (o : Op) : List Op → List Op
  | [] => [o]
  | x :: l => if x.slot < o.slot then x :: insertOp o l else if x.slot = o.slot then o :: l else o :: x :: l

/-- A slot joins the bundle being assembled; a slot with `more` false closes it, and the bundle reaches issue. A channel that does not run,
or that holds a bundle, takes none (log entries 3 and 4). -/
def State.slotIssue (s : State) (i : Issue) (o : Op) : State :=
  let n := i.ch
  let c := s.chan n
  if !s.running n || c.held.isSome then s
  else
    let ops := insertOp o c.asm
    let hdr := if c.asm.isEmpty || decide (c.asmHdr = 1) then i.hdr.toNat else c.asmHdr
    if i.more then s.setChan n { c with asm := ops, asmHdr := hdr, asmErrs := c.asmErrs ++ i.errs }
    else (s.setChan n { c with asm := [], asmHdr := 0, asmErrs := [] }).reach n ⟨hdr, ops, false, c.asmErrs ++ i.errs⟩

/-! ### Starting a channel (R123) -/

/-- The start checks of R123. -/
def State.startOk (s : State) (n : Fin 8) : Bool :=
  let st := s.fld (chStatus n) CH_STATUS_STATE
  let m := s.rd (chBankMap n)
  decide (st = stIdle ∨ st = stHalted ∨ st = stIntermission) &&
    !(decide (getF m CH_BANK_MAP_U0_EN = 1) && decide (getF m CH_BANK_MAP_U1_EN = 1) &&
      decide (getF m CH_BANK_MAP_U0_LOGICAL = getF m CH_BANK_MAP_U1_LOGICAL)) &&
    (List.range 24).all (fun q =>
      decide ((s.fld (chQRing n q) CH_Q_RING_BASE + s.fld (chQRing n q) CH_Q_RING_SIZE_M1 + 1) * 4096 ≤ sramSize)) &&
    decide (s.fld (chXslotCtl n) CH_XSLOT_CTL_EXPERTS ≤ 256) &&
    !(s.chan n).streams.toList.any (·.busy)

/-- An accepted start (R82, R114, R123, R124): the maps and modes are applied, the RXQs are empty, the counts of the queues are at their
start values, and the bundle at START is next. -/
def State.startNow (s : State) (n : Fin 8) : State :=
  let c := s.chan n
  let counted := s.flag (chCtl n) CH_CTL_COUNTED
  let c := { c with
    applied := ⟨s.rd (chBankMap n), s.rd (chTeMap n), s.flag (chCtl n) CH_CTL_REHEARSAL, s.flag (chCtl n) CH_CTL_PAD_A1, counted⟩
    cycle := 0
    grid0 := ((4 * s.now * s.arithMHz n + 3000) / 4000 : Nat)
    flight := [], jobs := [], claims := [], claimCycle := 0, regClaims := [], regCycle := 0, bankRun := [], busyUntil := [], tileReady := []
    xBase := s.xfills n, xPend := [], asm := [], asmHdr := 0, asmErrs := [], held := none, shadowLeft := 0, target := none
    lastPoll := none, faultCycle := none
    firedAt := [], rxq := Vector.replicate 8 [], rxd := Vector.replicate 8 [], portClosed := false
    streams := c.streams.map fun x =>
      { x with w := 0, ws := 0, r := 0, rm := 0, c := 0, cm := 0, m := 0, ms := 0, up := [], down := [] } }
  let s := s.setChan n c
  let s := (((s.setFld (chStatus n) CH_STATUS_STATE stRunning).setFld (chCtl n) CH_CTL_RUN 1).setFld (chStatus n) CH_STATUS_START_ERR 0).setFld
    (chStatus n) CH_STATUS_PC (s.fld (chCtl n) CH_CTL_START)
  ((List.range 24).foldl (fun s q => s.showCount n q) s).showQueues n

/-- A write to CH_CTL (R123, R124, R127). What is in flight completes before a start is judged; STOP_AT_CUE acts on the STATE before the
write. REBASE_ARM clears when a channel starts (R397). -/
def State.writeChCtl (s : State) (n : Fin 8) (v : Word64) : State :=
  if !s.takesWrites (chCtl n) then s else
  let was := s.running n
  let s := (((s.setFld (chCtl n) CH_CTL_REHEARSAL (getF v CH_CTL_REHEARSAL)).setFld (chCtl n) CH_CTL_PAD_A1 (getF v CH_CTL_PAD_A1)).setFld
    (chCtl n) CH_CTL_COUNTED (getF v CH_CTL_COUNTED)).setFld (chCtl n) CH_CTL_START (getF v CH_CTL_START)
  let s :=
    if getF v CH_CTL_RUN = 1 then
      if was then s
      else
        let s := s.landAll n
        if s.startOk n then
          let s := s.startNow n
          if s.flag timCtl TIM_CTL_REBASE_ARM then (s.setFld timCtl TIM_CTL_REBASE_ARM 0).setFlag timStat TIM_STAT_REBASE_REFUSED else s
        else (s.setFld (chCtl n) CH_CTL_RUN 0).setFlag (chStatus n) CH_STATUS_START_ERR
    else if was then s.stopDiscard n stIdle
    else s
  if getF v CH_CTL_STOP_AT_CUE = 0 then s
  else if was then s.setStopAtCue n
  else s.setFld (chCtl n) CH_CTL_STOP_AT_CUE 0

end Sys2Proof.Machine
end

