-- ==== Sys2Proof/Machine/Memory.lean ====
section
/-!
DEFINITION. Device memory (chapter 5): the address map (R173, R174), the sector code (R175 to R178), reads and writes with their error
handling (R182, R184), the stream engines (R156, R188 to R190, R584), scrubbing and pin tests (R180 to R184), remapping (R187),
lending (R202 to R206) and host accesses to it (R207, R209, R503).
-/

namespace Sys2Proof.Machine

/-! ### The address map (R173, R174) -/

/-- Bytes of the device address space. -/
def memLimit : Nat := 0xEC00000000

/-- Whether `len` bytes at an address are in range as a whole (R173); an access of no bytes has an address in range too. -/
def inMem (a len : Nat) : Bool := decide (a < memLimit ∧ a + len ≤ memLimit)

/-- The memory channel of an address before remapping. -/
def chanOf (a : Nat) : Nat :=
  let g := a / 128
  (g ^^^ (g / 2 ^ 7) ^^^ (g / 2 ^ 14) ^^^ (g / 2 ^ 21) ^^^ (g / 2 ^ 28)) % 128

/-- What an entry of the remap tables holds at reset (R187). -/
def remapReset (k : Nat) : Nat × Nat := (k / 3776, k % 3776)

/-- The memory channel and physical sector of a device address (R174). -/
def State.memMap (s : State) (a : Nat) : Nat × Nat :=
  let c := chanOf a
  let d := a / 2 ^ 14 * 128 + a % 128
  let (c2, f) := kget remapReset s.mem.remap (c * 3776 + d / 2 ^ 21)
  (c2, f * 65536 + d / 32 % 65536)

/-- What an unlisted byte of device memory reads as: zero, as the initialisation writes it (R210). -/
def memDefault (_ : Nat) : Byte := 0

/-- The key of a byte of a sector. -/
def memKey (c sec i : Nat) : Nat := c * 2 ^ 33 + sec * 32 + i

/-- A sector as stored. -/
def MemSt.sector (m : MemSt) (c sec : Nat) : List Byte := kgets memDefault m.bytes (memKey c sec 0) 32

/-- Whether a sector is poisoned. -/
def MemSt.poisoned (m : MemSt) (c sec : Nat) : Bool := kget (fun _ => false) m.poison (c * 2 ^ 28 + sec)

/-- Poisons or clears a sector. -/
def MemSt.setPoison (m : MemSt) (c sec : Nat) (p : Bool) : MemSt :=
  { m with poison := kset (fun _ => false) m.poison (c * 2 ^ 28 + sec) p }

/-- Stores bytes in a sector from byte `i` on; a whole sector stored is no longer poisoned, one stored in part stays so. -/
def MemSt.store (m : MemSt) (c sec i : Nat) (b : List Byte) : MemSt :=
  let m := { m with bytes := ksets memDefault m.bytes (memKey c sec i) b }
  if b.length = 32 then m.setPoison c sec false else m

/-! ### Check sectors (R172, R177) -/

/-- The first check sector of a memory channel, in sectors. -/
def checkBase : Nat := 0xF000000

/-- The check symbols of a data sector as stored (R175, R178). -/
def MemSt.checksOf (m : MemSt) (c sec : Nat) : List Nat := sectorChecks (m.sector c sec) (m.poisoned c sec)

/-- The contents of check sector `k` (R177). Every write of a data sector updates them, so they follow from the data sectors; the last one's
missing data sectors count as zero. -/
def MemSt.checkSectorAt (m : MemSt) (c k : Nat) : List Byte :=
  checkSector ((List.range 15).map fun i => if 15 * k + i < checkBase then m.checksOf c (15 * k + i) else [0, 0, 0, 0])

/-! ### Reads -/

/-- Records an event in MC_CH_ERR (R220). -/
def State.memErr (s : State) (c sec kind : Nat) : State :=
  (((s.setFld (mcChErr c) MC_CH_ERR_PAGE (sec / 65536)).setFld (mcChErr c) MC_CH_ERR_SECTOR (sec % 65536)).setFld (mcChErr c)
    MC_CH_ERR_KIND kind).setFlag (mcChErr c) MC_CH_ERR_VALID

/-- Counts a correction for its page and pin (R181, R184). -/
def MemSt.countCorr (m : MemSt) (c sec pin : Nat) : MemSt :=
  let p := c * 4096 + sec / 65536
  let q := c * 16 + pin
  { m with
    pageCorr := kset (fun _ => 0) m.pageCorr p (kget (fun _ => 0) m.pageCorr p + 1)
    pinCorr := kset (fun _ => 0) m.pinCorr q (kget (fun _ => 0) m.pinCorr q + 1) }

/-- The pin of a symbol; the check symbols of data sector 15 k + i lie at positions 4 i to 4 i + 3 of a check sector, on pin i (R176, R177). -/
def pinOf (sec s : Nat) : Nat := if s < 64 then s / 4 else sec % 15

/-- A page becomes a retirement candidate (R184). -/
def State.addCand (s : State) (c page : Nat) : State :=
  let k := c * 4096 + page
  ({ s with mem := { s.mem with cands := if s.mem.cands.contains k then s.mem.cands else s.mem.cands ++ [k] } }).setFlag (mcChStatus c)
    MC_CH_STATUS_CAND

/-- A correction is counted, recorded, and its pin noted (R178, R181, R184, R219, R220). -/
def State.memCorrected (s : State) (c sec pin : Nat) : State :=
  ((({ s with mem := s.mem.countCorr c sec pin }).bump (mcChEcc c) MC_CH_ECC_CORRECTED).memErr c sec 1)

/-- An uncorrectable sector is counted and recorded, and its page becomes a candidate (R178, R184). -/
def State.memLost (s : State) (c sec : Nat) : State :=
  ((s.bump (mcChEcc c) MC_CH_ECC_UNCORRECTABLE).memErr c sec 2).addCand c (sec / 65536)

/-- A poisoned sector is counted and recorded (R178, R184, R219). -/
def State.memPoisonMet (s : State) (c sec : Nat) : State := (s.bump (mcChEcc c) MC_CH_ECC_UNCORRECTABLE).memErr c sec 3

/-- The controller reads a data sector and decodes it (R178, R184, R219): the bytes, or none when uncorrectable or poisoned. -/
def State.readSector (s : State) (c sec : Nat) (e : SymErr) : State × Option (List Byte) :=
  let raw := e.foldl (fun b x => flipSym b (x.1 % 68) x.2.toNat) (s.mem.sector c sec)
  match decodeSyn (syndrome (s.mem.poisoned c sec) e) with
  | .clean => (s, some raw)
  | .corrected y d => (s.memCorrected c sec (pinOf sec y), some (flipSym raw y d))
  | .poison => (s.memPoisonMet c sec, none)
  | .uncorrectable => (s.memLost c sec, none)

/-- The controller reads a check sector for the scrub and decodes it (R177, R178, R183); a correctable error is written back, an uncorrectable
one lost with nothing stored in it but check symbols, which follow from the data. -/
def State.scrubCheck (s : State) (c sec : Nat) (e : SymErr) : State × Bool :=
  match decodeCheck e with
  | .clean => (s, true)
  | .corrected p _ => (s.memCorrected c sec (p / 4), true)
  | .poison => (s.memPoisonMet c sec, false)
  | .uncorrectable => (s.memLost c sec, false)

/-- The errors that the list gives for sector number `k` of an access. -/
def errOf (errs : List (Nat × SymErr)) (k : Nat) : SymErr :=
  match errs.find? (fun x => decide (x.1 = k)) with
  | some x => x.2
  | none => []

/-- The sectors that `len` bytes at a device address touch: first device address of each. -/
def sectorsOf (a len : Nat) : List Nat :=
  if len = 0 then [] else (List.range ((a + len - 1) / 32 - a / 32 + 1)).map fun i => (a / 32 + i) * 32

/-- Reads `len` bytes at a device address, sector by sector: the bytes, and the memory channels of sectors not readable. -/
def State.memRead (s : State) (a len : Nat) (errs : List (Nat × SymErr)) : State × List Byte × List Nat :=
  let (s, b, bad) := (sectorsOf a len).zipIdx.foldl (fun (acc : State × List Byte × List Nat) x =>
    let (s, b, bad) := acc
    let (c, sec) := s.memMap x.1
    match s.readSector c sec (errOf errs x.2) with
    | (s, some d) => (s, b ++ d, bad)
    | (s, none) => (s, b ++ List.replicate 32 0, bad ++ [c])) (s, [], [])
  (s, (b.drop (a % 32)).take len, bad)

/-- The errors that an access meets, from a list that names sectors by channel × 2^28 + sector. -/
def State.errsAt (s : State) (a len : Nat) (errs : List (Nat × SymErr)) : List (Nat × SymErr) :=
  (sectorsOf a len).zipIdx.filterMap fun x =>
    let (c, sec) := s.memMap x.1
    (errs.find? fun e => decide (e.1 = c * 2 ^ 28 + sec)).map fun e => (x.2, e.2)

/-! ### Writes -/

/-- Sets the dirty bits of the pages that a write touches in the protected range (R424). -/
def State.markDirty (s : State) (a len : Nat) : State :=
  if len = 0 then s
  else
    let p := s.fld safRegion SAF_REGION_PROT
    let d := (List.range ((a + len - 1) / 2 ^ 21 - a / 2 ^ 21 + 1)).foldl (fun d i =>
      let g := a / 2 ^ 21 + i
      if g < p then kset (fun _ => false) d g true else d) s.mem.dirty
    { s with mem := { s.mem with dirty := d } }

/-- Part of a sector is written (R190): the sector is read, merged and written back; one that cannot be read becomes poison (R182). -/
def State.mergeSector (s : State) (c sec i : Nat) (b : List Byte) (e : SymErr) : State :=
  match s.readSector c sec e with
  | (s, some d) => { s with mem := s.mem.store c sec 0 (d.take i ++ b ++ d.drop (i + b.length)) }
  | (s, none) => { s with mem := (s.mem.store c sec i b).setPoison c sec true }

/-- Writes bytes at a device address, sector by sector (R189, R190); `errs` gives the errors that the reads of partial writes meet. -/
def State.memStore (s : State) (a : Nat) (b : List Byte) (errs : List (Nat × SymErr)) : State :=
  (sectorsOf a b.length).zipIdx.foldl (fun s x =>
    let lo := max a x.1
    let hi := min (a + b.length) (x.1 + 32)
    let (c, sec) := s.memMap x.1
    let d := (b.drop (lo - a)).take (hi - lo)
    if d.length = 32 then { s with mem := s.mem.store c sec 0 d } else s.mergeSector c sec (lo - x.1) d (errOf errs x.2)) s

/-- A write that the dirty bits record. -/
def State.memWrite (s : State) (a : Nat) (b : List Byte) (errs : List (Nat × SymErr)) : State := (s.memStore a b errs).markDirty a b.length

/-- Writes poison to every sector a write touches (R503). -/
def State.memPoison (s : State) (a len : Nat) : State :=
  ((sectorsOf a len).foldl (fun s x =>
    let (c, sec) := s.memMap x
    { s with mem := s.mem.setPoison c sec true }) s).markDirty a len

/-! ### The arbiters and the memory lanes (R27, R190, R191) -/

/-- The bursts of an access: the device address of each, one to a 128-byte granule; with `write`, a granule that the access covers in part of a
sector takes a read burst before its write burst (R190). -/
def burstsOf (a len : Nat) (write : Bool) : List Nat :=
  if len = 0 then [] else (List.range ((a + len - 1) / 128 - a / 128 + 1)).flatMap fun i =>
    let g := (a / 128 + i) * 128
    let lo := max a g
    let hi := min (a + len) (g + 128)
    if write ∧ (lo % 32 ≠ 0 ∨ hi % 32 ≠ 0) then [lo, lo] else [lo]

/-- The accesses that a requester's bursts make at the memory channels' arbiters. -/
def State.memArbs (s : State) (k : Fin 10) (l : List Nat) : List (Fin 10 × ArbId) :=
  l.map fun a => (k, .mem ⟨(s.memMap a).1 % 128, Nat.mod_lt _ (by decide)⟩)

/-- The bridge's bursts (requester 8) for an access. -/
def State.bridgeArbs (s : State) (a len : Nat) (write : Bool) : List (Fin 10 × ArbId) := s.memArbs 8 (burstsOf a len write)

/-- The dies whose memory lanes an access of the bridge takes, as a mask (R21): those of its memory channels. -/
def State.lanesOf (s : State) (a len : Nat) : Nat :=
  (burstsOf a len false).foldl (fun m g => m ||| (if (s.memMap g).1 < 64 then 1 else 2)) 0

/-- An access joins those that wait for the memory lanes (R27). -/
def NetSt.joinLane (x : NetSt) (kind mask : Nat) : NetSt := { x with lane := x.lane ++ [(kind, mask)] }

/-- The place among all that wait of number `i` of its kind. -/
def NetSt.lanePos (x : NetSt) (kind i : Nat) : Nat := nth x.lane.length ((List.range x.lane.length).filter fun p => (nth (3, 0) x.lane p).1 = kind) i

/-- Whether number `i` of its kind may go: nothing that came before it waits for a lane it takes. -/
def NetSt.laneFree (x : NetSt) (kind i : Nat) : Bool :=
  let p := x.lanePos kind i
  (x.lane.take p).all fun e => decide (e.2 &&& (nth (3, 0) x.lane p).2 = 0)

/-- Number `i` of its kind leaves. -/
def NetSt.leaveLane (x : NetSt) (kind i : Nat) : NetSt := { x with lane := x.lane.eraseIdx (x.lanePos kind i) }

/-- Memory enters or leaves self-refresh (R211); READY channels show it (R218). -/
def State.selfRefresh (s : State) (on : Bool) : State :=
  let s := { s with mem := { s.mem with selfRefresh := on } }
  (List.range 128).foldl (fun s c =>
    if s.fld (mcChStatus c) MC_CH_STATUS_STATE = (if on then 1 else 3) then s.setFld (mcChStatus c) MC_CH_STATUS_STATE (if on then 3 else 1) else s) s

/-! ### Stream engines -/

/-- Whether queue `q` is a load queue. -/
def isLoad (q : Nat) : Bool := decide (q < 16)

/-- The device address of entry `i` of a descriptor (R188). -/
def Stream.entryAddr (x : Stream) (i : Nat) : Int :=
  (x.addr : Int) + ((i / x.rowEntries : Nat) : Int) * x.stride + ((64 * (i % x.rowEntries) : Nat) : Int)

/-- Whether a device address can hold an entry. -/
def entryOk (a : Int) : Bool := decide (0 ≤ a ∧ a + 64 ≤ memLimit)

/-- Entries the engine may still issue (R156, R189): free entries of a load ring, committed entries of a store ring, less those issued. -/
def State.streamRoom (s : State) (n : Fin 8) (q : Nat) : Nat :=
  let x := (s.chan n).stream q
  let ahead := x.issued - x.counted
  min (x.entries - x.issued)
    (if isLoad q then s.ringEntries n q - (x.w - x.rm) - ahead else (x.cm - x.m) - ahead)

/-- The channel SRAM address of entry `i` of the running descriptor in its ring (R114). -/
def State.ringAddr (s : State) (n : Fin 8) (q i : Nat) : Nat :=
  let x := (s.chan n).stream q
  let base := if isLoad q then x.w else x.m
  s.fld (chQRing n q) CH_Q_RING_BASE * 4096 + 64 * ((base + (i - x.counted)) % s.ringEntries n q)

/-- A stream engine stops (R182, R188). -/
def State.stopStream (s : State) (n : Fin 8) (q kind : Nat) (a : Int) : State :=
  let x := (s.chan n).stream q
  ((s.setStream n q { x with busy := false, failed := true }).seErr n q kind (a % 2 ^ 40).toNat).showCount n q

/-- The next burst of an engine: one withdrawn by a mask, or the next granule, or the part of it that the transfer covers (R190, R194). -/
def Stream.nextBurst (x : Stream) (room : Nat) : Nat × Nat :=
  match x.redo with
  | b :: _ => b
  | [] =>
    let a := x.entryAddr x.issued
    (x.issued, if decide (2 ≤ room) && decide (a % 128 = 0) && decide (x.entryAddr (x.issued + 1) = a + 64) then 2 else 1)

/-- A burst sets out. -/
def Stream.burst (x : Stream) (b : Nat × Nat) : Stream :=
  match x.redo with
  | _ :: l => { x with redo := l, bursts := x.bursts ++ [b] }
  | [] => { x with issued := x.issued + b.2, bursts := x.bursts ++ [b] }

/-- STREAM_BURST_ISSUE: a running engine reads its descriptor, if that still waits, and issues its next burst while the port has fewer than 256
outstanding and there is room for the data (R188, R190); an entry out of range stops it (R182). The burst waits at its memory channel's
arbiter. -/
def execStreamBurstIssue (n : Fin 8) (q : Fin 24) (s : State) : Host.Outcome State Fault Refusal :=
  .next
    (let s := s.readDesc n q
     let x := (s.chan n).stream q
     let room := s.streamRoom n q
     let port := sumNat ((s.chan n).streams.toList.map fun y => y.bursts.length)
     if !x.busy || x.desc.isSome || decide (room = 0 ∧ x.redo = []) || decide (256 ≤ port) then s
     else
       let b := x.nextBurst room
       let a := x.entryAddr b.1
       if !entryOk a then s.stopStream n q 0 a
       else (s.memArbs (n.castLE (by decide)) [a.toNat]).foldl (fun s r => s.arbRaise r.2 r.1) (s.setStream n q (x.burst b)))

/-- An entry of a load has come (R178, R182, R189): it waits for its ring; one that cannot be read stops the engine and raises MEMORY. -/
def State.loadEntry (s : State) (n : Fin 8) (q : Fin 24) (i : Nat) (errs : List (Nat × SymErr)) : State :=
  let a := (((s.chan n).stream q).entryAddr i).toNat
  match s.memRead a 64 errs with
  | (s, d, []) => s.setStream n q { (s.chan n).stream q with landed := ((s.chan n).stream q).landed ++ [(i, d)] }
  | (s, _, c :: _) => (s.stopStream n q 2 a).raiseCause 2 c 0 none

/-- An entry of a store is read from its ring and written to memory (R189); no part of a sector is written (R190). -/
def State.storeEntry (s : State) (n : Fin 8) (q : Fin 24) (i : Nat) : State :=
  let x := (s.chan n).stream q
  let d := (s.chan n).sramRead (s.bankMap n) (s.ringAddr n q i) 64
  let s := s.memWrite (x.entryAddr i).toNat d []
  s.setStream n q { (s.chan n).stream q with landed := ((s.chan n).stream q).landed ++ [(i, [])] }

/-- BURST_COMPLETE: the `k`th outstanding burst of an engine is granted by its memory channel and completes (R178, R182, R189, R199). A store
queue's bursts complete in order (R189), and read their ring through the banks' arbiters. -/
def execBurstComplete (n : Fin 8) (q : Fin 24) (k : Nat) (errs : List (Nat × SymErr)) (s : State) : Host.Outcome State Fault Refusal :=
  .next
    (let x := (s.chan n).stream q
     match x.bursts[k]? with
     | none => s
     | some b =>
       let load := isLoad q
       let banks := if load then [] else (List.range b.2).flatMap fun j => bankArbs 1 n (s.ringAddr n q (b.1 + j)) 64
       if !load && decide (k ≠ 0) then s
       else
         match s.arbAccesses (banks ++ s.memArbs (n.castLE (by decide)) [(x.entryAddr b.1).toNat]) with
         | (s, false) => s
         | (s, true) =>
           let s := s.setStream n q { x with bursts := x.bursts.eraseIdx k }
           (List.range b.2).foldl (fun s j =>
             if load then s.loadEntry n q (b.1 + j) (errs.filterMap fun e => if e.1 / 2 = j then some (e.1 % 2, e.2) else none)
             else s.storeEntry n q (b.1 + j)) s)

/-- Raises a count over the unbroken prefix of entries that are in place (R189); `k` bounds the steps. -/
def Stream.prefix (x : Stream) (load : Bool) : Nat → Stream
  | 0 => x
  | k + 1 =>
    if x.landed.contains (x.counted, []) then
      let y := { x with landed := x.landed.erase (x.counted, []), counted := x.counted + 1 }
      Stream.prefix (if load then { y with w := y.w + 1 } else { y with m := y.m + 1 }) load k
    else x

/-- A count that rose from `was` sets out for the sequencer (R155). -/
def Stream.sendUp (x : Stream) (load : Bool) (was now : Nat) : Stream :=
  let v := if load then x.w else x.m
  if v = was then x else { x with up := x.up ++ [(v, now)] }

/-- STREAM_ENTRY_WRITTEN: the `k`th entry whose data has come is written into the ring, once its bank grants it, and W rises over the unbroken
prefix (R79, R189). -/
def execStreamEntryWritten (n : Fin 8) (q : Fin 24) (k : Nat) (s : State) : Host.Outcome State Fault Refusal :=
  .next
    (let x := (s.chan n).stream q
     match (x.landed.filter fun e => decide (e.2 ≠ []))[k]? with
     | none => s
     | some e =>
       if !isLoad q then s
       else
         match s.arbAccesses (bankArbs 1 n (s.ringAddr n q e.1) 64) with
         | (s, false) => s
         | (s, true) =>
           let c := (s.chan n).sramWrite (s.bankMap n) (s.ringAddr n q e.1) e.2
           let x := { x with landed := x.landed.map fun (y : Nat × List Byte) => if y.1 = e.1 then (y.1, []) else y }
           ((s.setChan n c).setStream n q ((x.prefix true x.landed.length).sendUp true x.w s.now)).showCount n q)

/-- STORE_ENTRY_WRITTEN: the oldest entry not counted has its burst accepted; M rises (R189). -/
def execStoreEntryWritten (n : Fin 8) (q : Fin 24) (s : State) : Host.Outcome State Fault Refusal :=
  .next
    (let x := (s.chan n).stream q
     if isLoad q then s else (s.setStream n q ((x.prefix false 1).sendUp false x.m s.now)).showCount n q)

/-- STREAM_DESCRIPTOR_DONE: with every entry written the engine is idle (R584). -/
def execStreamDescriptorDone (n : Fin 8) (q : Fin 24) (s : State) : Host.Outcome State Fault Refusal :=
  .next
    (let x := (s.chan n).stream q
     if x.busy ∧ x.desc = none ∧ x.counted = x.entries then (s.setStream n q { x with busy := false }).showCount n q else s)

/-- COUNT_SYNC: the counts of a queue that have crossed for two cycles of the reading clock become visible on the other side (R155, R156); a
bundle held on the queue is looked at again. What has not crossed by two cycles of the writing and three of the reading clock does so by
itself. -/
def execCountSync (n : Fin 8) (q : Fin 24) (toArith : Bool) (s : State) : Host.Outcome State Fault Refusal :=
  .next (if toArith then (s.syncUp n q (s.crossTicks n 0 2)).recheck n else s.syncDown n q (s.crossTicks n 2 0))

/-! ### Masks (R194) -/

/-- The bursts of a channel that wait at a memory channel are withdrawn; its engines request them afresh. -/
def State.withdraw (s : State) (n : Fin 8) (c : Nat) : State :=
  (List.range 24).foldl (fun s q =>
    let x := (s.chan n).stream q
    let at_ (b : Nat × Nat) : Bool := decide ((s.memMap (x.entryAddr b.1).toNat).1 = c)
    if x.bursts.any at_ then s.setStream n q { x with bursts := x.bursts.filter fun b => !at_ b, redo := x.redo ++ x.bursts.filter at_ } else s) s

/-- ARB_MASK_RISE: a requester is masked; the bursts a channel has queued at a memory channel's arbiter are withdrawn (R194). -/
def execArbMaskRise (a : ArbId) (k : Fin 10) (s : State) : Host.Outcome State Fault Refusal :=
  .next
    (let s := s.arbMask a k
     match a with
     | .mem c => if h : k.val < 8 then s.withdraw ⟨k, h⟩ c else s
     | .bank _ _ => s)

/-! ### Tests, scrubbing, retirement -/

/-- PIN_TEST: every DQ pin of a memory channel is tested; a failure sets PIN_FAIL and raises MEMORY (R180, R220). -/
def execPinTest (c : Fin 128) (failed : BitVec 16) (s : State) : Host.Outcome State Fault Refusal :=
  .next
    (let s := if s.fld safInt SAF_INT_STEP = 2 then
        { s with fw := { s.fw with int := { s.fw.int with pins := s.fw.int.pins.filter (· ≠ c.val) ++ [c.val] } } } else s
     match (maskList 16 failed.toNat), s.memUsable with
     | p :: _, true =>
       let s := (s.setFlag (mcChStatus c) MC_CH_STATUS_PIN_FAIL).setFld (mcChStatus c) MC_CH_STATUS_PIN p
       (s.memErr c 0 4).raiseCause 2 c 0 none
     | _, _ => s.intChecked)

/-- Sectors of a memory channel, data and check (R172). -/
def sectorCount : Nat := 2 ^ 28

/-- Whether the patrol scrub of a memory channel runs (R183, R214). -/
def State.scrubRuns (s : State) (c : Nat) : Bool :=
  s.flag mcScrubCtl MC_SCRUB_CTL_EN && s.memUsable && decide (s.fld (mcChStatus c) MC_CH_STATUS_STATE = 1)

/-- The scrub reads a data sector (R182, R183): a correctable error is written back; a sector that cannot be read is written as poison and,
while a program runs, raises MEMORY. A page is in use while any channel runs (log entry 17). -/
def State.scrubData (s : State) (c sec : Nat) (e : SymErr) : State :=
  match s.readSector c sec e with
  | (s, some d) => { s with mem := s.mem.store c sec 0 d }
  | (s, none) =>
    let s := { s with mem := s.mem.setPoison c sec true }
    if s.anyRunning then s.raiseCause 2 c 0 none else s

/-- The scrub reads a sector of either region (R177, R183). -/
def State.scrubSector (s : State) (c sec : Nat) (e : SymErr) : State :=
  if sec < checkBase then s.scrubData c sec e
  else
    match s.scrubCheck c sec e with
    | (s, true) => s
    | (s, false) => if s.anyRunning then s.raiseCause 2 c 0 none else s

/-- PATROL_SCRUB_READ: the scrub reads the next sector of its sweep. -/
def execPatrolScrubRead (c : Fin 128) (err : SymErr) (s : State) : Host.Outcome State Fault Refusal :=
  .next
    (let sec := kget (fun _ => 0) s.mem.scrubPos c
     if !s.scrubRuns c || decide (sectorCount ≤ sec) then s
     else
       let s := s.scrubSector c sec err
       { s with mem := { s.mem with scrubPos := kset (fun _ => 0) s.mem.scrubPos c (sec + 1) } })

/-- The sectors that the sweep has not reported are read without bit errors; of them, those that hold poison are met (R183; log entry 69). -/
def State.scrubRest (s : State) (c : Nat) : State :=
  let sec := kget (fun _ => 0) s.mem.scrubPos c
  (s.mem.poison.filter fun e => decide (c * sectorCount + sec ≤ e.1 ∧ e.1 < (c + 1) * sectorCount)).foldl
    (fun s e => s.scrubData c (e.1 % sectorCount) []) s

/-- Pages and pins over their thresholds become candidates or fail (R181, R184). -/
def State.judgeSweep (s : State) (c : Nat) : State :=
  let th := max 1 (s.fld mcScrubCtl MC_SCRUB_CTL_PAGE_THRESH)
  let pages := s.mem.pageCorr.filter fun e => decide (e.1 / 4096 = c ∧ th ≤ e.2)
  let pins := s.mem.pinCorr.filter fun e => decide (e.1 / 16 = c ∧ 4 ≤ e.2)
  let s := pages.foldl (fun s e => (s.memErr c (e.1 % 4096 * 65536) 5).addCand c (e.1 % 4096)) s
  pins.foldl (fun s e =>
    (((s.setFlag (mcChStatus c) MC_CH_STATUS_PIN_FAIL).setFld (mcChStatus c) MC_CH_STATUS_PIN (e.1 % 16)).memErr c 0 4).raiseCause 2 c 0 none) s

/-- A sweep of a memory channel is over: its counts start again, and SWEEPS shows the slowest channel's (R183, R213). -/
def State.endSweep (s : State) (c : Nat) : State :=
  let m := s.mem
  let sw := kset (fun _ => 0) m.sweeps c (kget (fun _ => 0) m.sweeps c + 1)
  let m := { m with
    pageCorr := kfilter (fun k => decide (k / 4096 ≠ c)) m.pageCorr
    pinCorr := kfilter (fun k => decide (k / 16 ≠ c)) m.pinCorr
    scrubPos := kset (fun _ => 0) m.scrubPos c 0
    sweeps := sw }
  let least := (List.range 128).foldl (fun a k =>
    if s.fld (mcChStatus k) MC_CH_STATUS_STATE = 1 then min a (kget (fun _ => 0) sw k) else a) (2 ^ 32 - 1)
  { s with mem := m }.setFld mcStatus MC_STATUS_SWEEPS least

/-- SCRUB_SWEEP_END: every sector of the memory channel has been read; pages and pins are judged and the sweep is counted (R181, R183,
R184). -/
def execScrubSweepEnd (c : Fin 128) (s : State) : Host.Outcome State Fault Refusal :=
  .next (if s.scrubRuns c then ((s.scrubRest c).judgeSweep c).endSweep c else s)

/-- Shows the entry that MC_REMAP_SEL selects; 0 beyond the last (R187, R221). -/
def State.showRemap (s : State) (c : Nat) : State :=
  let p := s.fld (mcRemapSel c) MC_REMAP_SEL_PAGE
  let (c2, f) := kget remapReset s.mem.remap (c * 3776 + p)
  if p < 3776 then (s.setFld (mcRemapData c) MC_REMAP_DATA_TO_PAGE f).setFld (mcRemapData c) MC_REMAP_DATA_TO_CHAN c2
  else (s.setFld (mcRemapData c) MC_REMAP_DATA_TO_PAGE 0).setFld (mcRemapData c) MC_REMAP_DATA_TO_CHAN 0

/-- A write to MC_REMAP_DATA: refused while a channel runs, beyond the tables, or toward a retired channel (R187). -/
def State.writeRemap (s : State) (c : Nat) (v : Word64) : State :=
  let p := s.fld (mcRemapSel c) MC_REMAP_SEL_PAGE
  let f := getF v MC_REMAP_DATA_TO_PAGE
  let c2 := getF v MC_REMAP_DATA_TO_CHAN
  if s.anyRunning || decide (3776 ≤ p ∨ 3840 ≤ f) || s.flag (mcChStatus c2) MC_CH_STATUS_RETIRED then
    s.setFlag mcStatus MC_STATUS_REMAP_REFUSED
  else { s with mem := { s.mem with remap := kset remapReset s.mem.remap (c * 3776 + p) (c2, f) } }.showRemap c

/-- REMAP_DATA_WRITE (R187, R501). -/
def execRemapDataWrite (c : Fin 128) (value : Word64) (s : State) : Host.Outcome State Fault Refusal :=
  .next (if s.takesWrites (mcRemapData c) then s.writeRemap c value else s)

/-- MEM_INIT_DONE: after POR or MOD training and zeroing end; memory holds zero, each channel is READY or failed, INIT_DONE is 1 (R185,
R210). -/
def execMemInitDone (failed : List (Fin 128)) (s : State) : Host.Outcome State Fault Refusal :=
  .next
    (if s.flag mcStatus MC_STATUS_INIT_DONE || s.heldReset then s
     else
       let s := { s with mem := { s.mem with bytes := [], poison := [], selfRefresh := false } }
       let s := (fins 128).foldl (fun s c => s.setFld (mcChStatus c) MC_CH_STATUS_STATE (if failed.contains c then 2 else 1)) s
       s.setFlag mcStatus MC_STATUS_INIT_DONE)

/-! ### Lending (R202 to R206) -/

def LendReq.op (r : LendReq) : Nat := leAt r.data 0 1
def LendReq.words (r : LendReq) : Nat := leAt r.data 1 1 + 1
def LendReq.replyCircuit (r : LendReq) : Nat := leAt r.data 2 2
def LendReq.replySlots (r : LendReq) : Nat := leAt r.data 4 4
def LendReq.addr (r : LendReq) : Nat := leAt r.data 8 8

/-- The operations refused (R205). -/
def LendReq.bad (r : LendReq) : Bool :=
  decide ((r.op ≠ 1 ∧ r.op ≠ 2) ∨ 27 < r.words ∨ 4096 ≤ r.replyCircuit ∨ r.addr % 8 ≠ 0 ∨
    r.addr / 256 ≠ (r.addr + 8 * r.words - 1) / 256)

/-- The next request that is, or is not, a READ, with no earlier request of its circuit before it (R203). -/
def nextLend (read : Bool) (l : List LendReq) : Option LendReq :=
  (l.zipIdx.find? fun (r, i) => decide (read = decide (r.op = 2)) && !((l.take i).any fun e => decide (e.circuit = r.circuit))).map (·.1)

/-- A lending fault (R414). -/
def State.lendFault (s : State) (f : Fld) : State := (s.bump mcLendStat f).raiseCause 3 33 0 none

/-- Takes a request out of the queue and off the lanes. -/
def State.dropLend (s : State) (r : LendReq) : State :=
  s.setNet { s.net.leaveLane 0 (s.net.lend.findIdx fun e => decide (e = r)) with lend := s.net.lend.erase r }

/-- A lending request reaches the memory port and joins the lanes it takes (R27, R202). -/
def State.lendArrive (s : State) (r : LendReq) : State :=
  let mask := if r.bad || !inMem r.addr (8 * r.words) then 0 else s.lanesOf r.addr (8 * r.words)
  s.setNet { s.net.joinLane 0 mask with lend := s.net.lend ++ [r] }

/-- The next request that is, or is not, a READ goes: refused, out of range (R182, R205, R210), or, once its lanes and arbiters are free for
it, taken and carried out. -/
def State.lendGo (s : State) (read : Bool) (carryOut : LendReq → State → State) : State :=
  match nextLend read s.net.lend with
  | none => s
  | some r =>
    if r.bad then (s.dropLend r).lendFault MC_LEND_STAT_BAD_OP
    else if !inMem r.addr (8 * r.words) || !s.memUsable then (s.dropLend r).lendFault MC_LEND_STAT_RANGE
    else if !s.net.laneFree 0 (s.net.lend.findIdx fun e => decide (e = r)) then s
    else
      match s.arbAccesses (s.bridgeArbs r.addr (8 * r.words) (!read)) with
      | (s, false) => s
      | (s, true) => carryOut r (s.dropLend r)

/-- LEND_WRITE: a request that is no READ is carried out, refused, or out of range (R182, R203, R205, R210). -/
def execLendWrite (s : State) (errs : List (Nat × SymErr) := []) : Host.Outcome State Fault Refusal :=
  .next (s.lendGo false fun r s => s.memWrite r.addr (slice r.data 16 (8 * r.words)) errs)

/-- The reply to a READ (R203). -/
def LendReq.reply (r : LendReq) (d : List Byte) (inTime : Bool) : LendReply :=
  ⟨r.replyCircuit, r.slot + r.replySlots, slice (leBytes 2 (3 + 256 * (r.words - 1)) ++ leBytes 6 0 ++ leBytes 8 r.addr ++ d) 0 232, inTime⟩

/-- LEND_READ: a READ reads memory for a scheduled reply (R203 to R206); `inTime` says whether the data is in the bridge by the reply's
slot. A sector that cannot be read raises MEMORY and leaves no reply. -/
def execLendRead (errs : List (Nat × SymErr)) (inTime : Bool) (s : State) : Host.Outcome State Fault Refusal :=
  .next
    (s.lendGo true fun r s =>
      match s.memRead r.addr (8 * r.words) errs with
      | (s, d, []) => s.setNet { s.net with replies := s.net.replies ++ [r.reply d inTime] }
      | (s, _, c :: _) => (s.bump mcLendStat MC_LEND_STAT_LATE).raiseCause 2 c 0 none)

/-- LEND_REPLY_DEPART: a reply's departure slot arrives; it leaves for the crossbar, or is not sent (R206, R232). -/
def execLendReplyDepart (s : State) : Host.Outcome State Fault Refusal :=
  .next
    (match s.net.replies.find? (fun r => decide (r.slot ≤ s.slotNow)) with
     | none => s
     | some r =>
       let s := s.setNet { s.net with replies := s.net.replies.erase r }
       if r.ready then s.setNet { s.net with enter := klAdd s.net.enter 33 ⟨r.circuit, r.slot, 0, r.data⟩ }
       else s.lendFault MC_LEND_STAT_LATE)

/-! ### The host window (R207 to R209, R503) -/

/-- The device address of a BAR2 offset (R207). -/
def State.hostAddr (s : State) (off : Nat) : Nat :=
  let g := 2 ^ s.host.bar2
  min 943 (s.fld mcHostwin MC_HOSTWIN_BASE) / g * g * 2 ^ 30 + off

/-- Sends a completion to the host. -/
def State.complete (s : State) (st : Nat) (d : List Byte) : State := { s with host := { s.host with cpl := some (st, d) } }

/-- A host request that cannot reach memory (R182, R210, R503, R507). -/
def State.hostRefused (s : State) (r : HostReq) : State :=
  if r.write then ((s.bump ctlPcieStat CTL_PCIE_STAT_DROPPED_WRITES).aerLog 8).alert [25]
  else ((s.complete 1 []).aerLog 8).alert [24]

/-- A host request is carried out in memory (R182, R503, R507). -/
def State.hostAccess (s : State) (r : HostReq) : State :=
  let a := s.hostAddr r.off
  if r.write then
    if r.ep then ((s.memPoison a r.len).aerLog 9).alert [25] else s.memWrite a r.data r.errs
  else
    match s.memRead a r.len r.errs with
    | (s, d, []) => s.complete 0 d
    | (s, d, _) => s.complete 2 d

/-- Whether the rate limit holds the next request (R209). -/
def State.hostHeld (s : State) : Bool := s.flag mcHostwin MC_HOSTWIN_RATE_EN && decide (s.mem.budget ≤ 0)

/-- An admitted request takes its bytes from the budget and joins the lanes it takes (R27, R209). -/
def State.hostAdmit (s : State) (r : HostReq) : State :=
  let s := if s.flag mcHostwin MC_HOSTWIN_RATE_EN then { s with mem := { s.mem with budget := s.mem.budget - r.len } } else s
  let a := s.hostAddr r.off
  s.setNet (s.net.joinLane 2 (if inMem a r.len then s.lanesOf a r.len else 0))

/-- An admitted request goes on: refused, or carried out once its lanes and arbiters are free for it. With `true` it is done. -/
def State.hostGo (s : State) (r : HostReq) : State × Bool :=
  let a := s.hostAddr r.off
  if !s.memUsable || !inMem a r.len then ((s.setNet (s.net.leaveLane 2 0)).hostRefused r, true)
  else if !s.net.laneFree 2 0 then (s, false)
  else
    match s.arbAccesses (s.bridgeArbs a r.len (r.write && !r.ep)) with
    | (s, false) => (s, false)
    | (s, true) => ((s.setNet (s.net.leaveLane 2 0)).hostAccess r, true)

end Sys2Proof.Machine
end

