-- ==== Sys2Proof/Machine/Unsched.lean ====
section
/-!
DEFINITION. Unscheduled and management traffic (chapter 7): packet headers (R268, R269), routing (R271, R273), bubbles and credits (R275,
R320), spreading (R278), round-robin service (R277), endpoints (R276), flows and flags (R279 to R285), table changes (R289) and telemetry
windows (R291, R292).
-/

namespace Sys2Proof.Machine

/-! ### Headers (R268, R269) -/

/-- A packet header (R268). -/
def mkHeader (dest src cls dport sport flitsM1 flag epoch type count length : Nat) : List Byte :=
  leBytes 2 dest ++ leBytes 2 src ++ leBytes 1 cls ++ leBytes 1 (dport + 2 * sport) ++ leBytes 1 (flitsM1 + 16 * flag + 32 * epoch) ++
    leBytes 1 type ++ leBytes 2 count ++ leBytes 2 length ++ leBytes 4 0

/-- The payloads of the flits that carry a header and data (R268). -/
def packFlits (hdr data : List Byte) : List (List Byte) :=
  let all := hdr ++ data
  let n := max 1 ((all.length + 231) / 232)
  (List.range n).map fun i => slice all (232 * i) 232

/-- Flits of a packet with this much data after the header. -/
def flitsFor (len : Nat) : Nat := max 1 ((16 + len + 231) / 232)

/-- Replaces FLAG, EPOCH and COUNT in a packet's header. -/
def Pkt.stamp (p : Pkt) (flag epoch count : Nat) : Pkt :=
  match p.flits with
  | [] => p
  | h :: t =>
    let shape := leAt h 6 1 % 16 + 16 * flag + 32 * epoch
    { p with flits := (h.take 6 ++ leBytes 1 shape ++ (h.drop 7).take 1 ++ leBytes 2 count ++ h.drop 10) :: t }

/-- The faults of a header (R269). -/
def Pkt.badHeader (p : Pkt) : Bool :=
  let n := p.flits.length
  let vc := p.hdr 4 1
  let ports := p.hdr 5 1
  let shape := p.hdr 6 1
  let len := p.length
  let a := leAt p.body 0 8
  decide (p.hdr 0 2 / 4096 ≠ 0 ∨ p.hdr 2 2 / 4096 ≠ 0 ∨ 64 ≤ shape ∨ 4 ≤ ports ∨ p.hdr 12 4 ≠ 0 ∨ 2 < p.type ∨ vc = 0 ∨ 3 < vc) ||
    decide (vc ≠ p.cls) || decide (n ≠ shape % 16 + 1) || decide (232 * n < len + 16) ||
    (decide (p.cls = 3) && (p.flag || decide (p.dest / 32 ≠ 0))) || (!p.flag && decide (p.count ≠ 0)) ||
    (decide (p.type = 0 ∧ p.destPort = 1) && decide (len < 8 ∨ len % 8 ≠ 0 ∨ a % 8 ≠ 0))

/-! ### Routing (R271, R273, R286) -/

/-- Counts a packet's drop at the port where it entered, and frees the credits its flits held there (R271, R321). -/
def State.dropPkt (s : State) (reg : Nat → Nat) (f : Fld) (p : Pkt) : State :=
  let s := s.unsDrop reg f p.inp p.cls
  if p.inp < 24 then
    (List.range p.flits.length).foldl (fun s i =>
      s.freeFlit p.inp p.cls p.mgmt (decide (i + 1 = p.flits.length))) s
  else s

/-- The direction in which a packet that came by link `l` travels: it arrived on the port of the opposite direction (R272). -/
def State.travel (s : State) (l : Nat) : Nat := s.fld (netPortMap l) NET_PORT_MAP_DIR ^^^ 1

/-- Whether a packet that entered at port `p` may leave in direction `d` (R273). -/
def State.turnOk (s : State) (p d : Nat) : Bool := decide (24 ≤ p) || decide (d = s.travel p ∨ s.travel p / 2 < d / 2)

/-- Puts a packet at its input, ready to leave. -/
def State.await (s : State) (p : Pkt) : State :=
  s.setNet { s.net with waiting := klAdd s.net.waiting (4 * p.inp + p.cls) p }

/-- The tests on a packet that has arrived or is injected (R269, R271, R286, R289). -/
def State.allowIn (s : State) (p : Pkt) : State :=
  if p.badHeader then s.dropPkt netUnsDrop0 NET_UNS_DROP0_BAD_HDR p
  else if p.cls = 3 then
    if decide (24 ≤ p.inp) && (decide (24 ≤ p.dest) || decide (s.fld (netPortMap p.dest) NET_PORT_MAP_ROLE ≠ 2)) then
      s.dropPkt netUnsDrop0 NET_UNS_DROP0_ROUTE p
    else s.await p
  else if s.flag netUnsCtl NET_UNS_CTL_TABLE_OPEN then
    (s.dropPkt netUnsDrop1 NET_UNS_DROP1_BREACH p).setFlag netUnsStat NET_UNS_STAT_DRAIN_BREACH
  else if s.flag (netRoute p.dest) NET_ROUTE_FENCE || s.flag (netRoute p.src) NET_ROUTE_FENCE then
    s.dropPkt netUnsDrop0 NET_UNS_DROP0_FENCED p
  else
    let d := s.fld (netRoute p.dest) NET_ROUTE_DIR
    if d = 7 ∨ ((d = 6) ≠ (p.dest = s.fld netPlace NET_PLACE_DEVICE_ID)) then s.dropPkt netUnsDrop0 NET_UNS_DROP0_ROUTE p
    else if d < 6 ∧ !s.turnOk p.inp d then s.dropPkt netUnsDrop0 NET_UNS_DROP0_ORDER p
    else s.await p

/-! ### Flows (R279, R280) -/

/-- A send or receive entry at reset. -/
def SendFlow.reset : SendFlow := ⟨0, 0, none, false, []⟩

/-- The key of an entry at endpoint `e` for another device's port and class. -/
def flowKey (e port cls dev : Nat) : Nat := 16384 * e + 8192 * port + 4096 * (cls - 1) + dev

/-- The send entry with a key. -/
def State.sendFlow (s : State) (k : Nat) : SendFlow := kget (fun _ => SendFlow.reset) s.net.sendF k

/-- Replaces a send entry. -/
def State.setSendFlow (s : State) (k : Nat) (f : SendFlow) : State :=
  s.setNet { s.net with sendF := kset (fun _ => SendFlow.reset) s.net.sendF k f }

/-- The send entry of a packet. -/
def Pkt.sendKey (p : Pkt) (e : Nat) : Nat := flowKey e p.destPort p.cls p.dest

/-- Sends a packet of a flow from endpoint `e`, or holds it behind an open flag or a stall (R279, R280, R284). -/
def State.sendFlowPkt (s : State) (e : Nat) (p : Pkt) : State :=
  let k := p.sendKey e
  let f := s.sendFlow k
  let flag := p.flag || decide (f.count = 65535)
  if f.stalled || !f.held.isEmpty || (flag && f.await.isSome) then s.setSendFlow k { f with held := f.held ++ [p] }
  else if flag then
    (s.setSendFlow k { f with epoch := 1 - f.epoch, count := 0, await := some s.now }).allowIn (p.stamp 1 f.epoch f.count)
  else (s.setSendFlow k { f with count := f.count + 1 }).allowIn (p.stamp 0 f.epoch 0)

/-- Whether the endpoints inject packets of a class (R288, R295). -/
def State.mayInject (s : State) (cls : Nat) : Bool := decide (cls = 3) || !s.flag netUnsCtl NET_UNS_CTL_INJECT_STOP

/-- Injects a packet at endpoint `e` (R267, R279, R286, R288). The header is tested as it comes (R269), but for the EPOCH, and the COUNT of a
flagged packet, which the port writes. -/
def State.inject (s : State) (e cls : Nat) (flits : List (List Byte)) : State :=
  let p : Pkt := ⟨cls, flits, 32 + e, decide (e = 0)⟩
  if !s.mayInject cls then s
  else if p.badHeader then s.dropPkt netUnsDrop0 NET_UNS_DROP0_BAD_HDR p
  else if cls = 3 then s.allowIn p
  else s.sendFlowPkt e p

/-- Sends what a cleared flag releases: the packets held, up to and with the next flagged one (R280); nothing while INJECT_STOP is 1 (R295). -/
def State.releaseFlow (s : State) (e k : Nat) : State :=
  let f := s.sendFlow k
  if !s.mayInject 1 || f.stalled || f.await.isSome then s
  else f.held.foldl (fun s p => s.sendFlowPkt e p) (s.setSendFlow k { f with held := [] })

/-- The data of a curtain notice (R418). -/
def Notice.bytes (n : Notice) : List Byte :=
  leBytes 2 0x4355 ++ leBytes 2 n.slice ++ leBytes 2 n.origin ++ leBytes 1 n.cause ++ leBytes 1 n.unit ++ leBytes 8 n.tick ++
    leBytes 8 n.detail ++ leBytes 8 0

/-- Sends the curtain notices that wait (R417, R418): the device's own SLICE_ID, to the peer on each link. -/
def State.sendNotices (s : State) : State :=
  if s.flag netUnsCtl NET_UNS_CTL_INJECT_STOP then s
  else
    let l := s.saf.notices
    let s := { s with saf := { s.saf with notices := [] } }
    l.foldl (fun s x =>
      let own := s.fld netPlace NET_PLACE_DEVICE_ID
      let hdr := mkHeader (s.fld (lnkPeer x.1) LNK_PEER_PEER_ID) own 2 0 0 0 0 0 0 0 32
      s.inject 0 2 (packFlits hdr { x.2 with slice := s.fld netPlace NET_PLACE_SLICE_ID }.bytes)) s

/-- UNS_PACKET_ARRIVE: the last flit of a packet has arrived on a link; it is counted and tested (R269, R271, R288, R296). -/
def execUnsPacketArrive (l : Fin 24) (cls : Fin 4) (s : State) : Host.Outcome State Fault Refusal :=
  .next
    (match kl s.net.arrived (4 * l + cls) with
     | [] => s
     | p :: rest =>
       let s := s.setNet { s.net with arrived := klSet s.net.arrived (4 * l + cls) rest }
       let s := if cls.val = 3 then s else s.wrapAdd netUnsStat NET_UNS_STAT_ARRIVALS 1
       (s.allowIn p).showDrained)

/-! ### Leaving (R274, R275, R277, R278, R320) -/

/-- Whether the credits of link `l` cover a packet of class `v` with `p` flits, `more` packets' room beside it (R275). -/
def State.creditCovers (s : State) (l v p : Nat) (more : Bool) : Bool :=
  let r := lnkCredTx l v
  let h := s.fld r LNK_CRED_TX_ADV_H - s.fld r LNK_CRED_TX_OUT_H
  let d := s.fld r LNK_CRED_TX_ADV_D - s.fld r LNK_CRED_TX_OUT_D
  decide (1 + b2n more ≤ h ∧ 8 * p + 128 * b2n more ≤ d)

/-- Whether the pool of link `l` takes a packet of `p` flits (R320): row 1 bulk, row 2 management. -/
def State.poolCovers (s : State) (l p : Nat) (mgmt : Bool) : Bool :=
  let out (r : Nat) := s.fld (lnkCredTx l r) LNK_CRED_TX_OUT_D
  let row := if mgmt then 2 else 1
  let res := s.fld (lnkCredTx l row) LNK_CRED_TX_ADV_H
  let pool := s.fld (lnkCredTx l row) LNK_CRED_TX_ADV_D
  let beyond (r : Nat) := out r + (if r = row then 8 * p else 0) - res
  decide (out row + 8 * p ≤ res ∨ beyond 1 + beyond 2 + 2 * res ≤ pool)

/-- The links of a bundle that the port map enables, with their positions (R278, R361). -/
def State.bundle (s : State) (d : Nat) : List (Nat × Nat) :=
  ((List.range 24).filter fun l => decide (s.fld (netPortMap l) NET_PORT_MAP_ROLE = 1 ∧ s.fld (netPortMap l) NET_PORT_MAP_DIR = d)).map
    fun l => (l, s.fld (netPortMap l) NET_PORT_MAP_POS)

/-- The link by which a packet leaves now, if it may (R275, R278, R286). -/
def State.pickLink (s : State) (p : Pkt) : Option Nat :=
  let up (l : Nat) : Bool := decide (s.fld (lnkStatus l) LNK_STATUS_STATE = 3)
  if p.cls = 3 then if up p.dest && s.poolCovers p.dest p.flits.length p.mgmt then some p.dest else none
  else
    let d := s.fld (netRoute p.dest) NET_ROUTE_DIR
    let enter := decide (24 ≤ p.inp) || decide (d ≠ s.travel p.inp)
    let ls := s.bundle d
    let ok (l : Nat) : Bool := up l && s.creditCovers l p.cls p.flits.length enter
    if s.flag netUnsCtl NET_UNS_CTL_SPREAD_EN then
      let free (l : Nat) := s.fld (lnkCredTx l p.cls) LNK_CRED_TX_ADV_D - s.fld (lnkCredTx l p.cls) LNK_CRED_TX_OUT_D
      (ls.map (·.1)).foldl (fun b l =>
        if !ok l then b
        else
          match b with
          | none => some l
          | some m => if free m < free l then some l else b) none
    else
      match (List.range 4).findSome? (fun i => ls.find? fun x => decide (x.2 = ((p.src ^^^ p.dest) % 4 + i) % 4)) with
      | some (l, _) => if ok l then some l else none
      | none => none

/-- The head packet of an input's class. -/
def State.headPkt (s : State) (p cls : Nat) : Option Pkt := (kl s.net.waiting (4 * p + cls)).head?

/-- Whether a packet leaves to an endpoint. -/
def State.isLocal (s : State) (p : Pkt) : Bool :=
  if p.cls = 3 then decide (p.inp < 24) else decide (s.fld (netRoute p.dest) NET_ROUTE_DIR = 6)

/-- The output by which a packet leaves now, if it may: its endpoint's, or a link's. -/
def State.pickOut (s : State) (p : Pkt) : Option Nat := if s.isLocal p then some (32 + p.destPort) else s.pickLink p

/-- Whether input `p` is served next by an output for a class (R277): round-robin over the inputs ready for it. -/
def State.servedNext (s : State) (o cls p : Nat) : Bool :=
  let last := kget (fun _ => 33) s.net.served (4 * o + cls)
  let ready := (List.range 34).filter fun q =>
    match s.headPkt q cls with
    | some k => decide (s.pickOut k = some o)
    | none => false
  ready.all fun q => decide ((p + 33 - last) % 34 ≤ (q + 33 - last) % 34)

/-- UNS_PACKET_FORWARD: the oldest packet of an input and class begins to leave by its endpoint's output, or by a link of its bundle when the
credits cover it, once that output has sent the packet before and its turn has come (R275 to R278). Its flits leave one in a slot (R229).
In STANDBY no VC3 is forwarded (R29). -/
def execUnsPacketForward (p : Fin 34) (cls : Fin 4) (s : State) : Host.Outcome State Fault Refusal :=
  .next
    (let s := if p.val = 32 then s.sendNotices else s
     match s.headPkt p cls with
     | none => s
     | some k =>
       if cls.val = 3 ∧ s.standby then s
       else
         match s.pickOut k with
         | none => s
         | some o =>
           if (kget (fun _ => none) s.net.out (4 * o + cls)).isSome || !s.servedNext o cls p then s
           else
             s.setNet { s.net with
               waiting := klSet s.net.waiting (4 * p + cls) ((kl s.net.waiting (4 * p + cls)).drop 1)
               out := kset (fun _ => none) s.net.out (4 * o + cls) (some ⟨k, 0⟩)
               served := kset (fun _ => 33) s.net.served (4 * o + cls) p })

/-- The class of which an endpoint's output has a flit to send next (R277): VC2, then VC3, then VC1. -/
def State.endNext (s : State) (o : Nat) : Option OutPkt :=
  [2, 3, 1].findSome? fun v => if v = 3 ∧ s.standby then none else kget (fun _ => none) s.net.out (4 * o + v)

/-- A packet has reached an endpoint; a write to memory joins the lanes it takes (R27). -/
def State.reachEnd (s : State) (e : Nat) (p : Pkt) : State :=
  let a := leAt p.body 0 8
  let s := if e = 1 then
      s.setNet (s.net.joinLane 1 (if p.type = 0 ∧ inMem a (p.length - 8) then s.lanesOf a (p.length - 8) else 0)) else s
  s.setNet { s.net with toEnd := klAdd s.net.toEnd e p }

/-- An endpoint's output sends one flit in a slot (R20, R229): it leaves its input's buffer (R321), and with the last of them the packet has
reached its endpoint. -/
def State.endFlit (s : State) (o : Nat) : State :=
  match s.endNext o with
  | none => s
  | some x =>
    let k := x.pkt
    let last := decide (x.sent + 1 = k.flits.length)
    let s := if k.inp < 24 then s.freeFlit k.inp k.cls k.mgmt last else s
    let s := s.setNet { s.net with out := kset (fun _ => none) s.net.out (4 * o + k.cls) (if last then none else some { x with sent := x.sent + 1 }) }
    (if last then s.reachEnd (o - 32) k else s).showDrained

/-! ### Endpoints (R276, R281 to R283) -/

/-- ARRIVED_0 and ARRIVED_1 of a receive entry. -/
def State.recvFlow (s : State) (k : Nat) : Nat × Nat := kget (fun _ => (0, 0)) s.net.recvF k

/-- The receive entry of a packet at endpoint `e`. -/
def Pkt.recvKey (p : Pkt) (e : Nat) : Nat := flowKey e p.srcPort p.cls p.src

/-- ARRIVED of a packet's epoch. -/
def State.arrivedOf (s : State) (e : Nat) (p : Pkt) : Nat :=
  let r := s.recvFlow (p.recvKey e)
  if p.epoch = 0 then r.1 else r.2

/-- Sets ARRIVED of a packet's epoch. -/
def State.setArrived (s : State) (e : Nat) (p : Pkt) (x : Nat) : State :=
  let k := p.recvKey e
  let r := s.recvFlow k
  s.setNet { s.net with recvF := kset (fun _ => (0, 0)) s.net.recvF k (if p.epoch = 0 then (x, r.2) else (r.1, x)) }

/-- A FLAG_ACK (type 1) or FLAG_FAIL (type 2) answers a flagged packet on VC2, outside any flow (R282, R283). -/
def State.answerFlag (s : State) (e type : Nat) (p : Pkt) : State :=
  let own := s.fld netPlace NET_PLACE_DEVICE_ID
  s.allowIn ⟨2, packFlits (mkHeader p.src own 2 p.srcPort e 0 0 p.epoch type 0 0) [], 32 + e, decide (e = 0)⟩

/-- A flagged packet fails at its destination: ARRIVED of its epoch is 0, FLAG_FAIL goes back (R276, R283), once the endpoints inject (R295). -/
def State.failFlag (s : State) (e : Nat) (p : Pkt) : State :=
  let s := (s.setArrived e p 0).unsEvent
  if s.mayInject 2 then s.answerFlag e 2 p else s.setNet { s.net with toFail := klAdd s.net.toFail e p }

/-- The bytes of control SRAM from an address. -/
def State.csramStore (s : State) (a : Nat) (b : List Byte) : State :=
  { s with fw := { s.fw with csram := ksets (fun _ => 0) s.fw.csram a b } }

/-- Port 32 writes a packet into the firmware receive ring (R455); none when the ring is full. -/
def State.toRing (s : State) (p : Pkt) : Option State :=
  let h := s.fld ctlRxring CTL_RXRING_HEAD
  if (h + 1) % 64 = s.fld ctlRxring CTL_RXRING_TAIL then none
  else
    some (((s.csramStore (0x600000 + 4096 * h) ((p.flits.headD []).take 16 ++ p.body)).setFld ctlRxring CTL_RXRING_HEAD
      ((h + 1) % 64)).wrapAdd ctlRxring CTL_RXRING_WRITTEN 1)

/-- Port 33 writes a packet's data to device memory (R268, R276); none when it is out of range or memory cannot be written. -/
def State.toMemory (s : State) (p : Pkt) (errs : List (Nat × SymErr)) : Option State :=
  let a := leAt p.body 0 8
  let d := p.body.drop 8
  if inMem a d.length && s.memUsable then some (s.memWrite a d errs) else none

/-- Whether a packet is a curtain notice (R418). -/
def Pkt.isNotice (p : Pkt) : Bool := decide (p.cls = 2 ∧ p.type = 0 ∧ p.length = 32 ∧ leAt p.body 0 2 = 0x4355)

/-- The notice a packet carries. -/
def Pkt.notice (p : Pkt) : Notice :=
  let b := p.body
  ⟨leAt b 2 2 % 4096, leAt b 4 2 % 4096, leAt b 6 1, leAt b 7 1, leAt b 8 8, leAt b 16 8⟩

/-- The curtain engine takes a notice (R418). -/
def State.toCurtain (s : State) (p : Pkt) : State := { s with saf := { s.saf with inbox := s.saf.inbox ++ [(p.notice, p.inp, s.now)] } }

/-- Delivers a packet at endpoint `e`; one that the endpoint cannot take is dropped and counted in ENDPOINT (R276), a flagged one at port 33
failing its flag. Notices go to the curtain engine (R418). `errs` are met by the reads of partial writes. -/
def State.deliver (s : State) (e : Nat) (p : Pkt) (errs : List (Nat × SymErr)) : State × Bool :=
  match (if e ≠ 0 then s.toMemory p errs else if p.isNotice then some (s.toCurtain p) else s.toRing p) with
  | some s => (s, true)
  | none =>
    let s := s.unsDrop netUnsDrop1 NET_UNS_DROP1_ENDPOINT (32 + e) p.cls
    (if e = 1 && p.flag then s.failFlag e p else s, false)

/-- Delivers a flagged packet: ARRIVED of its epoch is 0, and its acknowledgement waits to be sent (R281, R282). -/
def State.deliverFlag (s : State) (e : Nat) (p : Pkt) (errs : List (Nat × SymErr)) : State :=
  match s.deliver e p errs with
  | (s, true) => (s.setArrived e p 0).setNet { (s.setArrived e p 0).net with toAck := klAdd s.net.toAck e p }
  | (s, false) => s

/-- Whether a packet at its endpoint must wait for its epoch's count (R281). -/
def State.mustHold (s : State) (e : Nat) (p : Pkt) : Bool := decide (p.cls ≠ 3) && p.flag && decide (s.arrivedOf e p < p.count)

/-- A DATA packet at endpoint `e` (R281, R283): VC3 is delivered; unflagged packets are delivered and counted, flagged ones wait for their
epoch's count. -/
def State.endpoint (s : State) (e : Nat) (p : Pkt) (errs : List (Nat × SymErr)) : State :=
  if p.cls = 3 then (s.deliver e p errs).1
  else if !p.flag then
    match s.deliver e p errs with
    | (s, true) => s.setArrived e p (s.arrivedOf e p + 1)
    | (s, false) => s
  else if !s.mustHold e p then s.deliverFlag e p errs
  else if 64 ≤ (kl s.net.store e).length then (s.unsDrop netUnsDrop1 NET_UNS_DROP1_HOLD_OVF (32 + e) p.cls).failFlag e p
  else s.setNet { s.net with store := klAdd s.net.store e (p, s.now) }

/-- Takes the oldest packet bound for an endpoint. -/
def State.popEnd (s : State) (e : Nat) : State :=
  let s := if e = 1 then s.setNet (s.net.leaveLane 1 0) else s
  s.setNet { s.net with toEnd := klSet s.net.toEnd e ((kl s.net.toEnd e).drop 1) }

/-- A packet at its endpoint: answers of flags go to the send entries, data to its port. -/
def State.atEnd (s : State) (e : Nat) (p : Pkt) (errs : List (Nat × SymErr)) : State :=
  if p.type ≠ 0 then s.setNet { s.net with flags := klAdd s.net.flags e p } else s.endpoint e p errs

/-- PORT32_DELIVER (R276, R281, R418, R455). -/
def execPort32Deliver (s : State) : Host.Outcome State Fault Refusal :=
  .next (match kl s.net.toEnd 0 with
    | [] => s
    | p :: _ => ((s.popEnd 0).atEnd 0 p []).showDrained)

/-- Whether the packet writes to memory as soon as it is at port 33. -/
def State.writesNow (s : State) (p : Pkt) : Bool :=
  decide (p.type = 0) && !s.mustHold 1 p && inMem (leAt p.body 0 8) (p.length - 8) && s.memUsable

/-- The grants that the write of a packet needs, from the bridge's arbiters (R276). -/
def State.packetGrants (s : State) (p : Pkt) : State × Bool := s.arbAccesses (s.bridgeArbs (leAt p.body 0 8) (p.length - 8) true)

/-- PORT33_WRITE: the oldest packet at port 33; a write waits for its lanes and its grants (R27, R268, R276, R281). -/
def execPort33Write (s : State) (errs : List (Nat × SymErr) := []) : Host.Outcome State Fault Refusal :=
  .next (match kl s.net.toEnd 1 with
    | [] => s
    | p :: _ =>
      if s.writesNow p then
        if !s.net.laneFree 1 0 then s
        else
          match s.packetGrants p with
          | (s, false) => s
          | (s, true) => ((s.popEnd 1).atEnd 1 p errs).showDrained
      else ((s.popEnd 1).atEnd 1 p errs).showDrained)

/-- FLAGGED_PACKET_RELEASE: the count of a held flagged packet's epoch is reached; it is delivered (R281). -/
def execFlaggedPacketRelease (port : Fin 2) (s : State) : Host.Outcome State Fault Refusal :=
  .next
    (match (kl s.net.store port).find? (fun x => decide (x.1.count ≤ s.arrivedOf port x.1)) with
     | none => s
     | some x =>
       match (if port.val = 1 && s.writesNow x.1 then s.packetGrants x.1 else (s, true)) with
       | (s, false) => s
       | (s, true) =>
         let s := s.setNet { s.net with store := klSet s.net.store port ((kl s.net.store port).erase x) }
         (s.deliverFlag port x.1 []).showDrained)

/-- FLAG_ACK_SEND: a delivered flagged packet is acknowledged (R282). -/
def execFlagAckSend (port : Fin 2) (s : State) : Host.Outcome State Fault Refusal :=
  .next
    (match (if s.flag netUnsCtl NET_UNS_CTL_INJECT_STOP then [] else kl s.net.toAck port) with
     | [] => s
     | p :: rest =>
       let s := s.setNet { s.net with toAck := klSet s.net.toAck port rest }
       (s.answerFlag port 1 p).showDrained)

/-- The send entries that an answer may close: to its source and port, with its epoch's flag open. An answer names no class (log entry 20). -/
def State.openFlags (s : State) (e : Nat) (p : Pkt) : List Nat :=
  ([1, 2].map fun v => flowKey e p.srcPort v p.src).filter fun k =>
    (s.sendFlow k).await.isSome && decide ((s.sendFlow k).epoch = 1 - p.epoch)

/-- Takes the oldest answer of a type that an endpoint has received, with the entry it closes: a free choice where two are open. -/
def State.popFlag (s : State) (e type : Nat) : Option (State × Option Nat) :=
  match (kl s.net.flags e).find? (fun p => decide (p.type = type)) with
  | none => none
  | some p =>
    let l := s.openFlags e p
    let s' := s.setNet { s.net with flags := klSet s.net.flags e ((kl s.net.flags e).erase p) }
    some (if 2 ≤ l.length then s'.take 1 else s', l[s.pick (max 1 l.length)]?)

/-! ### Clearing flows, and firmware messages (R285, R455, R467, R468) -/

/-- Changes the messages firmware has not yet done with. -/
def State.setOut (s : State) (l : List OutMsg) : State := { s with fw := { s.fw with out := l } }

/-- NET_FLOW_CLEAR (R285): every entry of a device returns to its reset state; STALLED clears with the last stalled entry (R296). Messages
on their way to it are to be sent again. -/
def State.clearFlows (s : State) (d : Nat) : State :=
  let n := s.net
  let sf := kfilter (fun k => decide (k % 4096 ≠ d)) n.sendF
  let s := s.setNet { n with sendF := sf, recvF := kfilter (fun k => decide (k % 4096 ≠ d)) n.recvF }
  let s := s.setOut (s.fw.out.map fun m => if m.at_ = 1 ∧ m.dest = d then { m with at_ := 0 } else m)
  if sf.any (fun e => e.2.stalled) then s else s.setFld netUnsStat NET_UNS_STAT_STALLED 0

/-- Sends a waiting message: it goes through the transmit ring, flagged with COUNT 0 (R455, R467). -/
def State.sendMsg (s : State) (i : Nat) (m : OutMsg) : State :=
  let own := s.fld netPlace NET_PLACE_DEVICE_ID
  let hdr := mkHeader m.dest own 2 0 0 (flitsFor m.data.length - 1) 1 0 0 0 m.data.length
  let h := s.fld ctlTxring CTL_TXRING_HEAD
  let s := s.csramStore (0x640000 + 4096 * h) (hdr ++ m.data)
  let s := (s.setFld ctlTxring CTL_TXRING_HEAD ((h + 1) % 64)).setFld ctlTxring CTL_TXRING_TAIL ((h + 1) % 64)
  (s.setOut (s.fw.out.set i { m with at_ := 1, tries := m.tries + 1 })).inject 0 2 (packFlits hdr m.data)

/-- Port 32 injects the entries of the transmit ring from TAIL up to HEAD, in ring order, up to one that INJECT_STOP holds (R295, R455, R495); `k`
bounds them. A header byte of 4 or more names no class. -/
def State.drainTx (s : State) : Nat → State
  | 0 => s
  | k + 1 =>
    let t := s.fld ctlTxring CTL_TXRING_TAIL
    if t = s.fld ctlTxring CTL_TXRING_HEAD then s
    else
      let b := kgets (fun _ => 0) s.fw.csram (0x640000 + 4096 * t) 3712
      let flits := (List.range (leAt b 6 1 % 16 + 1)).map fun i => slice b (232 * i) 232
      let cls := if leAt b 4 1 < 4 then leAt b 4 1 else 0
      if !s.mayInject cls then s
      else State.drainTx ((s.setFld ctlTxring CTL_TXRING_TAIL ((t + 1) % 64)).inject 0 cls flits) k

/-- Sends the waiting messages, one at a time to each destination. -/
def State.pumpTx (s : State) : State :=
  let s := s.drainTx 64
  if !s.mayInject 2 then s
  else
    (List.range s.fw.out.length).foldl (fun s i =>
      match s.fw.out[i]? with
      | some m => if m.at_ = 0 ∧ !(s.fw.out.any fun o => decide (o.at_ = 1 ∧ o.dest = m.dest)) then s.sendMsg i m else s
      | none => s) s

/-- What a message's flow shows: acknowledged, or failed, when the flow is cleared and the message sent again, up to 8 times (R468). -/
def State.settleMsg (s : State) (i : Nat) : State :=
  match s.fw.out[i]? with
  | none => s
  | some m =>
    let f := s.sendFlow (flowKey 0 0 2 m.dest)
    if m.at_ ≠ 1 then s
    else if f.stalled then
      let s := s.clearFlows m.dest
      s.setOut (s.fw.out.set i { m with at_ := if 8 ≤ m.tries then 3 else 0 })
    else if f.await.isNone && f.held.isEmpty then s.setOut (s.fw.out.set i { m with at_ := 2 })
    else s

/-- Firmware sees what became of its messages, and sends on. A message of an intermission given up fails the intermission (R432). -/
def State.settleTx (s : State) : State :=
  let s := (List.range s.fw.out.length).foldl State.settleMsg s
  let lost := s.fw.out.any fun m => decide (m.at_ = 3 ∧ m.mb = none ∧ leAt m.data 2 1 = 0)
  let s := s.setOut (s.fw.out.filter fun m => m.mb.isSome || decide (m.at_ < 2))
  let s := if lost && decide (s.fld safInt SAF_INT_STEP ≠ 0) then (s.intFail 5).raiseCause 14 0 0 none else s
  s.pumpTx

/-- UNS_PACKET_INJECT: an endpoint (0 for port 32, 1 for port 33) injects a packet; the notices of the curtain engine and the messages of
firmware that wait go first (R418, R455). -/
def execUnsPacketInject (port : Fin 2) (cls : Fin 4) (flits : List (List Byte)) (s : State) : Host.Outcome State Fault Refusal :=
  .next (let s := s.sendNotices.pumpTx; (if flits.isEmpty then s else s.inject port cls flits).showDrained)

/-- FLAG_ACK_RECEIVE: AWAIT of the entry clears, and what it held goes on (R280). -/
def execFlagAckReceive (port : Fin 2) (s : State) : Host.Outcome State Fault Refusal :=
  .next
    (match s.popFlag port 1 with
     | some (s, some k) => (((s.setSendFlow k { s.sendFlow k with await := none }).releaseFlow port k).settleTx).showDrained
     | some (s, none) => s
     | none => s)

/-- A send entry is STALLED (R284, R296). -/
def State.stall (s : State) (k : Nat) : State :=
  (((s.setSendFlow k { s.sendFlow k with stalled := true }).setFlag netUnsStat NET_UNS_STAT_STALLED).setFld netUnsStat
    NET_UNS_STAT_STALLED_DEST (k % 4096)).unsEvent

/-- FLAG_FAIL_RECEIVE (R284). -/
def execFlagFailReceive (port : Fin 2) (s : State) : Host.Outcome State Fault Refusal :=
  .next
    (match s.popFlag port 2 with
     | some (s, some k) => (s.stall k).settleTx.showDrained
     | some (s, none) => s.unsEvent
     | none => s)

/-- HOLD_TIMEOUT: a packet held HOLD_TIMEOUT µs is discarded and its flag fails (R283). -/
def execHoldTimeout (port : Fin 2) (s : State) : Host.Outcome State Fault Refusal :=
  .next
    (let us := max 1 (s.fld netUnsCtl NET_UNS_CTL_HOLD_TIMEOUT)
     match (kl s.net.store port).find? (fun x => decide (x.2 + 1000 * us ≤ s.now)) with
     | none => s
     | some x =>
       let s := s.setNet { s.net with store := klSet s.net.store port ((kl s.net.store port).erase x) }
       ((s.unsDrop netUnsDrop1 NET_UNS_DROP1_HOLD_TIMEOUT (32 + port) x.1.cls).failFlag port x.1).showDrained)

/-- ACK_TIMEOUT: AWAIT of an entry has been 1 for ACK_TIMEOUT µs; it is STALLED (R284). `flow` is the entry within the port. -/
def execAckTimeout (port : Fin 2) (flow : Nat) (s : State) : Host.Outcome State Fault Refusal :=
  .next
    (let k := 16384 * port + flow % 16384
     match (s.sendFlow k).await with
     | some t =>
       if !(s.sendFlow k).stalled && decide (t + 1000 * max 1 (s.fld netUnsCtl NET_UNS_CTL_ACK_TIMEOUT) ≤ s.now) then
         (s.stall k).settleTx.showDrained else s
     | none => s)

/-- NET_FLOW_CLEAR, a write to the register (R285, R297). -/
def execNetFlowClear (d : BitVec 12) (s : State) : Host.Outcome State Fault Refusal :=
  .next (if s.takesWrites netFlowClear then s.clearFlows d.toNat else s)

/-! ### The route table (R289) -/

/-- A write to a route-table entry: refused unless TABLE_OPEN is 1 (R289). -/
def State.writeRoute (s : State) (d : Nat) (v m : Word64) : State :=
  if s.flag netUnsCtl NET_UNS_CTL_TABLE_OPEN then s.writePlain (netRoute d) v m
  else s.setFlag netUnsStat NET_UNS_STAT_ROUTE_WRITE_REFUSED

/-- ROUTE_ENTRY_WRITE (R289). -/
def execRouteEntryWrite (d : BitVec 12) (value : Word64) (s : State) : Host.Outcome State Fault Refusal :=
  .next (if s.takesWrites (netRoute d.toNat) then s.writeRoute d.toNat value (~~~0) else s)

/-- INJECT_STOP has fallen: the endpoints send the answers, the packets and the ring entries that waited (R280, R283, R295). -/
def State.resumeInject (s : State) : State :=
  if !s.mayInject 2 then s
  else
    let s := [0, 1].foldl (fun s e =>
      let l := kl s.net.toFail e
      l.foldl (fun s p => s.answerFlag e 2 p) (s.setNet { s.net with toFail := klSet s.net.toFail e [] })) s
    ((s.net.sendF.map (·.1)).foldl (fun s k => s.releaseFlow (k / 16384) k) s).sendNotices.pumpTx

/-- A write to NET_UNS_CTL: one that would set TABLE_OPEN while DRAINED is 0 is ignored (R289). -/
def State.writeUnsCtl (s : State) (v m : Word64) : State :=
  let rise := !s.flag netUnsCtl NET_UNS_CTL_TABLE_OPEN && decide (getF (v &&& m) NET_UNS_CTL_TABLE_OPEN = 1)
  if rise && !s.drained then s.setFlag netUnsStat NET_UNS_STAT_ROUTE_WRITE_REFUSED
  else (s.writePlain netUnsCtl v m).resumeInject.showDrained

/-- TABLE_OPEN_WRITE: a write to NET_UNS_CTL (R289, R295). -/
def execTableOpenWrite (value : Word64) (s : State) : Host.Outcome State Fault Refusal :=
  .next (if s.takesWrites netUnsCtl then s.writeUnsCtl value (~~~0) else s)

/-! ### Telemetry (R291, R292, R298) -/

/-- WIN_LOG2 in effect (R298). -/
def State.winLog2 (s : State) : Nat := max 16 (min 32 (s.fld netTelemCtl NET_TELEM_CTL_WIN_LOG2))

/-- The live bins start again with the slot in progress. -/
def State.clearBins (s : State) (window : Nat) : State := s.setNet { s.net with hist := [], winSlot := s.slotNow, window := window, winTick := s.now }

/-- A live bin: bin 0 holds the slots of the window, up to the present one, that stand in no other (R291). -/
def State.binOf (s : State) (r b : Nat) : Nat :=
  let at_ (i : Nat) := kget (fun _ => 0) s.net.hist (8 * r + i)
  if b = 0 then s.slotNow - s.net.winSlot - sumNat ((List.range 7).map fun i => at_ (i + 1)) else at_ b

/-- The live histograms are copied to the registers (R292). -/
def State.copyBins (s : State) : State :=
  (List.range 136).foldl (fun s r => (List.range 4).foldl (fun s i =>
    (s.setFld (netTelemHist r i) NET_TELEM_HIST_BIN_EVEN (s.binOf r (2 * i))).setFld (netTelemHist r i) NET_TELEM_HIST_BIN_ODD
      (s.binOf r (2 * i + 1))) s) s

/-- TELEM_WINDOW_CLOSE: at a window boundary the histograms are copied and cleared, and WINDOW numbers the window (R292); a new length takes
effect at the next boundary of the new length, and the window it cuts short is not shown (R298). -/
def execTelemWindowClose (s : State) : Host.Outcome State Fault Refusal :=
  .next
    (let w := s.net.window
     let next := s.winLog2
     let turned := decide (s.net.winTick / 2 ^ next < s.now / 2 ^ next)
     if s.now / 2 ^ w ≤ s.net.winTick / 2 ^ w then if w ≠ next ∧ turned then s.clearBins next else s
     else
       ((s.copyBins).setFld netTelemStat NET_TELEM_STAT_WINDOW (s.now / 2 ^ w - 1)).clearBins (if s.now % 2 ^ next = 0 ∨ turned then next else w))

end Sys2Proof.Machine
end

