-- ==== Sys2Proof/Machine/Link.lean ====
section
/-!
DEFINITION. The Keger link layer (chapter 8): the slot of a crossbar output and its link transmitter (R240, R310), the receiver (R308, R316),
replay (R313 to R318), credits (R319 to R323), initialisation (R325, R326), going down, grace and flush (R327 to R330), lane replacement and
width (R331 to R335).
-/

namespace Sys2Proof.Machine

/-! ### The state of a link -/

/-- LNK_STATUS.STATE (R339). -/
def lsOff : Nat := 0
def lsTraining : Nat := 1
def lsInit : Nat := 2
def lsUp : Nat := 3

def State.lstate (s : State) (l : Nat) : Nat := s.fld (lnkStatus l) LNK_STATUS_STATE
def State.setLstate (s : State) (l x : Nat) : State := s.setFld (lnkStatus l) LNK_STATUS_STATE x

/-- Whether a link is in pool mode. -/
def State.isPool (s : State) (l : Nat) : Bool := s.flag (lnkStatus l) LNK_STATUS_POOL

/-- Lanes of a width code (R309, R339). -/
def lanesOfCode (c : Nat) : Nat := if c = 0 then 8 else if c = 1 then 4 else 2

/-- The physical receive lane of a logical lane, and the transmit lane (R341). -/
def State.rxLane (s : State) (l j : Nat) : Nat := s.fld (lnkLaneMap l) ⟨4 * j, 4⟩
def State.txLane (s : State) (l j : Nat) : Nat := s.fld (lnkLaneMap l) ⟨32 + 4 * j, 4⟩

/-- The logical lane that a physical receive lane carries. -/
def State.logicalOf (s : State) (l p : Nat) : Option Nat :=
  (List.range (lanesOfCode (s.fld (lnkStatus l) LNK_STATUS_WIDTH))).find? fun j => decide (s.rxLane l j = p)

/-- Whether a physical receive lane can be used (R331, R350, R368): locked and identified, not crossed, not failed. -/
def State.goodLane (s : State) (l k : Nat) : Bool :=
  bit (s.fld (lnkPhyStatus l) LNK_PHY_STATUS_RX_GOOD) k && !bit (s.fld (lnkPhyStatus l) LNK_PHY_STATUS_CROSSED) k &&
    !bit (s.fld (lnkLaneCtl l) LNK_LANE_CTL_RX_FAILED) k

/-- UNDERSTUDY of each receive lane: a good lane that carries no logical lane carries the test pattern (R331, R371). -/
def State.showUnderstudies (s : State) (l : Nat) : State :=
  (List.range 10).foldl (fun s k => s.setFld (lnkMargin l k) LNK_MARGIN_UNDERSTUDY
    (b2n ((s.logicalOf l k).isNone && s.goodLane l k))) s

/-- Puts the lanes of a mask, lowest first, on the logical lanes of one direction of LNK_LANE_MAP (R333, R341): `base` is 0 or 32. -/
def State.mapLanes (s : State) (l base mask : Nat) : State :=
  ((maskList 10 mask).take 8).zipIdx.foldl (fun s x => s.setFld (lnkLaneMap l) ⟨base + 4 * x.2, 4⟩ x.1) s

/-- Changes a link's state. -/
def State.modLink (s : State) (l : Fin 24) (f : LinkSt → LinkSt) : State := s.setLink l (f (s.link l))

/-- EFF_TIMEOUT (R318). -/
def State.effTimeout (s : State) (l : Nat) : Nat := s.fld (lnkStatus l) LNK_STATUS_EFF_TIMEOUT

/-- Distance in sequence (R314). -/
def seqSub (a b : Nat) : Nat := (a + 4096 - b % 4096) % 4096

/-- FLOOR (R315): the earliest of ACKED and the copies of the last EFF_TIMEOUT ticks. -/
def State.floorOf (s : State) (l : Fin 24) : Nat :=
  let next := s.fld (lnkSeq l) LNK_SEQ_TX_NEXT
  let live := ((s.link l).copies.filter fun c => decide (s.now < c.2 + s.effTimeout l)).map (·.1)
  live.foldl (fun a c => if seqSub next a < seqSub next c then c else a) (s.fld (lnkSeq l) LNK_SEQ_TX_ACKED)

/-- Shows FLOOR and RING_USED (R340). -/
def State.showSeq (s : State) (l : Fin 24) : State :=
  (s.setFld (lnkSeq l) LNK_SEQ_TX_FLOOR (s.floorOf l)).setFld (lnkSeq l) LNK_SEQ_RING_USED (s.link l).ring.length

/-- Shows the µs left of the grace (R339). -/
def State.showGrace (s : State) (l : Fin 24) : State :=
  match (s.link l).grace with
  | some t => s.setFld (lnkStatus l) LNK_STATUS_GRACE_LEFT ((t - s.now + 999) / 1000)
  | none => s

/-- Sets a bit of LNK_EVENT; those that need the fabric manager alert the host (R343, R505). -/
def State.linkEvent (s : State) (l : Nat) (f : Fld) : State :=
  let s := s.setFlag (lnkEvent l) f
  if f = LNK_EVENT_LANE_EXHAUSTED then s.alert [11] else s

/-! ### Flush, down, up (R326 to R330, R336) -/

/-- The class fields of a VC0 flit (R307), as header bits [63:35]. -/
def vc0Fields (circuit slot bank : Nat) : Nat := circuit % 4096 + slot % 65536 * 4096 + bank % 2 * 2 ^ 28

/-- Drops a packet that waits for link `l`, counted in ENDPOINT there (R293, R329). -/
def State.flushPkt (s : State) (l : Nat) (p : Pkt) (from_ : Nat) : State :=
  let s := s.unsDrop netUnsDrop1 NET_UNS_DROP1_ENDPOINT l p.cls
  if p.inp < 24 then
    (List.range (p.flits.length - from_)).foldl (fun s i =>
      s.freeFlit p.inp p.cls p.mgmt (decide (from_ + i + 1 = p.flits.length))) s
  else s

/-- Whether a packet waits for link `l` (R278, R329): with SPREAD_EN 1 it waits for its bundle, and takes a link as it leaves. -/
def State.onlyLink (s : State) (l : Nat) (p : Pkt) : Bool :=
  if p.cls = 3 then decide (24 ≤ p.inp ∧ p.dest = l)
  else
    let ls := s.bundle (s.fld (netRoute p.dest) NET_ROUTE_DIR)
    if s.flag netUnsCtl NET_UNS_CTL_SPREAD_EN then decide (ls.map (·.1) = [l])
    else
      match (List.range 4).findSome? (fun i => ls.find? fun x => decide (x.2 = ((p.src ^^^ p.dest) % 4 + i) % 4)) with
      | some (k, _) => decide (k = l)
      | none => false

/-- Discards the packets that wait for a link (R329), those its output has begun among them. -/
def State.flushPackets (s : State) (l : Fin 24) : State :=
  let s := [1, 2, 3].foldl (fun s v =>
    match kget (fun _ => none) s.net.out (4 * l + v) with
    | some o => (s.setNet { s.net with out := kset (fun _ => none) s.net.out (4 * l + v) none }).flushPkt l o.pkt o.sent
    | none => s) s
  (List.range 34).foldl (fun s p => [1, 2, 3].foldl (fun s v =>
    let q := kl s.net.waiting (4 * p + v)
    let gone := q.filter (s.onlyLink l)
    let s := s.setNet { s.net with waiting := klSet s.net.waiting (4 * p + v) (q.filter fun k => !s.onlyLink l k) }
    gone.foldl (fun s k => s.flushPkt l k 0) s) s) s

/-- Discards the packets that were arriving on a link (R326): counted in ENDPOINT, their room free. -/
def State.flushPartial (s : State) (l : Fin 24) : State :=
  let s := [1, 2, 3, 4].foldl (fun s k =>
    let p : Pkt := ⟨min k 3, kl (s.link l).part k, l, decide (k = 4)⟩
    if p.flits.isEmpty then s else s.flushPkt l p 0) s
  s.modLink l fun x => { x with part := [], dropping := [] }

/-- The sequence numbers, ring and books of a link start afresh (R326, R329). What its receive buffers still hold is in no book any more (log
entry 71). -/
def State.freshLink (s : State) (l : Fin 24) : State :=
  let s := (((s.setFld (lnkSeq l) LNK_SEQ_TX_NEXT 0).setFld (lnkSeq l) LNK_SEQ_TX_ACKED 0).setFld (lnkSeq l) LNK_SEQ_RX_EXPECTED 0)
  let s := (List.range 4).foldl (fun s v =>
    (((s.setFld (lnkCredTx l v) LNK_CRED_TX_OUT_H 0).setFld (lnkCredTx l v) LNK_CRED_TX_OUT_D 0).setFld (lnkCredRx l v)
      LNK_CRED_RX_RET_H 0).setFld (lnkCredRx l v) LNK_CRED_RX_RET_D 0) s
  let s := s.setFld (lnkStatus l) LNK_STATUS_REPLAYING 0
  let old := (List.range 4).foldl (fun m v => kset (fun _ => (0, 0)) m v
    (s.fld (lnkCredRx l v) LNK_CRED_RX_HELD_D / 8, s.fld (lnkCredRx l v) LNK_CRED_RX_HELD_H)) []
  (s.modLink l fun x => { x with ring := [], ptr := 0, copies := [], acks := [], retSeen := [], held := false, stale := old }).showSeq l

/-- A ring entry is flushed (R300, R329): FLUSHED counts it, and its class's drops a VC0 flit or, once, a packet; a VC0 entry is a fault. -/
def State.flushEntry (s : State) (l : Fin 24) (e : RingEnt) : State :=
  let s := s.bump (lnkErr2 l) LNK_ERR2_FLUSHED
  if e.kind = 0 then (s.telemDrop l 0).vc0Fault 3 l (e.cls % 4096) (e.cls / 2 ^ 28 % 2) (e.cls / 4096 % 65536)
  else if bit e.cls 13 then s.telemDrop l e.kind
  else s

/-- The ring is flushed (R329, R330): its entries are discarded, and the sequence numbers and the books start afresh. -/
def State.flushRing (s : State) (l : Fin 24) : State :=
  (((s.link l).ring.foldl (fun s e => s.flushEntry l e) s).freshLink l).linkEvent l LNK_EVENT_FLUSH

/-- The flush of R329: the ring, and the packets that wait for the link. -/
def State.flushLink (s : State) (l : Fin 24) : State := ((s.flushPackets l).flushRing l).showDrained

/-- GRACE_US in effect (R338). -/
def State.graceUs (s : State) (l : Nat) : Nat := max 10 (min 100000 (s.fld (lnkCtl l) LNK_CTL_GRACE_US))

/-- The grace timer stops (R328). -/
def State.endGrace (s : State) (l : Fin 24) : State :=
  ((s.setFld (lnkStatus l) LNK_STATUS_HOLD 0).setFld (lnkStatus l) LNK_STATUS_GRACE_LEFT 0).modLink l fun x => { x with grace := none }

/-- Training begins at DETECT (R355, R369). -/
def State.beginTraining (s : State) (l : Fin 24) : State :=
  let s := (s.setLstate l lsTraining).setFld (lnkPhyStatus l) LNK_PHY_STATUS_STEP 1
  let s := ((s.setFld (lnkSurvey l) LNK_SURVEY_VALID 0).setFld (lnkSurvey l) LNK_SURVEY_UNSTABLE 0).setFld (lnkSurvey l) LNK_SURVEY_OVER 0
  let s := s.setFld (lnkCtl l) LNK_CTL_RETRAIN 0
  s.modLink l fun x => { x with
    stepTick := s.now, restart := none, locked := 0, peerInit := none, sentSeen := false, gotSeen := false
    lctlIn := x.lctlIn.filter fun c => decide (c.ctype = 10) }

/-- What a link's going down does whatever the cause (R327, R411): the cause's event, DOWNS, DELAY unknown; LINK_DOWN under a schedule. -/
def State.wentDown (s : State) (l : Fin 24) (ev : Fld) : State :=
  let was := s.vc0Ok l && s.flag netFabCtl NET_FAB_CTL_VC0_EN
  let s := (s.linkEvent l ev).bump (lnkErr2 l) LNK_ERR2_DOWNS
  let s := (s.setFld (netPortHop l) NET_PORT_HOP_DELAY 0x3FF).showHop l
  let s := s.setFld (lnkStatus l) LNK_STATUS_REPLAYING 0
  let s := s.modLink l fun x => { x with replRx := none, replTx := none, mirror := none, failing := [], reqOut := none, reqIn := none, goTx := none, goRx := none, cmds := [], pend := [] }
  let s := (s.setFld (lnkCtl l) LNK_CTL_WIDTH_GO 0).timLinkDown l
  if was then s.raiseCause 5 l 0 none else s

/-- The link goes down (R327, R328): it holds its state for the grace, sends RETRAIN with the cause, and retrains. A link that trains or is off is
down already (R335). -/
def State.linkDown (s : State) (l : Fin 24) (ev : Fld) : State :=
  if s.lstate l < lsInit then s
  else
    let up := decide (s.lstate l = lsUp)
    let s := s.wentDown l ev
    let retrain : Lctl := ⟨0x0A, leBytes 1 ev.lo⟩
    let start := (s.link l).grace.isNone
    let s := s.modLink l fun x => { x with
      held := x.held || up
      oldPeer := if up then (s.fld (lnkPeer l) LNK_PEER_PEER_ID, s.fld (lnkPeer l) LNK_PEER_PEER_PORT) else x.oldPeer
      grace := if start then some (s.now + 1000 * s.graceUs l) else x.grace
      cmds := [retrain], pend := [⟨retrain, 1, s.now⟩] }
    let s := if start then
        (s.setFlag (lnkStatus l) LNK_STATUS_HOLD).setFld (lnkStatus l) LNK_STATUS_GRACE_LEFT (s.graceUs l)
      else s
    s.beginTraining l

/-- The link is off (R336): down without a grace hold, and flushed. -/
def State.linkOff (s : State) (l : Fin 24) : State :=
  let s := if s.lstate l = lsOff then s else s.wentDown l LNK_EVENT_DOWN
  let s := ((s.endGrace l).flushLink l).setLstate l lsOff
  (s.setFld (lnkPhyStatus l) LNK_PHY_STATUS_STEP 0).modLink l fun x =>
    { x with cmds := [], pend := [], restart := none, peerInit := none, lctlIn := [] }

/-- Enters the advertisements of the peer's INIT (R309, R319, R320, R346). -/
def State.takeAdv (s : State) (l : Nat) (adv : List Byte) : State :=
  if s.isPool l then
    [1, 2].foldl (fun s v => (s.setFld (lnkCredTx l v) LNK_CRED_TX_ADV_H (leAt adv 2 2)).setFld (lnkCredTx l v) LNK_CRED_TX_ADV_D (leAt adv 0 2)) s
  else
    (List.range 4).foldl (fun s v => (s.setFld (lnkCredTx l v) LNK_CRED_TX_ADV_H (leAt adv (4 * v) 2)).setFld (lnkCredTx l v)
      LNK_CRED_TX_ADV_D (leAt adv (4 * v + 2) 2)) s

/-- The link is UP (R325, R326): it resumes when both ends ask for it, the peer is the same and its EXPECTED lies in the ring; otherwise it
flushes and starts fresh, as it does when the grace expires in that cycle (R329). -/
def State.linkUp (s : State) (l : Fin 24) (i : PeerInit) : State :=
  let x := s.link l
  let acked := s.fld (lnkSeq l) LNK_SEQ_TX_ACKED
  let inWin := decide (seqSub i.expected acked ≤ seqSub (s.fld (lnkSeq l) LNK_SEQ_TX_NEXT) acked)
  let late := match x.grace with
    | some t => decide (t ≤ s.now)
    | none => true
  let resume := x.held && i.resume && decide (x.oldPeer = (i.device, i.port)) && inWin && !late
  let s :=
    if resume then
      let k := seqSub i.expected acked
      let s := (s.setFld (lnkSeq l) LNK_SEQ_TX_ACKED i.expected).modLink l fun x => { x with ring := x.ring.drop k, ptr := 0, held := false }
      let s := s.linkEvent l LNK_EVENT_RESUMED
      if ((s.link l).ring.head?.bind (·.seq)).isSome then s.setFlag (lnkStatus l) LNK_STATUS_REPLAYING else s
    else
      let s := if x.held then s.linkEvent l LNK_EVENT_FRESH_PEER else s
      (s.flushPartial l).flushLink l
  (((s.takeAdv l i.adv).endGrace l).setLstate l lsUp).showSeq l

/-- The link is UP once the three conditions of R325 hold. -/
def State.maybeUp (s : State) (l : Fin 24) : State :=
  let x := s.link l
  match x.peerInit with
  | some i => if decide (s.lstate l = lsInit) && x.sentSeen && x.gotSeen then s.linkUp l i else s
  | none => s

/-! ### Sending (R310 to R317) -/

/-- The ACK field of a flit that leaves in slot `m`: EXPECTED as it stood 4 ns before (R312). -/
def State.ackFor (s : State) (l : Fin 24) (m : Nat) : Nat :=
  match (s.link l).acks.find? (fun a => decide (7 * (a.1 + 4) ≤ 8 * m)) with
  | some a => a.2
  | none => match (s.link l).acks.getLast? with
    | some a => (a.2 + 4095) % 4096
    | none => s.fld (lnkSeq l) LNK_SEQ_RX_EXPECTED

/-- The credit block (R309). -/
def State.creditBlock (s : State) (l : Nat) : List Byte :=
  ((List.range 4).map fun v => leBytes 2 (s.fld (lnkCredRx l v) LNK_CRED_RX_RET_H) ++ leBytes 2 (s.fld (lnkCredRx l v) LNK_CRED_RX_RET_D)).flatten
    ++ leBytes 16 0

/-- Puts a flit on the line in a slot (R306, R310). -/
def State.emit (s : State) (l : Fin 24) (m kind seq cls : Nat) (payload : List Byte) : State :=
  let w := lanesOfCode (s.link l).txWidth
  let hdr := kind * 256 + seq * 2 ^ 11 + s.ackFor l m * 2 ^ 23 + cls * 2 ^ 35
  s.modLink l fun x => { x with line := some (m, encodeFlit w hdr payload), txFree := m + 8 / w }

/-- Sends a link-control flit, with the credit block (R309, R310). -/
def State.sendLctl (s : State) (l : Fin 24) (m : Nat) (c : Lctl) : State :=
  (s.emit l m 4 0 c.ctype (s.creditBlock l ++ c.body)).modLink l fun x => { x with retDirty := false }

/-- Charges the credits of a flit's first sending (R321, R322). -/
def State.charge (s : State) (l kind row : Nat) (hdr : Bool) : State :=
  let r := lnkCredTx l row
  let lack := decide (s.fld r LNK_CRED_TX_ADV_H ≤ s.fld r LNK_CRED_TX_OUT_H ∨ s.fld r LNK_CRED_TX_ADV_D < s.fld r LNK_CRED_TX_OUT_D + 8)
  let s := if kind = 0 ∧ lack then s.bump (netVc0Cnt l) NET_VC0_CNT_NOCREDIT_SENT else s
  let s := s.setFld r LNK_CRED_TX_OUT_D (s.fld r LNK_CRED_TX_OUT_D + 8)
  if hdr then s.setFld r LNK_CRED_TX_OUT_H (s.fld r LNK_CRED_TX_OUT_H + 1) else s

/-- Whether a flit may be sent for the first time (R315). -/
def State.windowOpen (s : State) (l : Fin 24) : Bool := decide (seqSub (s.fld (lnkSeq l) LNK_SEQ_TX_NEXT) (s.floorOf l) ≤ 1535)

/-- Sends the ring entry at a position (R313, R317): a copy, or a first sending, which takes NEXT and is charged. -/
def State.sendEntry (s : State) (l : Fin 24) (m i : Nat) (e : RingEnt) : State :=
  let t := slotTick m
  match e.seq with
  | some q =>
    let s := s.emit l m e.kind q e.cls e.data
    let s := s.modLink l fun x => { x with
      ring := x.ring.set i { e with tick := t, sends := e.sends + 1 }
      copies := (q, t) :: x.copies.filter (fun c => decide (s.now < c.2 + s.effTimeout l)), ptr := i + 1 }
    let sent := ((s.link l).ring.filter (·.seq.isSome)).length
    (if sent ≤ i + 1 then s.setFld (lnkStatus l) LNK_STATUS_REPLAYING 0 else s).showSeq l
  | none =>
    let q := s.fld (lnkSeq l) LNK_SEQ_TX_NEXT
    let s := s.charge l e.kind (if e.kind = 0 then 0 else s.credRow l e.kind (bit e.cls 14))
      (decide (e.kind = 0) || (bit e.cls 12 && !s.isPool l))
    let s := s.emit l m e.kind q e.cls e.data
    let s := s.setFld (lnkSeq l) LNK_SEQ_TX_NEXT ((q + 1) % 4096)
    (s.modLink l fun x => { x with ring := x.ring.set i { e with seq := some q, tick := t, sends := 1 } }).showSeq l

/-- The ring entry that goes next, with its position: the copy at the replay pointer, or the first entry never sent. -/
def State.nextEntry (s : State) (l : Fin 24) : Option (Nat × RingEnt) :=
  let x := s.link l
  if s.flag (lnkStatus l) LNK_STATUS_REPLAYING then (x.ring[x.ptr]?).map fun e => (x.ptr, e)
  else
    match x.ring.zipIdx.find? (fun e => e.1.seq.isNone) with
    | some (e, i) => if s.windowOpen l then some (i, e) else none
    | none => none

/-- The packet whose flit goes next among the unscheduled classes (R277): VC2, VC3, VC1. In STANDBY no VC3 is forwarded (R29). -/
def State.nextPkt (s : State) (l : Nat) : Option (Nat × OutPkt) :=
  [2, 3, 1].findSome? fun v => if v = 3 ∧ s.standby then none else (kget (fun _ => none) s.net.out (4 * l + v)).map fun o => (v, o)

/-- Sends the next flit of a packet (R277, R307, R313, R321): it enters the ring, and leaves its input's buffer. -/
def State.sendPkt (s : State) (l : Fin 24) (m v : Nat) (o : OutPkt) : State :=
  let p := o.pkt
  let first := decide (o.sent = 0)
  let last := decide (o.sent + 1 = p.flits.length)
  let cls := p.dest + b2n first * 2 ^ 12 + b2n last * 2 ^ 13 + (if s.isPool l && p.mgmt then 2 ^ 14 else 0)
  let e : RingEnt := ⟨v, cls, nth [] p.flits o.sent, none, 0, 0⟩
  let i := (s.link l).ring.length
  let s := s.modLink l fun x => { x with ring := x.ring ++ [e] }
  let s := s.sendEntry l m i e
  let s := if p.inp < 24 then s.freeFlit p.inp p.cls p.mgmt last else s
  s.setNet { s.net with out := kset (fun _ => none) s.net.out (4 * l + v) (if last then none else some { o with sent := o.sent + 1 }) }

/-- The body of this end's INIT (R309, R319, R320, R326). -/
def State.initBody (s : State) (l : Fin 24) : List Byte :=
  let x := s.link l
  let pool := decide (s.fld (netPortMap l) NET_PORT_MAP_ROLE = 2)
  let adv := if pool then leBytes 2 3072 ++ leBytes 2 128 ++ leBytes 12 0
    else leBytes 2 2048 ++ leBytes 2 16384 ++ leBytes 2 256 ++ leBytes 2 2048 ++ leBytes 2 64 ++ leBytes 2 512 ++ leBytes 4 0
  leBytes 1 (b2n pool) ++ leBytes 1 (b2n x.held + 2 * b2n x.peerInit.isSome) ++ leBytes 2 (s.fld netPlace NET_PLACE_DEVICE_ID) ++
    leBytes 1 l ++ leBytes 1 (s.fld (lnkStatus l) LNK_STATUS_WIDTH) ++ leBytes 2 (s.fld (lnkSeq l) LNK_SEQ_RX_EXPECTED) ++ adv

/-- Start of slot `m` in sixteenths of a tick (R228, R376). -/
def slotQ4 (m : Nat) : Nat := 128 * m / 7

/-- The body of a TIMESTAMP that leaves in slot `m`, in sixteenths of a tick (R309, R311, R376). -/
def State.stampBody (s : State) (l : Fin 24) (m : Nat) : List Byte :=
  leBytes 8 (slotQ4 m) ++ leBytes 8 (s.link l).stamp.1 ++ leBytes 8 (s.link l).stamp.2

/-- Whether no packet of any class is partly sent (R333). -/
def State.betweenPackets (s : State) (l : Nat) : Bool :=
  [1, 2, 3].all fun v => match kget (fun _ => none) s.net.out (4 * l + v) with
    | some o => decide (o.sent = 0)
    | none => true

/-- Whether a TIMESTAMP leaves at flit boundary `m` (R311): slot 3,584k + 63, or at reduced width the first boundary at or after it. -/
def State.stampSlot (s : State) (l : Fin 24) (m : Nat) : Bool :=
  !s.isPool l && decide (63 ≤ m ∧ (m - 63) % 3584 < 8 / lanesOfCode (s.link l).txWidth)

/-- Whether the four copies of a waiting WIDTH_GO may begin at flit boundary `m` (R333): no packet is partly sent, and no TIMESTAMP falls among
the copies. -/
def State.mayGo (s : State) (l : Fin 24) (m : Nat) : Bool :=
  s.betweenPackets l && (List.range 4).all fun i => !s.stampSlot l (m + i * (8 / lanesOfCode (s.link l).txWidth))

/-- Sends a copy of WIDTH_GO (R333): after copy 3 the transmitter is at the new width, on the lanes the peer named. -/
def State.sendGo (s : State) (l : Fin 24) (m code copy lanes : Nat) : State :=
  let s := s.sendLctl l m ⟨9, leBytes 1 code ++ leBytes 1 copy⟩
  if copy = 3 then (s.mapLanes l 32 lanes).modLink l fun x => { x with goTx := none, txWidth := code }
  else s.modLink l fun x => { x with goTx := some (code, copy + 1, lanes) }

/-- The oldest command or answer that may go at flit boundary `m`: a WIDTH_GO (CTYPE 9) waits for its point (R333). -/
def State.nextCmd (s : State) (l : Fin 24) (m : Nat) : Option Lctl :=
  (s.link l).cmds.find? fun c => decide (c.ctype ≠ 9) || s.mayGo l m

/-- Sends a waiting command or answer. -/
def State.sendCmd (s : State) (l : Fin 24) (m : Nat) (c : Lctl) : State :=
  let s := s.modLink l fun x => { x with cmds := x.cmds.erase c }
  match c.ctype, (s.link l).goTx with
  | 9, some (code, _, lanes) => s.sendGo l m code 0 lanes
  | _, _ => s.sendLctl l m c

/-- Unscheduled traffic, else CREDIT (R233, R310, R315): a packet flit needs a free ring entry, the window open, no replay and no command
that waits for a control slot. -/
def State.fillRest (s : State) (l : Fin 24) (m : Nat) (due : Bool) : State :=
  let x := s.link l
  let no := due || s.flag (lnkStatus l) LNK_STATUS_REPLAYING || x.cmds.any (fun c => decide (c.ctype ≠ 9)) || decide (1024 ≤ x.ring.length) ||
    !s.windowOpen l
  match (if no then none else s.nextPkt l) with
  | some (v, o) => s.sendPkt l m v o
  | none => s.sendLctl l m ⟨1, []⟩

/-- The choice of R310 in a slot of a link that is UP; `due` says whether a VC0 flit was due, which in a control slot leaves the slot to
link-control flits (R240). -/
def State.fillSlot (s : State) (l : Fin 24) (m : Nat) (due : Bool) : State :=
  let x := s.link l
  let control := decide ((m + 1) % 64 < 8 / lanesOfCode x.txWidth)
  match x.goTx with
  | some (code, copy + 1, lanes) => s.sendGo l m code (copy + 1) lanes
  | _ =>
    if control && s.stampSlot l m then
      (s.sendLctl l m ⟨2, s.stampBody l m⟩).modLink l fun x => { x with sentStamps := slotQ4 m :: x.sentStamps.take 1 }
    else
      match (if control || !s.vc0Ok l then s.nextCmd l m else none) with
      | some c => s.sendCmd l m c
      | none =>
        if control && (x.retDirty || due) then s.sendLctl l m ⟨1, []⟩
        else
          match s.nextEntry l with
          | some (i, e) => s.sendEntry l m i e
          | none => s.fillRest l m due

/-- The transmitter in a slot, at a flit boundary (R310, R325, R334): training links send RETRAIN only, links in INIT their INIT. -/
def State.transmit (s : State) (l : Fin 24) (m : Nat) (due : Bool) : State :=
  let x := s.link l
  if m < x.txFree then s
  else if s.lstate l = lsUp then s.fillSlot l m due
  else if s.lstate l = lsInit then
    let seen := x.peerInit.isSome
    let s := s.sendLctl l m ⟨3, s.initBody l⟩
    (s.modLink l fun x => { x with sentSeen := x.sentSeen || seen }).maybeUp l
  else
    match x.cmds with
    | c :: rest => (s.sendLctl l m c).modLink l fun x => { x with cmds := rest }
    | [] => s

/-! ### The slot of a crossbar output (R229, R239, R240, R291) -/

/-- The capacity in flits of a class's receive buffer at a port, and its occupancy (R291). A native link has no VC3 buffer and a pool link no
other for packets (R319, R320). -/
def State.occupancy (s : State) (p v : Nat) : Nat × Nat :=
  let held (r : Nat) := s.fld (lnkCredRx p r) LNK_CRED_RX_HELD_D
  if p < 24 then
    if v = 0 then (2048, held 0 / 8)
    else if s.isPool p then if v = 3 then (384, (held 1 + held 2) / 8) else (1, 0)
    else if v = 1 then (256, held 1 / 8)
    else if v = 2 then (64, held 2 / 8)
    else (1, 0)
  else if p < 32 then
    if v = 0 then
      match (fins 8)[p - 24]? with
      | some n => (512, sumNat ((s.chan n).rxq.toList.map (·.length)))
      | none => (1, 0)
    else (1, 0)
  else (64, sumNat (((kl s.net.store (p - 32)).filter fun x => decide (x.1.cls = v)).map fun x => x.1.flits.length))

/-- The bin of an occupancy (R291). -/
def binIndex (c u : Nat) : Nat := if u = 0 then 0 else min 7 ((7 * u + c - 1) / c)

/-- A port adds one to the bin of each class (R291); bin 0 is reckoned from the others. -/
def State.telemAdd (s : State) (p : Nat) : State :=
  (List.range 4).foldl (fun s v =>
    let (c, u) := s.occupancy p v
    let k := 8 * (4 * p + v) + binIndex c u
    if u = 0 then s else s.setNet { s.net with hist := kset (fun _ => 0) s.net.hist k (kget (fun _ => 0) s.net.hist k + 1) }) s

/-- A port is counted as its output takes the slot in progress. -/
def State.telemSlot (s : State) (p m : Nat) : State :=
  if kget (fun _ => 0) s.net.counted p ≤ m ∧ s.slotNow ≤ m then
    (s.telemAdd p).setNet { (s.telemAdd p).net with counted := kset (fun _ => 0) s.net.counted p (m + 1) }
  else s

/-- At the end of slot `m` every port not yet counted in it is counted (R291). -/
def State.telemRest (s : State) (m : Nat) : State :=
  let s := (List.range 34).foldl (fun s p => if m < kget (fun _ => 0) s.net.counted p then s else s.telemAdd p) s
  s.setNet { s.net with counted := s.net.counted.filter fun x => decide (m + 1 < x.2) }

/-- A VC0 flit leaves output `p` in slot `m` (R235, R241, R243, R313). -/
def State.leaveVc0 (s : State) (p m : Nat) (d : Vc0Due) : State :=
  let s := s.bump (netVc0Cnt p) NET_VC0_CNT_FLITS
  if p = 33 then s.lendArrive ⟨d.flit.circuit, m, d.flit.data⟩
  else
    match linkOf p with
    | some l =>
      if 1024 ≤ (s.link l).ring.length then
        ((s.bump (lnkErr2 l) LNK_ERR2_RING_FULL).telemDrop l 0).vc0Fault 3 l d.flit.circuit d.flit.bank (s.faultSlot d.inp d.flit)
      else
        let e : RingEnt := ⟨0, vc0Fields (entOutCircuit d.entry) m d.flit.bank, d.flit.data, none, 0, 0⟩
        let s := (s.modLink l fun x => { x with ring := x.ring ++ [e] }).showSeq l
        if decide (s.lstate l = lsOff) && (s.link l).grace.isNone then s.flushLink l else s
    | none =>
      let n := p - 24
      let q := entRxq d.entry
      let x : Vc0Flit := { d.flit with slot := m }
      let s := match (fins 8)[n]? with
        | some c =>
          let used := ((s.chan c).rxq.toList.map fun (z : List (List Byte)) => z.length).getD q 0 +
            ((kl s.net.toChan n).filter fun (y : Nat × Nat × Vc0Flit) => decide (y.2.1 = q)).length
          if 64 ≤ used then s.bump (netVc0Cnt p) NET_VC0_CNT_NOCREDIT_SENT else s
        | none => s
      s.setNet { s.net with toChan := klAdd s.net.toChan n (m, q, x) }

/-- One slot of an output (R239, R240): the VC0 flit due, from the lowest input; others due, and any due in a link's control slot, are
dropped as late. In STANDBY no VC0 is forwarded (R29). -/
def State.outputSlot (s : State) (p m : Nat) : State :=
  let q := kl s.net.due p
  let now := q.filter fun d => decide (d.due = m)
  let s := s.setNet { s.net with due := klSet s.net.due p (q.filter fun d => decide (d.due ≠ m)), slotNext := kset (fun _ => 0) s.net.slotNext p (m + 1) }
  let due := !now.isEmpty
  let s :=
    if s.standby then now.foldl (fun s _ => s.vc0Off p) s
    else
      let first := if decide (p < 24) && isControl m then none
        else now.foldl (fun (b : Option Vc0Due) d =>
          match b with
          | some x => if d.inp < x.inp then some d else b
          | none => some d) none
      let s := (now.filter fun d => decide (some d ≠ first)).foldl (fun s d => s.vc0Drop NET_VC0_ERR_LATE 3 p d.inp d.flit) s
      match first with
      | some d => s.leaveVc0 p m d
      | none => s
  let s := s.telemSlot p m
  match linkOf p with
  | some l => (s.transmit l m due).showDrained
  | none => if 32 ≤ p && !due then s.endFlit p else s

/-- CROSSBAR_OUTPUT_SLOT: an output takes its next slot: the earliest not yet taken in which a VC0 flit is due, else the slot in progress
(R239, R240, R310; log entry 1). -/
def execCrossbarOutputSlot (p : Fin 34) (s : State) : Host.Outcome State Fault Refusal :=
  .next
    (let next := kget (fun _ => 0) s.net.slotNext p
     let m := (kl s.net.due p).foldl (fun m d => if next ≤ d.due then min m d.due else m) s.slotNow
     if m < next then s else s.outputSlot p m)

/-! ### Commands and answers (R334) -/

/-- Queues a link-control flit to send. -/
def State.queueLctl (s : State) (l : Fin 24) (c : Lctl) : State := s.modLink l fun x => { x with cmds := x.cmds ++ [c] }

/-- Queues a command that waits for its answer (R334). -/
def State.command (s : State) (l : Fin 24) (c : Lctl) : State :=
  (s.queueLctl l c).modLink l fun x => { x with pend := x.pend ++ [⟨c, 1, s.now⟩] }

/-- A command of a type has been answered (R334). -/
def State.answered (s : State) (l : Fin 24) (ctype : Nat) : State :=
  s.modLink l fun x => { x with
    pend := x.pend.filter fun p => decide (p.cmd.ctype ≠ ctype), cmds := x.cmds.filter fun c => decide (c.ctype ≠ ctype) }

/-! ### Acknowledgements and replay (R314, R317) -/

/-- An ACK is applied (R314); one outside the window is a sequence breach, but before UP, where R326 judges the peer's EXPECTED (log entry 29). -/
def State.applyAck (s : State) (l : Fin 24) (a : Nat) : State :=
  let acked := s.fld (lnkSeq l) LNK_SEQ_TX_ACKED
  let k := seqSub a acked
  if k = 0 then s
  else if k ≤ seqSub (s.fld (lnkSeq l) LNK_SEQ_TX_NEXT) acked then
    let passed := s.flag (lnkStatus l) LNK_STATUS_REPLAYING && decide ((s.link l).ptr < k)
    let s := s.setFld (lnkSeq l) LNK_SEQ_TX_ACKED a
    let s := s.modLink l fun x => { x with ring := x.ring.drop k, ptr := x.ptr - k }
    let sent := ((s.link l).ring.filter (·.seq.isSome)).length
    (if passed || decide (sent ≤ (s.link l).ptr) then s.setFld (lnkStatus l) LNK_STATUS_REPLAYING 0 else s).showSeq l
  else if s.lstate l = lsUp then s.linkDown l LNK_EVENT_SEQ_BREACH
  else s

/-- REPLAY_LIMIT in effect (R338). -/
def State.replayLimit (s : State) (l : Nat) : Nat := max 1 (s.fld (lnkCtl l) LNK_CTL_REPLAY_LIMIT)

/-- REPLAY_TIMEOUT: the oldest unacknowledged entry was last sent EFF_TIMEOUT ticks ago: REPLAYS counts it, and a replay starts from it, or
after REPLAY_LIMIT sendings the link goes down (R317). -/
def execReplayTimeout (l : Fin 24) (s : State) : Host.Outcome State Fault Refusal :=
  .next
    (match (s.link l).ring.head? with
     | some e =>
       if e.seq.isNone || decide (s.lstate l ≠ lsUp) || decide (s.now < e.tick + s.effTimeout l) then s
       else
         let s := s.bump (lnkErr1 l) LNK_ERR1_REPLAYS
         if s.replayLimit l ≤ e.sends then s.linkDown l LNK_EVENT_REPLAY_LIMIT
         else (s.setFlag (lnkStatus l) LNK_STATUS_REPLAYING).modLink l fun x => { x with ptr := 0 }
     | none => s)

/-! ### The receiver (R308, R316, R323) -/

/-- Lane-parity errors are counted (R303, R308, R331): in LNK_LANE_ERR, and for the window of 2^20 ticks. -/
def State.laneParity (s : State) (l : Fin 24) (w : Nat) (raw : List Byte) : State :=
  let bad := (raw.headD 0).toNat ^^^ lanePar w raw
  (maskList w bad).foldl (fun s j =>
    (s.bump (lnkLaneErr l) (LNK_LANE_ERR_PAR j)).modLink l fun x =>
      { x with parity := kset (fun _ => 0) x.parity j (kget (fun _ => 0) x.parity j + 1) }) s

/-- FEC decode of a flit (R305, R308): corrections are counted; none when a codeword is uncorrectable. -/
def State.fec (s : State) (l : Fin 24) (raw : List Byte) : State × Option (List Byte) :=
  match rsDecode (codeword 0 raw), rsDecode (codeword 1 raw) with
  | some (a, x), some (b, y) =>
    let s := if x then s.bump (lnkErr0 l) LNK_ERR0_FEC_CORR else s
    let s := if y then s.bump (lnkErr0 l) LNK_ERR0_FEC_CORR else s
    (s, some (mergeWords (raw.headD 0) a b))
  | a, b =>
    let s := if (a.map (·.2)).getD false || (b.map (·.2)).getD false then s.bump (lnkErr0 l) LNK_ERR0_FEC_CORR else s
    (s.bump (lnkErr0 l) LNK_ERR0_FEC_UE, none)

/-- Bytes of the payload from byte 32 that a CTYPE uses (R309); a reserved CTYPE is not judged. -/
def lctlUsed (ctype : Nat) : Nat :=
  match ctype with
  | 1 => 0
  | 2 => 24
  | 3 => 24
  | 4 => 2
  | 5 => 4
  | 6 => 2
  | 7 => 6
  | 8 => 3
  | 9 => 2
  | 10 => 1
  | _ => 200

/-- Step 4 of R308: KIND known and allowed on the link's mode and state, every 0 field 0. -/
def State.wellFormedFlit (s : State) (l : Nat) (f : List Byte) : Bool :=
  let h := leAt f 0 8
  let kind := bitsOf h 8 3
  let pool := s.isPool l
  let modeOk := if pool then decide (kind = 3 ∨ kind = 4) else decide (kind ≤ 4 ∧ kind ≠ 3)
  let stateOk := decide (kind = 4) || decide (s.lstate l = lsUp)
  let zeros :=
    if kind = 4 then
      decide (bitsOf h 43 21 = 0 ∧ bitsOf h 11 12 = 0 ∧ leAt f 24 16 = 0) &&
        ((slice f 40 200).drop (lctlUsed (bitsOf h 35 8))).all (fun b => decide (b = 0)) &&
        (decide (bitsOf h 35 8 ≠ 3) || decide (leAt f 40 1 ≠ 1) || decide (leAt f 52 12 = 0))
    else if kind = 0 then true
    else decide (bitsOf h 50 14 = 0) && (pool || !bit h 49)
  modeOk && stateOk && zeros

/-- Applies the credit block of an LCTL flit (R308, R321, R324): returns seen since the last are taken off the books. -/
def State.applyCredits (s : State) (l : Fin 24) (block : List Byte) : State :=
  (List.range 4).foldl (fun s v =>
    let h := leAt block (4 * v) 2
    let d := leAt block (4 * v + 2) 2
    let old := kget (fun _ => (0, 0)) (s.link l).retSeen v
    let r := lnkCredTx l v
    let s := (s.subFld r LNK_CRED_TX_OUT_H ((h + 65536 - old.1) % 65536)).subFld r LNK_CRED_TX_OUT_D ((d + 65536 - old.2) % 65536)
    s.modLink l fun x => { x with retSeen := kset (fun _ => (0, 0)) x.retSeen v (h, d) }) s

/-- Whether a class's receive buffer has room for a flit (R319, R320). -/
def State.hasRoom (s : State) (l v : Nat) : Bool :=
  if s.isPool l then decide (s.fld (lnkCredRx l 1) LNK_CRED_RX_HELD_D + s.fld (lnkCredRx l 2) LNK_CRED_RX_HELD_D + 8 ≤ 3072)
  else decide (s.fld (lnkCredRx l v) LNK_CRED_RX_HELD_D + 8 ≤ (if v = 1 then 2048 else 512))

/-- A VC1 to VC3 flit accepted in sequence joins its packet (R321, R323): the last one completes it. A flit with no room is discarded with
the rest of its packet. -/
def State.takeFlit (s : State) (l : Fin 24) (v : Nat) (first last mgmt : Bool) (d : List Byte) : State :=
  let x := s.link l
  let k := if v = 3 && mgmt then 4 else v
  let old := kl x.part k
  if (kget (fun _ => false) x.dropping k && !first) || !s.hasRoom l v then
    let fresh := !(kget (fun _ => false) x.dropping k && !first)
    let s := if fresh then (s.bump (lnkErr1 l) LNK_ERR1_CREDIT_OVF).linkEvent l LNK_EVENT_CREDIT_OVF else s
    let s := if fresh then s.telemDrop l v else s
    let s := old.foldl (fun s _ => s.freeFlit l v mgmt false) s
    let s := (s.holdFlit l v mgmt first).freeFlit l v mgmt last
    s.modLink l fun x => { x with part := klSet x.part k [], dropping := kset (fun _ => false) x.dropping k (!last) }
  else
    let s := s.holdFlit l v mgmt first
    let s := s.modLink l fun x => { x with dropping := kset (fun _ => false) x.dropping k false }
    let cut := first && !old.isEmpty
    let s := if cut then s.dropPkt netUnsDrop0 NET_UNS_DROP0_BAD_HDR ⟨v, old, l, mgmt⟩ else s
    let all := if cut then [d] else old ++ [d]
    let s := s.modLink l fun x => { x with part := klSet x.part k (if last then [] else all) }
    if last then s.setNet { s.net with arrived := klAdd s.net.arrived (4 * l + v) ⟨v, all, l, mgmt⟩ } else s

/-- The receiver of a lane replacement reads the logical lane from the understudy: RX_MAP follows, LANE_REPLACED is set, and LANE_DONE goes out
until the peer stops driving the failed lane (R332, R334). -/
def State.replaced (s : State) (l : Fin 24) (r : ReplRx) : State :=
  let s := (((s.setFld (lnkLaneMap l) ⟨4 * r.logical, 4⟩ r.under).showUnderstudies l).linkEvent l LNK_EVENT_LANE_REPLACED).modLink l fun x =>
    { x with replRx := none, mirror := some r.failed }
  s.command l ⟨6, leBytes 1 r.logical ++ leBytes 1 r.under⟩

/-- A flit accepted in sequence (R316, R319); `frac` is the time of its acceptance in sixteenths of the tick. -/
def State.acceptFlit (s : State) (l : Fin 24) (h kind frac : Nat) (d : List Byte) : State :=
  let e := (s.fld (lnkSeq l) LNK_SEQ_RX_EXPECTED + 1) % 4096
  let s := (s.setFld (lnkSeq l) LNK_SEQ_RX_EXPECTED e).modLink l fun x => { x with acks := (s.now, e) :: x.acks.take 15 }
  let s := match (s.link l).replRx with
    | some r => if r.switch = some ((e + 4095) % 4096) then s.replaced l r else s
    | none => s
  if kind = 0 then
    let x : Vc0Flit := ⟨bitsOf h 35 12, slotOfStamp s.slotNow (bitsOf h 47 16), bitsOf h 63 1, d⟩
    (s.holdFlit l 0 false true).modLink l fun y => { y with vc0In := y.vc0In ++ [(16 * (s.now + 50) + frac, x)] }
  else s.takeFlit l kind (bit h 47) (bit h 48) (bit h 49) d

/-- A sequenced flit is classified (R316). -/
def State.classify (s : State) (l : Fin 24) (h kind frac : Nat) (d : List Byte) : State :=
  let δ := seqSub (bitsOf h 11 12) (s.fld (lnkSeq l) LNK_SEQ_RX_EXPECTED)
  if δ = 0 then s.acceptFlit l h kind frac d
  else if δ ≤ 1535 then s.bump (lnkErr1 l) LNK_ERR1_OOS
  else if δ ≤ 2560 then s.linkDown l LNK_EVENT_SEQ_BREACH
  else s.bump (lnkErr1 l) LNK_ERR1_DUP

/-- The receiver switches to a width, on the lanes this end named (R333). -/
def State.switchRx (s : State) (l : Fin 24) (code : Nat) : State :=
  let s := ((s.setFld (lnkStatus l) LNK_STATUS_WIDTH code).mapLanes l 0 (s.link l).rxLanes).showUnderstudies l
  (s.linkEvent l LNK_EVENT_WIDTH_CHANGED).modLink l fun x => { x with goRx := none }

/-- FLIT_RECEIVE: a flit reaches the receiver of a link (R308). `frac` is the time of its reception in sixteenths of a tick. -/
def execFlitReceive (l : Fin 24) (bytes : List Byte) (frac : Fin 16) (s : State) : Host.Outcome State Fault Refusal :=
  .next
    (if s.lstate l = lsOff then s
     else
       let raw := slice bytes 0 256
       let s := s.laneParity l (lanesOfCode (s.fld (lnkStatus l) LNK_STATUS_WIDTH)) raw
       let s := match (s.link l).goRx with
         | some (code, k) => if k ≤ 1 then s.switchRx l code else s.modLink l fun x => { x with goRx := some (code, k - 1) }
         | none => s
       match s.fec l raw with
       | (s, none) => s
       | (s, some f) =>
         if !crcGood f then s.bump (lnkErr0 l) LNK_ERR0_CRC_ERR
         else if !s.wellFormedFlit l f then s.bump (lnkErr2 l) LNK_ERR2_MALFORMED
         else
           let h := leAt f 0 8
           let kind := bitsOf h 8 3
           let d := slice f 8 232
           let s := s.applyAck l (bitsOf h 23 12)
           (if kind = 4 then
             (s.applyCredits l (d.take 32)).modLink l fun x => { x with lctlIn := x.lctlIn ++ [⟨bitsOf h 35 8, d.drop 32, s.now, frac⟩] }
           else if s.lstate l = lsUp then s.classify l h kind frac d
           else s).showDrained)

/-! ### Link-control flits (R309, R325, R332 to R335) -/

/-- Takes the oldest link-control flit received of a type. -/
def State.popLctl (s : State) (l : Fin 24) (ctype : Nat) : Option (LctlIn × State) :=
  ((s.link l).lctlIn.find? fun c => decide (c.ctype = ctype)).map fun c =>
    (c, s.modLink l fun x => { x with lctlIn := x.lctlIn.erase c })

/-- Runs `f` on the oldest link-control flit received of a type. -/
def State.onLctl (s : State) (l : Fin 24) (ctype : Nat) (f : State → LctlIn → State) : State :=
  match s.popLctl l ctype with
  | some (c, s) => f s c
  | none => s

/-- LCTL_CREDIT: the credit block was applied as the flit was received (R308, R309); nothing more. -/
def execLctlCredit (l : Fin 24) (s : State) : Host.Outcome State Fault Refusal := .next (s.onLctl l 1 fun s _ => s)

/-- LCTL_INIT: the peer's INIT (R325): LNK_PEER records who sent it; its mode must be the map's; what it says is kept, and the link may come
UP. -/
def execLctlInit (l : Fin 24) (s : State) : Host.Outcome State Fault Refusal :=
  .next
    (s.onLctl l 3 fun s c =>
      let fl := leAt c.body 1 1
      let i : PeerInit := ⟨leAt c.body 2 2 % 4096, leAt c.body 4 1, bit fl 0, leAt c.body 6 2 % 4096, slice c.body 8 16⟩
      if s.lstate l < lsInit then s
      else
        let s := (s.setFld (lnkPeer l) LNK_PEER_PEER_ID i.device).setFld (lnkPeer l) LNK_PEER_PEER_PORT i.port
        if s.lstate l ≠ lsInit then s
        else if leAt c.body 0 1 ≠ b2n (decide (s.fld (netPortMap l) NET_PORT_MAP_ROLE = 2)) then s.linkEvent l LNK_EVENT_MODE_MISMATCH
        else ((s.modLink l fun x => { x with peerInit := some i, gotSeen := x.gotSeen || bit fl 1 }).maybeUp l).showDrained)

/-! ### Lanes (R331, R332) -/

/-- An understudy lane free for a replacement (R331, R354, R356): good, not LOW, mapped to nothing. -/
def State.freeLane (s : State) (l : Nat) : Option Nat :=
  (List.range 10).find? fun q => (s.logicalOf l q).isNone && s.goodLane l q && !s.flag (lnkMargin l q) LNK_MARGIN_LOW

/-- The lanes this end names for a width: the lowest good ones (R333, R356). -/
def State.laneMask (s : State) (l code : Nat) : Nat := sumNat ((((List.range 10).filter (s.goodLane l)).take (lanesOfCode code)).map (2 ^ ·))

/-- Sends WIDTH_REQ for a width, with the lanes this end will receive on (R309, R333). -/
def State.requestWidth (s : State) (l : Fin 24) (code : Nat) : State :=
  let mask := s.laneMask l code
  let c : Lctl := ⟨7, leBytes 1 code ++ leBytes 2 mask ++ leBytes 2 (s.fld netPlace NET_PLACE_DEVICE_ID) ++ leBytes 1 l⟩
  (s.command l c).modLink l fun x => { x with reqOut := some (code, mask), rxLanes := mask }

/-- A physical receive lane is marked failed (R332, R342; log entry 72). -/
def State.markRx (s : State) (l p : Nat) : State :=
  s.setFld (lnkLaneCtl l) LNK_LANE_CTL_RX_FAILED (s.fld (lnkLaneCtl l) LNK_LANE_CTL_RX_FAILED ||| 2 ^ p)

/-- What mends a failing lane that carries logical lane `j`, and is marked (R331): an understudy takes its place, or the link narrows, or on a VC0
link it is exhausted and the cause LANE is raised; none where fewer than two lanes are left. -/
def State.mendLane (s : State) (l : Fin 24) (p j : Nat) (spare : Option Nat) : Option State :=
  match spare with
  | some q => some ((s.command l ⟨4, leBytes 1 j ++ leBytes 1 q⟩).modLink l fun x => { x with replRx := some ⟨j, p, q, none⟩ })
  | none =>
    let good := ((List.range 10).filter (s.goodLane l)).length
    if s.vc0Ok l then some ((s.linkEvent l LNK_EVENT_LANE_EXHAUSTED).raiseCause 16 l 0 none)
    else if 4 ≤ good then some (s.requestWidth l 1)
    else if 2 ≤ good then some (s.requestWidth l 2)
    else none

/-- A receive lane is failing (R331). `lost` says that it lost signal or lock: where R331 cannot mend that, the link goes down (R327). A lane that
fails while another is being replaced waits for that (R335). -/
def State.laneFailing (s : State) (l : Fin 24) (p : Nat) (lost : Bool) : State :=
  match s.logicalOf l p with
  | none => s.markRx l p
  | some j =>
    let x := s.link l
    if (x.replRx.map (·.failed)) = some p || (bit (s.fld (lnkLaneCtl l) LNK_LANE_CTL_RX_FAILED) p && !lost) then s
    else if x.replRx.isSome || x.mirror.isSome then
      s.modLink l fun x => { x with failing := if x.failing.contains p then x.failing else x.failing ++ [p] }
    else
      let narrow := !s.vc0Ok l && s.flag (lnkCtl l) LNK_CTL_NARROW_FIRST
      match (s.markRx l p).mendLane l p j (if narrow then none else s.freeLane l) with
      | some t => t
      | none => if lost then (s.markRx l p).linkDown l LNK_EVENT_DOWN else s.markRx l p

/-- The next lane that waited for a replacement to complete (R335). -/
def State.nextFailing (s : State) (l : Fin 24) : State :=
  match (s.link l).failing with
  | p :: rest => (s.modLink l fun x => { x with failing := rest }).laneFailing l p false
  | [] => s

/-- LCTL_REPLACE: the transmitter drives a logical lane on an understudy too, and answers LANE_ACK with NEXT (R332). -/
def execLctlReplace (l : Fin 24) (s : State) : Host.Outcome State Fault Refusal :=
  .next
    (s.onLctl l 4 fun s c =>
      let j := leAt c.body 0 1
      let q := leAt c.body 1 1
      let r := match (s.link l).replTx with
        | some r => if r.logical = j ∧ r.under = q then r else ⟨j, q, s.fld (lnkSeq l) LNK_SEQ_TX_NEXT⟩
        | none => ⟨j, q, s.fld (lnkSeq l) LNK_SEQ_TX_NEXT⟩
      if s.lstate l ≠ lsUp then s
      else (s.modLink l fun x => { x with replTx := some r }).queueLctl l ⟨5, leBytes 1 j ++ leBytes 1 q ++ leBytes 2 r.switch⟩)

/-- LCTL_LANE_ACK: the receiver learns the switch point S, and reads the lane from the understudy after the flit with SEQ S (R332). Where S has
already been accepted it switches at once. -/
def execLctlLaneAck (l : Fin 24) (s : State) : Host.Outcome State Fault Refusal :=
  .next
    (s.onLctl l 5 fun s c =>
      match (s.link l).replRx with
      | some r =>
        if r.logical ≠ leAt c.body 0 1 ∨ r.under ≠ leAt c.body 1 1 then s
        else
          let sp := leAt c.body 2 2 % 4096
          let past := seqSub (s.fld (lnkSeq l) LNK_SEQ_RX_EXPECTED) sp
          let s := s.answered l 4
          if past ≠ 0 ∧ past < 2048 then s.replaced l r else s.modLink l fun x => { x with replRx := some { r with switch := some sp } }
      | none => s)

/-- This end turns to a width: WIDTH_GO waits for its point, unless it is under way or done (R333, R334). -/
def State.beginGo (s : State) (l : Fin 24) (code lanes : Nat) : State :=
  let under := match (s.link l).goTx with
    | some (c, _, m) => decide (c = code ∧ m = lanes)
    | none => decide ((s.link l).txWidth = code ∧ ((List.range (lanesOfCode code)).map (s.txLane l)) = (maskList 10 lanes).take (lanesOfCode code))
  if under then s
  else (s.queueLctl l ⟨9, leBytes 1 code⟩).modLink l fun x => { x with goTx := some (code, 0, lanes) }

/-- A peer's width request is answered (R333): this end's receive lanes, and WIDTH_GO follows. An answer is sent each time the request comes
(R334). -/
def State.answerWidth (s : State) (l : Fin 24) (code lanes : Nat) : State :=
  let mask := s.laneMask l code
  ((s.queueLctl l ⟨8, leBytes 1 code ++ leBytes 2 mask⟩).modLink l fun x => { x with reqIn := none, rxLanes := mask }).beginGo l code lanes

/-- LCTL_LANE_DONE: the transmitter stops driving the failed lane, marks it and updates TX_MAP (R332); a width request that waited is
answered now (R335). -/
def execLctlLaneDone (l : Fin 24) (s : State) : Host.Outcome State Fault Refusal :=
  .next
    (s.onLctl l 6 fun s c =>
      match (s.link l).replTx with
      | some r =>
        if r.logical ≠ leAt c.body 0 1 then s
        else
          let old := s.txLane l r.logical
          let s := s.setFld (lnkLaneCtl l) LNK_LANE_CTL_TX_FAILED (s.fld (lnkLaneCtl l) LNK_LANE_CTL_TX_FAILED ||| 2 ^ old)
          let s := (s.setFld (lnkLaneMap l) ⟨32 + 4 * r.logical, 4⟩ r.under).linkEvent l LNK_EVENT_LANE_REPLACED
          let s := s.modLink l fun x => { x with replTx := none }
          match (s.link l).reqIn with
          | some (code, lanes) => s.answerWidth l code lanes
          | none => s
      | none => s)

/-- LCTL_WIDTH_REQ: the peer asks for a width (R333, R335): refused on a port with VC0, decided between two requests by DEVICE_ID and PORT,
answered after a replacement in progress. -/
def execLctlWidthReq (l : Fin 24) (s : State) : Host.Outcome State Fault Refusal :=
  .next
    (s.onLctl l 7 fun s c =>
      let code := leAt c.body 0 1 % 4
      let lanes := leAt c.body 1 2
      let dev := leAt c.body 3 2
      let port := leAt c.body 5 1
      let own := s.fld netPlace NET_PLACE_DEVICE_ID
      if s.lstate l ≠ lsUp then s
      else if s.vc0Ok l then s.linkEvent l LNK_EVENT_WIDTH_REFUSED
      else
        let mine := (s.link l).reqOut.isSome && decide (own < dev ∨ (own = dev ∧ l.val < port))
        if mine then s
        else
          let s := if (s.link l).reqOut.isSome then
              (((s.answered l 7).linkEvent l LNK_EVENT_WIDTH_WITHDRAWN).setFld (lnkCtl l) LNK_CTL_WIDTH_GO 0).modLink l fun x =>
                { x with reqOut := none }
            else s
          if (s.link l).replTx.isSome then s.modLink l fun x => { x with reqIn := some (code, lanes) } else s.answerWidth l code lanes)

/-- LCTL_WIDTH_ACK: this end's request is answered with the peer's receive lanes; WIDTH_GO follows (R333). -/
def execLctlWidthAck (l : Fin 24) (s : State) : Host.Outcome State Fault Refusal :=
  .next
    (s.onLctl l 8 fun s c =>
      match (s.link l).reqOut with
      | some (code, _) =>
        (((s.answered l 7).setFld (lnkCtl l) LNK_CTL_WIDTH_GO 0).modLink l fun x => { x with reqOut := none }).beginGo l code (leAt c.body 1 2)
      | none => s)

/-- LCTL_WIDTH_GO: the copy numbered k makes the receiver switch after 3 − k further flits (R333); a port with VC0 refuses it. -/
def execLctlWidthGo (l : Fin 24) (s : State) : Host.Outcome State Fault Refusal :=
  .next
    (s.onLctl l 9 fun s c =>
      let code := leAt c.body 0 1 % 4
      let k := leAt c.body 1 1 % 4
      let here := decide (s.fld (lnkStatus l) LNK_STATUS_WIDTH = code ∧
        ((List.range (lanesOfCode code)).map (s.rxLane l)) = (maskList 10 (s.link l).rxLanes).take (lanesOfCode code))
      if s.vc0Ok l then s.linkEvent l LNK_EVENT_WIDTH_REFUSED
      else if here then s
      else if k = 3 then s.switchRx l code
      else s.modLink l fun x => { x with goRx := some (code, 3 - k) })

/-- LCTL_RETRAIN: the peer retrains (R327, R335): the link goes down, and its own RETRAIN, sent once, needs no answer. While the port waits for the
answer to a RETRAIN it has sent, the two merge; else it is ignored in training. -/
def execLctlRetrain (l : Fin 24) (s : State) : Host.Outcome State Fault Refusal :=
  .next
    (s.onLctl l 10 fun s _ =>
      if s.lstate l = lsTraining then
        let sent := (s.link l).pend.any fun p => decide (p.cmd.ctype = 10) && (decide (1 < p.sends) || !(s.link l).cmds.contains p.cmd)
        if sent then (s.answered l 10).linkEvent l LNK_EVENT_RETRAIN_MERGED else s
      else if s.lstate l = lsOff then s
      else (s.linkDown l LNK_EVENT_DOWN).modLink l fun x => { x with pend := [] })

/-- LANE_PARITY_WINDOW: a window of 2^20 ticks ends; lanes with more than PAR_THRESH errors are failing (R331). -/
def execLaneParityWindow (l : Fin 24) (s : State) : Host.Outcome State Fault Refusal :=
  .next
    (let k := s.now / 2 ^ 20
     if k ≤ (s.link l).parWin then s
     else
       let th := s.fld (lnkLaneCtl l) LNK_LANE_CTL_PAR_THRESH
       let bad := (List.range 8).filter fun j => decide (th ≠ 0 ∧ th < kget (fun _ => 0) (s.link l).parity j)
       let lanes := bad.map (s.rxLane l)
       let s := s.modLink l fun x => { x with parity := [], parWin := k }
       if s.lstate l = lsUp then lanes.foldl (fun s p => s.laneFailing l p false) s else s)

/-- LANE_LOSS_OF_LOCK: a physical receive lane loses signal or lock: UP, R331 mends it where it can, else the link goes down, as it does from INIT,
whose slots carry INIT only (R325, R327, R331, R356). -/
def execLaneLossOfLock (l : Fin 24) (lane : Fin 10) (s : State) : Host.Outcome State Fault Refusal :=
  .next
    (let good := s.fld (lnkPhyStatus l) LNK_PHY_STATUS_RX_GOOD
     let s := if bit good lane then s.setFld (lnkPhyStatus l) LNK_PHY_STATUS_RX_GOOD (good - 2 ^ lane.val) else s
     if s.lstate l = lsUp then s.laneFailing l lane true
     else if s.lstate l = lsInit && (s.logicalOf l lane).isSome then s.linkDown l LNK_EVENT_DOWN
     else s)

/-- A command that waits for its answer is sent again; after 16 sendings the link goes down (R334). -/
def State.retryCmd (s : State) (l : Fin 24) (p : PendCmd) : State :=
  if 16 ≤ p.sends then
    if s.lstate l < lsInit then (s.answered l p.cmd.ctype).linkEvent l LNK_EVENT_CMD_TIMEOUT else s.linkDown l LNK_EVENT_CMD_TIMEOUT
  else
    (s.modLink l fun x => { x with pend := x.pend.map fun q => if q = p then { p with sends := p.sends + 1, tick := s.now } else q }).queueLctl
      l p.cmd

/-- CMD_RETRY: 1 µs after its last sending a command without an answer is sent again (R334). `pattern` is the receive lanes on which the test
pattern is seen: on the failed lane it answers LANE_DONE, and the replacement is complete (R332, R335). -/
def execCmdRetry (l : Fin 24) (s : State) (pattern : BitVec 10 := 0) : Host.Outcome State Fault Refusal :=
  .next
    (let s := match (s.link l).mirror with
       | some p => if bit pattern.toNat p then ((s.answered l 6).modLink l fun x => { x with mirror := none }).nextFailing l else s
       | none => s
     match (s.link l).pend.find? (fun p => decide (p.tick + 1000 ≤ s.now)) with
     | none => s
     | some p => s.retryCmd l p)

/-- GRACE_EXPIRY: the grace ends before the link is UP, and the port flushes (R329). -/
def execGraceExpiry (l : Fin 24) (s : State) : Host.Outcome State Fault Refusal :=
  .next
    (match (s.link l).grace with
     | some t =>
       if s.now < t then s.showGrace l
       else if s.lstate l = lsUp then s.endGrace l
       else (s.endGrace l).flushLink l
     | none => s)

/-! ### Writes to LNK_CTL (R333, R336, R338, R361, R362) -/

/-- The check of a port-map entry when EN rises (R362): the conflict, if any. -/
def State.mapConflict (s : State) (l : Nat) : Bool :=
  let m (k : Nat) (f : Fld) := s.fld (netPortMap k) f
  let role := m l NET_PORT_MAP_ROLE
  decide (role = 3) || (decide (role = 1) && (decide (6 ≤ m l NET_PORT_MAP_DIR) ||
    (List.range 24).any fun k => decide (k ≠ l ∧ m k NET_PORT_MAP_ROLE = 1 ∧ m k NET_PORT_MAP_DIR = m l NET_PORT_MAP_DIR ∧
      m k NET_PORT_MAP_POS = m l NET_PORT_MAP_POS)))

/-- EN rises (R336, R355, R361, R362): unused links stay off, a conflict in the map is recorded, others train. -/
def State.enableLink (s : State) (l : Fin 24) : State :=
  if s.mapConflict l then (s.setFlag netMapStat NET_MAP_STAT_MAP_CONFLICT).setFld netMapStat NET_MAP_STAT_CONFLICT_PORT l
  else if s.fld (netPortMap l) NET_PORT_MAP_ROLE = 0 ∨ s.fld safStat SAF_STAT_STATE = 2 then s
  else
    (s.setFld (lnkStatus l) LNK_STATUS_POOL (b2n (decide (s.fld (netPortMap l) NET_PORT_MAP_ROLE = 2)))).beginTraining l

/-- A write to LNK_CTL. -/
def State.writeLnkCtl (s : State) (l : Fin 24) (v m : Word64) : State :=
  let was := s.flag (lnkCtl l) LNK_CTL_EN
  let s := (s.writePlain (lnkCtl l) v m).showHop l
  let w := v &&& m
  let s := match was, s.flag (lnkCtl l) LNK_CTL_EN with
    | false, true => s.enableLink l
    | true, false => s.linkOff l
    | _, _ => s
  let s := if getF w LNK_CTL_RETRAIN = 1 ∧ s.lstate l ≠ lsOff then (s.linkDown l LNK_EVENT_DOWN).setFld (lnkCtl l) LNK_CTL_RETRAIN 0 else s
  if getF w LNK_CTL_WIDTH_GO = 1 then
    let code := s.fld (lnkCtl l) LNK_CTL_WIDTH_REQ
    if s.vc0Ok l then (s.linkEvent l LNK_EVENT_WIDTH_REFUSED).setFld (lnkCtl l) LNK_CTL_WIDTH_GO 0
    else if code = 0 ∨ s.lstate l ≠ lsUp then s.setFld (lnkCtl l) LNK_CTL_WIDTH_GO 0
    else s.requestWidth l (code - 1)
  else s

/-- LNK_EN_WRITE (R336, R362). -/
def execLnkEnWrite (l : Fin 24) (value : Word64) (s : State) : Host.Outcome State Fault Refusal := .next (if s.takesWrites (lnkCtl l) then s.writeLnkCtl l value (~~~0) else s)

/-- LNK_RETRAIN_WRITE: a write to LNK_CTL with RETRAIN 1 (R327, R338). -/
def execLnkRetrainWrite (l : Fin 24) (value : Word64) (s : State) : Host.Outcome State Fault Refusal :=
  .next (if s.takesWrites (lnkCtl l) then s.writeLnkCtl l (setF value LNK_CTL_RETRAIN 1) (~~~0) else s)

/-- LNK_WIDTH_GO_WRITE: a write to LNK_CTL with WIDTH_GO 1 (R333, R338). -/
def execLnkWidthGoWrite (l : Fin 24) (value : Word64) (s : State) : Host.Outcome State Fault Refusal :=
  .next (if s.takesWrites (lnkCtl l) then s.writeLnkCtl l (setF value LNK_CTL_WIDTH_GO 1) (~~~0) else s)

end Sys2Proof.Machine
end

