-- ==== Sys2Proof/Machine/Phys.lean ====
section
/-!
DEFINITION. The physical links (chapter 9): the steps of training (R355, R356), the delay survey (R358), eye and laser monitors (R352, R354),
and writes to LNK_LASER, NET_PORT_MAP and NET_PORT_HOP (R234, R353, R359, R362).
-/

namespace Sys2Proof.Machine

/-! ### Training (R355, R356) -/

/-- The time limit of a training step in ticks (R355). -/
def stepLimit (k : Nat) : Nat := if k = 1 then 2000000 else if k = 2 then 20000000 else 1000000

/-- Whether a link is at a training step, within its limit. -/
def State.atStep (s : State) (l : Fin 24) (k : Nat) : Bool :=
  decide (s.lstate l = lsTraining ∧ s.fld (lnkPhyStatus l) LNK_PHY_STATUS_STEP = k ∧ s.now ≤ (s.link l).stepTick + stepLimit k) &&
    (s.link l).restart.isNone

/-- The next training step begins. -/
def State.goStep (s : State) (l : Fin 24) (k : Nat) : State :=
  (s.setFld (lnkPhyStatus l) LNK_PHY_STATUS_STEP k).modLink l fun x => { x with stepTick := s.now }

/-- The attempt fails at a step: FAIL_STEP, TRAIN_FAILS, and DETECT again after 10 ms (R355). -/
def State.failStep (s : State) (l : Fin 24) (k : Nat) : State :=
  ((s.setFld (lnkPhyStatus l) LNK_PHY_STATUS_FAIL_STEP k).bump (lnkPhyStatus l) LNK_PHY_STATUS_TRAIN_FAILS).modLink l fun x =>
    { x with restart := some (s.now + 10000000) }

/-- Training is done: the link goes to INIT (R355). -/
def State.trained (s : State) (l : Fin 24) : State := (s.goStep l 7).setLstate l lsInit

/-- The lasers of a link at DETECT: SOURCE applied; a laser is lit on each lane not failed, FAIL 0 and a laser named (R352, R353, R355). -/
def State.applySources (s : State) (l : Fin 24) : State :=
  if l.val < 8 then s
  else
    let src (k : Nat) := s.fld (lnkLaser (l - 8) k) LNK_LASER_SOURCE
    let lit := sumNat (((List.range 10).filter fun k => decide (src k ≠ 3) && !s.flag (lnkLaser (l - 8) k) LNK_LASER_FAIL &&
      !bit (s.fld (lnkLaneCtl l) LNK_LANE_CTL_TX_FAILED) k).map (2 ^ ·))
    s.modLink l fun x => { x with source := (List.range 10).foldl (fun m k => kset (fun _ => 0) m k (src k)) [], lit := lit }

/-- DETECT: the lanes that found signal and lock; the step ends once some lane has (R355). The peer's pattern answers RETRAIN (R334). -/
def execDetect (l : Fin 24) (locked : BitVec 10) (s : State) : Host.Outcome State Fault Refusal :=
  .next
    (if s.atStep l 1 then
      let s := s.applySources l
      let lk := locked.toNat - (locked.toNat &&& s.fld (lnkLaneCtl l) LNK_LANE_CTL_RX_FAILED)
      if lk = 0 then s else ((s.answered l 10).goStep l 2).modLink l fun x => { x with locked := lk }
    else s)

/-- EQUALISE ends once every locked lane has settled (R355). -/
def execEqualise (l : Fin 24) (settled : BitVec 10) (s : State) : Host.Outcome State Fault Refusal :=
  .next (if s.atStep l 2 && decide (settled.toNat &&& (s.link l).locked = (s.link l).locked) then s.goStep l 3 else s)

/-- IDENTIFY_LANES: POLARITY and CROSSED of the locked lanes; a lane locked and not crossed is good (R350, R355, R368). -/
def execIdentifyLanes (l : Fin 24) (crossed inverted : BitVec 10) (s : State) : Host.Outcome State Fault Refusal :=
  .next
    (if s.atStep l 3 then
      let lk := (s.link l).locked
      let c := crossed.toNat &&& lk
      let p := lnkPhyStatus l
      (((s.setFld p LNK_PHY_STATUS_CROSSED c).setFld p LNK_PHY_STATUS_POLARITY (inverted.toNat &&& lk)).setFld p LNK_PHY_STATUS_RX_GOOD
        (lk - c)).goStep l 4
    else s)

/-- Places the logical lanes (R356): one whose physical lane is not good moves to the lowest free lane. -/
def placeLanes (good free : Nat → Bool) (map : List Nat) : Option (List Nat) :=
  (List.range 8).foldl (fun (m : Option (List Nat)) j =>
    m.bind fun m =>
      if good (nth 0 m j) then some m
      else ((List.range 10).find? fun q => free q && !m.contains q).map fun q => m.set j q) (some map)

/-- The first `w` logical lanes on the lowest good lanes. -/
def narrowLanes (good : Nat → Bool) (w : Nat) (map : List Nat) : List Nat :=
  ((List.range 10).filter good).take w ++ map.drop w

/-- Writes a map into LNK_LANE_MAP. -/
def State.putMap (s : State) (l base : Nat) (m : List Nat) : State :=
  (m.zipIdx).foldl (fun s x => s.setFld (lnkLaneMap l) ⟨base + 4 * x.2, 4⟩ x.1) s

/-- PLACE: the logical lanes are placed and the width is chosen (R356); with fewer than two lanes in either direction it fails. -/
def execPlace (l : Fin 24) (peerGood : BitVec 10) (s : State) : Host.Outcome State Fault Refusal :=
  .next
    (if s.atStep l 4 then
      let rg := s.goodLane l
      let tg (k : Nat) := bit peerGood.toNat k && !bit (s.fld (lnkLaneCtl l) LNK_LANE_CTL_TX_FAILED) k
      let rmap := (List.range 8).map (s.rxLane l)
      let tmap := (List.range 8).map (s.txLane l)
      let set (s : State) (code : Nat) (rm tm : List Nat) : State :=
        ((((((s.putMap l 0 rm).putMap l 32 tm).setFld (lnkStatus l) LNK_STATUS_WIDTH code).modLink l fun x =>
          { x with txWidth := code }).showUnderstudies l).goStep l 5)
      let n := min (((List.range 10).filter rg).length) (((List.range 10).filter tg).length)
      match placeLanes rg (fun k => rg k && !s.flag (lnkMargin l k) LNK_MARGIN_LOW) rmap, placeLanes tg tg tmap with
      | some rm, some tm => set s 0 rm tm
      | _, _ =>
        if 4 ≤ n then set s 1 (narrowLanes rg 4 rmap) (narrowLanes tg 4 tmap)
        else if 2 ≤ n then set s 2 (narrowLanes rg 2 rmap) (narrowLanes tg 2 tmap)
        else s.failStep l 4
    else s)

/-- ALIGN seeds the scramblers of the transmit lanes (R348). The manual gives no seed: each is free. -/
def State.seedLanes (s : State) (l : Fin 24) : State :=
  let seeds := (List.range 10).map fun k => (k, Config.freeNat (s.free + k) % 2 ^ 31)
  (s.take 10).modLink l fun x => { x with seeds := seeds.foldl (fun m e => kset (fun _ => 0) m e.1 e.2) [], alignSlot := s.slotNow }

/-- The PAM4 levels on physical transmit lane `p` while the flit of slot `m` is on the line (R302, R348). -/
def State.laneLevels (s : State) (l : Fin 24) (p : Nat) : List Int :=
  let x := s.link l
  let w := lanesOfCode x.txWidth
  match x.line, (List.range w).find? (fun j => decide (s.txLane l j = p)) with
  | some (m, flit), some j => scrambled (kget (fun _ => 0) x.seeds p) (256 * (m - x.alignSlot)) (flitLane w j flit)
  | _, _ => []

/-- ALIGN: the flit boundary is found and the scramblers are seeded (R348); the survey follows at width eight on a native link, and is skipped
otherwise (R355). -/
def execAlign (l : Fin 24) (s : State) : Host.Outcome State Fault Refusal :=
  .next
    (if s.atStep l 5 then
      let s := s.seedLanes l
      if s.isPool l || decide (s.fld (lnkStatus l) LNK_STATUS_WIDTH ≠ 0) then s.trained l else s.goStep l 6
    else s)

/-- SURVEY: the round trips and turnarounds of the 256 markers, in sixteenths of a tick (R358). With fewer the step is not done. -/
def execSurvey (l : Fin 24) (samples : List (Nat × Nat)) (s : State) : Host.Outcome State Fault Refusal :=
  .next
    (if s.atStep l 6 && decide (samples.length = 256) then
      let d := samples.map fun x => x.1 - x.2
      let mean := sumNat d / 512
      let turn := sumNat (samples.map (·.2)) / 256
      let spread := (d.foldl max 0 - d.foldl min (d.headD 0)) / 2
      let r := lnkSurvey l
      let s := (s.setFld r LNK_SURVEY_DELAY_Q4 (if mean < 16384 then mean else s.pick 16384)).take 1
      let s := (s.setFld r LNK_SURVEY_TURN_Q4 (if turn < 65536 then turn else s.pick 65536)).take 1
      let s := (s.setFld r LNK_SURVEY_SPREAD_Q4 (min spread 1023)).setFlag r LNK_SURVEY_VALID
      let s := (s.setFld r LNK_SURVEY_UNSTABLE (b2n (decide (16 < spread)))).setFld r LNK_SURVEY_OVER (b2n (decide (16360 ≤ mean)))
      s.trained l
    else s)

/-- TRAIN_STEP_TIMEOUT: a step exceeds its limit and ends the attempt (R355). -/
def execTrainStepTimeout (l : Fin 24) (s : State) : Host.Outcome State Fault Refusal :=
  .next
    (let k := s.fld (lnkPhyStatus l) LNK_PHY_STATUS_STEP
     if decide (s.lstate l = lsTraining ∧ (s.link l).stepTick + stepLimit k < s.now) && (s.link l).restart.isNone then s.failStep l k else s)

/-- TRAIN_RETRY: 10 ms after a failed attempt the link starts again at DETECT (R355). -/
def execTrainRetry (l : Fin 24) (s : State) : Host.Outcome State Fault Refusal :=
  .next
    (match (s.link l).restart with
     | some t => if s.lstate l = lsTraining ∧ t ≤ s.now then s.beginTraining l else s
     | none => s)

/-! ### Monitors (R352, R354) -/

/-- EYE_MONITOR: the margins of a receive lane; LOW below a floor, which on a lane in use is the margin condition of R331. An understudy's
test-pattern errors are counted. -/
def execEyeMonitor (l : Fin 24) (lane : Fin 10) (v h : BitVec 10) (prbs : Nat) (s : State) : Host.Outcome State Fault Refusal :=
  .next
    (if s.lstate l = lsOff then s
     else
      let r := lnkMargin l lane
      let low := decide (v.toNat < s.fld (lnkMarginCtl l) LNK_MARGIN_CTL_V_FLOOR ∨ h.toNat < s.fld (lnkMarginCtl l) LNK_MARGIN_CTL_H_FLOOR)
      let s := ((s.setFld r LNK_MARGIN_EYE_V v.toNat).setFld r LNK_MARGIN_EYE_H h.toNat).setFld r LNK_MARGIN_LOW (b2n low)
      let s := if s.flag r LNK_MARGIN_UNDERSTUDY then s.addFld r LNK_MARGIN_PRBS_ERR prbs else s
      if low && decide (s.lstate l = lsUp) && (s.logicalOf l lane).isSome then s.laneFailing l lane false else s)

/-- LASER_MONITOR: the bias in 0.5 mA and the power in 0.25 dB of a lit laser; WARN from 70 mA, FAIL from 90 mA with more than 1 dB lost or
with 3 dB lost, when the laser is turned off (R352). -/
def execLaserMonitor (l : Fin 24) (lane : Fin 10) (bias : BitVec 8) (power : BitVec 8) (s : State) : Host.Outcome State Fault Refusal :=
  .next
    (if l.val < 8 || !bit (s.link l).lit lane then s
     else
      let r := lnkLaser (l - 8) lane
      let s := (s.setFld r LNK_LASER_BIAS bias.toNat).setFld r LNK_LASER_POWER power.toNat
      let s := if 140 ≤ bias.toNat then (if s.flag r LNK_LASER_WARN then s else (s.setFlag r LNK_LASER_WARN).alert [11]) else s
      if (180 ≤ bias.toNat ∧ power.toInt < -4) ∨ power.toInt ≤ -12 then
        ((s.setFlag r LNK_LASER_FAIL).alert [11]).modLink l fun x => { x with lit := x.lit - 2 ^ lane.val }
      else s)

/-! ### Writes (R234, R353, R359, R362) -/

/-- Whether an understudy laser serves, or is to serve, another lane of the engine (R353). -/
def State.laserTaken (s : State) (l : Fin 24) (lane src : Nat) : Bool :=
  (fins 24).any fun k => decide (8 ≤ k.val ∧ k.val / 4 = l.val / 4) && (List.range 10).any fun j =>
    !(decide (k = l) && decide (j = lane)) &&
      (decide (s.fld (lnkLaser (k - 8) j) LNK_LASER_SOURCE = src) || decide (kget (fun _ => 0) (s.link k).source j = src))

/-- A write to LNK_LASER of an optical link (R353, R372); FAIL clears when SOURCE is written. -/
def State.writeLaser (s : State) (l : Fin 24) (lane : Nat) (v m : Word64) : State :=
  if l.val < 8 then s
  else
    let r := lnkLaser (l - 8) lane
    let src := getF v LNK_LASER_SOURCE
    let names := decide (getF m LNK_LASER_SOURCE ≠ 0)
    if names && decide (src = 1 ∨ src = 2) && s.laserTaken l lane src then s.setFlag (lnkPhyStatus l) LNK_PHY_STATUS_LASER_REFUSED
    else
      let s := s.writePlain r v m
      if names then s.setFld r LNK_LASER_FAIL 0 else s

/-- LASER_SOURCE_WRITE (R353). -/
def execLaserSourceWrite (l : Fin 24) (lane : Fin 10) (value : Word64) (s : State) : Host.Outcome State Fault Refusal :=
  .next (if decide (l.val < 8) || s.takesWrites (lnkLaser (l - 8) lane) then s.writeLaser l lane value (~~~0) else s)

/-- A write to NET_PORT_MAP: ignored, and noted, unless the link is OFF (R362). -/
def State.writePortMap (s : State) (l : Nat) (v m : Word64) : State :=
  if s.lstate l = lsOff then s.writePlain (netPortMap l) v m else s.setFlag netMapStat NET_MAP_STAT_MAP_WRITE_REFUSED

/-- PORT_MAP_WRITE (R362). -/
def execPortMapWrite (l : Fin 24) (value : Word64) (s : State) : Host.Outcome State Fault Refusal :=
  .next (if s.takesWrites (netPortMap l) then s.writePortMap l value (~~~0) else s)

/-- A write to NET_PORT_HOP (R234, R237, R262, R359): DELAY takes no value but 0x3FF on a link that is not eight lanes wide or has not
ROLE 1; H, VC0_OK and EFF_TIMEOUT follow. -/
def State.writeHop (s : State) (l : Nat) (v m : Word64) : State :=
  let open_ := decide (s.fld (lnkStatus l) LNK_STATUS_WIDTH = 0 ∧ s.fld (netPortMap l) NET_PORT_MAP_ROLE = 1)
  let m := if open_ || decide (getF v NET_PORT_HOP_DELAY = 0x3FF) then m else setF m NET_PORT_HOP_DELAY 0
  (s.writePlain (netPortHop l) v m).showHop l

/-- DELAY_WRITE: a write of the DELAY field (R359). -/
def execDelayWrite (l : Fin 24) (value : Word64) (s : State) : Host.Outcome State Fault Refusal :=
  .next (if s.takesWrites (netPortHop l) then s.writeHop l value (setF 0 NET_PORT_HOP_DELAY 0x3FF) else s)

/-- DMAX_WRITE: a write of the DMAX field (R234). -/
def execDmaxWrite (l : Fin 24) (value : Word64) (s : State) : Host.Outcome State Fault Refusal :=
  .next (if s.takesWrites (netPortHop l) then s.writeHop l value (setF 0 NET_PORT_HOP_DMAX 0x3FF) else s)

end Sys2Proof.Machine
end

