-- ==== Sys2Proof/Machine/Time.lean ====
section
/-!
DEFINITION. Huawald time (chapter 10): time stamps and their samples (R380, R381, R387), acquisition (R390), the servo (R382, R383), the
benchmark device (R385, R386), slice steps (R391), holdover (R392), and the comparison of counted mode (R395).
-/

namespace Sys2Proof.Machine

/-! ### Signed fields and steps of time -/

/-- The two's complement of a number in `w` bits. -/
def ofInt (w : Nat) (x : Int) : Nat := (x % (2 ^ w : Int)).toNat

/-- Whether a number fits `w` signed bits. -/
def fitsInt (w : Nat) (x : Int) : Bool := decide (-(2 ^ (w - 1) : Int) ≤ x ∧ x < (2 ^ (w - 1) : Int))

/-- Writes a signed field; a value that does not fit, of which the manual says nothing, leaves a free value there. -/
def State.setInt (s : State) (off : Nat) (f : Fld) (x : Int) : State :=
  if fitsInt f.w x then s.setFld off f (ofInt f.w x) else (s.setFld off f (s.pick (2 ^ f.w))).take 1

/-- Clamps to ±300 ppm (R382). -/
def clampTrim (x : Int) : Int := max (-1288490) (min 1288490 x)

/-- A stored tick moves with a step of time, so that the interval since it is not changed by the step. -/
def moveTick (d : Int) (t : Nat) : Nat := ((t : Int) + d).toNat

/-- A link's ticks move with a step; the window of R331 is that of the new time. -/
def LinkSt.moveTicks (new : Nat) (d : Int) (x : LinkSt) : LinkSt :=
  { x with
    ring := x.ring.map fun e => { e with tick := moveTick d e.tick }
    copies := x.copies.map fun c => (c.1, moveTick d c.2)
    acks := x.acks.map fun a => (moveTick d a.1, a.2)
    pend := x.pend.map fun p => { p with tick := moveTick d p.tick }
    vc0In := x.vc0In.map fun y => (moveTick (16 * d) y.1, y.2)
    parWin := new / 2 ^ 20
    alignSlot := moveTick (7 * d / 8) x.alignSlot
    txFree := moveTick (7 * d / 8) x.txFree
    grace := x.grace.map (moveTick d)
    stepTick := moveTick d x.stepTick
    restart := x.restart.map (moveTick d) }

/-- A channel's ticks move with a step; it does not run then (R389). -/
def Chan.moveTicks (d : Int) (c : Chan) : Chan :=
  { c with
    txq := c.txq.map fun q => q.map fun x => { x with issued := moveTick d x.issued, data := x.data.map fun y => (moveTick d y.1, y.2) }
    rxd := c.rxd.map fun q => q.map fun x => { x with posted := moveTick d x.posted }
    streams := c.streams.map fun x =>
      { x with up := x.up.map (fun y => (y.1, moveTick d y.2)), down := x.down.map fun y => (y.1, moveTick d y.2) }
    shCopying := c.shCopying.map (moveTick d) }

/-- The safety block's ticks move with a step. -/
def SafSt.moveTicks (d : Int) (x : SafSt) : SafSt :=
  { x with
    entry := x.entry.map (moveTick d), fresh := x.fresh.map fun f => (moveTick d f.1, f.2), kicks := x.kicks.map (moveTick d)
    post := x.post.map fun p => (p.1, p.2.1, p.2.2.1, moveTick d p.2.2.2) }

/-- Firmware's ticks move with a step. -/
def FwSt.moveTicks (d : Int) (x : FwSt) : FwSt :=
  { x with
    mb := x.mb.map fun m => { m with since := moveTick d m.since }
    took := x.took.map (moveTick d), int := { x.int with doneTick := moveTick d x.int.doneTick }
    resetAt := x.resetAt.map fun r => (r.1, r.2.1, moveTick d r.2.2) }

/-- The power block's ticks move with a step. -/
def PwrSt.moveTicks (d : Int) (x : PwrSt) : PwrSt :=
  { x with
    change := x.change.map fun c => (c.1, moveTick d c.2.1, c.2.2)
    railTick := x.railTick.map fun e => (e.1, moveTick d e.2) }

/-- The counter steps (R390, R391): TIM_NOW takes a new value, slots are renumbered with it, and intervals under way keep their length. -/
def State.stepTime (s : State) (new : Nat) : State :=
  let d : Int := (new : Int) - s.now
  let slots : Int := 7 * d / 8
  { s.wr timNow (BitVec.ofNat 64 new) with
    ch := s.ch.map (Chan.moveTicks d)
    mem := { s.mem with refill := moveTick d s.mem.refill }
    lnk := s.lnk.map (LinkSt.moveTicks new d)
    net := { s.net with
      slotNext := s.net.slotNext.map fun e => (e.1, moveTick slots e.2)
      sendF := s.net.sendF.map fun e => (e.1, { e.2 with await := e.2.await.map (moveTick d) })
      store := s.net.store.map fun e => (e.1, e.2.map fun x => (x.1, moveTick d x.2))
      winSlot := moveTick slots s.net.winSlot
      counted := s.net.counted.map fun e => (e.1, moveTick slots e.2)
      winTick := moveTick d s.net.winTick }
    saf := s.saf.moveTicks d
    tim := { s.tim with
      holdSince := s.tim.holdSince.map (moveTick d), slewTick := moveTick d s.tim.slewTick, samples := []
      lastRun := if new < 2048 then 0 else (new - 2048) / 4096 + 1 }
    fw := s.fw.moveTicks d
    pwr := s.pwr.moveTicks d }

/-! ### The servo (R382, R383) -/

/-- The latest of the samples of a link. -/
def lastSample (xs : List (Nat × Nat × Int)) (l : Nat) : Option Int :=
  (xs.filter fun x => decide (x.2.1 = l)).foldl (fun (b : Option (Nat × Int)) x =>
    match b with
    | some y => if x.1 < y.1 then b else some (x.1, x.2.2)
    | none => some (x.1, x.2.2)) none |>.map (·.2)

/-- A number times a power of two, truncated toward zero. -/
def scale2 (x : Int) (up down : Nat) : Int := (x * 2 ^ up).tdiv (2 ^ down)

/-- The servo run at tick 4,096 k + 2,048 (R382, R383, R397). -/
def State.servoRun (s : State) (k : Nat) : State :=
  let cut := 16 * (4096 * k + 2048) / 10
  let early := s.tim.samples.filter fun x => decide (x.1 / 10 < cut)
  let s := s.modTim fun x => { x with lastRun := k + 1, samples := x.samples.filter fun y => decide (cut ≤ y.1 / 10) }
  if s.timLost || decide (s.tim.base < tsLocking) then s
  else
    let s := (fins 24).foldl (fun s l => if (s.link l).stamp.2 / 10 < cut then s.setFld (timLink l) TIM_LINK_FRESH 0 else s) s
    let use := (List.range 24).filterMap (lastSample early)
    let s := s.setFld timStat TIM_STAT_SAMPLES use.length
    if use.isEmpty then s.goTim tsHold
    else
      let e : Int := (use.foldl (· + ·) 0).tdiv use.length
      let kp := max 2 (s.fld timServo TIM_SERVO_KP_SHIFT)
      let ki := max (kp + 2) (s.fld timServo TIM_SERVO_KI_SHIFT)
      let s := s.setInt timTrim TIM_TRIM_INTEG (toSigned 32 (s.fld timTrim TIM_TRIM_INTEG) + scale2 e 16 ki)
      let integ := toSigned 32 (s.fld timTrim TIM_TRIM_INTEG)
      let s := s.setFld timTrim TIM_TRIM_TRIM (ofInt 32 (clampTrim (-(scale2 e 16 kp + integ))))
      let s := s.setInt timStat TIM_STAT_OFFSET e
      let a := e.natAbs
      if s.tim.base = tsHold then s.goTim tsLocking
      else if s.tim.base = tsLocking then
        let g := if a ≤ 8 then s.tim.good + 1 else 0
        if 64 ≤ g then s.goTim tsLocked else s.modTim fun x => { x with good := g }
      else
        let b := if 16 < a then s.tim.bad + 1 else 0
        if 4 ≤ b then (s.goTim tsLocking).setFlag timStat TIM_STAT_LOCK_LOST else s.modTim fun x => { x with bad := b }

/-- The servo run that is due, if one is. -/
def State.servoDue (s : State) : State :=
  if s.now < 2048 ∨ (s.now - 2048) / 4096 < s.tim.lastRun then s else s.servoRun ((s.now - 2048) / 4096)

/-- SERVO_RUN: once per stamp interval (R382). -/
def execServoRun (s : State) : Host.Outcome State Fault Refusal := .next s.servoDue

/-! ### Samples (R380, R381, R387, R390) -/

/-- The tests of R381 but the last two, in order: PEER_TX, the link, DELAY, the delay. -/
def State.sampleOk (s : State) (l : Fin 24) (t3 : Nat) (delay : Int) : State × Bool :=
  let d := s.fld (netPortHop l) NET_PORT_HOP_DELAY
  if !(s.link l).sentStamps.contains t3 || !bit (s.fld timServo TIM_SERVO_MASK) l || decide (s.fld (netPortMap l) NET_PORT_MAP_ROLE ≠ 1) ||
      decide (s.fld (lnkStatus l) LNK_STATUS_WIDTH ≠ 0) || decide (d = 0x3FF) then (s, false)
  else if 16 * s.fld timServo TIM_SERVO_DELAY_TOL < (delay - 16 * d).natAbs then (s.bump (timLink l) TIM_LINK_BAD_DELAY, false)
  else (s, true)

/-- A sample for an acquisition: the second one steps the counter (R390). A tie in the rounding is a free choice. -/
def State.acquireSample (s : State) (l : Fin 24) (theta : Int) (t2 : Nat) : State :=
  match s.tim.acq with
  | none => s.modTim fun x => { x with acq := some (theta, t2) }
  | some (th0, a0) =>
    let y := -theta + 64
    let q := y / 128 - (if y % 128 = 0 then (s.pick 2 : Int) else 0)
    let s := s.take 1
    let s := s.stepTime ((s.now : Int) + 8 * q).toNat
    let rate := if t2 = a0 then 0 else ((theta - th0) * 2 ^ 32).tdiv ((t2 : Int) - a0)
    let s := s.setFld timTrim TIM_TRIM_INTEG (ofInt 32 (clampTrim rate))
    (s.dropAcquire.setFld timRefused (bitF l.val) 0).goTim tsLocking

/-- LCTL_TIMESTAMP: a stamp gives a sample, recorded in TIM_LINK and, when it passes the tests, used (R380, R381, R387, R390). -/
def execLctlTimestamp (l : Fin 24) (s : State) : Host.Outcome State Fault Refusal :=
  .next
    (s.onLctl l 2 fun s c =>
      let t1 := leAt c.body 0 8
      let t3 := leAt c.body 8 8
      let t4 := leAt c.body 16 8
      let t2 := 16 * c.tick + c.frac
      let a : Int := (t2 : Int) - t1
      let b : Int := (t4 : Int) - t3
      let theta := (a - b).tdiv 2
      let delay := (a + b).tdiv 2 - 480
      if s.lstate l ≠ lsUp then s
      else
        let s := s.modLink l fun x => { x with stamp := (t1, t2) }
        let r := timLink l
        let s := (s.setInt r TIM_LINK_THETA theta).setFld r TIM_LINK_DELAY_Q4 (min 65535 delay.toNat)
        let s := (s.setFlag r TIM_LINK_FRESH).setFld r TIM_LINK_USED 0
        let acq := decide (s.tim.base = tsAcquiring ∧ s.fld timCtl TIM_CTL_ACQ_LINK = l)
        if s.timLost || !(acq || decide (tsLocking ≤ s.tim.base)) then s
        else
          match s.sampleOk l t3 delay with
          | (s, false) => s
          | (s, true) =>
            if acq then (s.setFlag r TIM_LINK_USED).acquireSample l theta t2
            else if bit (s.fld timRefused TIM_REFUSED_LINKS) l then s
            else if 16 * max 8 (s.fld timServo TIM_SERVO_JUMP_THRESH) < theta.natAbs then
              ((((s.setFlag timRefused (bitF l.val)).setFlag timStat TIM_STAT_JUMP).setFld timStat TIM_STAT_JUMP_LINK l).setFlag timStat
                TIM_STAT_EVENT).alert [12]
            else
              let s := (s.setFlag r TIM_LINK_USED).modTim fun x => { x with samples := x.samples ++ [(t2, l.val, theta)] }
              if s.tim.base = tsHold then s.goTim tsLocking else s)

/-! ### TIM_CTL and TIM_REFUSED (R385, R386, R389 to R391, R397) -/

/-- Whether re-basing is allowed (R389). -/
def State.mayRebase (s : State) : Bool := !s.anyRunning && !s.flag netFabCtl NET_FAB_CTL_VC0_EN

/-- Whether a slice step can be armed with AT and TO as they stand (R391). -/
def State.rebaseOk (s : State) : Bool :=
  let at_ := (s.rd timRebaseAt).toNat
  let to_ := (s.rd timRebaseTo).toNat
  decide (at_ % 4096 = 2048 ∧ ((to_ : Int) - at_) % 512000 = 0 ∧ s.now + 1000000 ≤ at_)

/-- A write to TIM_CTL. -/
def State.writeTimCtl (s : State) (v m : Word64) : State :=
  let w := v &&& m
  let arm := decide (getF w TIM_CTL_REBASE_ARM = 1)
  let acq := decide (getF w TIM_CTL_ACQUIRE = 1)
  let rel := decide (getF w TIM_CTL_RELEASE = 1)
  if ((arm || acq || rel) && !s.mayRebase) || (arm && !s.rebaseOk) then s.setFlag timStat TIM_STAT_REBASE_REFUSED
  else
    let b0 := s.flag timCtl TIM_CTL_BENCHMARK
    let was := s.flag timCtl TIM_CTL_ACQUIRE
    let s := s.writePlain timCtl v m
    let b1 := s.flag timCtl TIM_CTL_BENCHMARK
    let s := if !b0 && b1 then (s.dropAcquire.modTim fun x => { x with samples := [] }).goTim tsBench
      else if b0 && !b1 && decide (s.tim.base = tsBench) then s.goTim tsLocking
      else s
    let s := if acq && !was then
        if decide (s.tim.base = tsFree) && !s.timLost && !b1 then (s.modTim fun x => { x with acq := none }).goTim tsAcquiring else s.dropAcquire
      else s
    if rel then
      if b1 && decide (s.fld timTrim TIM_TRIM_TRIM ≠ 0) then s.modTim fun x => { x with slewTick := s.now } else s.setFld timCtl TIM_CTL_RELEASE 0
    else s

/-- BENCHMARK_WRITE: a write to TIM_CTL that sets or clears BENCHMARK (R385). -/
def execBenchmarkWrite (value : Word64) (s : State) : Host.Outcome State Fault Refusal := .next (if s.takesWrites timCtl then s.writeTimCtl value (~~~0) else s)

/-- ACQUIRE_WRITE: a write to TIM_CTL with ACQUIRE 1 (R389, R390). -/
def execAcquireWrite (value : Word64) (s : State) : Host.Outcome State Fault Refusal :=
  .next (if s.takesWrites timCtl then s.writeTimCtl (setF value TIM_CTL_ACQUIRE 1) (~~~0) else s)

/-- REBASE_ARM_WRITE: a write to TIM_CTL with REBASE_ARM 1 (R389, R391). -/
def execRebaseArmWrite (value : Word64) (s : State) : Host.Outcome State Fault Refusal :=
  .next (if s.takesWrites timCtl then s.writeTimCtl (setF value TIM_CTL_REBASE_ARM 1) (~~~0) else s)

/-- TIM_RELEASE_WRITE: a write to TIM_CTL with RELEASE 1 (R386, R389). -/
def execTimReleaseWrite (value : Word64) (s : State) : Host.Outcome State Fault Refusal :=
  .next (if s.takesWrites timCtl then s.writeTimCtl (setF value TIM_CTL_RELEASE 1) (~~~0) else s)

/-- REBASE_STEP: at tick AT the servo run is made first, then the counter takes TO (R391, R397). A step commanded late keeps the ticks that
have passed since AT. -/
def execRebaseStep (s : State) : Host.Outcome State Fault Refusal :=
  .next
    (let at_ := (s.rd timRebaseAt).toNat
     if !s.flag timCtl TIM_CTL_REBASE_ARM || decide (s.now < at_) then s
     else
       let s := s.servoDue
       ((s.stepTime ((s.rd timRebaseTo).toNat + (s.now - at_))).setFld timCtl TIM_CTL_REBASE_ARM 0).wr timRebaseAt (~~~0))

/-- TRIM_SLEW: 1 ms after the last, the released trim moves toward 0 by at most 1 ppm; by how much is open (R386). -/
def execTrimSlew (s : State) : Host.Outcome State Fault Refusal :=
  .next
    (if !s.flag timCtl TIM_CTL_RELEASE || !s.flag timCtl TIM_CTL_BENCHMARK || s.timLost || decide (s.now < s.tim.slewTick + 1000000) then s
     else
       let t := toSigned 32 (s.fld timTrim TIM_TRIM_TRIM)
       let d : Nat := min t.natAbs (1 + s.pick 4294)
       let t' := if t < 0 then t + d else t - d
       let s := ((s.take 1).setFld timTrim TIM_TRIM_TRIM (ofInt 32 t')).modTim fun x => { x with slewTick := s.now }
       if t' = 0 then s.setFld timCtl TIM_CTL_RELEASE 0 else s)

/-- A write to TIM_REFUSED (R389, R404). -/
def State.writeTimRefused (s : State) (v m : Word64) : State :=
  if (v &&& m &&& s.rd timRefused) = 0 then s
  else if s.mayRebase then s.writePlain timRefused v m
  else s.setFlag timStat TIM_STAT_REBASE_REFUSED

/-- TIM_REFUSED_CLEAR (R389). -/
def execTimRefusedClear (value : Word64) (s : State) : Host.Outcome State Fault Refusal := .next (if s.takesWrites timRefused then s.writeTimRefused value (~~~0) else s)

/-! ### Holdover and the time fault (R388, R392) -/

/-- HOLD_MS in ticks (R401). -/
def State.holdTicks (s : State) : Nat := 1000000 * max 1 (min 10 (s.fld timCtl TIM_CTL_HOLD_MS))

/-- HOLD_EXPIRED is set and the time fault raised, once in a hold. -/
def State.expireHold (s : State) : State :=
  if s.tim.expired then s
  else ((s.modTim fun x => { x with expired := true }).setFlag timStat TIM_STAT_HOLD_EXPIRED).raiseCause 6 0 0 none

/-- REFCLK_T_LOSS: HOLDOVER with the trim frozen; an acquisition is abandoned (R392, R397, R532). -/
def execRefclkTLoss (s : State) : Host.Outcome State Fault Refusal :=
  .next
    (if s.timLost then s
     else
       let s := (s.setFld pwrClk (bitF 2) 1).setFlag pwrClk (bitF 6)
       let s := s.setFlag timStat TIM_STAT_REFCLK_LOST
       let s := s.modTim fun x => { x with
         holdSince := some s.now, expired := false, samples := [], base := if x.base = tsAcquiring then tsFree else x.base }
       s.dropAcquire.showTim)

/-- REFCLK_T_RETURN: the device returns to BENCH or to LOCKING, or, when HOLD_MS has passed, to FREE, from which it can acquire; an expiry in the
same cycle stands (R378, R392, R397). -/
def execRefclkTReturn (s : State) : Host.Outcome State Fault Refusal :=
  .next
    (if !s.timLost then s
     else
       let s := s.setFld pwrClk (bitF 2) 0
       let late := decide ((s.tim.holdSince.getD 0) + s.holdTicks ≤ s.now)
       let s := if late then s.expireHold else s
       let s := s.setFld timStat TIM_STAT_REFCLK_LOST 0
       let st := if s.flag timCtl TIM_CTL_BENCHMARK then tsBench else if late then tsFree else tsLocking
       let s := s.modTim fun x => { x with base := st, good := 0, bad := 0, holdSince := none, expired := false }
       let s := if st = tsFree then s.wr timTrim 0 else s
       s.showTim)

/-- HOLD_EXPIRED: HOLD has lasted longer than HOLD_MS while a channel runs, or HOLDOVER has lasted HOLD_MS (R388, R392). -/
def execHoldExpired (s : State) : Host.Outcome State Fault Refusal :=
  .next
    (match s.tim.holdSince with
     | none => s
     | some t =>
       if s.timLost then (if t + s.holdTicks ≤ s.now then s.expireHold else s)
       else if decide (s.tim.base = tsHold) && s.anyRunning && decide (t + s.holdTicks < s.now) then s.expireHold
       else s)

/-! ### Counted mode (R393, R395) -/

/-- ATRIM shows a trim the loop has settled on, within its range of ±300 ppm (R393). -/
def State.showAtrim (s : State) (n : Fin 8) : State :=
  (s.setFld (timCnt n) TIM_CNT_ATRIM (ofInt 32 ((s.pick 2576981 : Int) - 1288490))).take 1

/-- COUNTED_COMPARE: the start of cycle K less its ideal tick, in sixteenths of a tick; outside 0 to half a cycle the count slips (R395). -/
def execCountedCompare (n : Fin 8) (err : Int) (s : State) : Host.Outcome State Fault Refusal :=
  .next
    (if !s.running n || !(s.chan n).applied.counted then s
     else
       let s := (s.setInt (timCnt n) TIM_CNT_ERR err).showAtrim n
       let slip (s : State) (d : Int) : State :=
         (s.setChan n { s.chan n with grid0 := (s.chan n).grid0 + d }).bump (timCnt n) TIM_CNT_SLIPS
       if err < 0 then slip s (-1) else if 8000 < err * s.arithMHz n then slip s 1 else s)

end Sys2Proof.Machine
end

