-- ==== Sys2Proof/Machine/Curtain.lean ====
section
/-!
DEFINITION. The curtain and the halt state (R413 to R421), causes that firmware raises (R446), notices received (R419), and the self-test of
an intermission (R428).
-/

namespace Sys2Proof.Machine

/-! ### Causes raised by firmware (R413, R446) -/

/-- A write to SAF_RAISE: only the codes of R446 raise a cause. -/
def State.raiseWrite (s : State) (v m : Word64) : State :=
  let code := getF (v &&& m) SAF_RAISE_CAUSE
  if code = 7 ∨ code = 8 ∨ code = 14 ∨ code = 15 then s.raiseCause code (getF (v &&& m) SAF_RAISE_UNIT) 0 none else s

/-- SAF_RAISE_WRITE (R413, R446). -/
def execSafRaiseWrite (value : Word64) (s : State) : Host.Outcome State Fault Refusal := .next (if s.takesWrites safRaise then s.raiseWrite value (~~~0) else s)

/-! ### Notices received (R418, R419, R447) -/

/-- SAF_NOTICE takes the first notice accepted since the last MOD (R447). -/
def State.recordNotice (s : State) (n : Notice) (port : Nat) : State :=
  if s.saf.noticed then s
  else
    let s := (((s.setFld safNotice SAF_NOTICE_ORIGIN n.origin).setFld safNotice SAF_NOTICE_CAUSE n.cause).setFld safNotice
      SAF_NOTICE_UNIT n.unit).setFld safNotice SAF_NOTICE_LINK port
    { s with saf := { s.saf with noticed := true, fresh := s.saf.fresh.map fun f => (f.1, f.2.map fun x => (x.1, true)) } }

/-- CURTAIN_NOTICE: the oldest notice at port 32 is ignored, counted or acted on (R419). -/
def execCurtainNotice (s : State) : Host.Outcome State Fault Refusal :=
  .next
    (match s.saf.inbox with
     | [] => s
     | (n, port, _) :: rest =>
       let s := { s with saf := { s.saf with inbox := rest } }
       if n.slice ≠ s.fld netPlace NET_PLACE_SLICE_ID then s.bump safStat SAF_STAT_FOREIGN
       else if s.flag safCtl SAF_CTL_ARMED && decide (s.fld safStat SAF_STAT_STATE = 0) then
         (s.raiseCause 13 0 0 (some n)).recordNotice n port
       else s.bump safStat SAF_STAT_DUPLICATE)

/-! ### The curtain engine (R415 to R417) -/

/-- STOP_US in effect, in ticks (R442). -/
def State.stopTicks (s : State) : Nat := 1000 * max 10 (min 150 (s.fld safCtl SAF_CTL_STOP_US))

/-- The device is in the halt state once the further steps are made and R415 holds (R416); after a thermal trip the compute dies are then
power-gated (R533). -/
def State.showHalt (s : State) : State :=
  if s.saf.haltSteps && !s.anyRunning && !s.flag netFabCtl NET_FAB_CTL_VC0_EN then
    let s := s.setFld safStat SAF_STAT_STATE 2
    { s with pwr := { s.pwr with gated := s.pwr.gated || s.flag pwrThermStat PWR_THERM_STAT_TRIP } }.showPins
  else s

/-- RUN = 0 is written to every channel still running (R417). -/
def State.stopAll (s : State) : State := (fins 8).foldl (fun s (n : Fin 8) => if s.running n then s.stopDiscard n stIdle else s) s

/-- CURTAIN_STOP_TIMEOUT: STOP_US µs after entry the engine stops the channels that still run (R417). -/
def execCurtainStopTimeout (s : State) : Host.Outcome State Fault Refusal :=
  .next
    (match s.saf.entry with
     | some t => if t + s.stopTicks ≤ s.now then s.stopAll.showHalt else s
     | none => s)

/-- CURTAIN_CHANNELS_STOPPED: with no channel running the control cores are interrupted and firmware clears VC0_EN (R256, R417). -/
def execCurtainChannelsStopped (s : State) : Host.Outcome State Fault Refusal :=
  .next
    (if s.saf.entry.isSome && !s.saf.stopped && !s.anyRunning then
      (({ s with saf := { s.saf with stopped := true } }).setFld netFabCtl NET_FAB_CTL_VC0_EN 0).showHalt
    else s)

/-- HALT_ENTER: for a halt cause, once the notices have left or 50 µs after entry, every link goes down and memory enters self-refresh
(R416, R417). -/
def execHaltEnter (s : State) : Host.Outcome State Fault Refusal :=
  .next
    (let due := s.saf.notices.isEmpty || (match s.saf.entry with
       | some t => decide (t + 50000 ≤ s.now)
       | none => true)
     if s.saf.haltCause && !s.saf.haltSteps && due then
       let s := { s with saf := { s.saf with haltSteps := true } }.selfRefresh true
       ((fins 24).foldl (fun s l => s.linkOff l) s).showHalt
     else s)

/-- ARMED goes from 1 to 0: the curtain state ends (R443, R476); the notices not yet sent are dropped with it. -/
def State.leaveCurtain (s : State) : State :=
  if s.fld safStat SAF_STAT_STATE = 1 then
    { s.setFld safStat SAF_STAT_STATE 0 with saf := { s.saf with entry := none, notices := [], stopped := false } }
  else s

/-- A write to SAF_CTL (R442, R443). -/
def State.writeSafCtl (s : State) (v m : Word64) : State :=
  let was := s.flag safCtl SAF_CTL_ARMED
  let s := s.writePlain safCtl v m
  if was && !s.flag safCtl SAF_CTL_ARMED then s.leaveCurtain else s

/-- A write to SAF_REGION: refused while ARMED is 1 (R449). -/
def State.writeRegion (s : State) (v m : Word64) : State := if s.flag safCtl SAF_CTL_ARMED then s else s.writePlain safRegion v m

/-! ### Closing checks (R427, R428) -/

/-- The bytes of test data from free value `k` on, `n` of them. -/
def testBytes (k n : Nat) : List Byte := (List.range n).map fun j => BitVec.ofNat 8 (Config.freeNat (k + j))

/-- The free values that test data takes. -/
def testCount : Nat := 3000000

/-- What the self-test leaves in the weight buffers and accumulator files of all 17 engines: test data the manual does not give (R428),
from free value `k` on. -/
def Chan.testData (c : Chan) (k : Nat) : Chan :=
  let tile (i : Nat) : Tile := ⟨testBytes (k + 20000 * i) 16384, testBytes (k + 20000 * i + 16384) 512, false⟩
  { c with
    active := ksets (fun _ => tile0) c.active 0 ((List.range 17).map tile)
    standby := ksets (fun _ => tile0) c.standby 0 ((List.range 17).map fun e => tile (17 + e))
    acc := ksets (fun _ => ⟨0, 0⟩) c.acc 0 ((List.range 557056).map fun i =>
      ⟨BitVec.ofNat 96 (Config.freeNat (k + 1000000 + 2 * i)), (Config.freeNat (k + 1000001 + 2 * i) : Int)⟩)
    kind := ksets (fun _ => false) c.kind 0 ((List.range 4352).map fun i => decide (Config.freeNat (k + 2500000 + i) % 2 = 1)) }

end Sys2Proof.Machine
end

