-- ==== Sys2Proof/Machine/Intermission.lean ====
section
/-!
DEFINITION. Intermissions (R423 to R432, R474): capture into the snapshot area and its restore (R425, R429), the copies (R430), and the
firmware messages that drive them (R467 to R469).
-/

namespace Sys2Proof.Machine

/-! ### Sending and taking firmware messages (R467, R468) -/

/-- MSG values (R467). -/
def msDone : Nat := 1
def msResume : Nat := 2
def msHold : Nat := 3
def msCopyDone : Nat := 4
def msStep : Nat := 5
def msCaptured : Nat := 6
def msCopy : Nat := 7
def msHost : Nat := 0x100

/-- Firmware sends a message: header and body (R467). MSG_SEQ counts from 1. -/
def State.post (s : State) (dest msg flags : Nat) (body : List Byte) (mb : Option Nat) : State :=
  let q := kget (fun _ => 0) s.fw.sentSeq dest + 1
  let data := leBytes 2 msg ++ leBytes 1 flags ++ leBytes 1 0 ++ leBytes 4 q ++ leBytes 2 (s.fld netPlace NET_PLACE_SLICE_ID) ++ leBytes 2 0 ++
    leBytes 4 body.length ++ body
  ({ s with fw := { s.fw with
      sentSeq := kset (fun _ => 0) s.fw.sentSeq dest (q % 2 ^ 32)
      out := s.fw.out ++ [(⟨dest, data, 0, mb, 0⟩ : OutMsg)] } }).pumpTx

/-- Sends a message to every device of the slice. -/
def State.postAll (s : State) (msg flags : Nat) (body : List Byte) : State :=
  match s.fw.prog with
  | some p => p.devmap.foldl (fun s d => s.post d msg flags body none) s
  | none => s

/-- A message received. -/
structure Msg where
  src : Nat
  msg : Nat
  flags : Nat
  seq : Nat
  slice : Nat
  body : List Byte
  deriving DecidableEq, Repr

/-- The message at the tail of the receive ring (R455), if the ring holds one. -/
def State.rxHead (s : State) : Option Msg :=
  let t := s.fld ctlRxring CTL_RXRING_TAIL
  if t = s.fld ctlRxring CTL_RXRING_HEAD then none
  else
    let b := kgets (fun _ => 0) s.fw.csram (0x600000 + 4096 * t) 3712
    let d := (b.drop 16).take (leAt b 10 2)
    some ⟨leAt b 2 2 % 4096, if d.length < 16 then 0 else leAt d 0 2, leAt d 2 1, leAt d 4 4, leAt d 8 2 % 4096, slice d 16 (leAt d 12 4 % 4096)⟩

/-- Frees the entry at the tail. -/
def State.rxFree (s : State) : State := s.setFld ctlRxring CTL_RXRING_TAIL ((s.fld ctlRxring CTL_RXRING_TAIL + 1) % 64)

/-- Whether firmware discards a message (R467, R468): reserved MSG, taken before, or of another slice and not HOST. -/
def State.rxDiscard (s : State) (m : Msg) : Bool :=
  !decide (m.msg ∈ [msDone, msResume, msHold, msCopyDone, msStep, msCaptured, msCopy, msHost]) ||
    decide (kget (fun _ => 0) s.fw.seenSeq m.src = m.seq + 1) ||
    (decide (m.msg ≠ msHost) && decide (m.slice ≠ s.fld netPlace NET_PLACE_SLICE_ID))

/-- Discards messages until one is to be acted on; `k` bounds them. -/
def State.rxSkip (s : State) : Nat → State
  | 0 => s
  | k + 1 =>
    match s.rxHead with
    | some m => if s.rxDiscard m then State.rxSkip s.rxFree k else s
    | none => s

/-- Whether firmware runs and takes commands and messages (R459). -/
def State.fwRuns (s : State) : Bool := decide (s.fld ctlBoot CTL_BOOT_MODE = 0)

/-- Takes the oldest message if it is of a kind, and acts on it. -/
def State.onMsg (s : State) (msg : Nat) (f : State → Msg → State) : State :=
  if !s.fwRuns then s
  else
    let s := s.rxSkip 64
    match s.rxHead with
    | some m =>
      if m.msg = msg then
        f { s.rxFree with fw := { s.rxFree.fw with seenSeq := kset (fun _ => 0) s.fw.seenSeq m.src (m.seq + 1) } } m
      else s
    | none => s

/-- Changes what firmware keeps of an intermission. -/
def State.modInt (s : State) (f : IntSt → IntSt) : State := { s with fw := { s.fw with int := f s.fw.int } }

/-! ### The snapshot area (R423, R425, R429) -/

/-- Bytes of the protected range, and the device addresses of the checkpoint and mirror regions. -/
def State.prot (s : State) : Nat := s.fld safRegion SAF_REGION_PROT * 2 ^ 21
def State.ckpt (s : State) : Nat := s.fld safRegion SAF_REGION_CKPT_BASE * 2 ^ 21
def State.mirror (s : State) : Nat := s.fld safRegion SAF_REGION_MIRROR_BASE * 2 ^ 21

/-- The block of channel `n`, and the device record, in the snapshot area. -/
def State.snapBlock (s : State) (n : Nat) : Nat := s.prot - 388 * 2 ^ 20 + n * 50593792
def State.devRecord (s : State) : Nat := (s.fld safRegion SAF_REGION_PROT - 1) * 2 ^ 21

/-- The image of a channel's register block. -/
def State.chanImage (s : State) (n : Nat) : List Byte :=
  (List.range 1280).flatMap fun i => leBytes 8 (s.rd (0x01000000 + 0x100000 * n + 8 * i)).toNat

/-- The channel block of a channel (R425), as the snapshot engine reads it with these errors: the bytes, and what was found in words of the
channel's SRAM and of its register files (R81, R179). -/
def State.snapRead (s : State) (n : Fin 8) (errs : List ReadErr) : List Byte × List (Nat × WordOut) × List WordOut :=
  let c := s.chan n
  let sram := errs.filterMap fun x => if x.src = .sram then some (x.word, x.err) else none
  let regs := errs.filterMap fun x => match x.src with
    | .vreg r => some (512 * r + x.word % 512, x.err)
    | .sreg r => some (16384 + r, x.err)
    | _ => none
  let (b, found) := readWords 0 (c.sramRead (s.bankMap n) 0 0x3000000) sram
  let (r, bad) := readWords 0 ((List.range 32).flatMap (fun r => laneBytes (c.v r)) ++ (List.range 64).flatMap (fun r => leBytes 8 (c.s r).toNat)) regs
  (slice (b ++ r ++ s.chanImage n) 0 50593792, found, bad.map (·.2))

/-- The device record (R425). -/
def State.recordBytes (s : State) : List Byte :=
  leBytes 8 s.fw.int.k ++ leBytes 8 0 ++ leBytes 2 ((s.fw.prog.map (·.pos)).getD 0) ++ leBytes 2 0 ++ leBytes 4 s.fw.int.inputs ++ leBytes 40 0

/-- Whether the snapshot engine may capture a channel (R158). -/
def State.mayCapture (s : State) (n : Fin 8) : Bool :=
  let c := s.chan n
  c.txq.toList.all (·.isEmpty) && c.rxq.toList.all (·.isEmpty) && c.rxd.toList.all (·.isEmpty) && !c.streams.toList.any (·.busy)

/-- Whether every count of a channel has crossed, so that AVAIL stands as it will (R155, R156). -/
def State.countsCrossed (s : State) (n : Fin 8) : Bool := (s.chan n).streams.toList.all fun x => x.up.isEmpty && x.down.isEmpty

/-- The registers that a restore leaves alone (R429), as offsets in the block. -/
def keptAtRestore (n off : Nat) : Bool :=
  decide (off ∈ [chCtl n, chStatus n, chFault n, chOverrun n, chTeMap n, chBankMap n, chShadow n])

/-- The snapshot engine writes a channel's block back (R429), S63 with the resume tick. -/
def State.restoreChan (s : State) (n : Fin 8) (b : List Byte) (tr : Nat) : State :=
  let c := (s.chan n).sramWrite (s.bankMap n) 0 (b.take 0x3000000)
  let c := (List.range 32).foldl (fun (c : Chan) r => c.setV r (Machine.lanesOf 1024 (slice b (0x3000000 + 4096 * r) 4096))) c
  let c := (List.range 64).foldl (fun (c : Chan) r => c.setS r (BitVec.ofNat 64 (leAt b (0x3020000 + 8 * r) 8))) c
  let s := s.setChan n (c.setS 63 (BitVec.ofNat 64 tr))
  (List.range 1280).foldl (fun s i =>
    let off := 0x01000000 + 0x100000 * n.val + 8 * i
    if (locate off).isNone || keptAtRestore n off then s
    else s.wr off (BitVec.ofNat 64 (leAt b (0x3020200 + 8 * i) 8))) s

/-- A fault of an intermission that is not itself a cause: firmware raises HOST with the kind recorded (R432). -/
def State.failInt (s : State) (kind : Nat) : State := (s.intFail kind).raiseCause 14 0 0 none

/-- The accesses of a capture (R429): every granule of the channels' SRAM, as requester 2 of its bank, and the bursts that write the blocks, as
requester 9 of the memory channels. -/
def State.captureArbs (s : State) : List (Fin 10 × ArbId) :=
  (fins 8).flatMap fun n => bankArbs 2 n 0 0x3000000 ++ s.memArbs 9 (burstsOf (s.snapBlock n) 50593792 true)

/-- What a capture found in a channel (R81): each is counted, and an uncorrectable one is a fault of the channel. -/
def State.snapFound (s : State) (n : Fin 8) (sram : List (Nat × WordOut)) (regs : List WordOut) : State :=
  let pc := s.fld (chStatus n) CH_STATUS_PC
  regs.foldl (fun s o => s.eccFound n unitRegs 11 pc (s.chan n).cycle o) (s.sramFound n (s.bankMap n) pc (s.chan n).cycle sram)

/-- A channel is captured into its block; an uncorrectable word fails the intermission (R427, R432). -/
def State.captureChan (s : State) (n : Fin 8) (errs : List ReadErr) : State :=
  let (b, sram, regs) := s.snapRead n errs
  let bad := sram.any (fun x => decide (x.2 = .bad)) || regs.any fun o => decide (o = .bad)
  ((if bad then s.intFail 2 else s.memWrite (s.snapBlock n) b []).snapFound n sram regs)

/-- CAPTURE_DONE: once the operations in flight and the counts have settled and the arbiters grant its accesses, every channel is captured into
its block and the device record written; CAPTURED goes to the coordinator (R156, R158, R427, R429, R474). An operation that faults as it
completes has failed it (R432), and so does a word of `errs` that cannot be read. -/
def execCaptureDone (errs : List (Fin 8 × ReadErr)) (s : State) : Host.Outcome State Fault Refusal :=
  .next
    (if s.fld safInt SAF_INT_STEP ≠ 3 ∨ !s.memUsable then s
     else
       let s := (fins 8).foldl State.landAll s
       if s.fld safInt SAF_INT_STEP ≠ 3 then s
       else if !(fins 8).all s.mayCapture then s.failInt 2
       else if !(fins 8).all s.countsCrossed then s
       else
         match s.arbAccesses s.captureArbs with
         | (s, false) => s
         | (s, true) =>
           let s := (fins 8).foldl (fun s n => s.captureChan n (errs.filterMap fun e => if e.1 = n then some e.2 else none)) s
           if s.fld safInt SAF_INT_STEP ≠ 3 then s
           else
             let s := (s.memWrite s.devRecord s.recordBytes []).setFld safInt SAF_INT_STEP 5
             match s.fw.prog with
             | some p => s.post (p.devmap.headD 0) msCaptured 0 (leBytes 8 s.fw.int.k) none
             | none => s)

/-! ### The copies (R430) -/

/-- The dirty pages of the protected range, in ascending order. -/
def State.dirtyPages (s : State) : List Nat := (s.mem.dirty.map (·.1)).filter fun p => decide (p < s.fld safRegion SAF_REGION_PROT)

/-- The packets that write `len` bytes from a device address to an address of another device over VC1, 2,048 bytes each, the last flagged
(R268, R430). `errs` names sectors by channel × 2^28 + sector. An uncorrectable read ends with its memory channel. -/
def State.sendRange (s : State) (dest from_ to_ len : Nat) (flagLast : Bool) (errs : List (Nat × SymErr)) : State × Option Nat :=
  let own := s.fld netPlace NET_PLACE_DEVICE_ID
  (List.range (len / 2048)).foldl (fun (acc : State × Option Nat) i =>
    match acc with
    | (s, some c) => (s, some c)
    | (s, none) =>
      match s.memRead (from_ + 2048 * i) 2048 (s.errsAt (from_ + 2048 * i) 2048 errs) with
      | (s, d, []) =>
        let hdr := mkHeader dest own 1 1 1 8 (b2n (flagLast && decide (i + 1 = len / 2048))) 0 0 0 2056
        (s.inject 1 1 (packFlits hdr (leBytes 8 (to_ + 2048 * i) ++ d)), none)
      | (s, _, c :: _) => (s, some c)) (s, none)

/-- The accesses of the bridge to pages of 2 MiB, from a base address. -/
def State.pageArbs (s : State) (pages : List Nat) (base : Nat) (write : Bool) : List (Fin 10 × ArbId) :=
  pages.flatMap fun p => s.bridgeArbs (base + p * 2 ^ 21) (2 ^ 21) write

/-- The buddy engine sends every dirty page once both endpoints may inject and its reads are granted (R191, R288, R430). -/
def State.sendCopies (s : State) (errs : List (Nat × SymErr)) : State :=
  let i := s.fw.int
  if !i.copying || i.sent || s.flag netUnsCtl NET_UNS_CTL_INJECT_STOP || !s.memUsable then s
  else
    let pages := s.dirtyPages
    let buddy := s.fld safInt SAF_INT_BUDDY
    match s.arbAccesses (s.pageArbs pages 0 false) with
    | (s, false) => s
    | (s, true) =>
      let (s, bad) := pages.foldl (fun (acc : State × Option Nat) p =>
        match acc with
        | (s, some c) => (s, some c)
        | (s, none) => s.sendRange buddy (p * 2 ^ 21) (s.mirror + p * 2 ^ 21) (2 ^ 21) (decide (some p = pages.getLast?)) errs) (s, none)
      match bad with
      | none => s.modInt fun i => { i with sent := true }
      | some c => ((s.modInt fun i => { i with copying := false }).intFail 4).raiseCause 2 c 0 none

/-- The entry of the buddy copy's flow. -/
def State.copyFlow (s : State) : SendFlow := s.sendFlow (flowKey 1 1 1 (s.fld safInt SAF_INT_BUDDY))

/-- Copies blocks of `w` bytes within device memory, setting no dirty bit; an uncorrectable read ends with its memory channel (R430). -/
def State.copyBlocks (s : State) (w : Nat) (blocks : List Nat) (from_ to_ : Nat) (errs : List (Nat × SymErr)) : State × Option Nat :=
  blocks.foldl (fun (acc : State × Option Nat) p =>
    match acc with
    | (s, some c) => (s, some c)
    | (s, none) =>
      match s.memRead (from_ + p * w) w (s.errsAt (from_ + p * w) w errs) with
      | (s, d, []) => (s.memStore (to_ + p * w) d [], none)
      | (s, _, c :: _) => (s, some c)) (s, none)

/-- Copies pages of 2 MiB. -/
def State.copyPages (s : State) (pages : List Nat) (from_ to_ : Nat) (errs : List (Nat × SymErr)) : State × Option Nat :=
  s.copyBlocks (2 ^ 21) pages from_ to_ errs

/-- The intermission's copies end. -/
def State.stopCopies (s : State) : State := s.modInt fun i => { i with copying := false }

/-- Both engines are complete: the dirty bits clear, DIRTY_VALID is set, and DONE goes to the coordinator, unless the intermission has failed
meanwhile (R421, R430, R474). -/
def State.copiesDone (s : State) : State :=
  let s := ({ s with mem := { s.mem with dirty := [] } }.stopCopies).setFlag safInt SAF_INT_DIRTY_VALID
  if s.fld safInt SAF_INT_STEP = 6 then
    let s := s.setFld safInt SAF_INT_STEP 7
    match s.fw.prog with
    | some p => s.post (p.devmap.headD 0) msDone 0 (leBytes 8 s.fw.int.k) none
    | none => s
  else s

/-- COPY_ENGINE_DONE: the local engine copies the dirty pages, once its accesses are granted, and the buddy copy is complete when its flag is
acknowledged; a failed flag, a stalled flow or an uncorrectable read fails the intermission (R430). -/
def execCopyEngineDone (errs : List (Nat × SymErr)) (s : State) : Host.Outcome State Fault Refusal :=
  .next
    (let s := s.sendCopies errs
     if !s.fw.int.copying || !s.fw.int.sent || !s.memUsable then s
     else if s.copyFlow.stalled then s.stopCopies.failInt 4
     else if s.copyFlow.await.isSome || !s.copyFlow.held.isEmpty then s
     else
       match s.arbAccesses (s.pageArbs s.dirtyPages 0 false ++ s.pageArbs s.dirtyPages s.ckpt true) with
       | (s, false) => s
       | (s, true) =>
         match s.copyPages s.dirtyPages 0 s.ckpt errs with
         | (s, some c) => (s.stopCopies.intFail 3).raiseCause 2 c 0 none
         | (s, none) => s.copiesDone)

/-! ### The coordinator and its messages (R431, R474) -/

/-- Whether this device coordinates its slice. -/
def State.coordinates (s : State) : Bool := match s.fw.prog with
  | some p => decide (p.logical = 0)
  | none => false

/-- Whether every device of the slice has sent a message with index `k`. -/
def State.allSent (s : State) (l : List Nat) (k : Nat) : Bool := match s.fw.prog with
  | some p => p.devmap.all fun d => l.contains (k * 4096 + d)
  | none => false

/-- Notes a device's message with index `k`. -/
def noteSent (l : List Nat) (k d : Nat) : List Nat := if l.contains (k * 4096 + d) then l else l ++ [k * 4096 + d]

/-- The body's index k. -/
def Msg.k (m : Msg) : Nat := leAt m.body 0 8

/-- MSG_CAPTURED: with CAPTURED(k) from every device, the coordinator sends COPY(k) to every device (R431). -/
def execMsgCaptured (s : State) : Host.Outcome State Fault Refusal :=
  .next
    (s.onMsg msCaptured fun s m =>
      if !s.coordinates || decide (s.fld safStat SAF_STAT_STATE ≠ 0) then s
      else
        let s := s.modInt fun i => { i with captured := noteSent i.captured m.k m.src }
        if s.allSent s.fw.int.captured m.k && decide (s.fw.int.copySent ≠ m.k) then
          (s.modInt fun i => { i with copySent := m.k }).postAll msCopy 0 (leBytes 8 m.k)
        else s)

/-- MSG_COPY: the device begins its copies (R427, R474). -/
def execMsgCopy (s : State) (errs : List (Nat × SymErr) := []) : Host.Outcome State Fault Refusal :=
  .next
    (s.onMsg msCopy fun s m =>
      if s.fld safInt SAF_INT_STEP = 5 ∧ s.fw.int.k = m.k then
        ((s.setFld safInt SAF_INT_STEP 6).modInt fun i => { i with copying := true, sent := false }).sendCopies errs
      else s)

/-- The first multiple of 512,000 at or after a tick. -/
def roundTick (t : Nat) : Nat := (t + 511999) / 512000 * 512000

/-- T_R of a restore (R478): that of the device record, or, when it holds 0, the first multiple of 512,000 at least 2,048,000 ticks after AT. -/
def State.restoreTick (s : State) (at_ : Nat) : Nat :=
  let t := leAt (s.memRead (s.devRecord + 8) 8 []).2.1 0 8
  if t = 0 then roundTick (at_ + 2048000) else t

/-- MSG_DONE: with DONE(k) from every device, the coordinator sends RESUME(k, T_R), or HOLD(k) when a hold was asked; in a restore, STEP(k, AT,
T_R) (R431, R474, R478). -/
def execMsgDone (s : State) : Host.Outcome State Fault Refusal :=
  .next
    (s.onMsg msDone fun s m =>
      let off := !s.coordinates || decide (s.fld safStat SAF_STAT_STATE ≠ 0)
      if bit m.flags 0 then
        let s := s.modInt fun i => { i with restoreDone := noteSent i.restoreDone m.k m.src }
        if !off && s.allSent s.fw.int.restoreDone m.k then
          let at_ := (s.now + 3000000 + 2047) / 4096 * 4096 + 2048
          (s.modInt fun i => { i with restoreDone := [] }).postAll msStep 1 (leBytes 8 m.k ++ leBytes 8 at_ ++ leBytes 8 (s.restoreTick at_))
        else s
      else if off then s
      else
        let s := s.modInt fun i => { i with done := noteSent i.done m.k m.src }
        if s.allSent s.fw.int.done m.k then
          let s := s.modInt fun i => { i with done := [], captured := [], doneTick := s.now }
          if s.fw.int.holdReq then (s.modInt fun i => { i with holdReq := false }).postAll msHold 0 (leBytes 8 m.k)
          else s.postAll msResume 0 (leBytes 8 m.k ++ leBytes 8 (roundTick (s.now + 2000000)))
        else s)

/-- Intermission k is committed on this device. -/
def State.commitInt (s : State) (k : Nat) : State :=
  ((s.modInt fun i => { i with committed := k }).setFld safInt SAF_INT_COMMITTED k).setFld safInt SAF_INT_STEP 0

/-- T_R is written into the device record, the checkpoint region's copy of it, and the mirror's copy on the buddy by a flagged packet (R474). -/
def State.writeTick (s : State) (tr : Nat) (errs : List (Nat × SymErr)) : State :=
  let b := leBytes 8 tr
  let off := s.devRecord + 8
  let s := (s.memWrite off b (s.errsAt off 8 errs)).memStore (s.ckpt + off) b (s.errsAt (s.ckpt + off) 8 errs)
  let own := s.fld netPlace NET_PLACE_DEVICE_ID
  let hdr := mkHeader (s.fld safInt SAF_INT_BUDDY) own 1 1 1 0 1 0 0 0 16
  s.inject 1 1 (packFlits hdr (leBytes 8 (s.mirror + off) ++ b))

/-- Whether a channel has a CODE section in the loaded program. -/
def State.isCoded (s : State) (n : Nat) : Bool := (s.fw.prog.map fun p => p.coded.contains n).getD false

/-- S63 of each coded channel takes a tick and RUN is set (R426, R431, R472). -/
def State.goCoded (s : State) (t : Nat) : State :=
  (fins 8).foldl (fun s (n : Fin 8) =>
    if s.isCoded n then
      let s := s.setChan n ((s.chan n).setS 63 (BitVec.ofNat 64 t))
      s.writeChCtl n (setF (s.rd (chCtl n) &&& ~~~(2#64)) CH_CTL_RUN 1)
    else s) s

/-- The coded channels resume behind their INTERMIT (R123): START is the bundle address reached. -/
def State.resumeAt (s : State) (tr : Nat) : State :=
  ((List.range 8).foldl (fun s n =>
    if s.isCoded n then s.setFld (chCtl n) CH_CTL_START (s.fld (chStatus n) CH_STATUS_PC) else s) s).goCoded tr

/-- MSG_HOLD: k is committed and the channels stay in INTERMISSION (R474). -/
def execMsgHold (s : State) : Host.Outcome State Fault Refusal :=
  .next
    (s.onMsg msHold fun s m =>
      if s.fld safInt SAF_INT_STEP = 7 ∧ s.fw.int.k = m.k then
        let s := s.commitInt m.k
        { s with fw := { s.fw with run := s.fw.run.map fun r => { r with state := 6, going := false } } }
      else s)

/-- MSG_COPY_DONE: a region copy this device waits for has come (R478). -/
def execMsgCopyDone (s : State) : Host.Outcome State Fault Refusal :=
  .next (s.onMsg msCopyDone fun s m => s.modInt fun i => { i with copyDone := noteSent i.copyDone m.k (leAt m.body 8 1) })

/-- MSG_STEP: a restoring device arms the slice step with TO as R436 gives (R391, R478); where its record held no T_R it writes it. -/
def execMsgStep (s : State) (errs : List (Nat × SymErr) := []) : Host.Outcome State Fault Refusal :=
  .next
    (s.onMsg msStep fun s m =>
      if bit m.flags 0 && s.fw.int.resumeAt.isNone && (s.fw.run.map (·.state) = some 7) then
        let at_ := leAt m.body 8 8
        let tr := leAt m.body 16 8
        let s := if leAt (s.memRead (s.devRecord + 8) 8 []).2.1 0 8 = 0 then s.writeTick tr errs else s
        let s := (s.wr timRebaseAt (BitVec.ofNat 64 at_)).wr timRebaseTo (BitVec.ofNat 64 (tr - 2048000 + at_ % 512000))
        let s := s.writeTimCtl (setF 0 TIM_CTL_REBASE_ARM 1) (setF 0 TIM_CTL_REBASE_ARM 1)
        s.modInt fun i => { i with resumeAt := some tr }
      else s)

/-- MSG_HOST: a HOST message is held for MSG_RECV; of 65 the oldest goes (R469), and the host is told (R505). -/
def execMsgHost (s : State) : Host.Outcome State Fault Refusal :=
  .next
    (s.onMsg msHost fun s m =>
      let l := s.fw.hostMsgs ++ [(m.src, m.body)]
      ({ s with fw := { s.fw with hostMsgs := l.drop (l.length - 64) } }).alert [10])

end Sys2Proof.Machine
end

