-- ==== Sys2Proof/Machine/Power.lean ====
section
/-!
DEFINITION. Supplies (R515 to R520), clocks (R528 to R532), heat (R533) and ageing (R535 to R539).
-/

namespace Sys2Proof.Machine

/-- Changes the power block. -/
def State.modPwr (s : State) (f : PwrSt → PwrSt) : State := { s with pwr := f s.pwr }

/-! ### The input (R515 to R519) -/

/-- The supply fails: SUPPLY is raised and the device halts (R517); while MOD is held the event alone is recorded. -/
def State.supplyFault (s : State) (f : Fld) (unit : Nat) : State :=
  let s := s.setFlag pwrSupplyEvt f
  (if s.pwr.mod then s else s.raiseCause 11 unit 0 none).showPins

/-- POR is due 200 µs after a crossing (R517). -/
def State.setPorAt (s : State) : State := s.modPwr fun p => { p with porAt := some (p.porAt.getD (s.pwr.onTicks + 200000)) }

/-- The hold-up of 2 ms has run out (R517). -/
def State.holdupOut (s : State) : Bool := match s.pwr.dip with
  | some t => s.flag pwrVin PWR_VIN_HOLDUP && decide (t + 2000000 ≤ s.pwr.onTicks)
  | none => false

/-- The hold-up expires: SUPPLY (R517). -/
def State.expireHoldup (s : State) : State :=
  if s.holdupOut then (s.setFld pwrVin PWR_VIN_HOLDUP 0).supplyFault PWR_SUPPLY_EVT_HOLDUP_EXPIRED 0 else s

/-- VIN has fallen below VIN_WARN: DIP, the alerts, and the hold-up timer (R517). -/
def State.dipBegins (s : State) : State :=
  let s := (((s.setFlag pwrVin PWR_VIN_BELOW_WARN).setFlag pwrVin PWR_VIN_HOLDUP).setFlag pwrSupplyEvt PWR_SUPPLY_EVT_DIP).alert [16]
  (s.modPwr fun p => { p with dip := some s.pwr.onTicks }).showPins

/-- VIN is back above 59 V: a dip within the hold-up is logged; an expiry in the same cycle stands (R517, R519, R544). -/
def State.dipEnds (s : State) : State :=
  let s := s.expireHoldup
  let s := if s.flag pwrVin PWR_VIN_HOLDUP && s.pwr.porAt.isNone then
      ((s.bump pwrSupplyEvt PWR_SUPPLY_EVT_DIPS).setFld pwrDipLog PWR_DIP_LOG_MIN_V s.pwr.low).setFld pwrDipLog PWR_DIP_LOG_DURATION
        ((s.pwr.onTicks - s.pwr.dip.getD s.pwr.onTicks) / 1000)
    else s
  ((s.setFld pwrVin PWR_VIN_BELOW_WARN 0).setFld pwrVin PWR_VIN_HOLDUP 0).modPwr fun p => { p with dip := none }

/-- VIN_SAMPLE: the sample of each µs, VIN and IIN in 10 mV and 10 mA, PIN in W; four samples beyond a level cross it (R515, R517, R542). While
POR is held only the samples in range without a break are counted. -/
def execVinSample (vin iin pin : Nat) (s : State) : Host.Outcome State Fault Refusal :=
  .next
    (if s.pwr.por then s.modPwr fun p => { p with okRun := if 5900 ≤ vin ∧ vin ≤ 7800 then p.okRun + 1 else 0 }
     else
       let s := ((s.setFld pwrVin PWR_VIN_VIN (min 65535 vin)).setFld pwrVin PWR_VIN_IIN (min 65535 iin)).setFld pwrVin PWR_VIN_PIN (min 65535 pin)
       let run (c : Bool) (n : Nat) : Nat := if c then n + 1 else 0
       let s := s.modPwr fun p => { p with
         low := if s.flag pwrVin PWR_VIN_BELOW_WARN || decide (vin < 5800 ∧ 0 < p.warnRun) then min p.low vin else vin
         warnRun := run (decide (vin < 5800)) p.warnRun
         okRun := run (decide (5900 ≤ vin)) p.okRun
         resetRun := run (decide (vin < 5000)) p.resetRun
         ovRun := run (decide (8000 < vin)) p.ovRun }
       let s := if 4 ≤ s.pwr.warnRun ∧ !s.flag pwrVin PWR_VIN_BELOW_WARN then s.dipBegins else s
       let s := if 4 ≤ s.pwr.okRun ∧ s.flag pwrVin PWR_VIN_BELOW_WARN then s.dipEnds else s
       let s := if s.pwr.resetRun = 4 then (s.supplyFault PWR_SUPPLY_EVT_BELOW_RESET 0).setPorAt else s
       if s.pwr.ovRun = 4 then (s.supplyFault PWR_SUPPLY_EVT_OVERVOLT 0).setPorAt else s)

/-- HOLDUP_EXPIRED: VIN has been below VIN_WARN for 2 ms (R517). -/
def execHoldupExpired (s : State) : Host.Outcome State Fault Refusal := .next s.expireHoldup

/-- OVERPOWER: input power above 2,000 W over 1 ms (R517). -/
def execOverpower (pin : Nat) (s : State) : Host.Outcome State Fault Refusal :=
  .next
    (if s.pwr.por || decide (pin ≤ 2000) then s
     else (s.setFld pwrVin PWR_VIN_PIN (min 65535 pin)).supplyFault PWR_SUPPLY_EVT_OVERPOWER 0)

/-! ### Droop and clocks (R528, R530 to R532) -/

/-- A write to PWR_ARITH (R528, R545): a STEP that may not change is kept, and STEP_REFUSED set; one that changes unlocks its clock. -/
def State.writeArith (s : State) (v m : Word64) : State :=
  let old := s.rd pwrArith
  let to_ (j : Nat) : Nat := getF (writeWord RegKind.pwrArith.fields false (s.beforeRd pwrArith) old v m) (PWR_ARITH_STEP j)
  let moved := (List.range 8).filter fun j => decide (to_ j ≠ getF old (PWR_ARITH_STEP j))
  let no := moved.filter fun j => s.running j || decide (to_ j < getF old PWR_ARITH_TOP_STEP)
  let m := no.foldl (fun m j => setF m (PWR_ARITH_STEP j) 0) m
  let s := s.writePlain pwrArith v m
  let s := (moved.filter fun j => !no.contains j).foldl (fun s j => s.setFld pwrArith (PWR_ARITH_LOCKED j) 0) s
  if no.isEmpty then s else s.setFlag pwrArith PWR_ARITH_STEP_REFUSED

/-- ARITH_STEP_WRITE (R528). -/
def execArithStepWrite (value : Word64) (s : State) : Host.Outcome State Fault Refusal :=
  .next (if s.takesWrites pwrArith then s.writeArith value (~~~0) else s)

/-- ARITH_PLL_LOCKED: a channel's PLL and trim loop lock (R528, R393). -/
def execArithPllLocked (n : Fin 8) (s : State) : Host.Outcome State Fault Refusal :=
  .next (if s.pwr.por || s.pwr.mod || s.pwr.gated then s else (s.setFlag pwrArith (PWR_ARITH_LOCKED n)).showAtrim n)

/-- CTRL_DROOP_STRETCH: a droop region stretches its clock (R530). -/
def execCtrlDroopStretch (_region : Fin 6) (s : State) : Host.Outcome State Fault Refusal :=
  .next (if s.heldReset then s else s.bump pwrClk PWR_CLK_CTRL_STRETCH)

/-- NET_DROOP: a monitor injects charge; below its failure floor the supply has failed (R531). -/
def execNetDroop (_monitor : Fin 8) (belowFloor : Bool) (s : State) : Host.Outcome State Fault Refusal :=
  .next
    (if s.heldReset then s
     else
       let s := s.bump pwrClk PWR_CLK_NET_BOOST
       if belowFloor then s.supplyFault PWR_SUPPLY_EVT_NET_DROOP_FAIL 1 else s)

/-- A step's next state. -/
def State.ofNext (s : State) (r : Host.Outcome State Fault Refusal) : State := match r with
  | .next t => t
  | _ => s

/-- REFCLK_LOSS: REFCLK_C, L, T or P is lost (R532): CLOCK for C and L, holdover for T, nothing more for P. While MOD is held only LOST
shows it, which no MOD clears; while POR is held nothing does. -/
def execRefclkLoss (which : Fin 4) (s : State) : Host.Outcome State Fault Refusal :=
  .next
    (if s.pwr.por then s
     else
     let s := s.setFld pwrClk (bitF which) 1
     if s.pwr.mod then s
     else
     let s := s.setFlag pwrClk (bitF (4 + which))
     if which.val = 0 then s.raiseCause 10 0 0 none
     else if which.val = 1 then s.raiseCause 10 1 0 none
     else if which.val = 2 then s.ofNext (execRefclkTLoss s)
     else s)

/-- REFCLK_RETURN: a lost reference shows edges again (R532). A halted device stays halted. -/
def execRefclkReturn (which : Fin 4) (s : State) : Host.Outcome State Fault Refusal :=
  .next
    (let s := s.setFld pwrClk (bitF which) 0
     if which.val = 2 ∧ !s.heldReset then s.ofNext (execRefclkTReturn s) else s)

/-! ### Heat (R533, R548, R549) -/

/-- Limits in effect of a group: warning and curtain (R548). -/
def State.heatLimits (s : State) (g : Nat) : Nat × Nat :=
  let clamp (f : Fld) (lo hi : Nat) : Nat := max lo (min hi (s.fld pwrThermCtl f))
  let c := if g < 3 then clamp PWR_THERM_CTL_DIE_CURTAIN 85 110 else clamp PWR_THERM_CTL_OE_CURTAIN 70 82
  let w := if g < 3 then clamp PWR_THERM_CTL_DIE_WARN 70 105 else clamp PWR_THERM_CTL_OE_WARN 60 78
  (if c ≤ w then c - 1 else w, c)

/-- A group's hottest sensor is read (R549); while MOD is held only THERMTRIP_N follows it (R557). -/
def State.setTemp (s : State) (g : Nat) (t : Int) : State :=
  let s := s.modPwr fun p => { p with temps := kset (fun _ => 0) p.temps g t }
  let oe := ([3, 4, 5, 6].map fun k => kget (fun _ => 0) s.pwr.temps k).foldl max (kget (fun _ => 0) s.pwr.temps 3)
  let f := if g = 0 then PWR_THERM_STAT_CD0_MAX else if g = 1 then PWR_THERM_STAT_CD1_MAX else if g = 2 then PWR_THERM_STAT_ND_MAX
    else PWR_THERM_STAT_OE_MAX
  if s.pwr.mod then s.showPins else (s.setInt pwrThermStat f (if g < 3 then t else oe)).showPins

/-- A flag of PWR_THERM_STAT and its group. -/
def State.heatFlag (s : State) (f : Fld) (g : Nat) : State :=
  ((s.setFlag pwrThermStat f).setFld pwrThermStat PWR_THERM_STAT_GROUP g).showPins

/-- THERMAL_WARN: a group reaches its warning limit (R533); a curtain already set for it decides. -/
def execThermalWarn (g : Fin 7) (t : Int) (s : State) : Host.Outcome State Fault Refusal :=
  .next
    (if s.pwr.por then s
     else
     let s := s.setTemp g t
     let (w, c) := s.heatLimits g
     let curtain := decide ((c : Int) ≤ t) && s.flag pwrThermStat PWR_THERM_STAT_CURTAIN && decide (s.fld pwrThermStat PWR_THERM_STAT_GROUP = g.val)
     if decide ((w : Int) ≤ t) && !curtain && !s.pwr.mod then (s.heatFlag PWR_THERM_STAT_WARN g).alert [17] else s)

/-- THERMAL_CURTAIN: a group has been at its curtain limit for 1 ms; firmware raises HOST (R533). At its trip point the trip decides. -/
def execThermalCurtain (g : Fin 7) (t : Int) (s : State) : Host.Outcome State Fault Refusal :=
  .next
    (if s.pwr.por then s
     else
     let s := s.setTemp g t
     if ((s.heatLimits g).2 : Int) ≤ t ∧ t < tripPoint g ∧ !s.pwr.mod then (s.heatFlag PWR_THERM_STAT_CURTAIN g).raiseCause 14 0 0 none else s)

/-- THERMAL_TRIP: a group reaches its trip point: THERMAL and halt (R533). The die of an optical engine's trip is not said: a free choice. -/
def execThermalTrip (g : Fin 7) (t : Int) (s : State) : Host.Outcome State Fault Refusal :=
  .next
    (if s.pwr.por then s
     else
     let s := s.setTemp g t
     if tripPoint g ≤ t ∧ !s.pwr.mod then
       let s := s.heatFlag PWR_THERM_STAT_TRIP g
       (if g.val < 3 then s.raiseCause 12 g 0 none else (s.take 1).raiseCause 12 (s.pick 3) 0 none).showHalt
     else s)

/-! ### Ageing (R535 to R538) -/

/-- V_MAX in mV. -/
def vMax : Nat := 850

/-- GUARD, FLOOR and CRIT in effect (R550). -/
def State.survey3 (s : State) : Nat × Nat × Nat :=
  let g := s.fld pwrResurvey PWR_RESURVEY_GUARD
  let f := s.fld pwrResurvey PWR_RESURVEY_FLOOR
  let c := s.fld pwrResurvey PWR_RESURVEY_CRIT
  if c < f ∧ f < g then (g, f, c) else (40, 25, 10)

/-- The rail of a survey site (R535). -/
def siteRail (k : Nat) : Nat := if k < 10 then k else if k = 13 then 11 else 10

/-- The voltage of a rail in mV. -/
def State.railMv (s : State) (r : Nat) : Nat := 5 * s.fld (pwrRail r) PWR_RAIL_SET

/-- Whether the retirement list names a unit. -/
def State.isRetired (s : State) (kind unit : Nat) : Bool := s.fw.retired.any fun r => decide (r.kind = kind ∧ r.unit = unit)

/-- TOP_STEP (R537): the slowest of the top steps of the channels not retired and STEP_CAP. -/
def State.showTop (s : State) : State :=
  let tops := ((List.range 8).filter fun n => !s.isRetired 8 n).map fun n => s.fld (pwrSite n) PWR_SITE_TOP
  s.setFld pwrArith PWR_ARITH_TOP_STEP (tops.foldl max (s.fld pwrCap PWR_CAP_STEP_CAP))

/-- Power-on hours. -/
def State.hours (s : State) : Nat := s.pwr.hours0 + s.pwr.onTicks / 3600000000000

/-- The fastest step of a channel site with V_MAX − V_FAIL at FLOOR or above (R536), the slowest when none is. -/
def topStep (floor : Nat) (v : List Nat) : Nat := ((List.range 8).find? fun k => decide (nth vMax v k + floor ≤ vMax)).getD 7

/-- Shows the operating voltage of a rail at its sites (R552). -/
def State.showRail (s : State) (r : Nat) : State :=
  ((List.range 14).filter fun k => decide (siteRail k = r)).foldl (fun s k =>
    (s.setFld (pwrSite k) PWR_SITE_V_OP (s.railMv r)).setFld (pwrSite k) PWR_SITE_AT_VMAX (b2n (decide (s.railMv r = vMax)))) s

/-- One site of a resurvey (R536, R552). -/
def State.surveySite (s : State) (k : Nat) (v : List Nat) : State :=
  let (guard, floor, crit) := s.survey3
  let r := siteRail k
  let use := nth vMax v (if k < 8 then s.fld pwrArith (PWR_ARITH_STEP k) else 0)
  let top := if k < 8 then topStep floor v else 0
  let vtop := nth vMax v top
  let low := decide (vMax < (if k < 8 then nth vMax v (kget (fun _ => 0) s.fw.ledger.tops k) else use) + floor)
  let critical := decide (vMax < use + crit)
  let margin : Int := (s.railMv r : Int) - use
  let x := pwrSite k
  let s := ((((((s.setFld x PWR_SITE_V_FAIL use).setFld x PWR_SITE_V_FAIL_TOP vtop).setFld x PWR_SITE_TOP top).setFld x
    PWR_SITE_BELOW_GUARD (b2n (decide (margin < guard)))).setFld x PWR_SITE_BELOW_FLOOR (b2n low)).setFld x PWR_SITE_CRITICAL (b2n critical))
  let want := min (vMax / 5) ((use + guard + 4) / 5)
  let want := max want (if r = 11 then 150 else 130)
  let set := s.fld (pwrRail r) PWR_RAIL_SET
  let prev := kget (fun _ => 0) s.pwr.goal r
  let goal := if margin < guard then max want prev
    else if decide (k < 8) && decide ((guard : Int) + 10 < margin) && !s.running k then want else prev
  let s := s.modPwr fun p => { p with goal := kset (fun _ => 0) p.goal r (if goal = set then 0 else goal) }
  let s := if low then
      if k < 8 then s.alert [18]
      else if k = 11 then s.setFld pwrClk PWR_CLK_CTRL_CEIL (min 8 (s.fld pwrClk PWR_CLK_CTRL_CEIL + 1))
      else s.alert [18, 9]
    else s
  if critical && (decide (8 ≤ k) || s.running k) then s.raiseCause 14 0 0 none else s

/-- What firmware's copy of the ledger takes from a resurvey (R538, R539). -/
def State.ledgerSurvey (s : State) (vfail : List (List Nat)) : State :=
  let l := s.fw.ledger
  let h := s.hours
  let sites := List.range 14
  let flags := b2n (sites.any fun k => s.flag (pwrSite k) PWR_SITE_BELOW_FLOOR) + 2 * b2n (sites.any fun k => s.flag (pwrSite k) PWR_SITE_CRITICAL) +
    4 * b2n (s.flag ctlHostAlert CTL_HOST_ALERT_DEVICE_FAILED || decide (l.flags / 4 % 2 = 1))
  let moved (k : Nat) : Bool := decide (kget (fun _ => 0) l.tops k ≠ s.fld (pwrSite k) PWR_SITE_TOP) ||
    decide (kget (fun _ => 0) s.pwr.goal (siteRail k) ≠ 0)
  let l := { l with
    surveys := l.surveys + 1
    first := if l.surveys = 0 then sites.foldl (fun m k => kset (fun _ => 0) m k (s.railMv (siteRail k))) [] else l.first
    vfail := sites.foldl (fun m k => ksets (fun _ => 0) m (8 * k) ((nth [] vfail k).take (if k < 8 then 8 else 1))) l.vfail
    changed := sites.foldl (fun m k => if moved k then kset (fun _ => 0) m k h else m) l.changed
    tops := (List.range 8).foldl (fun m k => kset (fun _ => 0) m k (s.fld (pwrSite k) PWR_SITE_TOP)) l.tops
    ceil := s.fld pwrClk PWR_CLK_CTRL_CEIL
    flags := flags }
  { s with fw := { s.fw with ledger := l } }

/-- RESURVEY: firmware has found V_FAIL of every site in mV, for channel sites at each of the eight steps (R536). -/
def execResurvey (vfail : List (List Nat)) (s : State) : Host.Outcome State Fault Refusal :=
  .next
    (if s.pwr.por || s.pwr.mod then s
     else
       let s := (List.range 14).foldl (fun s k => (s.surveySite k (nth [] vfail k)).showRail (siteRail k)) s
       let s := (s.wrapAdd pwrResurvey PWR_RESURVEY_COUNT 1).showTop
       s.ledgerSurvey vfail)

/-- RAIL_VOLTAGE_STEP: a 5 mV step toward the voltage the resurvey wants, at most one per 10 µs; down only on a channel's own rail while it
does not run (R536). -/
def execRailVoltageStep (r : Fin 20) (up : Bool) (s : State) : Host.Outcome State Fault Refusal :=
  .next
    (let set := s.fld (pwrRail r) PWR_RAIL_SET
     let goal := kget (fun _ => 0) s.pwr.goal r
     let late := match s.pwr.railTick.find? (fun e => decide (e.1 = r.val)) with
       | some e => decide (e.2 + 10000 ≤ s.now)
       | none => true
     let go (x : Nat) : State :=
       ((s.setFld (pwrRail r) PWR_RAIL_SET x).modPwr fun p => { p with
         railTick := p.railTick.filter (fun e => decide (e.1 ≠ r.val)) ++ [(r.val, s.now)]
         goal := if x = goal then kset (fun _ => 0) p.goal r 0 else p.goal }).showRail r
     if s.heldReset || !late || decide (goal = 0) then s
     else if up && decide (set < goal) then go (set + 1)
     else if !up && decide (goal < set ∧ r.val < 8) && !s.running r then go (set - 1)
     else s)

/-- The worst channel V_FAIL at its top step, and the least region margin (R539). -/
def State.dailyEntry (s : State) : Daily :=
  let worst := (List.range 8).foldl (fun a k => max a (s.fld (pwrSite k) PWR_SITE_V_FAIL_TOP)) 0
  let margin (k : Nat) : Int := (s.railMv (siteRail k) : Int) - s.fld (pwrSite k) PWR_SITE_V_FAIL
  ⟨s.hours, worst, [9, 10, 11, 12, 13].foldl (fun a k => min a (margin k)) (margin 8), s.fld pwrArith PWR_ARITH_TOP_STEP, s.fw.ledger.flags⟩

/-- LEDGER_WRITE: the ledger goes to flash, with an entry of the day once 24 hours have passed (R480, R538). -/
def execLedgerWrite (s : State) : Host.Outcome State Fault Refusal :=
  .next
    (if !decide (s.fld ctlBoot CTL_BOOT_MODE = 0 ∨ s.fld ctlBoot CTL_BOOT_MODE = 3) then s
     else
       let l := s.fw.ledger
       let h := s.hours
       let day := match l.daily with
         | d :: _ => decide (d.hours + 24 ≤ h)
         | [] => true
       let bias := (List.range 160).foldl (fun m k =>
         let now := s.fld (lnkLaser (k / 10) (k % 10)) LNK_LASER_BIAS
         let key := 42 * (k / 40) + k % 40
         if kget (fun _ => 0) m key = 0 then kset (fun _ => 0) m key now else m) l.bias
       let l := { l with
         gen := l.gen + 1, hours := h
         records := l.records ++ [(h, (List.range 14).map fun k => s.fld (pwrSite k) PWR_SITE_V_FAIL_TOP)]
         daily := if day then (s.dailyEntry :: l.daily).take 64 else l.daily
         bias := bias
         rails := (List.range 12).foldl (fun m r => kset (fun _ => 0) m r (s.fld (pwrRail r) PWR_RAIL_SET)) l.rails }
       { s with fw := { s.fw with ledger := l, ledgerFlash := l } })

end Sys2Proof.Machine
end

