-- ==== Sys2Proof/Machine/Retire.lean ====
section
/-!
DEFINITION. Retirement: the retirement list (R483), its application to the registers and remap tables (R83, R112, R185, R187, R331, R353),
the units firmware retires at an intermission or before a restart (R83, R184 to R186, R433), and the resumption of an intermission (R474).
-/

namespace Sys2Proof.Machine

/-! ### Pages and pools (R172, R184, R185) -/

/-- The first pool page of a memory channel that nothing uses or has used. -/
def State.freePool (s : State) (c : Nat) : Option Nat :=
  let used := s.mem.remap.filterMap fun e => if e.2.1 = c then some e.2.2 else none
  let past := s.fw.retired.filterMap fun r => if r.kind = 3 ∧ r.extra / 4096 = c then some (r.extra % 4096) else none
  (((List.range 64).map (· + 3776)).filter fun f => !used.contains f && !past.contains f).head?

/-- A sector is read, decoded and written elsewhere in the same bursts (R184): poison stays poison, and a sector whose contents are lost is written
as poison (R178). -/
def State.copySector (s : State) (from_ to_ : Nat × Nat) (e : SymErr) : State :=
  match s.readSector from_.1 from_.2 e with
  | (s, some d) => { s with mem := s.mem.store to_.1 to_.2 0 d }
  | (s, none) => { s with mem := s.mem.setPoison to_.1 to_.2 true }

/-- A physical page is copied to another (R184). `errs` names sectors by channel × 2^28 + sector. -/
def State.copyPage (s : State) (c f c2 f2 : Nat) (errs : EccObs) : State :=
  (List.range 65536).foldl (fun s i =>
    s.copySector (c, f * 65536 + i) (c2, f2 * 65536 + i) (errOf errs (c * 2 ^ 28 + f * 65536 + i))) s

/-- A memory channel, by number. -/
def memNo (c : Nat) : Fin 128 := ⟨c % 128, Nat.mod_lt _ (by decide)⟩

/-- The bridge's bursts of a page copy (R184, R191). -/
def pageCopyArbs (c c2 : Nat) : List (Fin 10 × ArbId) := List.replicate 16384 (8, .mem (memNo c)) ++ List.replicate 16384 (8, .mem (memNo c2))

/-- The remap entry of a logical page of a memory channel. -/
def MemSt.entry (m : MemSt) (c p : Nat) : Nat × Nat := kget remapReset m.remap (c * 3776 + p)

/-- Firmware writes a remap entry through MC_REMAP_SEL and MC_REMAP_DATA (R187). -/
def State.putEntry (s : State) (c p : Nat) (to_ : Nat × Nat) : State :=
  ((s.setFld (mcRemapSel c) MC_REMAP_SEL_PAGE p).showRemap c).writeRemap c
    (setF (setF 0 MC_REMAP_DATA_TO_PAGE to_.2) MC_REMAP_DATA_TO_CHAN to_.1)

/-- Where logical page `i` of a retired memory channel `c` goes (R185): a pool page of channel (c + 1 + (i mod 127)) mod 128, or, when that pool
is full, of the next one that is not (log entry 24). -/
def State.spreadTo (s : State) (c i : Nat) : Option (Nat × Nat) :=
  (List.range 127).findSome? fun k =>
    let c2 := (c + 1 + (i + k) % 127) % 128
    (s.freePool c2).map fun f => (c2, f)

/-- Logical page `i` of a retired memory channel goes there, its contents with it where `copy`. -/
def State.spreadPage (s : State) (c i : Nat) (copy : Bool) (errs : EccObs) : State :=
  match s.spreadTo c i with
  | some to_ =>
    let at_ := s.mem.entry c i
    let s := if copy then s.copyPage at_.1 at_.2 to_.1 to_.2 errs else s
    s.putEntry c i to_
  | none => s.alert [9]

/-- Spreads the logical pages of a retired memory channel over the pools of the others (R185). The contents go with them where `copy`. -/
def State.spread (s : State) (c : Nat) (copy : Bool) (errs : EccObs) : State :=
  (List.range 3776).foldl (fun s i => s.spreadPage c i copy errs) s

/-! ### Applying a record -/

/-- SHADOW_AVAIL as R112 gives it; without it nothing compares. -/
def State.showShadow (s : State) (n : Nat) : State :=
  let m := s.rd (chTeMap n)
  let ok := decide (getF m CH_TE_MAP_REPLACE_EN = 0 ∧ getF m CH_TE_MAP_TE16_SUSPECT = 0)
  let s := s.setFld (chTeMap n) CH_TE_MAP_SHADOW_AVAIL (b2n ok)
  if ok then s else s.setFld (chShadow n) CH_SHADOW_COMPARING 0

/-- The fields of understudy bank `u` in CH_BANK_MAP (R133). -/
def bankMapF (u : Nat) : Fld × Fld :=
  if u = 0 then (CH_BANK_MAP_U0_LOGICAL, CH_BANK_MAP_U0_EN) else (CH_BANK_MAP_U1_LOGICAL, CH_BANK_MAP_U1_EN)

/-- Firmware writes LNK_LANE_MAP of a link that is OFF from its failed lanes (R336, R341): a logical lane on a failed physical lane moves to the
lowest that is neither failed nor mapped, as R356 moves it; a direction with fewer than eight lanes left keeps its map. -/
def State.mapFailed (s : State) (l : Nat) : State :=
  let f := (s.rd (lnkLaneCtl l)).toNat
  let place (s : State) (base from_ : Nat) : State :=
    let ok (k : Nat) : Bool := !bit f (from_ + k)
    match placeLanes ok ok ((List.range 8).map fun j => s.fld (lnkLaneMap l) ⟨base + 4 * j, 4⟩) with
    | some m => s.putMap l base m
    | none => s
  if s.lstate l = lsOff then place (place s 0 0) 32 10 else s

/-- The retirement list's record applied (R83, R112, R185, R187, R331, R353, R483). Control cores take their roles at boot (R453). The
coding of INDEX and EXTRA is the model's (log entry 23). -/
def State.applyRecord (s : State) (r : Retired) : State :=
  match r.kind with
  | 1 =>
    let s := if r.index = 16 then s.setFlag (chTeMap r.unit) CH_TE_MAP_TE16_SUSPECT
      else (s.setFld (chTeMap r.unit) CH_TE_MAP_REPLACED r.index).setFlag (chTeMap r.unit) CH_TE_MAP_REPLACE_EN
    s.showShadow r.unit
  | 2 => (s.setFld (chBankMap r.unit) (bankMapF r.extra).1 r.index).setFlag (chBankMap r.unit) (bankMapF r.extra).2
  | 3 => if s.flag (mcChStatus (r.extra / 4096)) MC_CH_STATUS_RETIRED then s else s.putEntry r.unit r.index (r.extra / 4096, r.extra % 4096)
  | 4 => if s.flag (mcChStatus r.unit) MC_CH_STATUS_RETIRED then s
         else (s.spread r.unit false []).setFlag (mcChStatus r.unit) MC_CH_STATUS_RETIRED
  | 5 => (s.wr (lnkLaneCtl r.unit) (s.rd (lnkLaneCtl r.unit) ||| BitVec.ofNat 64 (2 ^ r.index))).mapFailed r.unit
  | 6 => if 8 ≤ r.unit then s.setFld (lnkLaser (r.unit - 8) r.index) LNK_LASER_SOURCE r.extra else s
  | 8 => s.showTop
  | _ => s

/-- The retirement list applied: the records of these kinds, in order. -/
def State.applyList (s : State) (kinds : List Nat) : State :=
  (s.fw.retired.filter fun r => kinds.contains r.kind).foldl State.applyRecord s

/-- Adds a record to the list and alerts the host (R483, R505). -/
def State.record (s : State) (r : Retired) : State :=
  if s.fw.retired.contains r then s else ({ s with fw := { s.fw with retired := s.fw.retired ++ [r] } }).alert [8]

/-- Retires a unit: recorded and applied. -/
def State.retire (s : State) (r : Retired) : State := (s.record r).applyRecord r

/-- Whether the list has a record. -/
def State.listed (s : State) (kind unit index : Nat) : Bool :=
  s.fw.retired.any fun r => decide (r.kind = kind ∧ r.unit = unit ∧ r.index = index)

/-! ### Units that firmware retires (R83, R112, R184 to R186, R331, R353, R433) -/

/-- A failed engine: TE16 replaces it, or is marked suspect; when TE16 is not free for it the channel is retired. -/
def State.retireEngine (s : State) (n e : Nat) : State :=
  if s.listed 1 n e then s
  else if s.fw.retired.any (fun r => decide (r.kind = 1 ∧ r.unit = n)) then s.retire ⟨8, n, 0, 0⟩
  else s.retire ⟨1, n, e, 0⟩

/-- A failed logical bank: a free understudy serves it; a third retires the channel (R83). -/
def State.retireBank (s : State) (n b : Nat) (not_ : List Nat) : State :=
  let taken := s.fw.retired.filterMap fun r => if r.kind = 2 ∧ r.unit = n then some r.extra else none
  match ([0, 1].filter fun u => !taken.contains u && !not_.contains u).head? with
  | some u => s.retire ⟨2, n, b, u⟩
  | none => s.retire ⟨8, n, 0, 0⟩

/-- A failed physical bank: its logical bank moves, unless an understudy serves it already. -/
def State.retirePhysBank (s : State) (n p : Nat) : State :=
  if p < 64 then (if s.listed 2 n p then s else s.retireBank n p [])
  else
    let u := p - 64
    match (s.fw.retired.filter fun r => decide (r.kind = 2 ∧ r.unit = n ∧ r.extra = u)).getLast? with
    | some r => if s.fw.retired.any (fun q => decide (q.kind = 2 ∧ q.unit = n ∧ q.index = r.index ∧ q.extra ≠ u)) then s
                else s.retireBank n r.index [u]
    | none => s

/-- Whether a memory channel still answers reads: it has trained. -/
def State.memAnswers (s : State) (c : Nat) : Bool := decide (s.fld (mcChStatus c) MC_CH_STATUS_STATE ≠ 2)

/-- The accesses that spreading a memory channel takes, when its contents can still be read. -/
def State.spreadArbs (s : State) (c : Nat) : List (Fin 10 × ArbId) :=
  if s.memAnswers c then (List.range 3776).flatMap fun i => pageCopyArbs (s.mem.entry c i).1 ((c + 1 + i % 127) % 128) else []

/-- A failed memory channel, once its copies are granted (R185): contents that cannot be read are poison until the buddy copy comes (log entry
24). A second one is one too many (R186). -/
def State.retireMemChan (s : State) (c : Nat) (errs : EccObs) : State :=
  if s.isRetired 4 c then s
  else if s.fw.retired.any (fun r => decide (r.kind = 4)) then s.alert [9]
  else
    match s.arbAccesses (s.spreadArbs c) with
    | (s, false) => s
    | (s, true) => ((s.record ⟨4, c, 0, 0⟩).spread c (s.memAnswers c) errs).setFlag (mcChStatus c) MC_CH_STATUS_RETIRED

/-- A page is no candidate any more. -/
def State.dropCand (s : State) (c f : Nat) : State :=
  let l := s.mem.cands.filter (· ≠ c * 4096 + f)
  let s := { s with mem := { s.mem with cands := l } }
  if l.any (fun k => decide (k / 4096 = c)) then s else s.setFld (mcChStatus c) MC_CH_STATUS_CAND 0

/-- The logical page of memory channel `c` and number, as a key of the remap tables, that a physical page serves. -/
def MemSt.servedBy (m : MemSt) (c f : Nat) : Option Nat :=
  match m.remap.find? (fun e => decide (e.2 = (c, f))) with
  | some e => some e.1
  | none => if f < 3776 ∧ m.entry c f = (c, f) then some (c * 3776 + f) else none

/-- A candidate physical page: once the copy is granted, its contents move to a free pool page of its channel and its entry with them, and the
retirement is recorded; without a pool page the channel is retired (R184, R185). -/
def State.retirePage (s : State) (c f : Nat) (errs : EccObs) : State :=
  match s.mem.servedBy c f, s.freePool c with
  | none, _ => s.dropCand c f
  | some k, some f2 =>
    match s.arbAccesses (pageCopyArbs c c) with
    | (s, false) => s
    | (s, true) =>
      (((s.copyPage c f c f2 errs).putEntry (k / 3776) (k % 3776) (c, f2)).record ⟨3, k / 3776, k % 3776, c * 4096 + f2⟩).dropCand c f
  | some _, none => s.retireMemChan c errs

/-- Pages and memory channels that have failed are retired (R184, R185, R433). -/
def State.retireMemory (s : State) (errs : EccObs) : State :=
  let s := (List.range 128).foldl (fun s c =>
    if !s.memAnswers c || s.flag (mcChStatus c) MC_CH_STATUS_PIN_FAIL then s.retireMemChan c errs else s) s
  s.mem.cands.foldl (fun s k => s.retirePage (k / 4096) (k % 4096) errs) s

/-- A failed laser: an understudy of its engine that is free serves the lane (R353). -/
def State.retireLaser (s : State) (l : Fin 24) (lane : Nat) : State :=
  match ([1, 2].filter fun u => !s.laserTaken l lane u).head? with
  | some u =>
    if l.val < 8 ∨ s.fld (lnkLaser (l - 8) lane) LNK_LASER_SOURCE ≠ 0 then s
    else (s.writeLaser l lane (setF 0 LNK_LASER_SOURCE u) (setF 0 LNK_LASER_SOURCE 3)).record ⟨6, l, lane, u⟩
  | none => s

/-- Engines and banks of a channel that its fault records name (R83, R433). -/
def State.retireChanUnits (s : State) (n : Fin 8) : State :=
  let f := s.rd (chFault n)
  let s := if bit f.toNat 7 && decide (getF f CH_FAULT_FIRST = 7) && decide (getF f CH_FAULT_FIRST_VALID = 1) then
      s.retireEngine n (getF f CH_FAULT_FIRST_ENGINE) else s
  (List.range 66).foldl (fun s p =>
    if s.fld (safSramEcc n p) SAF_SRAM_ECC_UNCORRECTABLE ≠ 0 ∨ kget (fun _ => false) (s.chan n).worn p then s.retirePhysBank n p else s) s

/-- Before LOAD or RESTORE loads anything, firmware retires what has failed since (R433; log entry 24). -/
def State.retireUnits (s : State) (errs : EccObs) : State :=
  let s := ((fins 8).foldl State.retireChanUnits s).retireMemory errs
  (fins 24).foldl (fun s (l : Fin 24) =>
    let s := (maskList 20 (s.rd (lnkLaneCtl l)).toNat).foldl (fun s k => s.record ⟨5, l, k, 0⟩) s
    (List.range 10).foldl (fun s k =>
      if 8 ≤ l.val ∧ s.flag (lnkLaser (l - 8) k) LNK_LASER_FAIL then s.retireLaser l k else s) s) s

/-! ### An intermission resumes (R83, R184, R185, R431, R474) -/

/-- A logical bank that an understudy has taken over is restored from the channel's block of the snapshot area (R83). -/
def State.refillBank (s : State) (n : Fin 8) (b : Nat) : State :=
  let from_ := s.snapBlock n
  (List.range 12288).foldl (fun s row =>
    let a := 4096 * row + 64 * b
    let (s, d, _) := s.memRead (from_ + a) 64 []
    s.setChan n ((s.chan n).sramWrite (s.bankMap n) a d)) s

/-- Worn banks of a channel are retired, and their contents restored (R83). -/
def State.retireBanks (s : State) (n : Fin 8) : State :=
  let was := s.bankMap n
  let s := (s.chan n).worn.foldl (fun s e => if e.2 then s.retirePhysBank n e.1 else s) s
  ((List.range 64).filter fun b => decide (physBank was b ≠ physBank (s.bankMap n) b)).foldl (fun s b => s.refillBank n b) s

/-- What firmware retires at an intermission. -/
def State.retireAtInt (s : State) (errs : EccObs) : State := ((fins 8).foldl State.retireBanks s).retireMemory errs

/-- MSG_RESUME: k is committed, failed banks, pages and memory channels are retired, T_R is written into the records and RUN set (R83, R184,
R185, R431, R474). -/
def execMsgResume (s : State) (errs : EccObs := []) : Host.Outcome State Fault Refusal :=
  .next
    (s.onMsg msResume fun s m =>
      if s.fld safInt SAF_INT_STEP = 7 ∧ s.fw.int.k = m.k then
        let tr := leAt m.body 8 8
        let s := ((((s.commitInt m.k).retireAtInt errs).writeTick tr errs)).resumeAt tr
        { s with fw := { s.fw with run := s.fw.run.map fun r => { r with t0 := tr } } }
      else s)

/-! ### The self-test (R428) -/

/-- Whether firmware runs the self-test of a stopped channel: before a restart, on the target of a shadow and on TE16 (R111, R433). -/
def State.testsShadow (s : State) (n : Fin 8) : Bool :=
  decide (s.fld (chStatus n) CH_STATUS_STATE = stFault) && bit (s.rd (chFault n)).toNat 8

/-- What firmware does with the engines that failed a self-test: each is retired (R112, R433). -/
def State.retireEngines (s : State) (n : Fin 8) (fail : BitVec 17) : State := (maskList 17 fail.toNat).foldl (fun s e => s.retireEngine n e) s

/-- SELF_TEST_DONE: the self-test of a channel ends, in the closing checks of an intermission or before a restart; engines whose signature differs
are marked, raise SELF_TEST in an intermission, and are recorded (R427, R428, R433). -/
def execSelfTestDone (n : Fin 8) (fail : BitVec 17) (s : State) : Host.Outcome State Fault Refusal :=
  .next
    (let tested (s : State) : State := (s.setChan n ((s.chan n).testData s.free)).take testCount
     if s.fld safInt SAF_INT_STEP ≠ 2 then (if s.testsShadow n then (tested s).retireEngines n fail else s)
     else
       let s := tested { s with fw := { s.fw with int := { s.fw.int with tested := s.fw.int.tested.filter (· ≠ n.val) ++ [n.val] } } }
       if fail = 0 then s.intChecked
       else
         ((s.orBits safInt (setF 0 SAF_INT_BIST_FAIL fail.toNat)).raiseCause 15 n 0 none).retireEngines n fail)

end Sys2Proof.Machine
end

