-- ==== Sys2Proof/Machine/Resets.lean ====
section
/-!
DEFINITION. Resets (R14, R15, R122, R125, R211, R255, R293, R330, R336, R398, R440, R508, R522, R523, R526, R527, R559), power-up (R515, R520,
R521, R562).
-/

namespace Sys2Proof.Machine

/-! ### Parts -/

/-- A channel whose memories are kept and everything else is as after a reset (R122, R125, R527). -/
def Chan.keepMem (c : Chan) : Chan :=
  { Chan.reset with sregs := c.sregs, vregs := c.vregs, sram := c.sram, isram := c.isram, acc := c.acc, kind := c.kind,
                    active := c.active, standby := c.standby }

/-- A link after a reset (R336); the engine's laser switches stay as they are. -/
def LinkSt.cleared (x : LinkSt) : LinkSt := { LinkSt.reset with source := x.source }

/-- The PCI Express function after its configuration space returned to reset values but for sticky AER fields (R502, R508): `bar2` is its size. -/
def HostSt.cleared (x : HostSt) (bar2 : Nat) : HostSt := { State.reset.host with msixSent := x.msixSent, aer := x.aer, bar2 := bar2 }

/-- Firmware after a reset (R484, R527): what flash and fuses hold is kept. -/
def FwSt.reboot (x : FwSt) : FwSt :=
  { FwSt.reset with flash := x.flash, retired := x.retired, ledger := x.ledgerFlash, ledgerFlash := x.ledgerFlash,
                    slot1 := x.slot1, svnMin := x.svnMin }

/-- The first index of the register at an offset, when `p` holds of its kind. -/
def inBlock (n : Nat) (off : Nat) : Bool := match locate off with
  | some (_, i, _) => decide (i = n)
  | none => false

/-- Sets the state of channels that are in INIT, by number. -/
def State.setInit (s : State) (l : List Nat) : State := l.foldl (fun s n => s.setFld (chStatus n) CH_STATUS_STATE stInit) s

/-- The channels in INIT. -/
def State.inInit (s : State) : List Nat := (List.range 8).filter fun n => decide (s.fld (chStatus n) CH_STATUS_STATE = stInit)

/-- The route table's own entry after a reset (R293). -/
def State.ownRoute (s : State) : State :=
  (s.wr (netRoute (s.fld netPlace NET_PLACE_DEVICE_ID)) 6).showDrained

/-- Whether the MSI-X table returns to its reset values too. -/
def State.resetMsix (s : State) : State := ((List.range 8).foldl (fun s i => s.wr (msixTable i) (regReset (msixTable i))) s).wr msixPba 0

/-! ### A compute die returns from power gating (R526) -/

/-- Registers that the compute dies hold and STANDBY does not keep (R526, R527). -/
def standbyScope (off : Nat) : Bool :=
  decide ((0x01000000 ≤ off ∧ off < 0x01800000) ∨ off = mcScrubCtl ∨ (0x02000020 ≤ off ∧ off < 0x02000060) ∨ (0x02010000 ≤ off ∧ off < 0x03000000))

/-- Leaving STANDBY (R526): memory runs, channel memories hold zero, channel registers, arbiters and SOFT-class memory-channel fields are at
reset, and firmware re-applies the retirement list. -/
def State.leaveStandby (s : State) : State :=
  let s := s.resetRegs .soft standbyScope
  let s := { s with ch := s.ch.map fun _ => Chan.reset, arbs := [], pwr := { s.pwr with gated := false } }.selfRefresh false
  (s.setFld pwrState PWR_STATE_STATE 0).applyList [1, 2]

/-! ### HOT and SOFT (R508, R522, R527) -/

/-- What HOT and SOFT do alike, `r` the reset (R14, R211, R255, R293, R336, R398, R440, R484, R523, R527). -/
def State.resetCore (s : State) (r : Rst) : State :=
  let s := if s.fld pwrState PWR_STATE_STATE = 2 then s.leaveStandby else s
  let st := s.fld safStat SAF_STAT_STATE
  let init := s.inInit
  let s := (fins 24).foldl (fun s l => s.timLinkDown l) s
  let s := s.resetRegs r (fun _ => true)
  let s := { s with
    ch := s.ch.map Chan.keepMem
    mem := { s.mem with dirty := [], hostq := [], budget := 0, refill := s.now }
    arbs := []
    net := { NetSt.reset with winTick := s.now }
    lnk := s.lnk.map LinkSt.cleared
    saf := { SafSt.reset with
      noticed := s.saf.noticed
      haltCause := decide (st = 2)
      haltSteps := decide (st = 2)
      kicks := Vector.replicate 5 s.now }
    fw := s.fw.reboot
    host := { s.host with cpl := none }
    pwr := { s.pwr with change := none, goal := [] }
    signals := [] }
  let s := s.setFld safStat SAF_STAT_STATE (if st = 2 then 2 else 0)
  ((s.selfRefresh true).setInit init).ownRoute.showPins

/-- HOT (R508). -/
def State.hot (s : State) : State :=
  if s.heldReset then s
  else
    let s := s.resetCore .hot
    let s := { s with host := s.host.cleared 6 }
    ((s.setFld pwrReset PWR_RESET_LAST 2).bump pwrReset PWR_RESET_HOTS).nextCycle

/-- SOFT, by FLR or by the RESET command (R479, R508). -/
def State.soft (s : State) (byFlr : Bool) : State :=
  if s.heldReset then s
  else
    let s := s.resetCore .soft
    let s := if byFlr then { s.resetMsix with host := s.host.cleared s.host.bar2 } else s
    ((s.setFld pwrReset PWR_RESET_LAST 3).bump pwrReset PWR_RESET_SOFTS).nextCycle

/-- HOT_RESET (R508). -/
def execHotReset (s : State) : Host.Outcome State Fault Refusal := .next s.hot

/-- FLR (R508). -/
def execFlr (s : State) : Host.Outcome State Fault Refusal := .next (s.soft true)

/-! ### CHN and LNK (R125, R330) -/

/-- What channel `n` asks of the memory channels' arbiters is withdrawn, and its holds end (R194). -/
def State.dropPort (s : State) (n : Fin 8) : State :=
  (s.arbs.filter fun e => decide (e.1 < 128)).foldl (fun s e =>
    let a := ArbId.mem (memNo e.1)
    let k : Fin 10 := n.castLE (by decide)
    if (s.arb a).reqs[k].masked then s else (s.arbMask a k).arbUnmask a k) s

/-- A channel reset (R125, R194). A channel whose memories are being initialised stays in INIT. -/
def State.resetChannel (s : State) (n : Fin 8) : State :=
  if s.heldReset || s.pwr.gated then s
  else
    let init := s.inInit.filter (· = n.val)
    let s := s.setChan n { (s.chan n).keepMem with portClosed := true }
    let s := s.resetRegs .chn (inBlock n)
    let s := (s.setInit init).dropPort n
    { s with arbs := kfilter (fun k => !decide (128 + 64 * n.val ≤ k ∧ k < 192 + 64 * n.val)) s.arbs }.nextCycle

/-- CHANNEL_RESET (R125). -/
def execChannelReset (n : Fin 8) (s : State) : Host.Outcome State Fault Refusal := .next (s.resetChannel n)

/-- What the receive buffers of a link still hold (R293): shown again after a reset of the books. -/
def State.showHeld (s : State) (l : Fin 24) : State :=
  (List.range 4).foldl (fun s v =>
    let (d, h) := kget (fun _ => (0, 0)) (s.link l).stale v
    (s.setFld (lnkCredRx l v) LNK_CRED_RX_HELD_D (8 * d)).setFld (lnkCredRx l v) LNK_CRED_RX_HELD_H h) s

/-- A link reset (R293, R327, R330, R336): a link that is in INIT or UP goes down, its ring is flushed at once, waiting packets are held for the
grace, and a link with EN set trains afresh. -/
def State.resetLink (s : State) (l : Fin 24) : State :=
  if s.heldReset then s
  else
    let on := decide (s.lstate l ≠ lsOff)
    let s := if s.lstate l < lsInit then s else s.wentDown l LNK_EVENT_DOWN
    let grace := ((s.link l).grace).getD (s.now + 1000 * s.graceUs l)
    let s := ((s.flushPartial l).flushRing l).resetRegs .lnk (inBlock l)
    let retrain : Lctl := ⟨0x0A, leBytes 1 LNK_EVENT_DOWN.lo⟩
    let s := s.modLink l fun x => { x.cleared with
      txFree := x.txFree, line := x.line, lit := x.lit, stale := x.stale, grace := some grace
      cmds := if on then [retrain] else [], pend := if on then [⟨retrain, 1, s.now⟩] else [] }
    let s := ((s.setFlag (lnkStatus l) LNK_STATUS_HOLD).showGrace l).showHeld l
    let s := (s.showHop l).setFld (lnkStatus l) LNK_STATUS_POOL (b2n (on && decide (s.fld (netPortMap l) NET_PORT_MAP_ROLE = 2)))
    (if on then s.beginTraining l else s).showDrained.nextCycle

/-- LINK_RESET (R330). -/
def execLinkReset (l : Fin 24) (s : State) : Host.Outcome State Fault Refusal := .next (s.resetLink l)

/-! ### MOD (R522, R559) -/

/-- The state that POR and MOD leave, beside what outlasts them (R527). -/
def State.cleared (s : State) : State :=
  { State.reset with
    regs := s.regs
    pending := s.pending
    free := s.free
    fw := s.fw.reboot
    host := { State.reset.host with msixSent := s.host.msixSent }
    brd := { State.reset.brd with shift := s.brd.shift, reply := s.brd.reply, drive := s.brd.drive, dbg := s.brd.dbg } }

/-- What POR and MOD write into registers beside their reset values (R121, R293). -/
def State.clearedRegs (s : State) : State := ((s.setInit (List.range 8)).ownRoute).nextCycle

/-- MOD begins (R522, R523, R559). -/
def State.modBegin (s : State) (pins : Nat) : State :=
  let pwr := s.pwr.moveTicks (-(s.now : Int))
  let s := (s.resetRegs .mod (fun _ => true)).cleared
  let s := { s.clearedRegs with pwr := { pwr with gated := false, mod := true, change := none, goal := [] } }
  let s := (s.setFld brdPin BRD_PIN_RESET_IN (pins % 2)).setFld brdPin BRD_PIN_PERST_IN (pins / 2 % 2)
  ((s.setFld pwrReset PWR_RESET_LAST 1).bump pwrReset PWR_RESET_MODS).showPins.nextCycle

/-- MOD_RESET: RESET_N, PERST_N or both have been low for 10 µs: which, the command does not say, and is a free choice (R559). -/
def execModReset (s : State) : Host.Outcome State Fault Refusal :=
  .next (if s.heldReset then s else (s.take 1).modBegin (s.pick 3 + 1))

/-- The straps are latched, and the static address follows them (R560, R566, R577). -/
def State.latchStraps (s : State) (straps : BitVec 4) : State :=
  let s := s.setFld brdStrap ⟨0, 4⟩ straps.toNat
  let x := s.fld brdStrap BRD_STRAP_SLOT_X
  let y := s.fld brdStrap BRD_STRAP_SLOT_Y
  s.setFld brdI3c BRD_I3C_STATIC_ADDR (0x58 + (if s.flag brdStrap BRD_STRAP_CARRIER then 2 * y + x else 0))

/-- MOD_RESET_RELEASE: both pins have been high for 1 µs: MOD ends and the straps are latched (R559, R560). -/
def execModResetRelease (straps : BitVec 4) (s : State) : Host.Outcome State Fault Refusal :=
  .next
    (if s.pwr.mod && !s.pwr.por then
       let s := ((s.setFld brdPin BRD_PIN_RESET_IN 0).setFld brdPin BRD_PIN_PERST_IN 0).modPwr fun p => { p with mod := false }
       (s.latchStraps straps).showPins
     else s)

/-- RESET_GLITCH: a pulse too short for a MOD is counted (R559, R578). -/
def execResetGlitch (_perst : Bool) (s : State) : Host.Outcome State Fault Refusal :=
  .next (if s.heldReset then s else s.bump brdPin BRD_PIN_GLITCHES)

/-! ### POR and power-up (R515, R520 to R523, R562) -/

/-- POR is asserted: all but flash, fuses and what no reset clears is lost (R15, R16); the straps' values last, since their pins are strapped
(R522, R527, R560). -/
def State.porBegin (s : State) : State :=
  let straps := BitVec.ofNat 4 (s.fld brdStrap ⟨0, 4⟩)
  let t := ((s.resetRegs .por (fun _ => true)).cleared.clearedRegs).latchStraps straps
  { t with brd := { State.reset.brd with shift := t.idcode }, pwr := { PwrSt.reset with por := true } }.showPins.nextCycle

/-- POR (R522). -/
def execPor (s : State) : Host.Outcome State Fault Refusal := .next s.porBegin

/-- POR_AFTER_CROSSING: 200 µs after VIN crossed its reset or overvoltage level (R517, R519). -/
def execPorAfterCrossing (s : State) : Host.Outcome State Fault Refusal :=
  .next
    (match s.pwr.porAt with
     | some t => if t ≤ s.pwr.onTicks then s.porBegin else s
     | none => s)

/-- POWER_UP: the rails come up at the voltages of the ledger, and POR is released once VIN has been in range for 10 ms and the three clocks it
needs are there (R515, R521, R562). -/
def execPowerUp (s : State) : Host.Outcome State Fault Refusal :=
  .next
    (if s.pwr.por && decide (s.fld pwrClk PWR_CLK_LOST % 8 = 0 ∧ 10000 ≤ s.pwr.okRun) then
       let l := s.fw.ledgerFlash
       let s := (List.range 12).foldl (fun s r =>
         let v := kget (fun _ => 0) l.rails r
         if v = 0 then s else s.setFld (pwrRail r) PWR_RAIL_SET v) s
       (s.modPwr fun p => { p with por := false, hours0 := l.hours, okRun := 0 }).showPins
     else s)

/-- RAIL_FAULT: a rail is outside ±3 % of its setpoint for 10 µs (R520, R553); VDD_AON out of regulation asserts POR (R522). Rails of
gated dies are down on purpose. -/
def execRailFault (r : Fin 20) (meas : BitVec 10) (s : State) : Host.Outcome State Fault Refusal :=
  .next
    (let set := s.fld (pwrRail r) PWR_RAIL_SET
     let m := meas.toNat
     if s.pwr.por || (s.pwr.gated && decide (r.val < 10)) then s
     else
       let s := (s.setFld (pwrRail r) PWR_RAIL_MEAS m).setFld (pwrRail r) PWR_RAIL_MIN (min m (s.fld (pwrRail r) PWR_RAIL_MIN))
       if 97 * set ≤ 100 * m ∧ 100 * m ≤ 103 * set then s
       else
         let s := ((s.setFlag (pwrRail r) PWR_RAIL_OUT).setFld pwrSupplyEvt PWR_SUPPLY_EVT_RAIL r).supplyFault PWR_SUPPLY_EVT_RAIL_FAULT 1
         if r.val = 11 then s.porBegin else s)

/-! ### Memory leaves self-refresh (R211, R509) -/

/-- SELF_REFRESH_EXIT: after a SOFT or HOT reset, memory runs again; in STANDBY and halt it stays in self-refresh (R416, R509, R524). -/
def execSelfRefreshExit (s : State) : Host.Outcome State Fault Refusal :=
  .next
    (if s.mem.selfRefresh && decide (s.fld safStat SAF_STAT_STATE ≠ 2 ∧ s.fld pwrState PWR_STATE_STATE ≠ 2) && !s.saf.haltSteps &&
        !s.pwr.gated && !s.heldReset then
       s.selfRefresh false
     else s)

end Sys2Proof.Machine
end

