-- ==== Sys2Proof/Machine/Host.lean ====
section
/-!
DEFINITION. The host link: configuration space (R5, R498, R499), and the events of R496, R497, R501, R502, R506, R507, R510 and R514.
-/

namespace Sys2Proof.Machine

/-! ### Configuration space (R5, R498, R499) -/

/-- The Revision ID (R5, R498). -/
def State.revisionId (s : State) : Nat := s.fld ctlChipId CTL_CHIP_ID_STEPPING

/-- A capability, with what of it belongs to the device (R499). -/
inductive Capability where
  | powerManagement (d3hot noSoftReset pme : Bool)
  | pciExpress (maxPayload : Nat) (flr : Bool)
  | msix (vectors table pba : Nat)
  | advancedErrorReporting
  | serialNumber (n : Nat)
  | resizableBar (bar least greatest size : Nat)
  | secondaryPciExpress
  | dataLinkFeature
  | physicalLayer16
  | physicalLayer32
  | physicalLayer64
  | laneMargining
  | deviceCapabilities3
  deriving DecidableEq, Repr

/-- The capability list (R496, R499, R502): sizes of BAR2 as powers of two of GiB. -/
def State.capabilities (s : State) : List Capability :=
  [.powerManagement true true false, .pciExpress 512 true, .msix 4 0x2000 0x3000, .advancedErrorReporting, .serialNumber Config.serial,
    .resizableBar 2 0 10 s.host.bar2, .secondaryPciExpress, .dataLinkFeature, .physicalLayer16, .physicalLayer32, .physicalLayer64,
    .laneMargining, .deviceCapabilities3]

/-! ### Requests and events (R496, R497, R501, R502, R506, R507, R510, R514) -/

/-- Whether the function answers requests to its BARs. -/
def State.hostUp (s : State) : Bool := !s.heldReset && !s.host.d3

/-- An Unsupported Request of a read or a write is logged (R507, R513). -/
def State.unsupported (s : State) (write : Bool) : State :=
  if write then (s.aerLog 8).alert [25] else ((s.complete 1 []).aerLog 8).alert [24]

/-- BAR0_BAD_ACCESS (R501). -/
def execBar0BadAccess (write : Bool) (s : State) : Host.Outcome State Fault Refusal :=
  .next (if s.hostUp then (s.bump ctlPcieStat CTL_PCIE_STAT_BAD_ACCESS).unsupported write else s)

/-- ATOMICOP_REQUEST (R496, R507). -/
def execAtomicopRequest (s : State) : Host.Outcome State Fault Refusal := .next (if s.hostUp then s.unsupported false else s)

/-- BAR2_RESIZE: the size code of the Resizable BAR capability, 2^code MiB; only 1 GiB to 1 TiB are offered (R502; log entry 25). -/
def execBar2Resize (code : Nat) (s : State) : Host.Outcome State Fault Refusal :=
  .next (if 10 ≤ code ∧ code ≤ 20 ∧ !s.heldReset then { s with host := { s.host with bar2 := code - 10 } } else s)

/-- A vector's mask clears; a pending message is sent (R506). -/
def State.unmask (s : State) (v : Nat) : State :=
  if bit (s.rd msixPba).toNat v && !s.vectorMasked v && s.host.msixEnable && s.host.busMaster then
    let s := s.setFld msixPba (bitF v) 0
    { s with host := { s.host with msixSent := s.host.msixSent ++ [v] } }
  else s

/-- MSIX_UNMASK (R506). -/
def execMsixUnmask (v : Fin 4) (s : State) : Host.Outcome State Fault Refusal :=
  .next (if s.hostUp then (s.setFld (msixTable (2 * v + 1)) (bitF 32) 0).unmask v else s)

/-- D3HOT_ENTRY (R510). -/
def execD3hotEntry (s : State) : Host.Outcome State Fault Refusal :=
  .next (if s.heldReset then s else { s with host := { s.host with d3 := true } })

/-- D0_RETURN (R510). -/
def execD0Return (s : State) : Host.Outcome State Fault Refusal :=
  .next (if s.heldReset then s else { s with host := { s.host with d3 := false } })

/-- HOST_LINK_CHANGE: the host link trains, or changes rate or width (R497, R512, R513); a link that goes down resets the device (R508). -/
def execHostLinkChange (speed : Fin 8) (width : Nat) (s : State) : Host.Outcome State Fault Refusal :=
  .next
    (if s.heldReset then s
     else
       let w := if speed.val = 0 then 0 else width
       let moved := decide (s.fld ctlPcieStat CTL_PCIE_STAT_SPEED ≠ speed.val ∨ s.fld ctlPcieStat CTL_PCIE_STAT_WIDTH ≠ w % 32)
       let was := s.fld ctlPcieStat CTL_PCIE_STAT_SPEED
       let s := ((s.setFld ctlPcieStat CTL_PCIE_STAT_SPEED speed).setFld ctlPcieStat CTL_PCIE_STAT_WIDTH w).setFld ctlPcieStat
         CTL_PCIE_STAT_FLIT (b2n (decide (6 ≤ speed.val)))
       let s := s.setFld ctlPcieStat CTL_PCIE_STAT_BELOW_SERVICE (b2n (decide (speed.val ≠ 0 ∧ (speed.val < 5 ∨ w ≠ 16))))
       if speed.val = 0 ∧ was ≠ 0 then s.hot else if moved then s.alert [26] else s)

/-- CTL_HOST_RAISE, a write to the register: alerts that firmware raises; a write from the host is ignored (R514). -/
def State.writeHostRaise (s : State) (v : Word64) (fromHost : Bool) : State :=
  if fromHost then s
  else s.alert ((maskList 32 v.toNat).filter fun b => decide (b ∈ [0, 8, 9, 10, 11, 12, 16, 17, 18, 24, 25, 26]))

/-- CTL_HOST_RAISE (R514). -/
def execCtlHostRaise (value : Word64) (fromHost : Bool) (s : State) : Host.Outcome State Fault Refusal :=
  .next (if s.heldReset then s else s.writeHostRaise value fromHost)

/-- An AER error's place in the log. -/
def aerBit : AerErr → Nat
  | .receiver => 0
  | .badTlp => 1
  | .badDllp => 2
  | .replayTimeout => 3
  | .replayRollover => 4
  | .malformedTlp => 5
  | .ecrc => 6
  | .internal => 7

/-- AER_ERROR_LOGGED (R507, R513). -/
def execAerErrorLogged (e : AerErr) (s : State) : Host.Outcome State Fault Refusal :=
  .next (if s.heldReset then s else (s.aerLog (aerBit e)).alert [if aerBit e < 5 then 24 else 25])

end Sys2Proof.Machine
end

