-- ==== Sys2Proof/Machine/Keccak.lean ====
section
/-!
DEFINITION. SHAKE128 and SHAKE256 of FIPS 202, the standard that R17 names for hashing (R166, R480 to R482, R487, R489).
-/

namespace Sys2Proof.Machine

/-- The state of Keccak-f[1600]: lane (x, y) at 5 y + x. -/
abbrev Lanes := List Word64

/-- The lane at (x, y), coordinates modulo 5. -/
def laneAt (a : Lanes) (x y : Nat) : Word64 := nth 0 a (5 * (y % 5) + x % 5)

/-- The parity of column x. -/
def colParity (a : Lanes) (x : Nat) : Word64 := (List.range 5).foldl (fun p y => p ^^^ laneAt a x y) 0

/-- θ. -/
def keccakTheta (a : Lanes) : Lanes :=
  let c := (List.range 5).map (colParity a)
  let d := (List.range 5).map fun x => nth 0 c ((x + 4) % 5) ^^^ (nth 0 c ((x + 1) % 5)).rotateLeft 1
  a.zipIdx.map fun l => l.1 ^^^ nth 0 d (l.2 % 5)

/-- The rotations of ρ, by lane. -/
def rhoOffsets : List Nat :=
  [0, 1, 62, 28, 27, 36, 44, 6, 55, 20, 3, 10, 43, 25, 39, 41, 45, 15, 21, 8, 18, 2, 61, 56, 14]

/-- ρ, then π. -/
def keccakRhoPi (a : Lanes) : Lanes :=
  let r := a.zipIdx.map fun l => l.1.rotateLeft (nth 0 rhoOffsets l.2)
  (List.range 25).map fun i => laneAt r (i % 5 + 3 * (i / 5)) (i % 5)

/-- χ. -/
def keccakChi (a : Lanes) : Lanes :=
  (List.range 25).map fun i =>
    laneAt a (i % 5) (i / 5) ^^^ (~~~(laneAt a (i % 5 + 1) (i / 5)) &&& laneAt a (i % 5 + 2) (i / 5))

/-- The constants of ι, by round. -/
def iotaConst : List Word64 :=
  [0x0000000000000001, 0x0000000000008082, 0x800000000000808A, 0x8000000080008000, 0x000000000000808B, 0x0000000080000001,
    0x8000000080008081, 0x8000000000008009, 0x000000000000008A, 0x0000000000000088, 0x0000000080008009, 0x000000008000000A] ++
  [0x000000008000808B, 0x800000000000008B, 0x8000000000008089, 0x8000000000008003, 0x8000000000008002, 0x8000000000000080,
    0x000000000000800A, 0x800000008000000A, 0x8000000080008081, 0x8000000000008080, 0x0000000080000001, 0x8000000080008008]

/-- A round. -/
def keccakRound (a : Lanes) (rc : Word64) : Lanes :=
  match keccakChi (keccakRhoPi (keccakTheta a)) with
  | l :: rest => (l ^^^ rc) :: rest
  | [] => []

/-- Keccak-f[1600]. -/
def keccakF (a : Lanes) : Lanes := iotaConst.foldl keccakRound a

/-- The suffix 1111 of an extendable output and the padding of a sponge of `rate` bytes, for a message of `n` bytes. -/
def shakePad (rate n : Nat) : List Byte :=
  let k := rate - n % rate
  if k = 1 then [0x9F] else [0x1F] ++ List.replicate (k - 2) 0 ++ [0x80]

/-- A block is added to the state. -/
def keccakAbsorb (a : Lanes) (b : List Byte) : Lanes := keccakF (a.zipIdx.map fun l => l.1 ^^^ BitVec.ofNat 64 (leAt b (8 * l.2) 8))

/-- `k` blocks of output. -/
def keccakSqueeze (rate : Nat) : Nat → Lanes → List Byte
  | 0, _ => []
  | k + 1, a => (a.flatMap fun l => leBytes 8 l.toNat).take rate ++ keccakSqueeze rate k (keccakF a)

/-- The first `n` bytes of an extendable-output function with this rate. -/
def shake (rate : Nat) (m : List Byte) (n : Nat) : List Byte :=
  let p := m ++ shakePad rate m.length
  (keccakSqueeze rate ((n + rate - 1) / rate) ((chunks rate p.length p).foldl keccakAbsorb (List.replicate 25 0))).take n

/-- SHAKE128 (FIPS 202). -/
def shake128 (m : List Byte) (n : Nat) : List Byte := shake 168 m n

/-- SHAKE256 (FIPS 202, R17): the first `n` bytes for an input. -/
def shake256 (m : List Byte) (n : Nat) : List Byte := shake 136 m n

end Sys2Proof.Machine
end

