-- ==== Sys2Proof/Machine/MlDsa.lean ====
section
/-!
DEFINITION. ML-DSA-65 of FIPS 204 (R17): key generation, the deterministic variant of pure signing, and verification (R481, R482, R487). The
loops that FIPS 204 lets an implementation bound are bounded.
-/

namespace Sys2Proof.Machine

/-! ### The ring (FIPS 204, 7.5 and 7.6) -/

/-- q. -/
def dsaQ : Nat := 8380417

/-- A polynomial, or its transform: 256 coefficients modulo q. -/
abbrev Poly := List Nat

/-- A number modulo q. -/
def modQ (x : Int) : Nat := (x % (dsaQ : Int)).toNat

/-- A difference modulo q: `a - z`. -/
def fromQ (a z : Nat) : Nat := modQ ((a : Int) - (z : Int))

/-- The representative of a coefficient of least magnitude. -/
def centred (x : Nat) : Int := if dsaQ / 2 < x then (x : Int) - dsaQ else x

/-- The eight bits of a number reversed. -/
def bitRev8 (m : Nat) : Nat := sumNat ((List.range 8).map fun i => b2n (bit m i) * 2 ^ (7 - i))

def polyAdd (a b : Poly) : Poly := List.zipWith (fun x y => (x + y) % dsaQ) a b
def polySub (a b : Poly) : Poly := List.zipWith (fun x y => (x + dsaQ - y) % dsaQ) a b
def polyMul (a b : Poly) : Poly := List.zipWith (fun x y => x * y % dsaQ) a b
def polyScale (k : Nat) (a : Poly) : Poly := a.map fun x => k * x % dsaQ

/-- The transform of `2^depth` coefficients; `m` numbers the root used. -/
def nttAt : Nat → Nat → Poly → Poly
  | 0, _, a => a
  | d + 1, m, a =>
    let lo := a.take (2 ^ d)
    let hi := polyScale (1753 ^ bitRev8 m % dsaQ) (a.drop (2 ^ d))
    nttAt d (2 * m) (polyAdd lo hi) ++ nttAt d (2 * m + 1) (polySub lo hi)

/-- The inverse of `nttAt`, times 2^depth. -/
def invNttAt : Nat → Nat → Poly → Poly
  | 0, _, a => a
  | d + 1, m, a =>
    let lo := invNttAt d (2 * m) (a.take (2 ^ d))
    let hi := invNttAt d (2 * m + 1) (a.drop (2 ^ d))
    polyAdd lo hi ++ polyScale (1753 ^ (512 - bitRev8 m) % dsaQ) (polySub lo hi)

def ntt (a : Poly) : Poly := nttAt 8 1 a
def invNtt (a : Poly) : Poly := polyScale 8347681 (invNttAt 8 1 a)

/-- A row of a matrix times a vector, both transformed. -/
def nttDot (row v : List Poly) : Poly := (List.zipWith polyMul row v).foldl polyAdd (List.replicate 256 0)

/-! ### Packing and sampling (FIPS 204, 7.1 to 7.3) -/

/-- Numbers of `w` bits, the first lowest. -/
def dsaPack (w : Nat) (l : List Nat) : List Byte := leBytes (32 * w) (l.foldr (fun c acc => c + 2 ^ w * acc) 0)

/-- 256 numbers of `w` bits. -/
def dsaUnpack (w : Nat) (b : List Byte) : List Nat :=
  let n := leNat b
  (List.range 256).map fun i => n / 2 ^ (w * i) % 2 ^ w

/-- RejNTTPoly. -/
def rejNtt (seed : List Byte) : Poly :=
  (((chunks 3 336 (shake128 seed 1008)).map fun t => leNat t % 2 ^ 23).filter fun z => decide (z < dsaQ)).take 256

/-- RejBoundedPoly, for coefficients of -4 to 4. -/
def rejBounded (seed : List Byte) : Poly :=
  (((shake256 seed 544).flatMap fun b => [b.toNat % 16, b.toNat / 16]).filter fun z => decide (z < 9)).take 256 |>.map (fromQ 4)

/-- ExpandA: six rows of five. -/
def expandA (rho : List Byte) : List (List Poly) :=
  (List.range 6).map fun r => (List.range 5).map fun s => rejNtt (rho ++ leBytes 1 s ++ leBytes 1 r)

/-- The step of SampleInBall that places sign `k` at `i`: the bytes left, and the polynomial. -/
def ballStep (signs : List Byte) (acc : List Byte × Poly) (k : Nat) : List Byte × Poly :=
  let i := 207 + k
  match acc.1.dropWhile fun b => decide (i < b.toNat) with
  | j :: rest => (rest, (acc.2.set i (nth 0 acc.2 j.toNat)).set j.toNat (if bit (leNat signs) k then dsaQ - 1 else 1))
  | [] => ([], acc.2)

/-- SampleInBall: 49 coefficients of ±1. -/
def sampleInBall (seed : List Byte) : Poly :=
  let x := shake256 seed 408
  ((List.range 49).foldl (ballStep (x.take 8)) (x.drop 8, List.replicate 256 0)).2

/-! ### Rounding and hints (FIPS 204, 7.4) -/

/-- Power2Round: the high part, and the low one modulo q. -/
def power2Round (r : Nat) : Nat × Nat :=
  let r0 : Int := if 4096 < r % 8192 then (r % 8192 : Nat) - 8192 else (r % 8192 : Nat)
  ((((r : Int) - r0) / 8192).toNat, modQ r0)

/-- Decompose with γ2 = 261,888. -/
def decompose (r : Nat) : Nat × Int :=
  let r0 : Int := if 261888 < r % 523776 then (r % 523776 : Nat) - 523776 else (r % 523776 : Nat)
  if (r : Int) - r0 = dsaQ - 1 then (0, r0 - 1) else ((((r : Int) - r0) / 523776).toNat, r0)

/-- UseHint. -/
def useHint (h : Bool) (r : Nat) : Nat :=
  let (r1, r0) := decompose r
  if !h then r1 else if 0 < r0 then (r1 + 1) % 16 else (r1 + 15) % 16

/-- Whether every coefficient is below a bound in magnitude. -/
def normBelow (b : Int) (v : List Poly) : Bool := v.all fun p => p.all fun x => decide ((centred x).natAbs < b.natAbs)

/-- HintBitPack. -/
def packHint (h : List (List Bool)) : List Byte :=
  let ones := h.map fun p => (List.range 256).filter fun j => nth false p j
  let l := ones.flatten
  let ends := (List.range 6).map fun i => ((ones.take (i + 1)).map List.length).foldl (· + ·) 0
  (l ++ List.replicate (55 - l.length) 0 ++ ends).map (BitVec.ofNat 8)

/-- HintBitUnpack: none where the encoding is malformed. -/
def unpackHint (y : List Byte) : Option (List (List Bool)) :=
  let ends := (List.range 6).map fun i => (nth 0 y (55 + i)).toNat
  let from_ (i : Nat) : Nat := if i = 0 then 0 else nth 0 ends (i - 1)
  let part (i : Nat) : List Nat := ((y.take (nth 0 ends i)).drop (from_ i)).map (·.toNat)
  let ok := (List.range 6).all (fun i => decide (from_ i ≤ nth 0 ends i ∧ nth 0 ends i ≤ 55) &&
    decide ((part i).Pairwise (· < ·))) && (((y.take 55).drop (from_ 6)).all fun b => decide (b = 0))
  if ok then some ((List.range 6).map fun i => (List.range 256).map fun j => (part i).contains j) else none

/-- w1Encode. -/
def w1Encode (w1 : List (List Nat)) : List Byte := w1.flatMap (dsaPack 4)

/-! ### Keys, signing and verification (FIPS 204, 5 and 6) -/

/-- A key pair as KeyGen_internal makes it, the secret vectors transformed. -/
structure DsaKey where
  pk : List Byte
  rho : List Byte
  k : List Byte
  s1 : List Poly
  s2 : List Poly
  t0 : List Poly
  deriving DecidableEq, Repr

/-- ML-DSA.KeyGen_internal. -/
def dsaKeyGen (xi : List Byte) : DsaKey :=
  let h := shake256 (xi ++ [6, 5]) 128
  let rho := slice h 0 32
  let secret (r : Nat) : Poly := rejBounded (slice h 32 64 ++ leBytes 2 r)
  let s1 := ((List.range 5).map secret).map ntt
  let s2 := (List.range 6).map fun r => secret (r + 5)
  let t := List.zipWith (fun row e => (polyAdd (invNtt (nttDot row s1)) e).map power2Round) (expandA rho) s2
  ⟨rho ++ t.flatMap (fun p => dsaPack 10 (p.map (·.1))), rho, slice h 96 32, s1, s2.map ntt, t.map fun p => ntt (p.map (·.2))⟩

/-- The message representative μ for a context and a message. -/
def dsaMu (pk ctx m : List Byte) : List Byte := shake256 (shake256 pk 64 ++ leBytes 1 0 ++ leBytes 1 ctx.length ++ ctx ++ m) 64

/-- An attempt of ML-DSA.Sign_internal with counter `kappa`; none where it is rejected. -/
def dsaAttempt (key : DsaKey) (a : List (List Poly)) (mu rho2 : List Byte) (kappa : Nat) : Option (List Byte) :=
  let y := (List.range 5).map fun r =>
    (dsaUnpack 20 (shake256 (rho2 ++ leBytes 2 (kappa + r)) 640)).map (fromQ 524288)
  let yh := y.map ntt
  let w := a.map fun row => invNtt (nttDot row yh)
  let c := shake256 (mu ++ w1Encode (w.map fun p => p.map fun x => (decompose x).1)) 48
  let ch := ntt (sampleInBall c)
  let times (v : List Poly) : List Poly := v.map fun p => invNtt (polyMul ch p)
  let z := List.zipWith polyAdd y (times key.s1)
  let r := List.zipWith polySub w (times key.s2)
  let ct0 := times key.t0
  let h := List.zipWith (fun p t => List.zipWith (fun x u => decide ((decompose ((x + u) % dsaQ)).1 ≠ (decompose x).1)) p t) r ct0
  if normBelow (524288 - 196) z && r.all (fun p => p.all fun x => decide ((decompose x).2.natAbs < 261888 - 196)) && normBelow 261888 ct0 &&
      decide (sumNat (h.map fun p => (p.filter id).length) ≤ 55) then
    some (c ++ z.flatMap (fun p => dsaPack 20 (p.map fun x => (524288 - centred x).toNat)) ++ packHint h)
  else none

/-- Attempts from `kappa` on; `n` bounds them. -/
def dsaAttempts (key : DsaKey) (a : List (List Poly)) (mu rho2 : List Byte) : Nat → Nat → List Byte
  | 0, _ => []
  | n + 1, kappa =>
    match dsaAttempt key a mu rho2 kappa with
    | some s => s
    | none => dsaAttempts key a mu rho2 n (kappa + 5)

/-- Pure ML-DSA-65 signing with a context, deterministic variant (R482). -/
def mldsaSign (key : DsaKey) (ctx m : List Byte) : List Byte :=
  let mu := dsaMu key.pk ctx m
  dsaAttempts key (expandA key.rho) mu (shake256 (key.k ++ List.replicate 32 0 ++ mu) 64) 1000 0

/-- Pure ML-DSA-65 verification with a context (R481, R482). -/
def mldsaVerify (ctx pk m sig : List Byte) : Bool :=
  let z := (List.range 5).map fun i => (dsaUnpack 20 (slice sig (48 + 640 * i) 640)).map (fromQ 524288)
  match unpackHint (slice sig 3248 61) with
  | none => false
  | some h =>
    let t1 := (List.range 6).map fun i => ntt ((dsaUnpack 10 (slice pk (32 + 320 * i) 320)).map (· * 8192))
    let ch := ntt (sampleInBall (slice sig 0 48))
    let zh := z.map ntt
    let w := List.zipWith (fun row t => invNtt (polySub (nttDot row zh) (polyMul ch t))) (expandA (slice pk 0 32)) t1
    let w1 := List.zipWith (fun p b => List.zipWith useHint b p) w h
    normBelow (524288 - 196) z && decide (shake256 (dsaMu pk ctx m ++ w1Encode w1) 48 = slice sig 0 48)

end Sys2Proof.Machine
end

