-- ==== Sys2Proof/Machine/Image.lean ====
section
/-!
DEFINITION. The program image (R163 to R165, R248) and the checks of R166, R423 and R470 that firmware makes of it.
-/

namespace Sys2Proof.Machine

/-! ### What firmware reads of device memory -/

/-- Firmware reads device memory. What a read gives that memory cannot serve, or that is not correctable, the manual does not say: free
bytes (log entry 27). `errs` names sectors by channel × 2^28 + sector. -/
def State.fwRead (s : State) (a len : Nat) (errs : EccObs) : State × List Byte :=
  if !s.memUsable then (s.take len, freeBytes s.free len)
  else
    match s.memRead a len (s.errsAt a len errs) with
    | (s, b, []) => (s, b)
    | (s, _, _) => (s.take len, freeBytes s.free len)

/-! ### Layout (R163, R164) -/

/-- An image as staged. -/
abbrev Img := List Byte

/-- The steps of ARITH in MHz, by code (R163, R528). -/
def stepMHz : List Nat := [1300, 1250, 1200, 1100, 1000, 900, 800, 650]

/-- The code of a step. -/
def stepCode (mhz : Nat) : Option Nat := stepMHz.findIdx? fun x => decide (x = mhz)

def Img.lat (b : Img) : Nat := leAt b 0x06 2
def Img.flags (b : Img) : Nat := leAt b 0x08 4
def Img.step (b : Img) : Nat := leAt b 0x0C 2
def Img.sections (b : Img) : Nat := leAt b 0x0E 2
def Img.shape (b : Img) : Nat := leAt b 0x20 3
def Img.devices (b : Img) : Nat := leAt b 0x24 2
def Img.reserve (b : Img) : Nat := leAt b 0x40 4

/-- The DELAY range of a direction: least and greatest. -/
def Img.delay (b : Img) (d : Nat) : Nat × Nat := (leAt b (0x28 + 4 * d) 2, leAt b (0x2A + 4 * d) 2)

/-- An entry of the section directory (R164). -/
structure Sect where
  type : Nat
  device : Nat
  channel : Nat
  offset : Nat
  bytes : Nat
  target : Nat
  deriving DecidableEq, Repr

/-- The section directory. -/
def Img.directory (b : Img) : List Sect :=
  (List.range b.sections).map fun k =>
    let o := 0x100 + 32 * k
    ⟨leAt b o 2, leAt b (o + 2) 2, leAt b (o + 4) 1, leAt b (o + 8) 8, leAt b (o + 16) 8, leAt b (o + 24) 8⟩

/-- The contents of a section. -/
def Img.body (b : Img) (x : Sect) : List Byte := slice b x.offset x.bytes

/-- The sections that apply on the device of a logical index: its own in place of those for every device (R164). -/
def Img.mine (b : Img) (idx : Nat) : List Sect :=
  let l := b.directory.filter fun x => decide (x.device = idx ∨ x.device = 0xFFFF)
  l.filter fun x => decide (x.device = idx) || !(l.any fun y => decide (y.device = idx ∧ y.type = x.type ∧ y.channel = x.channel))

/-- Those of a type. -/
def Img.ofType (b : Img) (idx t : Nat) : List Sect := (b.mine idx).filter fun x => decide (x.type = t)

/-- The channels that have a CODE section. -/
def Img.coded (b : Img) (idx : Nat) : List Nat := (List.range 8).filter fun n => (b.ofType idx 1).any fun x => decide (x.channel = n)

/-- INPUT_REGIONS: start and length of each range. -/
def Img.inputs (b : Img) (idx : Nat) : List (Nat × Nat) :=
  (b.ofType idx 8).flatMap fun x => (List.range (x.bytes / 16)).map fun i => (leAt b (x.offset + 16 * i) 8, leAt b (x.offset + 16 * i + 8) 8)

/-! ### CIRCUITS (R248) -/

/-- The phases of a CIRCUITS section: records of circuit number and entry. -/
structure Circuits where
  phases : List (List (Nat × Nat))
  seq : List Nat
  swapCh : Nat
  swapCue : Nat
  cyclic : Bool
  /-- The section is laid out as R248 gives, and no phase has more than 4,096 records. -/
  ok : Bool
  deriving DecidableEq, Repr

/-- The phases from an offset on: their records, and whether each is well formed. -/
def phasesAt (b : List Byte) : Nat → Nat → List (List (Nat × Nat)) × Bool
  | _, 0 => ([], true)
  | o, k + 1 =>
    let n := leAt b o 4
    let recs := (List.range (if n ≤ 4096 then n else 0)).map fun i => (leAt b (o + 16 + 16 * i) 2, leAt b (o + 24 + 16 * i) 8)
    let ok := decide (n ≤ 4096 ∧ leAt b (o + 4) 12 = 0 ∧ o + 16 + 16 * n ≤ b.length) && recs.all (fun r => decide (r.1 < 4096)) &&
      (List.range recs.length).all fun i => decide (leAt b (o + 18 + 16 * i) 6 = 0)
    let (l, more) := phasesAt b (o + 16 + 16 * n) k
    (recs :: l, ok && more)

/-- A CIRCUITS section. -/
def circuitsOf (b : List Byte) : Circuits :=
  let n := leAt b 0 2
  let len := leAt b 2 2
  let seq := (List.range len).map fun i => leAt b (16 + i) 1
  let (ph, ok) := phasesAt b (16 + (len + 15) / 16 * 16) (min n 64)
  ⟨ph, seq, leAt b 4 1, leAt b 5 1, decide (leAt b 6 1 = 1), ok && decide (1 ≤ n ∧ n ≤ 64 ∧ 1 ≤ len ∧ len ≤ 4096 ∧ leAt b 4 1 < 8 ∧
    leAt b 5 1 < 16 ∧ leAt b 6 1 < 2 ∧ leAt b 7 9 = 0) && seq.all fun i => decide (i < n)⟩

/-- The device's circuits, if the image has any. -/
def Img.circuits (b : Img) (idx : Nat) : Option Circuits := ((b.ofType idx 4).head?).map fun x => circuitsOf (b.body x)

/-- The ports that the valid entries of a phase name (R242). -/
def portsOf (recs : List (Nat × Nat)) : List Nat :=
  recs.flatMap fun r => if r.2 % 2 = 1 then [bitsOf r.2 2 6, bitsOf r.2 8 6] else []

/-! ### CHANNEL_CONFIG (R165) -/

/-- Bytes of a CHANNEL_CONFIG section. -/
def configBytes : Nat := 716

/-- The rings of a CHANNEL_CONFIG. -/
def configRing (c : List Byte) (q : Nat) : Word64 := BitVec.ofNat 64 (leAt c (4 + 8 * q) 8)

/-- Whether a CHANNEL_CONFIG passes check 8 of R166. -/
def configOk (c : List Byte) : Bool :=
  decide (configBytes ≤ c.length ∧ leAt c 196 8 % 512 ≤ 256) && (List.range 24).all fun q =>
    decide ((getF (configRing c q) CH_Q_RING_BASE + getF (configRing c q) CH_Q_RING_SIZE_M1 + 1) * 4096 ≤ sramSize)

/-! ### The arguments of LOAD (R423, R470) -/

/-- The arguments of LOAD and RESTORE (R470). -/
structure LoadArgs where
  image : Nat
  bytes : Nat
  index : Nat
  shape : Nat
  permit : Bool
  devmap : Nat
  prot : Nat
  ckpt : Nat
  mirror : Nat
  buddy : Nat
  partner : Nat
  /-- Every argument is within its field's range. -/
  ok : Bool
  deriving DecidableEq, Repr

/-- The arguments laid out as R470 gives. -/
def loadArgs (a : List Byte) : LoadArgs :=
  ⟨leAt a 0 8, leAt a 8 8, leAt a 16 2, leAt a 18 3, decide (leAt a 21 1 = 1), leAt a 24 8, leAt a 32 4, leAt a 36 4, leAt a 40 4,
    leAt a 44 2, leAt a 46 2,
    decide (leAt a 0 8 % 4096 = 0 ∧ leAt a 18 1 < 16 ∧ leAt a 19 1 < 16 ∧ leAt a 20 1 < 16 ∧ leAt a 21 1 < 2 ∧ leAt a 44 2 < 4096 ∧
      leAt a 46 2 < 4096)⟩

/-- Devices of a slice of the shape. -/
def LoadArgs.count (a : LoadArgs) : Nat := (a.shape % 256 + 1) * (a.shape / 256 % 256 + 1) * (a.shape / 65536 + 1)

/-- Whether two ranges of start and length share a byte. -/
def overlaps (x y : Nat × Nat) : Bool := decide (0 < x.2 ∧ 0 < y.2 ∧ x.1 < y.1 + y.2 ∧ y.1 < x.1 + x.2)

/-- The three regions. -/
def LoadArgs.regions (a : LoadArgs) : List (Nat × Nat) :=
  [(0, a.prot * 2 ^ 21), (a.ckpt * 2 ^ 21, a.prot * 2 ^ 21), (a.mirror * 2 ^ 21, a.prot * 2 ^ 21)]

/-- The staged image and device map. -/
def LoadArgs.staged (a : LoadArgs) : List (Nat × Nat) := [(a.image, a.bytes), (a.devmap, 2 * a.count)]

/-- The conditions of R423 and R470 on the arguments alone. -/
def LoadArgs.fits (a : LoadArgs) : Bool :=
  let r := a.regions
  a.ok && decide (195 ≤ a.prot) && (r ++ a.staged).all (fun x => inMem x.1 x.2) && r.Pairwise (fun x y => overlaps x y = false) &&
    r.all fun x => a.staged.all fun y => !overlaps x y

/-- The device map. -/
def State.readMap (s : State) (a : LoadArgs) (errs : EccObs) : State × List Nat :=
  let (s, b) := s.fwRead a.devmap (2 * a.count) errs
  (s, (List.range a.count).map fun i => leAt b (2 * i) 2)

/-- Whether the device map is as R470 asks. An index beyond it is left to check 5. -/
def State.mapOk (s : State) (a : LoadArgs) (m : List Nat) : Bool :=
  m.Nodup && m.all (fun d => decide (d < 4096)) &&
    decide (a.count ≤ a.index ∨ m[a.index]? = some (s.fld netPlace NET_PLACE_DEVICE_ID))

/-! ### The checks of R166 -/

/-- Check 1: magic, format, reserved fields. -/
def Img.check1 (b : Img) : Bool :=
  decide (leAt b 0 4 = 0x58545250 ∧ leAt b 4 2 = 1 ∧ b.flags < 32 ∧ leAt b 0x23 1 = 0 ∧ leAt b 0x26 2 = 0 ∧ leAt b 0x50 176 = 0) &&
    (List.range b.sections).all fun k => decide (leAt b (0x100 + 32 * k + 5) 3 = 0)

/-- Check 2: lengths, places and types of the sections. -/
def Img.check2 (b : Img) : Bool :=
  decide (leAt b 0x10 8 = b.length ∧ 0x100 + 32 * b.sections ≤ b.length) && b.directory.all fun x =>
    decide (1 ≤ x.type ∧ x.type ≤ 8 ∧ x.offset % 4096 = 0 ∧ x.offset + x.bytes ≤ b.length ∧
      (if x.type ≤ 3 then x.channel < 8 else x.channel = 0xFF))

/-- Check 5: shape, devices, index, placement. -/
def State.check5 (s : State) (b : Img) (a : LoadArgs) : Bool :=
  decide (b.shape = a.shape ∧ b.devices = a.count ∧ a.index < b.devices ∧ s.fld netPlace NET_PLACE_LOCK = 1) &&
    (b.ofType a.index 5).map (·.bytes) = [4 * b.devices]

/-- Check 7: code within instruction SRAM. -/
def Img.check7 (b : Img) (idx : Nat) : Bool :=
  (b.ofType idx 1).all fun x => decide (x.target + (x.bytes + 63) / 64 ≤ (if b.flags % 2 = 1 then 0x7FFF else 0x8000))

/-- Check 8: channel SRAM, rings and experts. -/
def Img.check8 (b : Img) (idx : Nat) : Bool :=
  (b.ofType idx 2).all (fun x => decide (x.target + x.bytes ≤ sramSize)) && (b.ofType idx 3).all fun x => configOk (b.body x)

/-- Check 9: circuits name only ports that the map enables; VC0 links are those of ROLE 1 (R361). -/
def State.check9 (s : State) (b : Img) (idx : Nat) : Bool :=
  match b.circuits idx with
  | none => true
  | some c => c.ok && c.phases.all fun r => (portsOf r).all fun p =>
      decide (p < 34) && (decide (24 ≤ p) || decide (s.fld (netPortMap p) NET_PORT_MAP_ROLE = 1))

/-- The first link whose surveyed delay check 10 refuses, with that delay. -/
def State.badDelay (s : State) (b : Img) : Option (Nat × Nat) :=
  ((List.range 24).find? fun l =>
    let d := s.fld (netPortMap l) NET_PORT_MAP_DIR
    let x := s.fld (netPortHop l) NET_PORT_HOP_DELAY
    let r := b.delay d
    decide (s.fld (netPortMap l) NET_PORT_MAP_ROLE = 1 ∧ d < 6 ∧ r ≠ (0, 0) ∧ ¬(r.1 ≤ x ∧ x ≤ r.2))).map fun l =>
      (l, s.fld (netPortHop l) NET_PORT_HOP_DELAY)

/-- Check 12: memory ranges; MEMORY_INIT keeps clear of what is staged (R471). -/
def Img.check12 (b : Img) (a : LoadArgs) : Bool :=
  (b.ofType a.index 7).all (fun x => inMem x.target x.bytes && a.staged.all fun y => !overlaps (x.target, x.bytes) y) &&
    (b.inputs a.index).all fun r => inMem r.1 r.2

/-- The checks of R166 in their order. -/
def State.checks (s : State) (b : Img) (a : LoadArgs) : List (Nat × Bool) :=
  [(1, b.check1), (2, b.check2), (3, decide (b.lat = 1) || (decide (b.lat = 2) && s.isB0)),
    (4, match stepCode b.step with
      | some c => decide (s.fld pwrArith PWR_ARITH_TOP_STEP ≤ c)
      | none => false),
    (5, s.check5 b a), (6, !(b.coded a.index).any fun n => s.isRetired 8 n), (7, b.check7 a.index), (8, b.check8 a.index)] ++
  [(9, s.check9 b a.index), (10, (s.badDelay b).isNone), (11, decide (b.flags % 2 = 0) || a.permit), (12, b.check12 a)]

/-- The number of the check that refuses an image, 0 when none does. -/
def State.failedCheck (s : State) (b : Img) (a : LoadArgs) : Nat :=
  match (s.checks b a).find? (fun x => !x.2) with
  | some x => x.1
  | none => 0

end Sys2Proof.Machine
end

