-- ==== Sys2Proof/Machine/Mailbox.lean ====
section
/-!
DEFINITION. Mailboxes (R456 to R465), the control cores and their supervision (R422, R452, R453), and placement (R9, R34, R35).
-/

namespace Sys2Proof.Machine

/-! ### Control cores (R422, R452, R453, R493) -/

/-- The control and status registers of a core that R452 describes. -/
inductive Csr where
  | misa
  | satp
  | pmpcfg (i : Fin 16)
  | pmpaddr (i : Fin 16)
  | mtime
  | mtimecmp
  deriving DecidableEq, Repr

/-- misa: RV64 with I, M, A, F, D, C and U (R452). -/
def misaValue : Word64 := 0x800000000010112D

/-- What a core reads (R452): misa and satp are fixed, mtime is TIM_NOW, and at a granularity of 64 bytes the low bits of pmpaddr read as ones for a
naturally aligned range, else as zeros. -/
def State.csr (s : State) (core : Fin 5) : Csr → Word64
  | .misa => misaValue
  | .satp => 0
  | .pmpcfg i => s.fw.cores[core].pmpcfg[i].setWidth 64
  | .pmpaddr i =>
    let c := s.fw.cores[core]
    if bit c.pmpcfg[i].toNat 4 then c.pmpaddr[i] ||| 7 else c.pmpaddr[i] &&& ~~~15
  | .mtime => s.rd timNow
  | .mtimecmp => s.fw.cores[core].mtimecmp

/-- Whether a core's timer interrupt is pending (R17, R452). -/
def State.timerPending (s : State) (core : Fin 5) : Bool := decide ((s.csr core .mtimecmp).toNat ≤ (s.csr core .mtime).toNat)

/-- Whether the debug module has halted a core (R570). -/
def State.coreHalted (s : State) (c : Nat) : Bool := (s.fw.cores.toList[c]?.map (·.halted)).getD false

/-- Changes a core. -/
def State.modCore (s : State) (c : Nat) (f : CoreSt → CoreSt) : State :=
  { s with fw := { s.fw with cores := Vector.ofFn fun k : Fin 5 => if k.val = c then f s.fw.cores[k] else s.fw.cores[k] } }

/-- The running core that holds a role (R453). -/
def State.roleCore (s : State) (r : Nat) : Option Nat :=
  (List.range 5).find? fun c => !s.coreHalted c && decide (s.fld (ctlCore c) CTL_CORE_STATE = 1 ∧ s.fld (ctlCore c) CTL_CORE_UNDERSTUDY = 0 ∧
    s.fld (ctlCore c) CTL_CORE_ROLE = r)

/-- Roles at boot (R453): the four lowest-numbered cores that the list does not name; a core left over is the understudy, in reset. -/
def State.assignRoles (s : State) : State :=
  let good := (List.range 5).filter fun c => !s.isRetired 7 c
  let s := (List.range 5).foldl (fun s c => s.wr (ctlCore c) (setF 0 CTL_CORE_STATE (if s.isRetired 7 c then 3 else 0))) s
  let s := (good.zipIdx).foldl (fun s (c, i) =>
    if i < 4 then s.wr (ctlCore c) (setF (setF 0 CTL_CORE_STATE 1) CTL_CORE_ROLE i)
    else s.wr (ctlCore c) (setF 0 CTL_CORE_UNDERSTUDY 1)) s
  { s with saf := { s.saf with kicks := Vector.replicate 5 s.now } }

/-- A write to SAF_KICK (R422, R446). -/
def State.kick (s : State) (v : Word64) : State :=
  let c := getF v SAF_KICK_CORE
  if c < 5 then { s with saf := { s.saf with kicks := s.saf.kicks.setIfInBounds c s.now } } else s

/-- SAF_KICK, a control core's write to the register (R422, R501). -/
def execSafKick (value : Word64) (s : State) : Host.Outcome State Fault Refusal := .next (if s.heldReset then s else s.kick value)

/-- WATCHDOG_EXPIRY: a running core has not kicked for WDOG_MS ms: it is marked failed and held in reset, CONTROL is raised, and the
understudy is released (R422, R453). -/
def execWatchdogExpiry (core : Fin 5) (s : State) : Host.Outcome State Fault Refusal :=
  .next
    (if s.fld (ctlCore core) CTL_CORE_STATE = 1 ∧ s.saf.kicks[core] + 1000000 * max 1 (s.fld safCtl SAF_CTL_WDOG_MS) ≤ s.now then
       let s := ((s.modCore core fun _ => CoreSt.reset).setFld (ctlCore core) CTL_CORE_STATE 2).setFlag safStat (bitF (8 + core))
       let s := match (List.range 5).find? (fun c => decide (s.fld (ctlCore c) CTL_CORE_UNDERSTUDY = 1 ∧ s.fld (ctlCore c) CTL_CORE_STATE = 0)) with
         | some u => (s.setFld (ctlCore u) CTL_CORE_STATE 1).kick (BitVec.ofNat 64 u)
         | none => s
       s.raiseCause 8 core 0 none
     else s)

/-- LOCKSTEP_MISMATCH: the supervisor pair differs (R422). -/
def execLockstepMismatch (s : State) : Host.Outcome State Fault Refusal := .next (if s.heldReset then s else s.raiseCause 9 0 0 none)

/-! ### The command table (R463, R464) -/

/-- A row of the command table: opcode, bytes of arguments, whether it takes the lock, ARMED it needs (0 either, 1 clear, 2 set), whether no
channel may run, whether it is served in STANDBY, whether it is abortable, the role that carries it out, and the argument bytes that are 0. -/
structure Cmd where
  op : Nat
  len : Nat
  lock : Bool
  armed : Nat
  noRun : Bool
  standby : Bool
  abort : Bool
  role : Nat
  zero : List (Nat × Nat)
  deriving DecidableEq, Repr

def cIdentify : Cmd := ⟨0x0001, 0, false, 0, false, true, false, 0, []⟩
def cSetPlace : Cmd := ⟨0x0010, 8, true, 1, false, true, false, 1, []⟩
def cSetPorts : Cmd := ⟨0x0011, 196, true, 1, false, true, true, 1, []⟩
def cGetSurvey : Cmd := ⟨0x0012, 0, false, 0, false, true, false, 1, []⟩
def cTime : Cmd := ⟨0x0013, 8, true, 0, false, true, true, 1, [(2, 2)]⟩
def cRoutes : Cmd := ⟨0x0014, 16, true, 0, true, true, false, 1, [(1, 7)]⟩
def cMsgSend : Cmd := ⟨0x0015, 8, false, 0, false, true, true, 1, [(4, 4)]⟩
def cMsgRecv : Cmd := ⟨0x0016, 4, false, 0, false, true, true, 1, []⟩
def cLoad : Cmd := ⟨0x0020, 48, true, 1, false, false, false, 2, [(22, 2)]⟩
def cStart : Cmd := ⟨0x0021, 24, true, 2, false, false, false, 2, [(22, 2)]⟩
def cInputDone : Cmd := ⟨0x0022, 8, false, 2, false, false, false, 2, [(2, 6)]⟩
def cCurtain : Cmd := ⟨0x0023, 0, false, 2, false, false, false, 2, []⟩
def cHoldAtInt : Cmd := ⟨0x0024, 0, false, 2, false, false, true, 2, []⟩
def cRelease : Cmd := ⟨0x0025, 0, true, 0, true, true, false, 2, []⟩
def cRestore : Cmd := ⟨0x0026, 76, true, 1, false, false, false, 2, [(22, 2), (57, 1), (74, 2)]⟩
def cReset : Cmd := ⟨0x0030, 8, false, 0, false, true, false, 0, [(2, 6)]⟩
def cSetPower : Cmd := ⟨0x0031, 8, true, 1, true, true, false, 3, [(1, 7)]⟩
def cGetLedger : Cmd := ⟨0x0032, 0, false, 0, false, true, false, 3, []⟩
def cGetRetired : Cmd := ⟨0x0033, 0, false, 0, false, true, false, 3, []⟩
def cUpdate : Cmd := ⟨0x0040, 24, true, 1, false, false, false, 0, [(17, 7)]⟩
def cAttest : Cmd := ⟨0x0041, 32, false, 0, false, false, false, 0, []⟩
def cGetCert : Cmd := ⟨0x0042, 0, false, 0, false, true, false, 0, []⟩
def cOwnerKey : Cmd := ⟨0x0043, 32, true, 1, false, false, false, 0, []⟩

/-- The commands of MODE 0 (R464). -/
def commands : List Cmd :=
  [cIdentify, cSetPlace, cSetPorts, cGetSurvey, cTime, cRoutes, cMsgSend, cMsgRecv, cLoad, cStart, cInputDone, cCurtain, cHoldAtInt, cRelease] ++
  [cRestore, cReset, cSetPower, cGetLedger, cGetRetired, cUpdate, cAttest, cGetCert, cOwnerKey]

/-- The row of an opcode. -/
def cmdOf (op : Nat) : Option Cmd := commands.find? fun c => decide (c.op = op)

/-! ### A mailbox (R456 to R460) -/

/-- Changes what firmware keeps of a mailbox. -/
def State.modMb (s : State) (m : Fin 16) (f : MbSt → MbSt) : State := { s with fw := { s.fw with mb := s.fw.mb.set m.val (f s.fw.mb[m]) } }

/-- The command a mailbox has accepted: its opcode, and `n` bytes of arguments from `off`. -/
def State.mbOp (s : State) (m : Fin 16) : Nat := leAt s.fw.mb[m].cmd 0 2
def State.arg (s : State) (m : Fin 16) (off n : Nat) : Nat := leAt s.fw.mb[m].cmd (16 + off) n

/-- MB_STATUS.STATE. -/
def State.mbState (s : State) (m : Nat) : Nat := s.fld (mbStatus m) MB_STATUS_STATE

/-- Changes the result window: PROGRESS rises before and after (R460). -/
def State.mbWrite (s : State) (m : Fin 16) (off : Nat) (b : List Byte) : State :=
  { s with fw := { s.fw with mbmem := ksets (fun _ => 0) s.fw.mbmem (0x4000 * m.val + 0x2000 + off) b } }.wrapAdd (mbStatus m) MB_STATUS_PROGRESS 2

/-- A command ends: STATE 3 with code 0, else 4 (R459); it gives back the device lock. -/
def State.mbEnd (s : State) (m : Fin 16) (code : Nat) : State :=
  let s := (s.setFld (mbStatus m) MB_STATUS_ERROR code).setFld (mbStatus m) MB_STATUS_STATE (if code = 0 then 3 else 4)
  if s.fw.lock = some m.val then { s with fw := { s.fw with lock := none } } else s

/-- A command that ends at once with a result. -/
def State.mbDone (s : State) (m : Fin 16) (b : List Byte) : State := (s.mbWrite m 0 b).mbEnd m 0

/-- MODE in every STATUS and in CTL_BOOT (R459, R492). -/
def State.setMode (s : State) (x : Nat) : State :=
  (List.range 16).foldl (fun s m => s.setFld (mbStatus m) MB_STATUS_MODE x) (s.setFld ctlBoot CTL_BOOT_MODE x)

/-- A change of power state begins (R525). -/
def State.beginPower (s : State) (to_ : Nat) (mb : Option Nat) : State :=
  (s.modPwr fun p => { p with change := some (to_, s.now, mb) }).setFlag pwrState PWR_STATE_TRANSITION

/-- Words of control SRAM and of the controllers' tables that were read with these errors since the last poll: one that is uncorrectable raises
CONTROL (R179, R411; log entry 75). -/
def State.controlRead (s : State) (errs : List SymErr) : State :=
  if errs.any fun e => decide ((readWord 0 e).2 = .bad) then s.raiseCause 8 ((s.roleCore 0).getD 0) 0 none else s

/-- MB_POLL: firmware reads the SUBMIT word of a mailbox that carries out no command, and accepts a new value with the command area as it
stands (R457 to R460, R464, R485); a command that needs the compute dies ends IDLE (R525). -/
def execMbPoll (m : Fin 16) (s : State) (errs : List SymErr := []) : Host.Outcome State Fault Refusal :=
  .next
    (let s := if s.heldReset then s else s.controlRead errs
     let mode := s.fld ctlBoot CTL_BOOT_MODE
     let sub := s.fld (mbSubmit m) MB_SUBMIT_SEQ
     let serves := decide (mode = 2 ∧ m.val = 0) || (decide (mode = 0 ∨ mode = 3) && (s.roleCore 0).isSome)
     if s.heldReset || !serves || decide (s.mbState m = 1 ∨ s.mbState m = 2 ∨ sub = s.fw.mb[m].seen) then s
     else
       let base := 0x4000 * m.val
       let cmd := kgets (fun _ => 0) s.fw.mbmem base 4096
       let s := s.modMb m fun _ => ⟨sub, cmd, s.now, 0, 0⟩
       let s := { s with fw := { s.fw with mbmem := kfilter (fun k => !decide (base + 0x2000 ≤ k ∧ k < base + 0x4000)) s.fw.mbmem } }
       let s := (((s.setFld (mbStatus m) MB_STATUS_STATE 1).setFld (mbStatus m) MB_STATUS_ERROR 0).setFld (mbStatus m) MB_STATUS_SEQ sub).setFld
         (mbStatus m) MB_STATUS_PROGRESS 0
       let op := s.mbOp m
       if mode = 2 then (if op = 0x0001 ∨ op = 0x00F0 then s else s.mbEnd m 7)
       else if op = 0x00F0 then s.mbEnd m 7
       else
         match cmdOf op with
         | none => s.mbEnd m 1
         | some c =>
           if m.val = 0 ∧ op ≠ 0x0001 ∧ op ≠ 0x0030 ∧ op ≠ 0x0040 then s.mbEnd m 7
           else if !c.standby && decide (s.fld pwrState PWR_STATE_STATE = 1) && s.pwr.change.isNone then s.beginPower 0 none
           else s)

/-- Whether the report arguments of START and RESTORE are in range (R472, R477). -/
def reportOk (addr bytes : Nat) : Bool := decide (bytes ≤ 5888) && inMem addr bytes

/-- The arguments of LOAD and RESTORE as R470 asks, the device map included. -/
def State.loadOk (s : State) (m : Fin 16) : Bool :=
  let a := loadArgs (s.fw.mb[m].cmd.drop 16)
  a.fits && s.mapOk a (s.readMap a []).2

/-- Whether the arguments of a command are within their ranges (R465, R466, R469, R470, R472, R475, R477, R479, R486, R488). -/
def State.inRange (s : State) (m : Fin 16) (op : Nat) : Bool :=
  if op = 0x0011 then decide (s.arg m 192 4 < 2 ^ 24)
  else if op = 0x0013 then decide (s.arg m 0 1 ≤ 4 ∧ s.arg m 1 1 < 24 ∧ s.arg m 4 4 < 2 ^ 24)
  else if op = 0x0014 then decide (s.arg m 0 1 ≤ 2) &&
    (decide (s.arg m 0 1 ≠ 1) || (decide (s.arg m 8 8 % 8 = 0) && inMem (s.arg m 8 8) 32768))
  else if op = 0x0015 then decide (s.arg m 0 2 < 4096 ∧ s.arg m 2 2 ≤ 3680)
  else if op = 0x0016 then decide (1 ≤ s.arg m 0 4 ∧ s.arg m 0 4 ≤ 60000)
  else if op = 0x0020 then s.loadOk m
  else if op = 0x0021 then
    decide (s.arg m 0 8 % 512000 = 0 ∧ s.fw.mb[m].since + 2000000 ≤ s.arg m 0 8) && reportOk (s.arg m 8 8) (s.arg m 16 4)
  else if op = 0x0022 then decide (s.arg m 0 2 < (s.fw.prog.map (·.inputs.length)).getD 0)
  else if op = 0x0026 then s.loadOk m && decide (s.arg m 56 1 < 32 ∧ s.arg m 58 2 < 4096) && reportOk (s.arg m 60 8) (s.arg m 68 4)
  else if op = 0x0030 then decide (s.arg m 0 1 = 0 ∨ (s.arg m 0 1 = 1 ∧ s.arg m 1 1 < 8) ∨ (s.arg m 0 1 = 2 ∧ s.arg m 1 1 < 24))
  else if op = 0x0031 then decide (s.arg m 0 1 ≤ 2)
  else if op = 0x0040 then decide (s.arg m 16 1 < 2) && inMem (s.arg m 0 8) (s.arg m 8 8)
  else if op = 0x0043 then s.fw.slot1.isNone
  else true

/-- Whether the header, the reserved argument bytes and the arguments of a command are as R463 and its layout give. -/
def State.argsOk (s : State) (m : Fin 16) (c : Cmd) : Bool :=
  let b := s.fw.mb[m].cmd
  let len := if c.op = 0x0015 then 8 + s.arg m 2 2 else c.len
  decide (leAt b 2 2 = 0 ∧ leAt b 8 8 = 0 ∧ leAt b 4 4 = len) && (c.zero.all fun z => decide (s.arg m z.1 z.2 = 0)) && s.inRange m c.op

/-- Whether a command may take the device lock (R462): it is free, was not taken by a command accepted in the same poll, and no
lower-numbered mailbox's command accepted in that poll waits for it. -/
def State.lockFree (s : State) (m : Fin 16) : Bool :=
  let t := s.fw.mb[m].since
  s.fw.lock.isNone && decide (s.fw.took ≠ some t) && !(fins 16).any fun k =>
    decide (k.val < m.val ∧ s.mbState k = 1 ∧ s.fw.mb[k].since = t) && ((cmdOf (s.mbOp k)).map (·.lock)).getD false

/-- Whether a command waits for device memory to leave self-refresh (R509): its arguments lie there. -/
def State.waitsMem (s : State) (c : Cmd) : Bool :=
  decide (c.op ∈ [0x0014, 0x0020, 0x0026, 0x0040]) && s.mem.selfRefresh && !s.pwr.gated

/-- A command's row (R464): an accepted command with this opcode starts once its role has a core and neither a change of power state nor
self-refresh stands in its way; a running one continues. Refusals are made in the order POWER_STATE, INIT_DONE, BAD_ARG, ARMED, a channel
RUNNING, BUSY (log entry 26). -/
def State.onCmd (s : State) (m : Fin 16) (c : Cmd) (start cont : State → State) : State :=
  if s.heldReset || decide (s.fld ctlBoot CTL_BOOT_MODE ≠ 0 ∨ s.mbOp m ≠ c.op) || (s.roleCore c.role).isNone then s
  else if s.mbState m = 2 then cont s
  else if s.mbState m ≠ 1 ∨ (c.standby = false ∧ (s.fld pwrState PWR_STATE_STATE = 1 ∨ s.pwr.change.isSome)) ∨ s.waitsMem c then s
  else if !c.standby && s.pwr.gated then s.mbEnd m 4
  else if c.op = 0x0020 ∧ s.flag mcStatus MC_STATUS_INIT_DONE = false then s.mbEnd m 2
  else if !s.argsOk m c then s.mbEnd m 3
  else if c.armed = 1 ∧ s.flag safCtl SAF_CTL_ARMED then s.mbEnd m 8
  else if c.armed = 2 ∧ s.flag safCtl SAF_CTL_ARMED = false then s.mbEnd m 9
  else if c.noRun && s.anyRunning then s.mbEnd m 8
  else if c.lock && !s.lockFree m then s.mbEnd m 2
  else
    let s := if c.lock then { s with fw := { s.fw with lock := some m.val, took := some s.fw.mb[m].since } } else s
    start ((s.setFld (mbStatus m) MB_STATUS_STATE 2).modMb m fun x => { x with since := s.now })

/-- A command that ends at once. -/
def State.atOnce (s : State) (m : Fin 16) (c : Cmd) (f : State → State) : State := s.onCmd m c f id

/-! ### Abort (R461, R462) -/

/-- A write to MB_ABORT (R461): an acquisition that TIME began is abandoned, and a message not yet acknowledged is given up. -/
def State.abort (s : State) (m : Fin 16) (v : Word64) : State :=
  let st := s.mbState m
  match cmdOf (s.mbOp m) with
  | some c =>
    if c.abort && decide ((st = 1 ∨ st = 2) ∧ getF v MB_ABORT_SEQ = s.fw.mb[m].seen) then
      let s := if st = 2 ∧ c.op = 0x0013 ∧ s.tim.base = tsAcquiring then s.dropAcquire.goTim tsFree else s
      let s := if st = 2 ∧ c.op = 0x0015 then
        { s with fw := { s.fw with out := s.fw.out.filter fun o => decide (o.mb ≠ some m.val ∨ o.at_ = 1) } } else s
      s.mbEnd m 6
    else s
  | none => s

/-- MB_ABORT, a write to the register (R461, R501). -/
def execMbAbort (m : Fin 16) (value : Word64) (s : State) : Host.Outcome State Fault Refusal := .next (if s.heldReset then s else s.abort m value)

/-! ### The understudy core (R453, R462) -/

/-- Whether a core has failed and no core has taken its role. -/
def State.roleLost (s : State) (core : Nat) : Bool :=
  decide (s.fld (ctlCore core) CTL_CORE_STATE = 2 ∧ s.fld (ctlCore core) CTL_CORE_UNDERSTUDY = 0) &&
    (s.roleCore (s.fld (ctlCore core) CTL_CORE_ROLE)).isNone

/-- CORE_TAKEOVER: the understudy takes the failed core's role; commands that ran on it end in CORE_LOST, START and RESTORE with the curtain;
the core is recorded as retired. With no understudy the device is reported failed (R453, R462). -/
def execCoreTakeover (core : Fin 5) (s : State) : Host.Outcome State Fault Refusal :=
  .next
    (if s.roleLost core && !s.heldReset then
       let r := s.fld (ctlCore core) CTL_CORE_ROLE
       match (List.range 5).find? (fun c => decide (s.fld (ctlCore c) CTL_CORE_STATE = 1 ∧ s.fld (ctlCore c) CTL_CORE_UNDERSTUDY = 1)) with
       | some u =>
         let s := (s.setFld (ctlCore u) CTL_CORE_UNDERSTUDY 0).setFld (ctlCore u) CTL_CORE_ROLE r
         let s := s.record ⟨7, core, 0, 0⟩
         (fins 16).foldl (fun s (m : Fin 16) =>
           match cmdOf (s.mbOp m) with
           | some c => if s.mbState m = 2 ∧ c.role = r ∧ c.op ≠ 0x0021 ∧ c.op ≠ 0x0026 then s.mbEnd m 5 else s
           | none => s) s
       | none => (s.record ⟨7, core, 0, 0⟩).alert [9]
     else s)

/-! ### Placement (R9, R31, R34, R35) -/

/-- Whether a write of this value that sets LOCK is refused (R35): a coordinate beyond the shape, or, with the CARRIER strap, an odd size of
X or Y (R31). -/
def State.badPlace (s : State) (w : Word64) : Bool :=
  decide (getF w NET_PLACE_SIZE_X_M1 < getF w NET_PLACE_X ∨ getF w NET_PLACE_SIZE_Y_M1 < getF w NET_PLACE_Y ∨
    getF w NET_PLACE_SIZE_Z_M1 < getF w NET_PLACE_Z) ||
  (s.flag brdStrap BRD_STRAP_CARRIER && decide (getF w NET_PLACE_SIZE_X_M1 % 2 = 0 ∨ getF w NET_PLACE_SIZE_Y_M1 % 2 = 0))

/-- A write to NET_PLACE (R9, R35): ignored once locked; checked when it sets LOCK. The route table's own entry is firmware's. -/
def State.writePlace (s : State) (v m : Word64) : State :=
  if s.locked .netPlace then s.writePlain netPlace v m
  else
    let w := writeWord RegKind.netPlace.fields false (s.beforeRd netPlace) (s.rd netPlace) v m
    if getF w NET_PLACE_LOCK = 1 then
      if s.badPlace w then s.setFlag netPlace NET_PLACE_PLACE_ERR
      else (s.writePlain netPlace v m).setFld netPlace NET_PLACE_PLACE_ERR 0
    else s.writePlain netPlace v m

/-- NET_PLACE_WRITE (R35, R501). -/
def execNetPlaceWrite (value : Word64) (s : State) : Host.Outcome State Fault Refusal :=
  .next (if s.takesWrites netPlace then s.writePlace value (~~~0) else s)

end Sys2Proof.Machine
end

