-- ==== Sys2Proof/Machine/Debug.lean ====
section
/-!
DEFINITION. Debug transport and the debug module of the control cores, as the RISC-V External Debug Support specification 0.13.2 lays them out
(R17, R452, R570, R571; log entry 76).
-/

namespace Sys2Proof.Machine

/-- Changes the debug module. -/
def State.modDebug (s : State) (f : DebugSt → DebugSt) : State := { s with brd := { s.brd with dbg := f s.brd.dbg } }

/-- DTMCS as it is captured: version 0.13, no operation in error. -/
def dtmcsValue : Nat := 1 + Config.dtmAbits % 64 * 16 + Config.dtmIdle % 8 * 2 ^ 12

/-- The bytes that a scan of DMI shifts out: address, data of the operation before, and success. -/
def State.dmiShift (s : State) (addr : Nat) : List Byte :=
  leBytes ((34 + Config.dtmAbits % 64 + 7) / 8) (s.brd.dbg.last.toNat * 4 + addr % 2 ^ (Config.dtmAbits % 64) * 2 ^ 34)

/-- A core by hart number. -/
def State.hart (s : State) : Option CoreSt := s.fw.cores.toList[s.brd.dbg.hart]?

/-- Whether a core is held in reset: the understudy, or one that has failed (R453). -/
def State.coreHeld (s : State) : Bool := decide (s.fld (ctlCore s.brd.dbg.hart) CTL_CORE_STATE ≠ 1)

/-- dmstatus: version 0.13, authenticated, and twice each what holds of the hart selected. -/
def State.dmStatus (s : State) : Nat :=
  let two (b : Bool) (at_ : Nat) : Nat := b2n b * 3 * 2 ^ at_
  match s.hart with
  | none => 0x82 + two true 14
  | some c =>
    let out := s.coreHeld
    0x82 + two (!out && c.halted) 8 + two (!out && !c.halted) 10 + two out 12 + two (!out && c.resumeAck) 16 + two (!out && c.haveReset) 18

/-- The harts that are halted. -/
def State.haltSum (s : State) : Nat := sumNat ((List.range 5).map fun c => b2n (s.coreHalted c) * 2 ^ c)

/-- What a register of the debug module reads as (0 where none stands). -/
def State.dmRead (s : State) (addr : Nat) : BitVec 32 :=
  let d := s.brd.dbg
  if addr = 0x10 then BitVec.ofNat 32 (b2n d.active + d.hart * 2 ^ 16)
  else if addr = 0x11 then BitVec.ofNat 32 s.dmStatus
  else if addr = 0x12 then Config.hartInfo
  else if addr = 0x16 then BitVec.ofNat 32 (2 + d.cmdErr * 2 ^ 8 + 4 * 2 ^ 24)
  else if addr = 0x40 then BitVec.ofNat 32 s.haltSum
  else if 4 ≤ addr ∧ addr < 6 then (d.data.toList[addr - 4]?).getD 0
  else if 0x20 ≤ addr ∧ addr < 0x24 then (d.progbuf.toList[addr - 0x20]?).getD 0
  else 0

/-- dmcontrol is written: the hart selected, acknowledgement of its reset, and a request to halt or to resume it. A core that steps is halted
again at once; a core held in reset does not answer. -/
def State.dmControl (s : State) (v : Nat) : State :=
  if !bit v 0 then s.modDebug fun d => { DebugSt.reset with last := d.last }
  else
    let h := bitsOf v 16 10
    let s := s.modDebug fun d => { d with active := true, hart := h }
    let s := if bit v 28 then s.modCore h fun c => { c with haveReset := false } else s
    if s.coreHeld then s
    else if bit v 31 then s.modCore h fun c => { c with halted := true }
    else if bit v 30 then s.modCore h fun c => { c with halted := c.halted && c.step, resumeAck := c.halted }
    else s

/-- The registers of a core that the model holds, by the number an abstract command gives them: misa, satp, time, the PMP entries, dcsr. -/
def State.coreReg (s : State) (core : Fin 5) (r : Nat) : Option Word64 :=
  let c := s.fw.cores[core]
  let cfg (k : Nat) : Word64 := BitVec.ofNat 64 (leNat ((c.pmpcfg.toList.drop k).take 8))
  if r = 0x301 then some (s.csr core .misa)
  else if r = 0x180 then some (s.csr core .satp)
  else if r = 0xC01 then some (s.csr core .mtime)
  else if r = 0x3A0 then some (cfg 0)
  else if r = 0x3A2 then some (cfg 8)
  else if 0x3B0 ≤ r ∧ r < 0x3C0 then some (s.csr core (.pmpaddr ⟨(r - 0x3B0) % 16, Nat.mod_lt _ (by decide)⟩))
  else if r = 0x7B0 then some (BitVec.ofNat 64 ((if c.user then 0 else 3) + 4 * b2n c.step + (if c.step then 4 else 3) * 2 ^ 6 + 4 * 2 ^ 28))
  else none

/-- The same registers written; misa, satp and time keep what they hold, and the model holds no others. -/
def CoreSt.put (c : CoreSt) (r : Nat) (v : Word64) : CoreSt :=
  let cfg (k : Nat) : Vector Byte 16 :=
    Vector.ofFn fun i : Fin 16 => if k ≤ i.val ∧ i.val < k + 8 then BitVec.ofNat 8 (v.toNat / 2 ^ (8 * (i.val - k))) else c.pmpcfg[i]
  if r = 0x3A0 then { c with pmpcfg := cfg 0 }
  else if r = 0x3A2 then { c with pmpcfg := cfg 8 }
  else if 0x3B0 ≤ r ∧ r < 0x3C0 then { c with pmpaddr := c.pmpaddr.setIfInBounds (r - 0x3B0) v }
  else if r = 0x7B0 then { c with user := decide (v.toNat % 4 = 0), step := bit v.toNat 2 }
  else c

/-- An abstract command: access to a register of a halted core, 32 or 64 bits; others are not supported. A register the model does not hold
reads as a free value. -/
def State.dmCommand (s : State) (v : Nat) : State :=
  let d := s.brd.dbg
  let fail (e : Nat) : State := s.modDebug fun d => { d with cmdErr := e }
  if d.cmdErr ≠ 0 then s
  else if bitsOf v 24 8 ≠ 0 ∨ bit v 19 ∨ (bitsOf v 20 3 ≠ 2 ∧ bitsOf v 20 3 ≠ 3) then fail 2
  else
    match fins 5 |>.find? (fun c => decide (c.val = d.hart)) with
    | none => fail 4
    | some c =>
      if !s.fw.cores[c].halted then fail 4
      else if !bit v 17 then s
      else
        let r := v % 2 ^ 16
        let wide := decide (bitsOf v 20 3 = 3)
        if bit v 16 then
          s.modCore c fun x => x.put r (BitVec.ofNat 64 (d.data[0].toNat + (if wide then d.data[1].toNat * 2 ^ 32 else 0)))
        else
          let x := (s.coreReg c r).getD (BitVec.ofNat 64 (Config.freeNat s.free))
          (s.take 1).modDebug fun d => { d with data := #v[x.setWidth 32, if wide then (x >>> 32).setWidth 32 else d.data[1]] }

/-- A register of the debug module is written. -/
def State.dmWrite (s : State) (addr : Nat) (v : BitVec 32) : State :=
  let d := s.brd.dbg
  if addr = 0x10 then s.dmControl v.toNat
  else if !d.active then s
  else if addr = 0x16 then s.modDebug fun d => { d with cmdErr := if bitsOf v.toNat 8 3 = 0 then d.cmdErr else d.cmdErr &&& (7 - bitsOf v.toNat 8 3) }
  else if addr = 0x17 then s.dmCommand v.toNat
  else if 4 ≤ addr ∧ addr < 6 then s.modDebug fun d => { d with data := d.data.setIfInBounds (addr - 4) v }
  else if 0x20 ≤ addr ∧ addr < 0x24 then s.modDebug fun d => { d with progbuf := d.progbuf.setIfInBounds (addr - 0x20) v }
  else s

/-- An operation of DMI: 1 reads, 2 writes; what it read is shifted out by the next scan. -/
def State.dmiOp (s : State) (addr : Nat) (data : BitVec 32) (op : BitVec 2) : State :=
  if op = 1 then s.modDebug fun d => { d with last := s.dmRead addr }
  else if op = 2 then (s.dmWrite addr data).modDebug fun d => { d with last := data }
  else s

end Sys2Proof.Machine
end

