-- ==== Sys2Proof/Machine/Registers.lean ====
section
/-!
DEFINITION. A write to any BAR0 register (R8, R13, R500, R501) with the behaviour its block gives it, the host's requests in their order (R209,
R503, R504), and duplicated writes (R422, R454).
-/

namespace Sys2Proof.Machine

/-! ### Registers with behaviour of their own -/

/-- A write to CH_FAULT: FIRST_VALID clears when no fault bit is left (R129). -/
def State.writeChFault (s : State) (n : Nat) (v m : Word64) : State :=
  let s := s.writePlain (chFault n) v m
  if (s.rd (chFault n)).toNat % 4096 = 0 then s.setFld (chFault n) CH_FAULT_FIRST_VALID 0 else s

/-- A write to CH_SHADOW: without EN nothing compares (R110, R132). -/
def State.writeShadow (s : State) (n : Nat) (v m : Word64) : State :=
  let s := s.writePlain (chShadow n) v m
  if s.flag (chShadow n) CH_SHADOW_EN then s else s.setFld (chShadow n) CH_SHADOW_COMPARING 0

/-- A write to MC_HOSTWIN: the budget starts at RATE when RATE_EN rises (R209). -/
def State.writeHostwin (s : State) (v m : Word64) : State :=
  let was := s.flag mcHostwin MC_HOSTWIN_RATE_EN
  let s := s.writePlain mcHostwin v m
  if !was && s.flag mcHostwin MC_HOSTWIN_RATE_EN then
    { s with mem := { s.mem with budget := (s.fld mcHostwin MC_HOSTWIN_RATE : Int), refill := s.now } }
  else s

/-- A write to NET_FAB_CTL: VC0_EN rising ends an armed step of time (R397). -/
def State.writeFabCtl (s : State) (v m : Word64) : State :=
  let was := s.flag netFabCtl NET_FAB_CTL_VC0_EN
  let s := s.writePlain netFabCtl v m
  if !was && s.flag netFabCtl NET_FAB_CTL_VC0_EN && s.flag timCtl TIM_CTL_REBASE_ARM then
    (s.setFld timCtl TIM_CTL_REBASE_ARM 0).setFlag timStat TIM_STAT_REBASE_REFUSED
  else if was && !s.flag netFabCtl NET_FAB_CTL_VC0_EN then s.showHalt
  else s

/-- Least and greatest setpoints of an adjustable rail, in 5 mV (R520). -/
def railRange (r : Nat) : Nat × Nat := if r = 11 then (150, 170) else (130, 170)

/-- A write to PWR_RAIL (R553): SET within its range on rails 0 to 11 only; any write of MIN makes it all ones. -/
def State.writeRail (s : State) (r : Nat) (v m : Word64) : State :=
  let set := getF v PWR_RAIL_SET
  let ok := decide (r < 12 ∧ (railRange r).1 ≤ set ∧ set ≤ (railRange r).2)
  let names (f : Fld) : Bool := decide (getF m f ≠ 0)
  let min_ := names PWR_RAIL_MIN
  let m := if ok then m else setF m PWR_RAIL_SET 0
  let s := s.writePlain (pwrRail r) (setF v PWR_RAIL_MIN 0x3FF) m
  let s := if min_ then s.setFld (pwrRail r) PWR_RAIL_MIN 0x3FF else s
  if r < 12 then s.showRail r else s

/-- A write to CTL_HOST_ALERT: a bit that was raised again in the cycle of the write stays set, and its vector sends a further message (R11,
R506). -/
def State.writeAlert (s : State) (v m : Word64) : State :=
  let again := (kget regReset s.before alertAgain &&& v &&& m).toNat
  (s.writePlain ctlHostAlert v m).sendVectors (maskList 32 again)

/-- A write to BRD_I3C: only the host sets WRITE_EN (R568). -/
def State.writeI3c (s : State) (v m : Word64) (fromHost : Bool) : State :=
  s.writePlain brdI3c v (if fromHost then m else setF m BRD_I3C_WRITE_EN 0)

/-- A write to the MSI-X table: a vector unmasked sends what is pending (R506). -/
def State.writeMsix (s : State) (i : Nat) (v m : Word64) : State :=
  let was := s.vectorMasked (i / 2)
  let s := s.writePlain (msixTable i) v m
  if was && !s.vectorMasked (i / 2) then s.unmask (i / 2) else s

/-- The fins of a number, by default 0. -/
def finOr {n : Nat} (h : 0 < n) (i : Nat) : Fin n := ⟨i % n, Nat.mod_lt _ h⟩

/-- The register written with its mask: fields outside it keep what they hold. -/
def merged (old v m : Word64) : Word64 := (old &&& ~~~m) ||| (v &&& m)

/-- Whether a write of the bits `m` reaches a field: a 32-bit write of the other half of a WO register starts no action (R13; log entry 67). -/
def names (m : Word64) (f : Fld) : Bool := decide (getF m f ≠ 0)

/-- A write of the bits `m` of the register at an offset, with the behaviour of its block; posts are taken elsewhere (R454). -/
def State.writeKind (s : State) (k : RegKind) (i j off : Nat) (v m : Word64) (fromHost : Bool) : State :=
  let ch : Fin 8 := finOr (by decide) i
  let link : Fin 24 := finOr (by decide) i
  match k with
  | .netPlace => s.writePlace v m
  | .chCtl => if m = 0 then s else s.writeChCtl ch (merged (s.rd off &&& ~~~(2#64)) v m)
  | .chFault => s.writeChFault i v m
  | .chTeMap => (s.writePlain off v m).showShadow i
  | .chShadow => s.writeShadow i v m
  | .mcHostwin => s.writeHostwin v m
  | .mcRemapSel => (s.writePlain off v m).showRemap i
  | .mcRemapData => s.writeRemap i (merged (s.rd off) v m)
  | .arbCtlM => s.writeArbCtl (.mem (finOr (by decide) i)) v m
  | .arbCtlB => s.writeArbCtl (.bank ch 0) v m
  | .netFabCtl => s.writeFabCtl v m
  | .netCircuit => s.writeCircuit i j (merged (s.rd off) v m)
  | .netRoute => s.writeRoute i v m
  | .netUnsCtl => s.writeUnsCtl v m
  | .netFlowClear => if names m NET_FLOW_CLEAR_DEVICE_ID then s.clearFlows (getF v NET_FLOW_CLEAR_DEVICE_ID) else s
  | .netPortMap => s.writePortMap i v m
  | .netPortHop => s.writeHop i v m
  | .lnkCtl => s.writeLnkCtl link v m
  | .lnkLaneMap => if s.lstate i = lsOff then s.writePlain off v m else s
  | .lnkLaneCtl => (s.writePlain off v m).showUnderstudies i
  | .lnkLaser => s.writeLaser (finOr (by decide) (i + 8)) j v m
  | .timCtl => s.writeTimCtl v m
  | .timRefused => s.writeTimRefused v m
  | .safCtl => s.writeSafCtl v m
  | .safRaise => s.raiseWrite v m
  | .safKick => if names m SAF_KICK_CORE then s.kick (v &&& m) else s
  | .safRegion => s.writeRegion v m
  | .mbAbort => if names m MB_ABORT_SEQ then s.abort (finOr (by decide) i) (v &&& m) else s
  | .ctlPostAddr => s
  | .ctlPostData => s
  | .ctlTxring => (s.writePlain off v m).pumpTx
  | .ctlHostAlert => s.writeAlert v m
  | .ctlHostRaise => s.writeHostRaise (v &&& m) fromHost
  | .pwrState => (s.writePlain off v m).showPins
  | .pwrSupplyEvt => (s.writePlain off v m).showPins
  | .pwrThermStat => (s.writePlain off v m).showPins
  | .pwrArith => s.writeArith v m
  | .pwrCap => (s.writePlain off v m).showTop
  | .pwrRail => s.writeRail i v m
  | .brdI3c => s.writeI3c v m fromHost
  | .msixTable => s.writeMsix i v m
  | _ => s.writePlain off v m

/-- A write to a BAR0 offset of the bits `m` (R500, R501). -/
def State.regWrite (s : State) (off : Nat) (v m : Word64) (fromHost : Bool) : State :=
  if !s.takesWrites off then s
  else
    match locate off with
    | some (k, i, j) => s.writeKind k i j off v m fromHost
    | none => s

/-- A write that control cores make of a whole register. -/
def State.fwWrite (s : State) (off : Nat) (v : Word64) : State := s.regWrite off v (~~~0) false

/-! ### Duplicated writes (R422, R454) -/

/-- Committed writes are counted; the count wraps (R494). -/
def State.commits (s : State) (n : Nat) : State := s.wrapAdd ctlPostStat CTL_POST_STAT_COMMITS n

/-- A duplicated write that two cores have posted alike. -/
def State.dupWrite (s : State) (off : Nat) (v : Word64) : State := (s.fwWrite off v).commits 1

/-- A post that found no pair (R454). -/
def State.postAlone (s : State) (c : Nat) : State :=
  (({ s with saf := { s.saf with post := none } }).setFld ctlPostStat CTL_POST_STAT_PENDING 0 |>.setFlag ctlPostStat CTL_POST_STAT_SINGLE).raiseCause
    8 c 0 none

/-- The pending post is more than 10 µs old. -/
def State.postOld (s : State) : Option Nat := match s.saf.post with
  | some (c, _, _, t) => if t + 10000 ≤ s.now then some c else none
  | none => none

/-- A control core writes CTL_POST_DATA: the write posts (R454). The first post waits; a second core's equal post within 10 µs commits the
write; a different one, or a second of the same core, is a mismatch and nothing is written. -/
def State.post2 (s : State) (c : Nat) (v : Word64) : State :=
  if s.fld (ctlCore c) CTL_CORE_STATE ≠ 1 then s
  else
    let s := match s.postOld with
      | some d => s.postAlone d
      | none => s
    let off := (s.saf.postAddr.toList[c]?).getD 0
    match s.saf.post with
    | none => { s with saf := { s.saf with post := some (c, off, v, s.now) } }.setFlag ctlPostStat CTL_POST_STAT_PENDING
    | some (d, off2, v2, _) =>
      let s := ({ s with saf := { s.saf with post := none } }).setFld ctlPostStat CTL_POST_STAT_PENDING 0
      if d ≠ c ∧ off = off2 ∧ v = v2 then s.dupWrite off v
      else (s.setFlag ctlPostStat CTL_POST_STAT_MISMATCH).raiseCause 8 c 0 none

/-- CTL_POST_DATA (R454). -/
def execCtlPostData (core : Fin 5) (value : Word64) (s : State) : Host.Outcome State Fault Refusal := .next (s.post2 core value)

/-- POST_PAIR_TIMEOUT (R454). -/
def execPostPairTimeout (s : State) : Host.Outcome State Fault Refusal :=
  .next (match s.postOld with
    | some c => s.postAlone c
    | none => s)

/-! ### The host's requests (R209, R503, R504) -/

/-- A write to BAR0 of 4 or 8 bytes, from the host or from a control core: mailbox command areas take bytes (R456), posting registers take
control cores only (R454); a misplaced one is refused and counted (R501). -/
def State.bar0Write (s : State) (off : Nat) (size4 : Bool) (v : Word64) (fromHost : Bool) : State :=
  let n := if size4 then 4 else 8
  let inMb := decide (0x100000 ≤ off ∧ off < 0x140000)
  if s.heldReset then s
  else if inMb && decide (off % 0x4000 + n ≤ 0x1000) then
    { s with fw := { s.fw with mbmem := ksets (fun _ => 0) s.fw.mbmem (off - 0x100000) (leBytes n v.toNat) } }
  else if off % n ≠ 0 then (if fromHost then (s.bump ctlPcieStat CTL_PCIE_STAT_BAD_ACCESS).unsupported true else s)
  else
    let reg := off / 8 * 8
    let (v, m) : Word64 × Word64 := if size4 then
        (if off % 8 = 4 then (v <<< 32, 0xFFFFFFFF00000000#64) else (v &&& 0xFFFFFFFF#64, 0xFFFFFFFF#64)) else (v, ~~~0)
    match locate reg, fromHost with
    | some (.ctlPostAddr, c, _), false =>
      { s with saf := { s.saf with postAddr := s.saf.postAddr.setIfInBounds c (merged (BitVec.ofNat 64 ((s.saf.postAddr.toList[c]?).getD 0)) v m).toNat } }
    | some (.ctlPostData, c, _), false => if size4 then s else s.post2 c v
    | _, _ => s.regWrite reg v m fromHost

/-- A BAR0 write is performed. -/
def State.hostBar0 (s : State) (r : HostReq) : State := s.bar0Write r.off (decide (r.len = 4)) (BitVec.ofNat 64 (leNat r.data)) true

/-- Request `i` leaves the queue. -/
def State.hostTake (s : State) (i : Nat) : State := { s with mem := { s.mem with hostq := s.mem.hostq.eraseIdx i } }

/-- The oldest BAR0 write that no BAR2 write is ahead of (R504). -/
def firstBar0 (l : List HostReq) : Option (HostReq × Nat) :=
  l.zipIdx.find? fun x => x.1.bar0 && !((l.take x.2).any fun q => q.write)

/-- One step of the host's requests (R27, R209, R504): the oldest is admitted while the budget lasts, and carried out once its lanes are free;
where it must wait, a BAR0 write that may pass it goes. With `false` nothing can go. -/
def State.hostStep (s : State) : State × Bool :=
  match s.mem.hostq with
  | [] => (s, false)
  | r :: rest =>
    let pass (s : State) : State × Bool := match firstBar0 s.mem.hostq with
      | some (q, i) => ((s.hostTake i).hostBar0 q, true)
      | none => (s, false)
    if r.bar0 then ((s.hostTake 0).hostBar0 r, true)
    else if r.admitted then
      match s.hostGo r with
      | (s, true) => (s.hostTake 0, true)
      | (s, false) => pass s
    else if s.hostHeld then pass s
    else ({ s.hostAdmit r with mem := { (s.hostAdmit r).mem with hostq := { r with admitted := true } :: rest } }, true)

/-- Performs what can go; `k` bounds the requests. -/
def State.hostSteps (s : State) : Nat → State
  | 0 => s
  | k + 1 => match s.hostStep with
    | (s, true) => State.hostSteps s k
    | (s, false) => s

/-- Performs what the rate limit, the lanes and the ordering rules let through. -/
def State.hostPump (s : State) : State := s.hostSteps (2 * s.mem.hostq.length)

/-- A request arrives from the host, behind those that wait (R504). A function in D3hot does not perform it (R510). -/
def State.hostArrive (s : State) (r : HostReq) : State :=
  if s.heldReset then s
  else if s.host.d3 then (if r.write then s else s.complete 1 [])
  else
    let s := { s with mem := { s.mem with hostq := s.mem.hostq ++ [r] } }
    s.hostPump

/-- Whether a BAR2 offset lies in the window (R502). -/
def State.inBar2 (s : State) (off len : Nat) : Bool := decide (off + len ≤ 2 ^ (s.host.bar2 + 30))

/-- BAR2_READ (R207, R209, R503). -/
def execBar2Read (off : BitVec 40) (len : Nat) (errs : List (Nat × SymErr)) (s : State) : Host.Outcome State Fault Refusal :=
  .next (if s.inBar2 off.toNat len then s.hostArrive ⟨false, false, off.toNat, len, [], false, errs, false⟩ else s)

/-- BAR2_WRITE (R207, R209, R503). -/
def execBar2Write (off : BitVec 40) (data : List Byte) (ep : Bool) (s : State) (errs : List (Nat × SymErr) := []) : Host.Outcome State Fault Refusal :=
  .next (if s.inBar2 off.toNat data.length then s.hostArrive ⟨false, true, off.toNat, data.length, data, ep, errs, false⟩ else s)

/-- The budget gains RATE bytes for each µs gone by, up to RATE (R209). -/
def State.refillBudget (s : State) : State :=
  let us := (s.now - s.mem.refill) / 1000
  if s.flag mcHostwin MC_HOSTWIN_RATE_EN then
    let rate : Int := s.fld mcHostwin MC_HOSTWIN_RATE
    { s with mem := { s.mem with budget := min rate (s.mem.budget + rate * (us : Nat)), refill := s.mem.refill + 1000 * us } }
  else s

/-- HOSTWIN_BUDGET_REFILL (R209). -/
def execHostwinBudgetRefill (s : State) : Host.Outcome State Fault Refusal :=
  .next (let s := s.refillBudget; s.hostPump)

/-- REGISTER_WRITE: a write to BAR0 by the host, in its order, or by a control core (R8, R504). -/
def execRegisterWrite (off : BitVec 28) (size4 : Bool) (value : Word64) (fromHost : Bool) (s : State) : Host.Outcome State Fault Refusal :=
  .next
    (let n := if size4 then 4 else 8
     let s := if fromHost then s.hostArrive ⟨true, true, off.toNat, n, leBytes n value.toNat, false, [], false⟩
       else s.bar0Write off.toNat size4 value false
     s.hostPump)

end Sys2Proof.Machine
end

