-- ==== Sys2Proof/Machine/Board.lean ====
section
/-!
DEFINITION. The management interfaces: the I3C target (R565 to R569) and the test access port (R570, R571).
-/

namespace Sys2Proof.Machine

/-! ### The I3C target (R565 to R569) -/

/-- Changes what the management interfaces keep. -/
def State.modBrd (s : State) (f : BrdSt → BrdSt) : State := { s with brd := f s.brd }

/-- The target answers outside POR and MOD (R566). -/
def State.i3cAnswers (s : State) : Bool := !s.heldReset

/-- A common command code: acknowledged and carried out, or not answered. -/
def State.ccc (s : State) (f : State → State) : State := if s.i3cAnswers then f s else s

/-- The bytes that the target sends to the controller. -/
def State.i3cReply (s : State) (b : List Byte) : State := s.modBrd fun x => { x with reply := b }

/-- A number in `n` bytes, the most significant first. -/
def beBytes (n x : Nat) : List Byte := (leBytes n x).reverse

/-- The BAR0 ranges that I3C may read (R568). -/
def i3cReads (off : Nat) : Bool :=
  decide (off < 0x10 ∨ (0x05000000 ≤ off ∧ off < 0x05001000) ∨ (0x06000000 ≤ off ∧ off < 0x06004000) ∨
    (0x07000000 ≤ off ∧ off < 0x07002000) ∨ (0x08000000 ≤ off ∧ off < 0x09001000)) || (List.range 16).any fun m => decide (off = mbStatus m)

/-- I3C_PRIVATE_SELECT: a READ transfer selects a register; one of another length, or of an offset that is not a multiple of 8, is malformed
(R567). -/
def execI3cPrivateSelect (bytes : List Byte) (s : State) : Host.Outcome State Fault Refusal :=
  .next
    (s.ccc fun s =>
      if bytes.length = 5 ∧ leAt bytes 0 1 = 1 ∧ leAt bytes 1 4 % 8 = 0 then
        s.modBrd fun x => { x with sel := some (leAt bytes 1 4), status := 0 }
      else s.modBrd fun x => { x with sel := none, status := 2 })

/-- I3C_PRIVATE_WRITE: a WRITE transfer reaches PWR_CAP and PWR_THERM_CTL while WRITE_EN is 1; another is refused and counted (R567, R568). -/
def execI3cPrivateWrite (bytes : List Byte) (s : State) : Host.Outcome State Fault Refusal :=
  .next
    (s.ccc fun s =>
      let off := leAt bytes 1 4
      if bytes.length ≠ 13 ∨ leAt bytes 0 1 ≠ 2 ∨ off % 8 ≠ 0 then s.modBrd fun x => { x with status := 2 }
      else if (off = pwrCap ∨ off = pwrThermCtl) ∧ s.flag brdI3c BRD_I3C_WRITE_EN then
        (s.fwWrite off (BitVec.ofNat 64 (leAt bytes 5 8))).modBrd fun x => { x with status := 0 }
      else (s.bump brdI3c BRD_I3C_NOT_ALLOWED).modBrd fun x => { x with status := 1 })

/-- A read of the target answers with STATUS and a value. -/
def State.i3cAnswer (s : State) (status : Nat) (v : Nat) : State :=
  (s.modBrd fun x => { x with status := 0 }).i3cReply (leBytes 1 status ++ leBytes 8 v)

/-- I3C_PRIVATE_READ: the status of a transfer that was turned away, else the selected register (R501, R567, R568). -/
def execI3cPrivateRead (busBusy : Bool) (s : State) : Host.Outcome State Fault Refusal :=
  .next
    (s.ccc fun s =>
      match s.brd.status, s.brd.sel with
      | 0, some off =>
        if !i3cReads off then (s.bump brdI3c BRD_I3C_NOT_ALLOWED).i3cAnswer 1 0
        else if busBusy then s.i3cAnswer 3 0
        else s.i3cAnswer 0 (if s.pwr.gated && onComputeDie off then 0 else (s.rd off).toNat)
      | 1, _ => s.i3cAnswer 1 0
      | _, _ => (s.bump brdI3c BRD_I3C_PROTO_ERR).i3cAnswer 2 0)

/-- ENEC: bit 0 enables in-band interrupts (R565, R569). -/
def execEnec (ev : Byte) (s : State) : Host.Outcome State Fault Refusal :=
  .next (s.ccc fun s => if bit ev.toNat 0 then s.setFld brdI3c BRD_I3C_IBI_EN 1 else s)

/-- DISEC (R565, R569). -/
def execDisec (ev : Byte) (s : State) : Host.Outcome State Fault Refusal :=
  .next (s.ccc fun s => if bit ev.toNat 0 then s.setFld brdI3c BRD_I3C_IBI_EN 0 else s)

/-- A dynamic address is assigned. -/
def State.i3cAssign (s : State) (a : BitVec 7) : State := (s.setFld brdI3c BRD_I3C_DYN_ADDR a.toNat).setFld brdI3c BRD_I3C_DYN_VALID 1

/-- ENTDAA: a target without a dynamic address takes part (R565). -/
def execEntdaa (addr : BitVec 7) (s : State) : Host.Outcome State Fault Refusal :=
  .next (s.ccc fun s => if s.flag brdI3c BRD_I3C_DYN_VALID then s else s.i3cAssign addr)

/-- SETDASA, to the static address (R565, R566). -/
def execSetdasa (static dyn : BitVec 7) (s : State) : Host.Outcome State Fault Refusal :=
  .next (s.ccc fun s =>
    if s.flag brdI3c BRD_I3C_DYN_VALID || decide (static.toNat ≠ s.fld brdI3c BRD_I3C_STATIC_ADDR) then s else s.i3cAssign dyn)

/-- RSTDAA (R565, R566). -/
def execRstdaa (s : State) : Host.Outcome State Fault Refusal :=
  .next (s.ccc fun s => (s.setFld brdI3c BRD_I3C_DYN_ADDR 0).setFld brdI3c BRD_I3C_DYN_VALID 0)

/-- GETPID: the provisional ID (R565). -/
def execGetpid (s : State) : Host.Outcome State Fault Refusal :=
  .next (s.ccc fun s => s.i3cReply (beBytes 6 (0x2E71 * 2 ^ 33 + 2 ^ 32 + Config.serial % 2 ^ 32)))

/-- GETBCR (R565). -/
def execGetbcr (s : State) : Host.Outcome State Fault Refusal := .next (s.ccc fun s => s.i3cReply [0x06])

/-- GETDCR (R565). -/
def execGetdcr (s : State) : Host.Outcome State Fault Refusal := .next (s.ccc fun s => s.i3cReply [0x00])

/-- GETSTATUS: two bytes that the manual leaves to MIPI I3C: free (R565). -/
def execGetstatus (s : State) : Host.Outcome State Fault Refusal :=
  .next (s.ccc fun s => (s.i3cReply (freeBytes s.free 2)).take 2)

/-- GETMWL (R567). -/
def execGetmwl (s : State) : Host.Outcome State Fault Refusal := .next (s.ccc fun s => s.i3cReply (beBytes 2 13))

/-- GETMRL (R567). -/
def execGetmrl (s : State) : Host.Outcome State Fault Refusal := .next (s.ccc fun s => s.i3cReply (beBytes 2 9))

/-- IBI_RETRY: at a bus idle a waiting in-band interrupt is requested, its payload the vectors that rose; acknowledged, it is forgotten
(R569). -/
def execIbiRetry (acked : Bool) (s : State) : Host.Outcome State Fault Refusal :=
  .next (s.ccc fun s =>
    if s.ibi = 0 ∨ !s.flag brdI3c BRD_I3C_IBI_EN ∨ !acked then s else { s.i3cReply (leBytes 1 s.ibi) with ibi := 0 })

/-! ### The test access port (R570, R571) -/

/-- An instruction comes into effect: what it lets shift out, and what the boundary-scan register drives (R570). -/
def State.tap (s : State) (code : Nat) (shift : List Byte) (drive : Option Nat) : State :=
  ((s.setFld brdJtag BRD_JTAG_IR code).setFld brdJtag BRD_JTAG_TAP_RESET 0 |>.modBrd fun x => { x with shift := shift, drive := drive }).showPins

/-- BYPASS: one bit, 0, shifts out. -/
def State.tapBypass (s : State) (code : Nat) : State := s.tap code [0] none

/-- A refused instruction acts as BYPASS and is counted (R571). -/
def State.tapRefuse (s : State) : State := (s.bump brdJtag BRD_JTAG_REFUSED).tapBypass 0xFF

/-- The TAP works outside POR (R570). -/
def State.onTap (s : State) (refuse : Bool) (f : State → State) : State := if s.pwr.por then s else if refuse then s.tapRefuse else f s

/-- Whether the slice is armed. -/
def State.armed (s : State) : Bool := s.flag safCtl SAF_CTL_ARMED

/-- What a register whose layout is not given lets shift out: free bytes, free in number. -/
def State.freeShift (s : State) : List Byte := freeBytes (s.free + 2) (s.pick 256)
def State.tookShift (s : State) : State := s.take 258

/-- EXTEST: the boundary-scan register, whose contents are open, drives the pins (R570, R571). -/
def execExtest (s : State) : Host.Outcome State Fault Refusal :=
  .next (s.onTap s.armed fun s => (s.tap 0x00 s.freeShift (some (Config.freeNat (s.free + 1) % 16))).tookShift)

/-- IDCODE (R570). -/
def execIdcode (s : State) : Host.Outcome State Fault Refusal :=
  .next (s.onTap false fun s => s.tap 0x01 s.idcode none)

/-- SAMPLE/PRELOAD (R570). -/
def execSamplePreload (s : State) : Host.Outcome State Fault Refusal :=
  .next (s.onTap false fun s => (s.tap 0x02 s.freeShift none).tookShift)

/-- CLAMP: the boundary-scan register drives the pins, BYPASS shifts (R570, R571). -/
def execClamp (s : State) : Host.Outcome State Fault Refusal :=
  .next (s.onTap s.armed fun s => (s.tap 0x03 [0] (some (Config.freeNat (s.free + 1) % 16))).tookShift)

/-- HIGHZ: every output is released (R570, R571). -/
def execHighz (s : State) : Host.Outcome State Fault Refusal := .next (s.onTap s.armed fun s => s.tap 0x04 [0] (some 0))

/-- Whether debug transport is refused (R571). -/
def State.noDebug (s : State) : Bool := s.armed || s.flag brdJtag BRD_JTAG_DEBUG_LOCK

/-- DTMCS (R570, R571). -/
def execDtmcs (s : State) : Host.Outcome State Fault Refusal :=
  .next (s.onTap s.noDebug fun s => s.tap 0x10 (leBytes 4 dtmcsValue) none)

/-- DMI, with a scan of its register (R570, R571): the result of the operation before shifts out, and the one shifted in is carried out; in MOD
the debug module is reached but the cores stay in reset. -/
def execDmi (s : State) (addr : Nat := 0) (data : BitVec 32 := 0) (op : BitVec 2 := 0) : Host.Outcome State Fault Refusal :=
  .next (s.onTap s.noDebug fun s => (s.tap 0x11 (s.dmiShift addr) none).dmiOp addr data op)

/-- The codes that name another instruction. -/
def tapNamed : List Nat := [0x00, 0x01, 0x02, 0x03, 0x04, 0x10, 0x11]

/-- BYPASS: code FFH and every code that names no other instruction (R570). -/
def execBypass (code : BitVec 8) (s : State) : Host.Outcome State Fault Refusal :=
  .next (s.onTap false fun s => s.tapBypass (if tapNamed.contains code.toNat then 0xFF else code.toNat))

/-- TAP_RESET: the TAP goes to Test-Logic-Reset, where IDCODE is selected (R570). -/
def execTapReset (s : State) : Host.Outcome State Fault Refusal :=
  .next (s.onTap false fun s =>
    ((s.setFld brdJtag BRD_JTAG_IR 0x01).setFld brdJtag BRD_JTAG_TAP_RESET 1 |>.modBrd fun x => { x with shift := s.idcode, drive := none }).showPins)

end Sys2Proof.Machine
end

