-- ==== Sys2Proof/Machine/ChanEvents.lean ====
section
/-!
DEFINITION. What happens inside a channel beside its operations (chapter 3): results and rows landing, cues firing, the understudy engine,
the SRAM scrubber, starting and stopping, and the network port of the channel. An event whose condition does not hold changes nothing
(log entry 1).
-/

namespace Sys2Proof.Machine

/-- The event in flight that satisfies `p` and lands next, if it may land: on a channel that runs freely only when its cycle has come. -/
def State.nextEvent (s : State) (n : Fin 8) (p : Ev → Bool) : Option Flight :=
  let c := s.chan n
  match c.flight.find? (fun f => p f.ev) with
  | some f =>
    if s.running n && c.held.isNone && decide (c.cycle < f.due) then none
    else if s.running n && c.held.isSome && decide (s.cycleNow n < f.due) then none
    else some f
  | none => none

/-- Lands everything in flight up to the next event that satisfies `p` (R84, R144). -/
def State.landNext (s : State) (n : Fin 8) (p : Ev → Bool) (obs : TeObs) : State :=
  match s.nextEvent n p with
  | some _ => s.landUntil n p obs (2 * (s.chan n).flight.length)
  | none => s

/-- Whether operation `j` in flight satisfies `p`. -/
def Chan.jobIs (c : Chan) (j : Nat) (p : JobOp → Bool) : Bool :=
  match c.job? j with
  | some x => p x.op
  | none => false

/-- Whether an event completes something of an operation of engine `e`. -/
def Chan.evEngine (c : Chan) (e : Nat) : Ev → Bool
  | .tileDone j => c.jobIs j fun o => match o with
    | .loadw e' _ _ => decide (e' = e)
    | _ => false
  | .rowDone _ e' _ => decide (e' = e)
  | .drainWrite j _ _ => c.jobIs j fun o => match o with
    | .drain e' _ _ _ _ _ _ _ _ _ _ => decide (e' = e)
    | _ => false
  | _ => false

/-- WEIGHT_TILE_LOADED: a tile is complete in the standby buffer (R104). -/
def execWeightTileLoaded (n : Fin 8) (e : Fin 16) (s : State) : Host.Outcome State Fault Refusal :=
  .next (s.landNext n (fun v => (match v with | .tileDone _ => true | _ => false) && (s.chan n).evEngine e v) noObs)

/-- ACC_ROW_COMPLETE: a row is complete in the accumulator file (R107), checked by its residue and by TE16 (R69, R111). -/
def execAccRowComplete (n : Fin 8) (e : Fin 16) (obs : TeObs) (s : State) : Host.Outcome State Fault Refusal :=
  .next (s.landNext n (fun v => (match v with | .rowDone _ _ _ => true | _ => false) && (s.chan n).evEngine e v) obs)

/-- DRAIN_ROW_WRITE: a drain writes an output row (R109), compared by TE16 (R111). -/
def execDrainRowWrite (n : Fin 8) (e : Fin 16) (obs : TeObs) (s : State) : Host.Outcome State Fault Refusal :=
  .next (s.landNext n (fun v => (match v with | .drainWrite _ _ _ => true | _ => false) && (s.chan n).evEngine e v) obs)

/-- RESULT_WRITEBACK: the next register result lands (R84), in a scalar, vector or cue register. -/
def execResultWriteback (n : Fin 8) (s : State) : Host.Outcome State Fault Refusal :=
  .next (s.landNext n (fun v => match v with | .sreg _ _ => true | .vreg _ _ => true | .cueWrite _ _ => true | _ => false) noObs)

/-- CUE_FIRE: the channel's view of time reaches a cue's tick (R100); a held bundle is looked at again (R101, R102). -/
def execCueFire (n : Fin 8) (c : Fin 16) (s : State) : Host.Outcome State Fault Refusal :=
  .next
    (let cyc := s.cycleNow n
     if !s.fired n c && s.cueReached n (s.rd (chCue n c)).toNat cyc then (s.setFired n c cyc).recheck n else s)

/-! ### The understudy engine (R110, R111) -/

/-- Ticks per target (R132). -/
def State.shadowPeriod (s : State) (n : Fin 8) : Nat := max 100000 (s.fld (chShadow n) CH_SHADOW_PERIOD)

/-- Whether TE16 may shadow (R110, R111). -/
def State.mayShadow (s : State) (n : Fin 8) : Bool :=
  s.flag (chShadow n) CH_SHADOW_EN && s.flag (chTeMap n) CH_TE_MAP_SHADOW_AVAIL && !s.flag (chShadow n) CH_SHADOW_TE16_RESIDUE

/-- SHADOW_TARGET_CHANGE: TARGET follows Huawald time; TE16 begins to copy the weights of the new target (R110). -/
def execShadowTargetChange (n : Fin 8) (s : State) : Host.Outcome State Fault Refusal :=
  .next
    (let t := s.now / s.shadowPeriod n % 16
     if t = s.fld (chShadow n) CH_SHADOW_TARGET then s
     else
       let s := (s.setFld (chShadow n) CH_SHADOW_TARGET t).setFld (chShadow n) CH_SHADOW_COMPARING 0
       let may := s.mayShadow n
       s.setChan n { s.chan n with
         shTarget := t, shCopying := if may then some s.now else none, shStopped := (s.chan n).shStopped && !may, shLive := false })

/-- SHADOW_COPY_DONE: 64 cycles after the copy began, TE16 has the target's weights and compares (R110). -/
def execShadowCopyDone (n : Fin 8) (s : State) : Host.Outcome State Fault Refusal :=
  .next
    (match (s.chan n).shCopying with
     | some t =>
       if s.mayShadow n && decide (64 * 1000 ≤ (s.now - t) * s.arithMHz n) then
         let c := s.chan n
         let p := c.phys c.shTarget
         (s.setChan n { c with
           shCopying := none, shLive := false
           active := kset (fun _ => tile0) c.active 16 (kget (fun _ => tile0) c.active p)
           standby := kset (fun _ => tile0) c.standby 16 (kget (fun _ => tile0) c.standby p) }).setFlag (chShadow n) CH_SHADOW_COMPARING
       else s
     | none => s)

/-! ### Channel memories (R81, R122) -/

/-- What the scrubber does with a row it has read: every word named is decoded, corrected and counted, or is a channel fault; corrections count
towards the bank's retirement from the first row of a sweep on (R81, R83). -/
def State.scrubRow (s : State) (n : Fin 8) (bank row : Nat) (errs : EccObs) : State :=
  let s := if row = 0 then s.setChan n { s.chan n with sweep := kset (fun _ => 0) (s.chan n).sweep bank 0 } else s
  errs.foldl (fun s x =>
    if x.1 < 8 then s.eccFound n bank 6 (s.fld (chStatus n) CH_STATUS_PC) (s.cycleNow n) (readWord 0 x.2).2 else s) s

/-- SRAM_SCRUB_READ: the scrubber reads the eight words of a row of a physical bank, in a cycle its bank's arbiter grants (R79, R81); a bank
that serves no logical one has no other user to wait for. -/
def execSramScrubRead (n : Fin 8) (bank : Fin 66) (row : Fin 12288) (errs : EccObs) (s : State) : Host.Outcome State Fault Refusal :=
  .next
    (if s.fld (chStatus n) CH_STATUS_STATE = stInit then s
     else
       match s.arbAccesses (((fins 64).find? fun (b : Fin 64) => decide (physBank (s.bankMap n) b.val = bank.val)).toList.map fun (b : Fin 64) =>
         ((3 : Fin 10), ArbId.bank n b)) with
       | (s, false) => s
       | (s, true) => s.scrubRow n bank row errs)

/-- A channel whose memories hold zero (R122). -/
def Chan.zeroed (c : Chan) : Chan :=
  { c with sregs := [], vregs := [], sram := [], isram := [], acc := [], kind := [], active := [], standby := [] }

/-- SRAM_INIT_DONE: the memories of the channel hold zero and it enters IDLE (R121, R122). -/
def execSramInitDone (n : Fin 8) (s : State) : Host.Outcome State Fault Refusal :=
  .next
    (if s.fld (chStatus n) CH_STATUS_STATE = stInit then
       (s.setChan n (s.chan n).zeroed).setFld (chStatus n) CH_STATUS_STATE stIdle
     else s)

/-! ### Starting and stopping -/

/-- RUN_START: a write to CH_CTL with RUN 1 (R123). -/
def execRunStart (n : Fin 8) (value : Word64) (s : State) : Host.Outcome State Fault Refusal :=
  .next (s.writeChCtl n (setF value CH_CTL_RUN 1))

/-- RUN_STOP: a write to CH_CTL with RUN 0 (R124). -/
def execRunStop (n : Fin 8) (value : Word64) (s : State) : Host.Outcome State Fault Refusal :=
  .next (s.writeChCtl n (setF value CH_CTL_RUN 0))

/-- STOP_AT_CUE_WRITE: a write to CH_CTL with STOP_AT_CUE 1, RUN written as it reads (R124, R127). -/
def execStopAtCueWrite (n : Fin 8) (value : Word64) (s : State) : Host.Outcome State Fault Refusal :=
  .next (s.writeChCtl n (setF (setF value CH_CTL_STOP_AT_CUE 1) CH_CTL_RUN (s.fld (chCtl n) CH_CTL_RUN)))

/-- The cues a held bundle waits on (R154). -/
def Bundle.cuesNamed (b : Bundle) : List Nat := b.cue?.toList ++ b.waits.map fun f => f.cue.toNat

/-- UNARMED_WAIT_POLL: firmware reads CH_STATUS; a channel held with the same PC in two successive reads on a cue that never fires is
stopped and UNARMED is raised (R154). -/
def execUnarmedWaitPoll (n : Fin 8) (s : State) : Host.Outcome State Fault Refusal :=
  .next
    (if !s.running n then s.setChan n { s.chan n with lastPoll := none }
     else
       match (s.chan n).held with
       | none => s.setChan n { s.chan n with lastPoll := none }
       | some h =>
         let pc := s.fld (chStatus n) CH_STATUS_PC
         if (s.chan n).lastPoll = some pc && h.bundle.cuesNamed.any (fun q => (s.rd (chCue n q)).toNat = 2 ^ 64 - 1) then
           (((s.stopDiscard n stIdle).setChan n { (s.stopDiscard n stIdle).chan n with lastPoll := none })).raiseCause 7 n 0 none
         else s.setChan n { s.chan n with lastPoll := some pc })

/-! ### The network port of the channel -/

/-- FLIT_DEPARTURE: the departure slot of the next flit of a TXQ arrives: the flit leaves for the crossbar, or it is late, or it is blocked
behind a flit of a later slot (R101, R117). The entry it leaves takes the next payload (R116). DETAIL counts the flits of the descriptor that
have not left, or the slots of a blocked one that have passed (log entry 66). -/
def execFlitDeparture (n : Fin 8) (q : Fin 8) (s : State) : Host.Outcome State Fault Refusal :=
  .next
    (let c := s.chan n
     match c.txq[q.val] with
     | [] => s
     | d :: rest =>
       let slot := d.slot0 + d.sent
       let blocked := rest.find? fun e => decide (e.slot0 ≤ s.slotNow ∧ e.slot0 < slot)
       match blocked with
       | some e => s.overrun n 2 e.cue q (min e.n (s.slotNow + 1 - e.slot0))
       | none =>
         if s.slotNow < slot then s
         else
           match d.data[d.sent]? with
           | none => s.overrun n 2 d.cue q (d.n - d.sent)
           | some (ready, b) =>
             if slotTick slot < ready then s.overrun n 2 d.cue q (d.n - d.sent)
             else
               let x : Vc0Flit := ⟨d.circuit, slot, 0, b⟩
               let left := if d.sent + 1 = d.n then rest else { d with sent := d.sent + 1 } :: rest
               let s := ((s.setChan n { c with txq := c.txq.set q.val left }).fillTx n q 32).showQueues n
               s.setNet { s.net with enter := klAdd s.net.enter (24 + n) x })

/-- RXQ_FLIT_ARRIVE: a VC0 flit reaches an RXQ 40 ns after it left the crossbar (R118, R144, R232); after a stop that discards the RXQs it is
discarded (R124), and in a full RXQ it has no entry (R241). -/
def execRxqFlitArrive (n : Fin 8) (q : Fin 8) (s : State) : Host.Outcome State Fault Refusal :=
  .next
    (let l := kl s.net.toChan n
     match l.find? (fun x => x.2.1 = q.val) with
     | none => s
     | some x =>
       if 7 * s.now < 8 * x.1 + 280 then s
       else
         let s := s.setNet { s.net with toChan := klSet s.net.toChan n (l.erase x) }
         let c := s.chan n
         if c.portClosed then s.telemDrop (24 + n) 0
         else if 64 ≤ c.rxq[q.val].length then s.vc0Drop NET_VC0_ERR_NOCREDIT 2 (24 + n) 0 x.2.2
         else (s.setChan n { c with rxq := c.rxq.set q.val (c.rxq[q.val] ++ [x.2.2.data]) }).showQueues n)

/-- DEPOSIT_COMPLETE: the oldest flit of an RXQ is deposited in the next slot of the oldest posted descriptor, in its first 232 bytes,
once the banks grant it (R79, R116, R118). -/
def execDepositComplete (n : Fin 8) (q : Fin 8) (s : State) : Host.Outcome State Fault Refusal :=
  .next
    (let c := s.chan n
     match c.rxq[q.val], c.rxd[q.val] with
     | x :: xs, d :: ds =>
       match s.arbAccesses (bankArbs 0 n (d.addr + 256 * d.done) 232) with
       | (s, false) => s
       | (s, true) =>
         let c := (s.chan n).sramWrite (s.bankMap n) (d.addr + 256 * d.done) (x.take 232)
         let left := if d.done + 1 = d.n then ds else { d with done := d.done + 1 } :: ds
         (s.setChan n { c with rxq := c.rxq.set q.val xs, rxd := c.rxd.set q.val left }).showQueues n
     | _, _ => s)

/-- LIMIT in effect (R265), none when the watch is disabled. -/
def State.rxLimit (s : State) (n : Fin 8) : Option Nat :=
  let v := s.fld (netRxWatch n) NET_RX_WATCH_LIMIT
  if v = 0 then if s.flag safCtl SAF_CTL_ARMED then some 15000000 else none
  else some (min v 15000000)

/-- RX_WATCH_EXPIRY: a descriptor still incomplete LIMIT ticks after it was posted is a missing flit (R250). -/
def execRxWatchExpiry (n : Fin 8) (q : Fin 8) (s : State) : Host.Outcome State Fault Refusal :=
  .next
    (match s.rxLimit n with
     | none => s
     | some lim =>
       let c := s.chan n
       let ds := c.rxd[q.val]
       match ds.find? (fun d => !d.missed && decide (d.posted + lim ≤ s.now)) with
       | none => s
       | some d =>
         let s := s.setChan n { c with rxd := c.rxd.set q.val (ds.map fun e => if e = d then { e with missed := true } else e) }
         (s.bump (netVc0Cnt (24 + n)) NET_VC0_CNT_MISSING).vc0Fault 5 (24 + n) q (s.fld netFabCtl NET_FAB_CTL_ACTIVE_BANK)
           (s.slotNow % 65536))

end Sys2Proof.Machine
end

