-- ==== Sys2Proof/Machine/Bundle.lean ====
section
/-!
DEFINITION. The 512 bits of a bundle (R85) taken apart into its header and its slots, with the fields of the slot tables (R90, R91, R95 to
R99). A slot whose opcode is reserved, and an empty slot that is not all zero, leave the bundle marked (R86).
-/

namespace Sys2Proof.Machine

/-- Bits of a slot or bundle, from `lo`, as many as the type asked for has. -/
def fieldOf {w : Nat} (x : BitVec w) (lo k : Nat) : BitVec k := x.extractLsb' lo k

/-- One bit of a slot. -/
def bitOf {w : Nat} (x : BitVec w) (i : Nat) : Bool := x.getLsbD i

/-- What a slot holds: nothing, an operation, or neither. -/
inductive SlotIs where
  | empty
  | op (o : Op)
  | bad
  deriving DecidableEq, Repr

/-- A slot with opcode 0 is empty when the rest of it is 0 too. -/
def nopSlot {w : Nat} (x : BitVec w) : SlotIs := if x = 0 then .empty else .bad

/-- A tensor-engine slot of group `g` (R90). -/
def decodeTe (g : Fin 2) (x : BitVec 64) : SlotIs :=
  let eng := fieldOf x 6 8
  match (fieldOf x 0 6).toNat with
  | 0 => nopSlot x
  | 1 => .op (.loadw ⟨g, eng, fieldOf x 14 4, fieldOf x 18 6, fieldOf x 24 6, fieldOf x 30 34⟩)
  | 2 => .op (.pass ⟨g, eng, fieldOf x 14 4, fieldOf x 18 4, fieldOf x 22 6, fieldOf x 28 6, fieldOf x 34 8, fieldOf x 42 8, bitOf x 50,
      fieldOf x 51 9, fieldOf x 60 4⟩)
  | 3 => .op (.drain ⟨g, eng, fieldOf x 14 4, bitOf x 18, fieldOf x 19 2, bitOf x 21, fieldOf x 22 6, fieldOf x 28 6, fieldOf x 34 6,
      fieldOf x 40 8, fieldOf x 48 8, fieldOf x 56 8⟩)
  | 4 => .op (.loadacc ⟨g, eng, fieldOf x 14 4, fieldOf x 18 6, fieldOf x 24 8, fieldOf x 32 8, fieldOf x 40 9, fieldOf x 49 15⟩)
  | _ => .bad

/-- The vector operation of an opcode (R91). -/
def vopOf (k : Nat) : Option VOp :=
  if k = 0x20 then some .xfill else if k = 0x21 then some .xreset else if k = 0x22 then some .xread
  else if k = 0 then none
  else [VOp.vadd, .vsub, .vmul, .vfma, .vdiv, .vsqrt, .vmax, .vmin, .vcmp, .vsel, .viadd, .visub, .viand, .vior, .vixor, .vishl, .vishr,
    .vcvt, .vunpk, .vwadd, .vwrnd, .vshuf, .vrsum, .vbcast, .vmovs][k - 1]?

/-- Vector slot `i` (R91). -/
def decodeVec (i : Fin 2) (x : BitVec 48) : SlotIs :=
  if (fieldOf x 0 6).toNat = 0 then nopSlot x
  else
    match vopOf (fieldOf x 0 6).toNat with
    | some o => .op (.vec o ⟨i, fieldOf x 6 5, fieldOf x 11 5, fieldOf x 16 5, fieldOf x 21 5, fieldOf x 26 4, bitOf x 30, fieldOf x 31 2,
        bitOf x 33, fieldOf x 34 6, fieldOf x 40 8⟩)
    | none => .bad

/-- The special-function slot (R95). -/
def decodeSf (x : BitVec 32) : SlotIs :=
  let f : SfF := ⟨fieldOf x 4 5, fieldOf x 9 5, fieldOf x 14 18⟩
  match (fieldOf x 0 4).toNat with
  | 0 => nopSlot x
  | 1 => .op (.sf .recip f)
  | 2 => .op (.sf .rsqrt f)
  | 3 => .op (.sf .exp f)
  | 4 => .op (.sf .log f)
  | 5 => .op (.sf .tanh f)
  | _ => .bad

/-- Memory slot `i` (R96). -/
def decodeMem (i : Fin 2) (x : BitVec 48) : SlotIs :=
  let f : MemF := ⟨i, fieldOf x 6 5, fieldOf x 11 6, fieldOf x 17 6, fieldOf x 23 16, fieldOf x 39 9⟩
  match (fieldOf x 0 6).toNat with
  | 0 => nopSlot x
  | 1 => .op (.ldv f)
  | 2 => .op (.stv f)
  | 3 => .op (.lds f)
  | 4 => .op (.sts f)
  | _ => .bad

/-- Queue slot `i` (R97). -/
def decodeQue (i : Fin 2) (x : BitVec 32) : SlotIs :=
  let f : QueF := ⟨i, fieldOf x 4 5, fieldOf x 9 16, fieldOf x 25 4, fieldOf x 29 3⟩
  match (fieldOf x 0 4).toNat with
  | 0 => nopSlot x
  | 1 => .op (.qwait f)
  | 2 => .op (.qrel f)
  | 3 => .op (.qcommit f)
  | 4 => .op (.qstart f)
  | _ => .bad

/-- The network slot (R98). -/
def decodeNet (x : BitVec 48) : SlotIs :=
  let f : NetF := ⟨fieldOf x 4 3, fieldOf x 7 12, fieldOf x 19 6, fieldOf x 25 4, fieldOf x 29 4, fieldOf x 33 15⟩
  match (fieldOf x 0 4).toNat with
  | 0 => nopSlot x
  | 1 => .op (.nsend f)
  | 2 => .op (.nrecv f)
  | _ => .bad

/-- The control operation of an opcode (R99). -/
def copOf (k : Nat) : Option COp :=
  if k = 0x10 then some .br else if k = 0x11 then some .beqz else if k = 0x12 then some .bnez
  else if k = 0x18 then some .intermit else if k = 0x19 then some .halt else if k = 0x1A then some .signal
  else if k = 0 then none
  else [COp.cue, .cueset, .sadd, .saddi, .ssub, .smul, .sand, .sor, .sxor, .sshl, .sshr, .ssra, .slui, .scmplt][k - 1]?

/-- The control slot (R99). -/
def decodeCtl (x : BitVec 40) : SlotIs :=
  if (fieldOf x 0 6).toNat = 0 then nopSlot x
  else
    match copOf (fieldOf x 0 6).toNat with
    | some o => .op (.ctl o ⟨fieldOf x 6 6, fieldOf x 12 6, fieldOf x 18 6, fieldOf x 24 16⟩)
    | none => .bad

/-- The slots of a bundle, lowest first (R85). -/
def bundleSlots (x : BitVec 512) : List SlotIs :=
  [decodeTe 0 (fieldOf x 8 64), decodeTe 1 (fieldOf x 72 64), decodeVec 0 (fieldOf x 136 48), decodeVec 1 (fieldOf x 184 48),
    decodeSf (fieldOf x 232 32), decodeMem 0 (fieldOf x 264 48), decodeMem 1 (fieldOf x 312 48), decodeQue 0 (fieldOf x 360 32),
    decodeQue 1 (fieldOf x 392 32), decodeNet (fieldOf x 424 48), decodeCtl (fieldOf x 472 40)]

/-- The bundle that 512 bits hold (R85), read with these errors. -/
def decodeBundle (x : BitVec 512) (errs : List ReadErr) : Bundle where
  hdr := (fieldOf x 0 8).toNat
  ops := (bundleSlots x).filterMap fun s => match s with
    | .op o => some o
    | _ => none
  bad := (bundleSlots x).contains .bad
  errs := errs

end Sys2Proof.Machine
end

