-- ==== Sys2Proof/Machine/ChannelOps.lean ====
section
/-!
DEFINITION. The operations of a channel (chapter 3): each puts one slot of a bundle before the sequencer, which issues the bundle as a whole
when its last slot arrives (R86, R89; log entries 3 and 4).
-/

namespace Sys2Proof.Machine

/-- LOADW: starts loading a weight tile (R104, R105). -/
def execLoadw (i : Issue) (f : LoadwF) (s : State) : Host.Outcome State Fault Refusal := .next (s.slotIssue i (.loadw f))

/-- PASS: a run of rows through the selected engines (R106, R107). -/
def execPass (i : Issue) (f : PassF) (s : State) : Host.Outcome State Fault Refusal := .next (s.slotIssue i (.pass f))

/-- DRAIN: reads accumulator rows out through the conversion (R109). -/
def execDrain (i : Issue) (f : DrainF) (s : State) : Host.Outcome State Fault Refusal := .next (s.slotIssue i (.drain f))

/-- LOADACC: loads accumulator rows from wide partials (R107, R68). -/
def execLoadacc (i : Issue) (f : LoadaccF) (s : State) : Host.Outcome State Fault Refusal := .next (s.slotIssue i (.loadacc f))

/-- VADD: FP32 addition (R92). -/
def execVadd (i : Issue) (f : VecF) (s : State) : Host.Outcome State Fault Refusal := .next (s.slotIssue i (.vec .vadd f))

/-- VSUB: FP32 subtraction (R92). -/
def execVsub (i : Issue) (f : VecF) (s : State) : Host.Outcome State Fault Refusal := .next (s.slotIssue i (.vec .vsub f))

/-- VMUL: FP32 multiplication (R92). -/
def execVmul (i : Issue) (f : VecF) (s : State) : Host.Outcome State Fault Refusal := .next (s.slotIssue i (.vec .vmul f))

/-- VFMA: fused multiply and add (R92). -/
def execVfma (i : Issue) (f : VecF) (s : State) : Host.Outcome State Fault Refusal := .next (s.slotIssue i (.vec .vfma f))

/-- VDIV: FP32 division (R92). -/
def execVdiv (i : Issue) (f : VecF) (s : State) : Host.Outcome State Fault Refusal := .next (s.slotIssue i (.vec .vdiv f))

/-- VSQRT: FP32 square root (R92). -/
def execVsqrt (i : Issue) (f : VecF) (s : State) : Host.Outcome State Fault Refusal := .next (s.slotIssue i (.vec .vsqrt f))

/-- VMAX: IEEE maximum (R92). -/
def execVmax (i : Issue) (f : VecF) (s : State) : Host.Outcome State Fault Refusal := .next (s.slotIssue i (.vec .vmax f))

/-- VMIN: IEEE minimum (R92). -/
def execVmin (i : Issue) (f : VecF) (s : State) : Host.Outcome State Fault Refusal := .next (s.slotIssue i (.vec .vmin f))

/-- VCMP: comparison to a lane mask (R92). -/
def execVcmp (i : Issue) (f : VecF) (s : State) : Host.Outcome State Fault Refusal := .next (s.slotIssue i (.vec .vcmp f))

/-- VSEL: selection by a lane mask (R92). -/
def execVsel (i : Issue) (f : VecF) (s : State) : Host.Outcome State Fault Refusal := .next (s.slotIssue i (.vec .vsel f))

/-- VIADD: integer addition by lane (R92). -/
def execViadd (i : Issue) (f : VecF) (s : State) : Host.Outcome State Fault Refusal := .next (s.slotIssue i (.vec .viadd f))

/-- VISUB: integer subtraction by lane (R92). -/
def execVisub (i : Issue) (f : VecF) (s : State) : Host.Outcome State Fault Refusal := .next (s.slotIssue i (.vec .visub f))

/-- VIAND: bitwise and by lane (R92). -/
def execViand (i : Issue) (f : VecF) (s : State) : Host.Outcome State Fault Refusal := .next (s.slotIssue i (.vec .viand f))

/-- VIOR: bitwise or by lane (R92). -/
def execVior (i : Issue) (f : VecF) (s : State) : Host.Outcome State Fault Refusal := .next (s.slotIssue i (.vec .vior f))

/-- VIXOR: bitwise exclusive or by lane (R92). -/
def execVixor (i : Issue) (f : VecF) (s : State) : Host.Outcome State Fault Refusal := .next (s.slotIssue i (.vec .vixor f))

/-- VISHL: shift left by lane (R92). -/
def execVishl (i : Issue) (f : VecF) (s : State) : Host.Outcome State Fault Refusal := .next (s.slotIssue i (.vec .vishl f))

/-- VISHR: shift right by lane (R92). -/
def execVishr (i : Issue) (f : VecF) (s : State) : Host.Outcome State Fault Refusal := .next (s.slotIssue i (.vec .vishr f))

/-- VCVT: conversion of FP32 lanes to a format (R91, R92). -/
def execVcvt (i : Issue) (f : VecF) (s : State) : Host.Outcome State Fault Refusal := .next (s.slotIssue i (.vec .vcvt f))

/-- VUNPK: unpacking of elements to FP32 lanes (R91, R92). -/
def execVunpk (i : Issue) (f : VecF) (s : State) : Host.Outcome State Fault Refusal := .next (s.slotIssue i (.vec .vunpk f))

/-- VWADD: addition of wide partials (R92, R68). -/
def execVwadd (i : Issue) (f : VecF) (s : State) : Host.Outcome State Fault Refusal := .next (s.slotIssue i (.vec .vwadd f))

/-- VWRND: rounding of wide partials (R92, R68). -/
def execVwrnd (i : Issue) (f : VecF) (s : State) : Host.Outcome State Fault Refusal := .next (s.slotIssue i (.vec .vwrnd f))

/-- VSHUF: shuffle of lanes (R92). -/
def execVshuf (i : Issue) (f : VecF) (s : State) : Host.Outcome State Fault Refusal := .next (s.slotIssue i (.vec .vshuf f))

/-- VRSUM: sum over lanes (R92). -/
def execVrsum (i : Issue) (f : VecF) (s : State) : Host.Outcome State Fault Refusal := .next (s.slotIssue i (.vec .vrsum f))

/-- VBCAST: broadcast of a scalar (R92). -/
def execVbcast (i : Issue) (f : VecF) (s : State) : Host.Outcome State Fault Refusal := .next (s.slotIssue i (.vec .vbcast f))

/-- VMOVS: lane 0 to a scalar register (R92). -/
def execVmovs (i : Issue) (f : VecF) (s : State) : Host.Outcome State Fault Refusal := .next (s.slotIssue i (.vec .vmovs f))

/-- XFILL: fills the expert slot table (R119, R120). -/
def execXfill (i : Issue) (f : VecF) (s : State) : Host.Outcome State Fault Refusal := .next (s.slotIssue i (.vec .xfill f))

/-- XRESET: clears the expert slot table (R119). -/
def execXreset (i : Issue) (f : VecF) (s : State) : Host.Outcome State Fault Refusal := .next (s.slotIssue i (.vec .xreset f))

/-- XREAD: reads the expert slot table (R119). -/
def execXread (i : Issue) (f : VecF) (s : State) : Host.Outcome State Fault Refusal := .next (s.slotIssue i (.vec .xread f))

/-- RECIP: reciprocal (R95). -/
def execRecip (i : Issue) (f : SfF) (s : State) : Host.Outcome State Fault Refusal := .next (s.slotIssue i (.sf .recip f))

/-- RSQRT: reciprocal square root (R95). -/
def execRsqrt (i : Issue) (f : SfF) (s : State) : Host.Outcome State Fault Refusal := .next (s.slotIssue i (.sf .rsqrt f))

/-- EXP: exponential (R95). -/
def execExp (i : Issue) (f : SfF) (s : State) : Host.Outcome State Fault Refusal := .next (s.slotIssue i (.sf .exp f))

/-- LOG: logarithm (R95). -/
def execLog (i : Issue) (f : SfF) (s : State) : Host.Outcome State Fault Refusal := .next (s.slotIssue i (.sf .log f))

/-- TANH: hyperbolic tangent (R95). -/
def execTanh (i : Issue) (f : SfF) (s : State) : Host.Outcome State Fault Refusal := .next (s.slotIssue i (.sf .tanh f))

/-- LDV: loads a vector register from channel SRAM (R96); `ecc` are errors that its own read meets, beside those of its bundle (R81). -/
def execLdv (i : Issue) (f : MemF) (ecc : EccObs) (s : State) : Host.Outcome State Fault Refusal :=
  .next (s.slotIssue (i.withSram ecc) (.ldv f))

/-- STV: stores a vector register (R96). -/
def execStv (i : Issue) (f : MemF) (s : State) : Host.Outcome State Fault Refusal := .next (s.slotIssue i (.stv f))

/-- LDS: loads a scalar register (R96), `ecc` as for LDV. -/
def execLds (i : Issue) (f : MemF) (ecc : EccObs) (s : State) : Host.Outcome State Fault Refusal :=
  .next (s.slotIssue (i.withSram ecc) (.lds f))

/-- STS: stores a scalar register (R96). -/
def execSts (i : Issue) (f : MemF) (s : State) : Host.Outcome State Fault Refusal := .next (s.slotIssue i (.sts f))

/-- QWAIT: waits for a count (R97, R151). -/
def execQwait (i : Issue) (f : QueF) (s : State) : Host.Outcome State Fault Refusal := .next (s.slotIssue i (.qwait f))

/-- QREL: releases entries of a load queue (R97, R115). -/
def execQrel (i : Issue) (f : QueF) (s : State) : Host.Outcome State Fault Refusal := .next (s.slotIssue i (.qrel f))

/-- QCOMMIT: commits entries of a store queue (R97, R115). -/
def execQcommit (i : Issue) (f : QueF) (s : State) : Host.Outcome State Fault Refusal := .next (s.slotIssue i (.qcommit f))

/-- QSTART: hands a descriptor to a stream engine (R97, R188). -/
def execQstart (i : Issue) (f : QueF) (s : State) : Host.Outcome State Fault Refusal := .next (s.slotIssue i (.qstart f))

/-- NSEND: posts a send descriptor (R98, R117). -/
def execNsend (i : Issue) (f : NetF) (s : State) : Host.Outcome State Fault Refusal := .next (s.slotIssue i (.nsend f))

/-- NRECV: posts a receive descriptor (R98, R118). -/
def execNrecv (i : Issue) (f : NetF) (s : State) : Host.Outcome State Fault Refusal := .next (s.slotIssue i (.nrecv f))

/-- CUE: holds until a cue fires (R99, R100). -/
def execCue (i : Issue) (f : CtlF) (s : State) : Host.Outcome State Fault Refusal := .next (s.slotIssue i (.ctl .cue f))

/-- CUESET: writes a cue register (R99). -/
def execCueset (i : Issue) (f : CtlF) (s : State) : Host.Outcome State Fault Refusal := .next (s.slotIssue i (.ctl .cueset f))

/-- SADD: scalar operation of the control slot (R99). -/
def execSadd (i : Issue) (f : CtlF) (s : State) : Host.Outcome State Fault Refusal := .next (s.slotIssue i (.ctl .sadd f))

/-- SADDI: scalar operation of the control slot (R99). -/
def execSaddi (i : Issue) (f : CtlF) (s : State) : Host.Outcome State Fault Refusal := .next (s.slotIssue i (.ctl .saddi f))

/-- SSUB: scalar operation of the control slot (R99). -/
def execSsub (i : Issue) (f : CtlF) (s : State) : Host.Outcome State Fault Refusal := .next (s.slotIssue i (.ctl .ssub f))

/-- SMUL: scalar operation of the control slot (R99). -/
def execSmul (i : Issue) (f : CtlF) (s : State) : Host.Outcome State Fault Refusal := .next (s.slotIssue i (.ctl .smul f))

/-- SAND: scalar operation of the control slot (R99). -/
def execSand (i : Issue) (f : CtlF) (s : State) : Host.Outcome State Fault Refusal := .next (s.slotIssue i (.ctl .sand f))

/-- SOR: scalar operation of the control slot (R99). -/
def execSor (i : Issue) (f : CtlF) (s : State) : Host.Outcome State Fault Refusal := .next (s.slotIssue i (.ctl .sor f))

/-- SXOR: scalar operation of the control slot (R99). -/
def execSxor (i : Issue) (f : CtlF) (s : State) : Host.Outcome State Fault Refusal := .next (s.slotIssue i (.ctl .sxor f))

/-- SSHL: scalar operation of the control slot (R99). -/
def execSshl (i : Issue) (f : CtlF) (s : State) : Host.Outcome State Fault Refusal := .next (s.slotIssue i (.ctl .sshl f))

/-- SSHR: scalar operation of the control slot (R99). -/
def execSshr (i : Issue) (f : CtlF) (s : State) : Host.Outcome State Fault Refusal := .next (s.slotIssue i (.ctl .sshr f))

/-- SSRA: scalar operation of the control slot (R99). -/
def execSsra (i : Issue) (f : CtlF) (s : State) : Host.Outcome State Fault Refusal := .next (s.slotIssue i (.ctl .ssra f))

/-- SLUI: scalar operation of the control slot (R99). -/
def execSlui (i : Issue) (f : CtlF) (s : State) : Host.Outcome State Fault Refusal := .next (s.slotIssue i (.ctl .slui f))

/-- SCMPLT: scalar operation of the control slot (R99). -/
def execScmplt (i : Issue) (f : CtlF) (s : State) : Host.Outcome State Fault Refusal := .next (s.slotIssue i (.ctl .scmplt f))

/-- BR: branch (R87, R99). -/
def execBr (i : Issue) (f : CtlF) (s : State) : Host.Outcome State Fault Refusal := .next (s.slotIssue i (.ctl .br f))

/-- BEQZ: branch on zero (R87, R99). -/
def execBeqz (i : Issue) (f : CtlF) (s : State) : Host.Outcome State Fault Refusal := .next (s.slotIssue i (.ctl .beqz f))

/-- BNEZ: branch on not zero (R87, R99). -/
def execBnez (i : Issue) (f : CtlF) (s : State) : Host.Outcome State Fault Refusal := .next (s.slotIssue i (.ctl .bnez f))

/-- INTERMIT: stops the channel in INTERMISSION (R99, R121, R124). -/
def execIntermit (i : Issue) (f : CtlF) (s : State) : Host.Outcome State Fault Refusal := .next (s.slotIssue i (.ctl .intermit f))

/-- HALT: stops the channel in HALTED (R99, R121, R124). -/
def execHalt (i : Issue) (f : CtlF) (s : State) : Host.Outcome State Fault Refusal := .next (s.slotIssue i (.ctl .halt f))

/-- SIGNAL: posts an event code to firmware (R99). -/
def execSignal (i : Issue) (f : CtlF) (s : State) : Host.Outcome State Fault Refusal := .next (s.slotIssue i (.ctl .signal f))

/-- NOP: a bundle as a whole comes to issue, as the 512 bits of instruction SRAM hold it (R85, R86): all its slots empty, or any others. A
partly assembled bundle is given up. -/
def execNop (n : Fin 8) (bundle : BitVec 512) (s : State) (errs : List ReadErr := []) : Host.Outcome State Fault Refusal :=
  .next
    (if !s.running n || (s.chan n).held.isSome then s
     else (s.setChan n { s.chan n with asm := [], asmHdr := 0, asmErrs := [] }).reach n (decodeBundle bundle errs))

end Sys2Proof.Machine
end

