-- ==== Sys2Proof/Machine/Placement.lean ====
section
/-!
DEFINITION. The commands for placement, ports, time, routes, messages, resets and power (R359, R360, R363, R365, R390, R466, R469, R479, R525),
and the reports of the ledger and the retirement list (R479, R483, R538, R539).
-/

namespace Sys2Proof.Machine

/-! ### Shared parts -/

/-- Writes one field of a register for a control core, with the behaviour of its block. -/
def State.fwField (s : State) (off : Nat) (f : Fld) (x : Nat) : State := s.regWrite off (setF 0 f x) (setF 0 f (2 ^ f.w - 1)) false

/-- The eight bytes of a register. -/
def State.regBytes (s : State) (off : Nat) : List Byte := leBytes 8 (s.rd off).toNat

/-- A command ends with a result and a code. -/
def State.mbFail (s : State) (m : Fin 16) (b : List Byte) (code : Nat) : State := (s.mbWrite m 0 b).mbEnd m code

/-- A command of the boot ROM in MODE 2 (R485): MB0 alone. -/
def State.onRom (s : State) (m : Fin 16) (op len : Nat) (f : State → State) : State :=
  if s.heldReset || decide (s.fld ctlBoot CTL_BOOT_MODE ≠ 2 ∨ m.val ≠ 0 ∨ s.mbOp m ≠ op ∨ (s.mbState m ≠ 1 ∧ s.mbState m ≠ 2)) then s
  else
    let b := s.fw.mb[m].cmd
    if leAt b 2 2 = 0 ∧ leAt b 8 8 = 0 ∧ leAt b 4 4 = len then f (s.setFld (mbStatus m) MB_STATUS_STATE 2) else s.mbEnd m 3

/-! ### IDENTIFY and SET_PLACE (R466) -/

/-- The result of IDENTIFY. -/
def State.identity (s : State) : List Byte :=
  s.regBytes ctlChipId ++ s.regBytes ctlFwVersion ++ s.regBytes ctlBoot ++ s.regBytes netPlace ++ s.regBytes safStat ++ s.regBytes timStat ++
    leBytes 8 Config.serial

/-- IDENTIFY (R466, R485). -/
def execIdentify (m : Fin 16) (s : State) : Host.Outcome State Fault Refusal :=
  .next
    (if s.fld ctlBoot CTL_BOOT_MODE = 2 then s.onRom m 0x0001 0 fun s => s.mbDone m s.identity
     else s.atOnce m cIdentify fun s => s.mbDone m s.identity)

/-- Whether NET_PLACE holds what was to be written in its RWL fields. -/
def placeTaken (want got : Word64) : Bool := decide ((want ^^^ got) &&& accMask (fun f => decide (f.acc = .rwl)) RegKind.netPlace.fields = 0)

/-- SET_PLACE (R466): a write that the register refuses under R35, or ignores because it is locked, ends in REFUSED_BY_DEVICE. -/
def execSetPlace (m : Fin 16) (s : State) : Host.Outcome State Fault Refusal :=
  .next
    (s.atOnce m cSetPlace fun s =>
      let v := BitVec.ofNat 64 (s.arg m 0 8)
      let s := s.fwWrite netPlace v
      s.mbFail m (s.regBytes netPlace) (if placeTaken v (s.rd netPlace) then 0 else 0xF))

/-! ### Links: SET_PORTS and GET_SURVEY (R359, R360, R363, R365) -/

/-- Whether a link that is UP has the peer the port map expects (R363). -/
def State.peerOk (s : State) (l : Nat) : Bool :=
  decide (s.fld (lnkPeer l) LNK_PEER_PEER_ID = s.fld (netPortMap l) NET_PORT_MAP_EXP_PEER_ID ∧
    s.fld (lnkPeer l) LNK_PEER_PEER_PORT = s.fld (netPortMap l) NET_PORT_MAP_EXP_PEER_PORT)

/-- A record of the survey table (R360). -/
def State.surveyRecord (s : State) (l : Nat) : List Byte :=
  let up := decide (s.lstate l = lsUp)
  let f (x : Fld) := s.fld (lnkSurvey l) x
  leBytes 2 (s.fld netPlace NET_PLACE_DEVICE_ID) ++ leBytes 1 l ++ leBytes 1 (s.fld (netPortMap l) ⟨0, 7⟩) ++
    leBytes 2 (if up then s.fld (lnkPeer l) LNK_PEER_PEER_ID else 0xFFFF) ++ leBytes 1 (if up then s.fld (lnkPeer l) LNK_PEER_PEER_PORT else 0xFF) ++
    leBytes 1 (s.fld (lnkStatus l) LNK_STATUS_WIDTH) ++ leBytes 2 (s.fld (netPortHop l) NET_PORT_HOP_DELAY) ++ leBytes 2 (f LNK_SURVEY_DELAY_Q4) ++
    leBytes 2 (f LNK_SURVEY_SPREAD_Q4) ++
    leBytes 1 (f LNK_SURVEY_VALID + 2 * f LNK_SURVEY_UNSTABLE + 4 * f LNK_SURVEY_OVER + 8 * b2n (up && !s.peerOk l)) ++ leBytes 1 0

/-- The survey table (R360). -/
def State.surveyTable (s : State) : List Byte := (List.range 24).flatMap s.surveyRecord

/-- GET_SURVEY (R360). -/
def execGetSurvey (m : Fin 16) (s : State) : Host.Outcome State Fault Refusal :=
  .next (s.atOnce m cGetSurvey fun s => s.mbDone m s.surveyTable)

/-- R359 and R363 on a link that has trained: DELAY is written, or the link is reported. -/
def State.applySurvey (s : State) (l : Nat) : State :=
  let f (x : Fld) := s.fld (lnkSurvey l) x
  if s.lstate l ≠ lsUp then s
  else if f LNK_SURVEY_VALID = 1 ∧ f LNK_SURVEY_UNSTABLE = 0 ∧ f LNK_SURVEY_OVER = 0 ∧ s.fld (netPortMap l) NET_PORT_MAP_ROLE = 1 ∧ s.peerOk l then
    s.fwField (netPortHop l) NET_PORT_HOP_DELAY ((f LNK_SURVEY_DELAY_Q4 + 8) / 16)
  else if s.fld (netPortMap l) NET_PORT_MAP_ROLE = 1 then s.alert [11]
  else s

/-- The records of the retirement list for a link's lanes and lasers, applied (R336, R366). -/
def State.restoreLanes (s : State) (l : Nat) : State :=
  (s.fw.retired.filter fun r => decide ((r.kind = 5 ∨ r.kind = 6) ∧ r.unit = l)).foldl State.applyRecord s

/-- The map that SET_PORTS names for a link, and its EN. -/
def State.portArg (s : State) (m : Fin 16) (l : Nat) : Word64 := BitVec.ofNat 64 (s.arg m (8 * l) 8)
def State.enArg (s : State) (m : Fin 16) (l : Nat) : Bool := bit (s.arg m 192 4) l

/-- The links that SET_PORTS changes: map entry or EN. -/
def State.portMoves (s : State) (m : Fin 16) : List Nat :=
  (List.range 24).filter fun l =>
    s.flag (lnkCtl l) LNK_CTL_EN != s.enArg m l ||
      decide ((s.portArg m l ^^^ s.rd (netPortMap l)) &&& accMask (fun f => decide (f.acc = .rw)) RegKind.netPortMap.fields ≠ 0)

/-- SET_PORTS ends: step 6 of R365 on the links it changed, then the survey table. -/
def State.endPorts (s : State) (m : Fin 16) : State :=
  let s := (maskList 24 s.fw.mb[m].aux).foldl State.applySurvey s
  s.mbDone m s.surveyTable

/-- SET_PORTS ends once every enabled link is UP (R464). -/
def State.waitPorts (s : State) (m : Fin 16) : State :=
  if (List.range 24).all fun l => !(s.flag (lnkCtl l) LNK_CTL_EN && decide (s.fld (netPortMap l) NET_PORT_MAP_ROLE ≠ 0)) || decide (s.lstate l = lsUp)
  then s.endPorts m else s

/-- SET_PORTS begins: steps 2, 4 and 5 of R365 (R466). -/
def State.beginPorts (s : State) (m : Fin 16) : State :=
  let moves := s.portMoves m
  let s := s.modMb m fun x => { x with aux := sumNat (moves.map (2 ^ ·)) }
  let s := moves.foldl (fun s l => s.fwField (lnkCtl l) LNK_CTL_EN 0) s
  let s := moves.foldl (fun s l => (s.dupWrite (netPortMap l) (s.portArg m l)).restoreLanes l) s
  let s := moves.foldl (fun s l => if s.enArg m l then s.fwField (lnkCtl l) LNK_CTL_EN 1 else s) s
  s.waitPorts m

/-- SET_PORTS (R466). -/
def execSetPorts (m : Fin 16) (s : State) : Host.Outcome State Fault Refusal :=
  .next (s.onCmd m cSetPorts (fun s => s.beginPorts m) fun s => s.waitPorts m)

/-! ### TIME (R385, R386, R389, R390, R466) -/

/-- The row of TIME with an OP: an OP out of range ends whichever row is given. -/
def State.onTime (s : State) (m : Fin 16) (op : Nat) (start cont : State → State) : State :=
  if s.arg m 0 1 = op ∨ 4 < s.arg m 0 1 then s.onCmd m cTime start cont else s

/-- TIME ends with TIM_STAT. -/
def State.endTime (s : State) (m : Fin 16) (code : Nat) : State := s.mbFail m (s.regBytes timStat) code

/-- An operation of TIME that R389 governs: the write is made, and a refused one ends in REFUSED_BY_DEVICE. -/
def State.governed (s : State) (m : Fin 16) (write next : State → State) : State :=
  let ok := s.mayRebase
  let s := write s
  if ok then next s else s.endTime m 0xF

/-- TIME_SET_BENCHMARK (R385). -/
def execTimeSetBenchmark (m : Fin 16) (s : State) : Host.Outcome State Fault Refusal :=
  .next (s.onTime m 0 (fun s => (s.fwField timCtl TIM_CTL_BENCHMARK 1).endTime m 0) id)

/-- TIME_CLEAR_BENCHMARK (R378, R385). -/
def execTimeClearBenchmark (m : Fin 16) (s : State) : Host.Outcome State Fault Refusal :=
  .next (s.onTime m 1 (fun s => (s.fwField timCtl TIM_CTL_BENCHMARK 0).endTime m 0) id)

/-- TIME ACQUIRE ends when ACQUIRE has cleared, by the step or because it was abandoned (R390, R401). -/
def State.waitAcquire (s : State) (m : Fin 16) : State := if s.flag timCtl TIM_CTL_ACQUIRE then s else s.endTime m 0

/-- TIME_ACQUIRE (R390). -/
def execTimeAcquire (m : Fin 16) (s : State) : Host.Outcome State Fault Refusal :=
  .next
    (s.onTime m 2
      (fun s => s.governed m
        (fun s => (s.fwField timCtl TIM_CTL_ACQ_LINK (s.arg m 1 1)).fwField timCtl TIM_CTL_ACQUIRE 1) fun s => s.waitAcquire m)
      fun s => s.waitAcquire m)

/-- TIME_RELEASE (R386). -/
def execTimeRelease (m : Fin 16) (s : State) : Host.Outcome State Fault Refusal :=
  .next (s.onTime m 3 (fun s => s.governed m (fun s => s.fwField timCtl TIM_CTL_RELEASE 1) fun s => s.endTime m 0) id)

/-- TIME_CLEAR_REFUSED (R387, R389). -/
def execTimeClearRefused (m : Fin 16) (s : State) : Host.Outcome State Fault Refusal :=
  .next
    (s.onTime m 4
      (fun s => s.governed m (fun s => s.fwWrite timRefused (BitVec.ofNat 64 (s.arg m 4 4))) fun s => s.endTime m 0) id)

/-! ### ROUTES (R289, R290, R466) -/

/-- The row of ROUTES with an OP. -/
def State.onRoutes (s : State) (m : Fin 16) (op : Nat) (start : State → State) : State :=
  if s.arg m 0 1 = op ∨ 2 < s.arg m 0 1 then s.atOnce m cRoutes start else s

/-- ROUTES ends with NET_UNS_STAT. -/
def State.endRoutes (s : State) (m : Fin 16) (code : Nat) : State := s.mbFail m (s.regBytes netUnsStat) code

/-- ROUTES_STOP. -/
def execRoutesStop (m : Fin 16) (s : State) : Host.Outcome State Fault Refusal :=
  .next (s.onRoutes m 0 fun s => (s.fwField netUnsCtl NET_UNS_CTL_INJECT_STOP 1).endRoutes m 0)

/-- The 4,096 entries of a route table copied through posted writes (R454, R466). -/
def State.copyRoutes (s : State) (b : List Byte) : State :=
  (List.range 4096).foldl (fun s d => s.dupWrite (netRoute d) (BitVec.ofNat 64 (leAt b (8 * d) 8))) s

/-- ROUTES_WRITE: TABLE_OPEN, the table, TABLE_OPEN cleared; NOT_DRAINED while DRAINED is 0. -/
def execRoutesWrite (m : Fin 16) (s : State) (errs : EccObs := []) : Host.Outcome State Fault Refusal :=
  .next
    (s.onRoutes m 1 fun s =>
      if s.flag netUnsStat NET_UNS_STAT_DRAINED then
        let (s, b) := s.fwRead (s.arg m 8 8) 32768 errs
        (((s.fwField netUnsCtl NET_UNS_CTL_TABLE_OPEN 1).copyRoutes b).fwField netUnsCtl NET_UNS_CTL_TABLE_OPEN 0).endRoutes m 0
      else s.endRoutes m 0xC)

/-- ROUTES_START. -/
def execRoutesStart (m : Fin 16) (s : State) : Host.Outcome State Fault Refusal :=
  .next (s.onRoutes m 2 fun s => (s.fwField netUnsCtl NET_UNS_CTL_INJECT_STOP 0).endRoutes m 0)

/-! ### MSG_SEND and MSG_RECV (R468, R469) -/

/-- MSG_SEND ends when its message is acknowledged, or given up. -/
def State.waitSend (s : State) (m : Fin 16) : State :=
  match s.fw.out.find? (fun o => decide (o.mb = some m.val ∧ 2 ≤ o.at_)) with
  | some o => (s.setOut (s.fw.out.filter fun x => decide (x.mb ≠ some m.val))).mbEnd m (if o.at_ = 2 then 0 else 0xD)
  | none => s

/-- MSG_SEND (R469). -/
def execMsgSend (m : Fin 16) (s : State) : Host.Outcome State Fault Refusal :=
  .next
    (s.onCmd m cMsgSend (fun s => s.post (s.arg m 0 2) msHost 0 (slice s.fw.mb[m].cmd 24 (s.arg m 2 2)) (some m)) fun s => s.waitSend m)

/-- MSG_RECV ends with the oldest HOST message held. -/
def State.waitRecv (s : State) (m : Fin 16) : State :=
  match s.fw.hostMsgs with
  | (src, b) :: rest =>
    ({ s with fw := { s.fw with hostMsgs := rest } }).mbDone m (leBytes 2 src ++ leBytes 2 b.length ++ leBytes 4 0 ++ b)
  | [] => s

/-- MSG_RECV (R469). -/
def execMsgRecv (m : Fin 16) (s : State) : Host.Outcome State Fault Refusal :=
  .next (s.onCmd m cMsgRecv (fun s => s.waitRecv m) fun s => s.waitRecv m)

/-! ### RESET (R479) -/

/-- The row of RESET with a KIND: DONE, and the reset 100 µs later; CHN needs the compute dies (R464). -/
def State.onReset (s : State) (m : Fin 16) (kind : Nat) : State :=
  if s.arg m 0 1 = kind ∨ 2 < s.arg m 0 1 then
    s.atOnce m cReset fun s =>
      if kind = 1 ∧ s.pwr.gated then s.mbEnd m 4
      else
        let s := s.mbEnd m 0
        { s with fw := { s.fw with resetAt := s.fw.resetAt ++ [(kind, s.arg m 1 1, s.now + 100000)] } }
  else s

/-- RESET_SOFT (R479). -/
def execResetSoft (m : Fin 16) (s : State) : Host.Outcome State Fault Refusal := .next (s.onReset m 0)

/-- RESET_CHN (R479). -/
def execResetChn (m : Fin 16) (s : State) : Host.Outcome State Fault Refusal := .next (s.onReset m 1)

/-- RESET_LNK (R479). -/
def execResetLnk (m : Fin 16) (s : State) : Host.Outcome State Fault Refusal := .next (s.onReset m 2)

/-- A channel reset, after which firmware re-applies the maps of replaced engines and banks that it cleared (R83, R112). -/
def State.restartChannel (s : State) (n : Fin 8) : State :=
  let t := s.resetChannel n
  if s.takesWrites (chTeMap n) then
    (s.fw.retired.filter fun r => decide ((r.kind = 1 ∨ r.kind = 2) ∧ r.unit = n.val)).foldl State.applyRecord t
  else t

/-- A reset that a RESET command asked for. -/
def State.applyReset (s : State) (kind unit : Nat) : State :=
  if kind = 0 then s.soft false
  else if kind = 1 then s.restartChannel (finOr (by decide) unit)
  else s.resetLink (finOr (by decide) unit)

/-- The resets whose 100 µs have passed (R479). -/
def State.dueResets (s : State) : State :=
  let due := s.fw.resetAt.filter fun r => decide (r.2.2 ≤ s.now)
  if due.isEmpty then s
  else
    let s := { s with fw := { s.fw with resetAt := s.fw.resetAt.filter fun r => decide (s.now < r.2.2) } }
    due.foldl (fun s r => s.applyReset r.1 r.2.1) s

/-! ### SET_POWER (R525, R526) -/

/-- SET_POWER ends when the state is reached, and begins the change once no other is in progress. -/
def State.waitPower (s : State) (m : Fin 16) : State :=
  let to_ := s.arg m 0 1
  if s.pwr.change.isSome then s
  else if s.fld pwrState PWR_STATE_STATE = to_ then s.mbDone m (leBytes 1 to_)
  else s.beginPower to_ (some m)

/-- SET_POWER (R479, R525). -/
def execSetPower (m : Fin 16) (s : State) : Host.Outcome State Fault Refusal :=
  .next (s.onCmd m cSetPower (fun s => s.waitPower m) fun s => s.waitPower m)

/-- The time of a change of power state in ticks (R525). -/
def powerTicks (from_ to_ : Nat) : Nat := if to_ = 2 then 5000000 else if from_ = 2 then 60000000 else 10000

/-- Every channel's requests at the memory channels' arbiters are masked (R194). -/
def State.maskPorts (s : State) : State :=
  (fins 128).foldl (fun s c => (fins 8).foldl (fun s (n : Fin 8) => s.arbMask (.mem c) (n.castLE (by decide))) s) s

/-- A power state is entered (R194, R524 to R526): STANDBY places memory in self-refresh and gates the compute dies; leaving it restores them. -/
def State.enterPower (s : State) (to_ : Nat) : State :=
  let s :=
    if to_ = 2 then { (s.selfRefresh true) with arbs := [], pwr := { s.pwr with gated := true } }.maskPorts
    else if s.fld pwrState PWR_STATE_STATE = 2 then s.leaveStandby
    else s
  s.setFld pwrState PWR_STATE_STATE to_

/-- POWER_TRANSITION_DONE: the time of the change has passed and, toward STANDBY, the stream engines have drained (R525). -/
def execPowerTransitionDone (s : State) : Host.Outcome State Fault Refusal :=
  .next
    (match s.pwr.change with
     | none => s
     | some (to_, t, mb) =>
       let busy := (fins 8).any fun n => (s.chan n).streams.toList.any (·.busy)
       if s.now < t + powerTicks (s.fld pwrState PWR_STATE_STATE) to_ ∨ (to_ = 2 ∧ busy) then s
       else
         let s := ((s.enterPower to_).modPwr fun p => { p with change := none }).setFld pwrState PWR_STATE_TRANSITION 0
         match mb with
         | some k =>
           let m : Fin 16 := finOr (by decide) k
           if s.mbState m = 2 ∧ s.mbOp m = 0x0031 then s.mbDone m (leBytes 1 to_) else s
         | none => s)

/-! ### GET_LEDGER (R538, R539) -/

/-- V_FAIL of a site as life counts it: a channel's at its top step (R538). -/
def State.siteFail (s : State) (k : Nat) : Nat := s.fld (pwrSite k) PWR_SITE_V_FAIL_TOP

/-- The record of the ledger nearest to 2,160 hours ago, the first when it holds less; of two equally near, the earlier. -/
def Ledger.past (l : Ledger) (h : Nat) : Option (Nat × List Nat) :=
  let far (r : Nat × List Nat) : Nat := ((r.1 : Int) + 2160 - h).natAbs
  if h < 2160 then l.records.head?
  else l.records.foldl (fun b r => match b with
    | some x => if far r < far x then some r else some x
    | none => some r) none

/-- LIFE_H of a site (R538). -/
def State.siteLife (s : State) (k : Nat) : Nat :=
  let ones := 2 ^ 64 - 1
  match s.fw.ledger.past s.hours with
  | none => ones
  | some (h, v) =>
    let now := s.siteFail k
    let was := nth now v k
    if now ≤ was ∨ s.hours ≤ h then ones else (vMax - s.survey3.2.1 - now) * (s.hours - h) / (now - was)

/-- The flags of a site: below FLOOR, below CRIT, reported for replacement (R536, R539). -/
def State.siteFlags (s : State) (k : Nat) : Nat :=
  let low := s.fld (pwrSite k) PWR_SITE_BELOW_FLOOR
  low + 2 * s.fld (pwrSite k) PWR_SITE_CRITICAL + 4 * (if k ∈ [8, 9, 10, 12, 13] then low else 0)

/-- A site's record. -/
def State.siteRecord (s : State) (k : Nat) : List Byte :=
  let l := s.fw.ledger
  leBytes 1 k ++ leBytes 1 (siteRail k) ++ leBytes 2 (s.railMv (siteRail k)) ++ leBytes 2 vMax ++ leBytes 2 (kget (fun _ => 0) l.first k) ++
    (List.range 8).flatMap (fun i => leBytes 2 (if k < 8 ∨ i = 0 then kget (fun _ => 0) l.vfail (8 * k + i) else 0)) ++
    leBytes 1 (s.fld (pwrSite k) PWR_SITE_TOP) ++ leBytes 1 (s.siteFlags k) ++ leBytes 6 0 ++ leBytes 8 (s.siteLife k) ++
    leBytes 8 (kget (fun _ => 0) l.changed k)

/-- A link's record; where no lane is an understudy, the worst margins are not stated: free values from `k`. -/
def State.linkRecord (s : State) (k l : Nat) : List Byte :=
  let us := (List.range 10).filter fun j => s.flag (lnkMargin l j) LNK_MARGIN_UNDERSTUDY
  let worst (f : Fld) (free : Nat) : Nat := match us with
    | [] => Config.freeNat free % 1024
    | j :: rest => rest.foldl (fun a i => min a (s.fld (lnkMargin l i) f)) (s.fld (lnkMargin l j) f)
  leBytes 1 l ++ leBytes 1 (b2n (decide (s.lstate l = lsUp)) + 2 * b2n (us.any fun j => s.flag (lnkMargin l j) LNK_MARGIN_LOW)) ++
    leBytes 2 (worst LNK_MARGIN_EYE_V k) ++ leBytes 2 (worst LNK_MARGIN_EYE_H (k + 1)) ++ leBytes 2 0 ++
    leBytes 4 (sumNat ((List.range 10).map fun j => s.fld (lnkMargin l j) LNK_MARGIN_PRBS_ERR)) ++ leBytes 4 0

/-- A laser's record: laser `k` of an engine serves its own lane, or for 40 and 41 the lane whose applied source it is (R352, R353). -/
def State.laserRecord (s : State) (e k : Nat) : List Byte :=
  let serves (j : Nat) : Bool := decide (kget (fun _ => 0) (s.link (finOr (by decide) (8 + 4 * e + j / 10))).source (j % 10) = (if k < 40 then 0 else k - 39))
  let lane := if k < 40 then (if serves k then some k else none) else (List.range 40).find? serves
  let bias := kget (fun _ => 0) s.fw.ledger.bias (42 * e + k)
  match lane with
  | none => leBytes 1 0 ++ leBytes 1 bias ++ leBytes 1 0 ++ leBytes 1 0xFF
  | some j =>
    let r := lnkLaser (4 * e + j / 10) (j % 10)
    leBytes 1 (s.fld r LNK_LASER_BIAS) ++ leBytes 1 bias ++
      leBytes 1 (if s.flag r LNK_LASER_FAIL then 3 else if s.flag r LNK_LASER_WARN then 2 else 1) ++ leBytes 1 (40 * e + j)

/-- A daily entry. -/
def Daily.bytes (d : Daily) : List Byte :=
  leBytes 8 d.hours ++ leBytes 2 d.worst ++ leBytes 2 (ofInt 16 d.margin) ++ leBytes 1 d.top ++ leBytes 1 d.flags ++ leBytes 2 0

/-- The margin ledger (R539). -/
def State.ledgerBytes (s : State) : List Byte :=
  let l := s.fw.ledger
  let (guard, floor, crit) := s.survey3
  let life := ((List.range 14).map s.siteLife).foldl min (2 ^ 64 - 1)
  let head := leBytes 4 0x4C474D56 ++ leBytes 2 1 ++ leBytes 2 14 ++ leBytes 8 s.fw.ledgerFlash.gen ++ leBytes 8 s.hours ++ leBytes 4 l.surveys ++
    leBytes 2 (nth 650 stepMHz (s.fld pwrArith PWR_ARITH_TOP_STEP)) ++ leBytes 1 guard ++ leBytes 1 floor ++ leBytes 1 crit ++ leBytes 1 l.flags ++
    leBytes 6 0 ++ leBytes 8 life ++ leBytes 16 0
  let lasers := (List.range 4).flatMap fun e => (List.range 42).flatMap fun k => s.laserRecord e k
  head ++ (List.range 14).flatMap s.siteRecord ++ (List.range 24).flatMap (fun i => s.linkRecord (s.free + 2 * i) i) ++ lasers ++
    slice (l.daily.flatMap Daily.bytes) 0 1024

/-- GET_LEDGER (R479, R539). -/
def execGetLedger (m : Fin 16) (s : State) : Host.Outcome State Fault Refusal :=
  .next (s.atOnce m cGetLedger fun s => (s.mbDone m s.ledgerBytes).take 48)

/-! ### GET_RETIRED (R479, R483) -/

/-- A record of the retirement list. -/
def Retired.bytes (r : Retired) : List Byte := leBytes 1 r.kind ++ leBytes 1 r.unit ++ leBytes 2 r.index ++ leBytes 4 r.extra

/-- GET_RETIRED (R479, R483); the window holds 1,023 records. -/
def execGetRetired (m : Fin 16) (s : State) : Host.Outcome State Fault Refusal :=
  .next (s.atOnce m cGetRetired fun s =>
    s.mbDone m (leBytes 4 s.fw.retired.length ++ leBytes 4 0 ++ (s.fw.retired.take 1023).flatMap Retired.bytes))

end Sys2Proof.Machine
end

