-- ==== Sys2Proof/Machine/Load.lean ====
section
/-!
DEFINITION. Loading, starting, ending and restoring a program (R168, R209, R247 to R249, R255, R423, R429, R433 to R436, R470 to R478).
-/

namespace Sys2Proof.Machine

/-! ### The circuit tables (R247 to R249, R255, R471) -/

/-- An entry with DEST as the DEVICE_ID of its logical index (R471). An index beyond the map stays. -/
def mapDest (devmap : List Nat) (e : Nat) : Nat :=
  match devmap[bitsOf e 32 12]? with
  | some d => e / 2 ^ 44 * 2 ^ 44 + d % 4096 * 2 ^ 32 + e % 2 ^ 32
  | none => e

/-- Writes a phase into a bank: the entries it does not use are cleared. -/
def State.writePhase (s : State) (bank : Nat) (recs : List (Nat × Nat)) : State :=
  recs.foldl (fun s r => s.writeCircuit bank r.1 (BitVec.ofNat 64 r.2)) ((List.range 4096).foldl (fun s c => s.writeCircuit bank c 0) s)

/-- The phase at a position of the sequence. -/
def Prog.phaseAt (p : Prog) (i : Nat) : List (Nat × Nat) := nth [] p.phases (nth 0 p.seq i)

/-- The position after one, if the sequence has it. -/
def Prog.after (p : Prog) (i : Nat) : Option Nat :=
  if i + 1 < p.seq.length then some (i + 1) else if p.cyclic ∧ 1 < p.seq.length then some 0 else none

/-- The tables with the phase of position `i` in bank 0, active, and the next one in bank 1, armed (R248, R249). -/
def State.writeTables (s : State) (p : Prog) (i : Nat) : State :=
  let s := ((s.fwField netFabCtl NET_FAB_CTL_VC0_EN 0).fwField netFabCtl NET_FAB_CTL_ARM 0).setFld netFabCtl NET_FAB_CTL_ACTIVE_BANK 0
  let s := s.writePhase 0 (p.phaseAt i)
  match p.after i with
  | some j => (s.writePhase 1 (p.phaseAt j)).fwField netFabCtl NET_FAB_CTL_ARM 1
  | none => s.writePhase 1 []

/-- The link ports that valid entries of either bank name. -/
def State.circuitLinks (s : State) : List Nat :=
  s.regs.flatMap fun e =>
    if netCircuit 0 0 ≤ e.1 ∧ e.1 < netCircuit 2 0 then (portsOf [(0, e.2.toNat)]).filter (fun p => decide (p < 24)) else []

/-- Sets VC0_EN when the conditions of R255 hold. -/
def State.enableVc0 (s : State) : State :=
  if s.flag netPlace NET_PLACE_LOCK && s.circuitLinks.all s.vc0Ok then s.fwField netFabCtl NET_FAB_CTL_VC0_EN 1 else s

/-- After a swap firmware writes the next phase into the new shadow bank and arms (R247). -/
def State.rearmSwap (s : State) : State :=
  match s.fw.prog with
  | none => s
  | some p =>
    let act := s.fld netFabCtl NET_FAB_CTL_ACTIVE_BANK
    if act = p.bank then s
    else
      match p.after p.pos with
      | none => s
      | some i =>
        let s := { s with fw := { s.fw with prog := some { p with pos := i, bank := act } } }
        match p.after i with
        | some j => (s.writePhase (1 - act) (p.phaseAt j)).fwField netFabCtl NET_FAB_CTL_ARM 1
        | none => s

/-! ### Applying an image (R168, R471) -/

/-- A channel takes its modes, rings and slot table from the image (R168). -/
def State.applyChannel (s : State) (b : Img) (idx : Nat) (n : Fin 8) : State :=
  let s := s.fwField pwrArith (PWR_ARITH_STEP n) ((stepCode b.step).getD 0)
  let v := setF (setF (setF (s.rd (chCtl n)) CH_CTL_COUNTED (b2n (bit b.flags 2))) CH_CTL_REHEARSAL (b2n (bit b.flags 0))) CH_CTL_PAD_A1
    (b2n (s.isB0 && decide (b.lat = 1)))
  let v := setF (setF v CH_CTL_RUN 0) CH_CTL_STOP_AT_CUE 0
  let s := s.fwField (chArithCtl n) CH_ARITH_CTL_NONFIN_FAULT (b2n (bit b.flags 3))
  match (b.ofType idx 3).find? fun x => decide (x.channel = n.val) with
  | some x =>
    let c := b.body x
    let s := s.writeChCtl n (setF v CH_CTL_START (leAt c 0 2))
    let s := s.fwWrite (chSrRank n) (BitVec.ofNat 64 (leAt c 2 2))
    let s := (List.range 24).foldl (fun s q => s.fwWrite (chQRing n q) (configRing c q)) s
    let s := s.fwWrite (chXslotCtl n) (BitVec.ofNat 64 (leAt c 196 8))
    (List.range 256).foldl (fun s e => s.fwWrite (chXcap n e) (BitVec.ofNat 64 (leAt c (204 + 2 * e) 2))) s
  | none => s.writeChCtl n v

/-- Bundles into instruction SRAM from bundle address `a`, the last one padded with zeros. -/
def Chan.loadCode (c : Chan) (a : Nat) (b : List Byte) : Chan :=
  ((chunks 64 b.length b).zipIdx).foldl (fun c x => { c with isram := kset (fun _ => 0) c.isram (a + x.2) (BitVec.ofNat 512 (leNat x.1)) }) c

/-- CODE and SRAM_INIT sections (R165). -/
def State.loadChannels (s : State) (b : Img) (idx : Nat) : State :=
  let s := (b.ofType idx 1).foldl (fun s x =>
    let n : Fin 8 := finOr (by decide) x.channel
    s.setChan n ((s.chan n).loadCode x.target (b.body x))) s
  (b.ofType idx 2).foldl (fun s x =>
    let n : Fin 8 := finOr (by decide) x.channel
    s.setChan n ((s.chan n).sramWrite (s.bankMap n) x.target (b.body x))) s

/-- DMAX of every link port (R168). -/
def State.writeDmax (s : State) (b : Img) : State :=
  (List.range 24).foldl (fun s l =>
    let d := s.fld (netPortMap l) NET_PORT_MAP_DIR
    let x := if s.fld (netPortMap l) NET_PORT_MAP_ROLE ≠ 1 then 0x3FF else if d < 6 then min 0x3FF (b.delay d).2 else 0
    s.fwField (netPortHop l) NET_PORT_HOP_DMAX x) s

/-- What firmware keeps of an image. -/
def progOf (b : Img) (a : LoadArgs) (m : List Nat) (pos : Nat) : Prog :=
  let c := (b.circuits a.index).getD ⟨[], [0], 0, 0, false, true⟩
  ⟨b.coded a.index, c.phases.map fun r => r.map fun x => (x.1, mapDest m x.2), c.seq, c.cyclic, pos, 0, m, a.index, a.partner,
    b.inputs a.index, shake256 b 64⟩

/-- Steps 2 to 6 of R471, the circuit tables at position `pos` of the sequence. `whole` is false for a restore, which leaves MEMORY_INIT out
and does not set the dirty bits (R478). The number of posted writes that this takes is open. -/
def State.applyImage (s : State) (b : Img) (a : LoadArgs) (m : List Nat) (pos : Nat) (whole : Bool) (errs : EccObs) : State :=
  let s := ((fins 8).foldl State.resetChannel s).applyList [1, 2]
  let s := if whole then (b.ofType a.index 7).foldl (fun s x => s.memWrite x.target (b.body x) (s.errsAt x.target x.bytes errs)) s else s
  let s := s.loadChannels b a.index
  let s := (List.range 8).foldl (fun s n => s.fwWrite (chSrSeed n) (BitVec.ofNat 64 (leAt b 0x18 8))) s
  let s := (fins 8).foldl (fun s n => if (b.coded a.index).contains n.val then s.applyChannel b a.index n else s) s
  let s := s.writeDmax b
  let p := progOf b a m pos
  let c := (b.circuits a.index).getD ⟨[], [0], 0, 0, false, true⟩
  let s := s.writeTables p pos
  let s := (s.fwField netFabCtl NET_FAB_CTL_SWAP_CH c.swapCh).fwField netFabCtl NET_FAB_CTL_SWAP_CUE c.swapCue
  let s := (s.fwField netFabCtl NET_FAB_CTL_SWAP_EN (b2n (decide (1 < c.seq.length)))).fwField netFabCtl NET_FAB_CTL_FENCE_CURTAIN
    (b2n (bit b.flags 4))
  let s := (s.take 1).commits (s.pick (2 ^ 32))
  let s := s.fwWrite safRegion (setF (setF (setF 0 SAF_REGION_PROT a.prot) SAF_REGION_CKPT_BASE a.ckpt) SAF_REGION_MIRROR_BASE a.mirror)
  let s := s.fwField safInt SAF_INT_BUDDY a.buddy
  let s := { s with fw := { s.fw with
    prog := some p, run := none
    int := { IntSt.reset with copyDone := s.fw.int.copyDone, restoreDone := s.fw.int.restoreDone } } }
  let s := (s.setFld safInt SAF_INT_STEP 0).setFld safInt SAF_INT_COMMITTED 0
  let s := if whole then
      { s with mem := { s.mem with dirty := (List.range a.prot).map fun p => (p, true) } }.setFld safInt SAF_INT_DIRTY_VALID 0
    else s
  (s.fwField mcHostwin MC_HOSTWIN_RATE (min (2 ^ 24 - 1) b.reserve)).fwField mcHostwin MC_HOSTWIN_RATE_EN 1

/-- The result of LOAD (R471): `check` the failing check, 0 when accepted. -/
def State.loadResult (s : State) (b : Img) (a : LoadArgs) (check : Nat) : List Byte :=
  let ok := decide (check = 0)
  let bytes := if ok then sumNat (([7, 1, 2].flatMap (b.ofType a.index)).map (·.bytes)) else 0
  let bad := if check = 10 then (s.badDelay b).getD (0, 0) else (0, 0)
  (if ok then shake256 b 64 else List.replicate 64 0) ++ leBytes 2 b.lat ++ leBytes 1 (b2n (ok && s.isB0 && decide (b.lat = 1))) ++
    leBytes 1 check ++ leBytes 2 b.step ++ leBytes 2 0 ++ leBytes 8 bytes ++ leBytes 1 bad.1 ++ leBytes 1 0 ++ leBytes 2 bad.2

/-- The arguments of LOAD or RESTORE in a mailbox. -/
def State.loadArgs (s : State) (m : Fin 16) : LoadArgs := Sys2Proof.Machine.loadArgs (s.fw.mb[m].cmd.drop 16)

/-- LOAD (R166, R433, R471). What failed since the last load is retired first (log entry 24). -/
def State.beginLoad (s : State) (m : Fin 16) (errs : EccObs) : State :=
  let a := s.loadArgs m
  let (s, b) := s.fwRead a.image a.bytes errs
  let (s, devmap) := s.readMap a errs
  let t := s.retireUnits errs
  let k := t.failedCheck b a
  if k ≠ 0 then s.mbFail m (t.loadResult b a k) (0x0100 + k)
  else
    let s := ((t.applyImage b a devmap 0 true errs).enableVc0).fwField safCtl SAF_CTL_ARMED 1
    s.mbDone m (s.loadResult b a 0)

/-- LOAD (R470, R471). -/
def execLoad (m : Fin 16) (s : State) (errs : EccObs := []) : Host.Outcome State Fault Refusal := .next (s.atOnce m cLoad fun s => s.beginLoad m errs)

/-! ### A run and its report (R472, R473) -/

/-- Changes the run that START or RESTORE reports. -/
def State.modRun (s : State) (f : Run → Run) : State := { s with fw := { s.fw with run := s.fw.run.map f } }

/-- The channels that have code. -/
def State.codedChans (s : State) : List Nat := (List.range 8).filter s.isCoded

/-- RUN_STATE. -/
def State.runState (s : State) (r : Run) : Nat :=
  let is (st : Nat) (n : Nat) : Bool := decide (s.fld (chStatus n) CH_STATUS_STATE = st)
  if s.fld safStat SAF_STAT_STATE ≠ 0 then 5
  else if r.state = 6 then 6
  else if s.codedChans.all (is stHalted) then 4
  else if s.codedChans.any (is stIntermission) then 3
  else if s.now < r.t0 then 1
  else 2

/-- The sum over the channels of a field of CH_XDROP for expert `e`, saturating. -/
def State.dropSum (s : State) (e : Nat) (f : Fld) : Nat := min (2 ^ 32 - 1) (sumNat ((List.range 8).map fun n => s.fld (chXdrop n e) f))

/-- The result window of a run, before the report. -/
def State.runWindow (s : State) (r : Run) : List Byte :=
  leBytes 8 r.state ++ leBytes 8 r.t0 ++ leBytes 8 s.fw.int.committed ++ leBytes 4 s.fw.int.inputs ++ leBytes 4 0 ++ r.sig.flatMap (leBytes 8) ++
    r.last.flatMap (leBytes 2) ++ (if r.state = 5 then s.regBytes safFirst ++ s.regBytes safFirstTick else List.replicate 16 0) ++
    (List.range 256).flatMap (fun e => leBytes 4 (s.dropSum e CH_XDROP_DROPPED) ++ leBytes 4 (s.dropSum e CH_XDROP_DEFERRED)) ++
    List.replicate 128 0

/-- Counts new SIGNAL events. -/
def Run.count (r : Run) (l : List (Nat × Nat)) : Run :=
  l.foldl (fun (r : Run) x => { r with
    sig := r.sig.set x.1 (nth 0 r.sig x.1 + 1), last := r.last.set x.1 x.2, taken := r.taken + 1 }) r

/-- RUN is set on every channel with code, once their clocks are locked (R472, R528). A channel that refuses to start ends START. -/
def State.goRun (s : State) (m : Fin 16) (r : Run) : State :=
  if s.codedChans.all fun n => s.flag pwrArith (PWR_ARITH_LOCKED n) then
    let s := (s.goCoded r.t0).modRun fun r => { r with going := true }
    if s.codedChans.all s.running then s else ({ s with fw := { s.fw with run := none } }).mbEnd m 9
  else s

/-- What firmware does while START or RESTORE runs (R473): the window on every SIGNAL and every 10 ms, and the end. -/
def State.runStep (s : State) (m : Fin 16) : State :=
  match s.fw.run with
  | none => s
  | some r =>
    if r.mb ≠ m.val ∨ r.state = 7 then s
    else if !r.going && decide (r.state = 1) then s.goRun m r
    else
      let fresh := s.signals.drop r.taken
      let st := s.runState r
      let s := s.modRun fun r => { r.count fresh with state := st }
      let s := if fresh.any (fun x => decide (x.2 = r.repSignal)) && decide (0 < r.repBytes) then
          let (s, b) := s.fwRead r.repAddr r.repBytes []
          s.mbWrite m 0x900 b
        else s
      let due := !fresh.isEmpty || decide (st ≠ r.state ∨ s.fw.mb[m].aux + 10000000 ≤ s.now)
      let s := if due then (s.mbWrite m 0 (s.runWindow ((s.fw.run).getD r))).modMb m fun x => { x with aux := s.now } else s
      if st = 4 ∨ st = 5 ∨ st = 6 then ({ s with fw := { s.fw with run := none } }).mbEnd m (if st = 5 then 0x0401 else 0) else s

/-- A run as START and RESTORE report it: the report arguments lie at `off`. -/
def State.newRun (s : State) (m : Fin 16) (off t0 state : Nat) : State :=
  let r : Run := ⟨m.val, t0, s.arg m off 8, s.arg m (off + 8) 4, s.arg m (off + 12) 2, List.replicate 8 0, List.replicate 8 0,
    s.signals.length, false, state⟩
  { s with fw := { s.fw with run := some r } }

/-- START: its conditions (R464), then RUN. The maps of replaced engines and banks stand again whatever reset has cleared them (R83, R112). -/
def State.beginStart (s : State) (m : Fin 16) : State :=
  let idle := s.codedChans.all fun n => decide (s.fld (chStatus n) CH_STATUS_STATE = stIdle)
  let st := s.fld timStat TIM_STAT_STATE
  if s.fw.prog.isNone || !idle || !s.flag netFabCtl NET_FAB_CTL_VC0_EN then s.mbEnd m 9
  else if st ≠ 1 ∧ st ≠ 4 then s.mbEnd m 0xB
  else
    let s := ((s.applyList [1, 2]).newRun m 8 (s.arg m 0 8) 1).modMb m fun x => { x with aux := s.now }
    let s := s.mbWrite m 0 (match s.fw.run with
      | some r => s.runWindow r
      | none => [])
    s.runStep m

/-- START (R472, R473). -/
def execStart (m : Fin 16) (s : State) : Host.Outcome State Fault Refusal :=
  .next (s.onCmd m cStart (fun s => s.beginStart m) fun s => s.runStep m)

/-! ### INPUT_DONE, CURTAIN, HOLD_AT_INT and RELEASE (R474 to R476) -/

/-- INPUT_DONE ends once no BAR2 write waits (R208, R475). -/
def State.waitInput (s : State) (m : Fin 16) (errs : EccObs) : State :=
  if s.mem.hostq.any fun q => q.write && !q.bar0 then s
  else
    let k := (s.fw.int.inputs + 1) % 2 ^ 32
    let a := match s.fw.prog with
      | some p => p.inputs[s.arg m 0 2]?
      | none => none
    let s := s.modInt fun i => { i with inputs := k }
    let s := match a with
      | some (lo, _) => s.memWrite lo (leBytes 8 k) (s.errsAt lo 8 errs)
      | none => s
    s.mbDone m (leBytes 4 k)

/-- INPUT_DONE (R475). -/
def execInputDone (m : Fin 16) (s : State) (errs : EccObs := []) : Host.Outcome State Fault Refusal :=
  .next (s.onCmd m cInputDone (fun s => s.waitInput m errs) fun s => s.waitInput m errs)

/-- CURTAIN ends when the device is in the curtain state (R415). -/
def State.waitCurtain (s : State) (m : Fin 16) : State :=
  let writes := (fins 8).any fun n => (s.chan n).streams.toList.any (·.busy)
  if s.fld safStat SAF_STAT_STATE ≠ 0 ∧ !s.anyRunning ∧ !s.flag netFabCtl NET_FAB_CTL_VC0_EN ∧ !writes then s.mbEnd m 0 else s

/-- CURTAIN: HOST is written to SAF_RAISE (R476). -/
def execCurtain (m : Fin 16) (s : State) : Host.Outcome State Fault Refusal :=
  .next (s.onCmd m cCurtain (fun s => (s.fwWrite safRaise 0x0E).waitCurtain m) fun s => s.waitCurtain m)

/-- HOLD_AT_INT: on the coordinator (R464, R474). -/
def execHoldAtInt (m : Fin 16) (s : State) : Host.Outcome State Fault Refusal :=
  .next
    (s.atOnce m cHoldAtInt fun s =>
      if s.coordinates then (s.modInt fun i => { i with holdReq := true }).mbEnd m 0 else s.mbEnd m 0xE)

/-- RELEASE (R476). -/
def execRelease (m : Fin 16) (s : State) : Host.Outcome State Fault Refusal :=
  .next
    (s.atOnce m cRelease fun s =>
      let s := (fins 8).foldl (fun s n => if s.fld (chStatus n) CH_STATUS_STATE = stFault then s.restartChannel n else s) s
      let s := ((s.fwField netFabCtl NET_FAB_CTL_VC0_EN 0).fwField mcHostwin MC_HOSTWIN_RATE_EN 0).fwField safCtl SAF_CTL_ARMED 0
      ({ s with fw := { s.fw with run := none } }).mbEnd m 0)

/-! ### RESTORE (R429, R434 to R436, R477, R478) -/

/-- The arguments of RESTORE beyond LOAD's. -/
def State.restoreK (s : State) (m : Fin 16) : Nat := s.arg m 48 8
def State.restoreFlag (s : State) (m : Fin 16) (i : Nat) : Bool := bit (s.arg m 56 1) i

/-- The device address of the device record. -/
def LoadArgs.record (a : LoadArgs) : Nat := (a.prot - 1) * 2 ^ 21

/-- RESTORE ends in an error; what came from other devices is forgotten. -/
def State.failRestore (s : State) (m : Fin 16) (code : Nat) : State :=
  let int := { s.fw.int with copyDone := [], restoreDone := [], resumeAt := none }
  ({ s with fw := { s.fw with run := none, int := int } }).mbEnd m code

/-- A read of device memory that is not correctable ends RESTORE in NO_POINT, with MEMORY raised. -/
def State.badRestore (s : State) (m : Fin 16) (c : Nat) : State := (s.raiseCause 2 c 0 none).failRestore m 0x0201

/-- RESTORE goes to a step, whose wait begins. -/
def State.restorePhase (s : State) (m : Fin 16) (p : Nat) : State := s.modMb m fun x => { x with phase := p, since := s.now }

/-- Sends the first pages of a region to an address of another device, once the reads are granted; the flow's flag is then awaited. -/
def State.sendRegion (s : State) (m : Fin 16) (dest from_ to_ pages next : Nat) (errs : EccObs) : State :=
  if s.flag netUnsCtl NET_UNS_CTL_INJECT_STOP then s
  else
    match s.arbAccesses (s.pageArbs (List.range pages) from_ false) with
    | (s, false) => s
    | (s, true) =>
      match s.sendRange dest from_ to_ (pages * 2 ^ 21) true errs with
      | (s, none) => s.restorePhase m next
      | (s, some c) => s.badRestore m c

/-- Copies pages within device memory, once the accesses are granted. -/
def State.copyRegion (s : State) (m : Fin 16) (pages : List Nat) (from_ to_ : Nat) (errs : EccObs) (next : State → State) : State :=
  match s.arbAccesses (s.pageArbs pages from_ false ++ s.pageArbs pages to_ true) with
  | (s, false) => s
  | (s, true) =>
    match s.copyPages pages from_ to_ errs with
    | (s, none) => next s
    | (s, some c) => s.badRestore m c

/-- Waits for the flag of a region sent: a stalled flow is cleared and the region sent again. -/
def State.waitRegion (s : State) (m : Fin 16) (dest again : Nat) (next : State → State) : State :=
  let f := s.sendFlow (flowKey 1 1 1 dest)
  if f.stalled then (s.clearFlows dest).modMb m fun x => { x with phase := again }
  else if f.await.isSome || !f.held.isEmpty then s
  else next s

/-- Takes a COPY_DONE that a wait needs. -/
def State.tookCopy (s : State) (m : Fin 16) (region : Nat) : Bool := s.fw.int.copyDone.contains (s.restoreK m * 4096 + region)
def State.dropCopy (s : State) (m : Fin 16) (region : Nat) : State :=
  s.modInt fun i => { i with copyDone := i.copyDone.filter fun x => decide (x ≠ s.restoreK m * 4096 + region) }

/-- Step 4 of R478: a replacement checks what it received and fills its checkpoint region; a survivor of a slice that ran on takes its
protected range from the checkpoint region (R435). -/
def State.restoreOwn (s : State) (m : Fin 16) (errs : EccObs) : State :=
  let a := s.loadArgs m
  if s.restoreFlag m 0 then
    if s.tookCopy m 0 then
      match s.memRead a.record 8 (s.errsAt a.record 8 errs) with
      | (s, b, []) =>
        if leNat b ≠ s.restoreK m then (s.dropCopy m 0).failRestore m 0x0201
        else s.copyRegion m (List.range a.prot) 0 (a.ckpt * 2 ^ 21) errs fun s => (s.dropCopy m 0).restorePhase m 4
      | (s, _, c :: _) => s.badRestore m c
    else s
  else if s.restoreFlag m 1 then
    let pages := if s.flag safInt SAF_INT_DIRTY_VALID then (s.mem.dirty.map (·.1)).filter (fun p => decide (p < a.prot)) else List.range a.prot
    s.copyRegion m pages (a.ckpt * 2 ^ 21) 0 errs fun s => s.restorePhase m 4
  else s.restorePhase m 4

/-- The accesses of a restore of channels (R429): the snapshot engine's bursts that read the blocks, as requester 9 of the memory channels, and
its writes of every granule of the channels' SRAM, as requester 2 of its bank. -/
def State.restoreArbs (s : State) (w : Nat) (l : List (Fin 8)) : List (Fin 10 × ArbId) :=
  l.flatMap fun (n : Fin 8) => s.memArbs 9 (burstsOf (s.snapBlock n) w false) ++ bankArbs 2 n 0 (min w 0x3000000)

/-- Restores the channels in `l`, each from the `w` bytes of its block; an uncorrectable read ends with its memory channel (R423, R478). -/
def State.restoreBlocks (s : State) (w : Nat) (l : List (Fin 8)) (errs : EccObs) : State × Option Nat :=
  l.foldl (fun (acc : State × Option Nat) (n : Fin 8) =>
    match acc with
    | (s, some c) => (s, some c)
    | (s, none) =>
      match s.memRead (s.snapBlock n) w (s.errsAt (s.snapBlock n) w errs) with
      | (s, b, []) =>
        ((s.restoreChan n b 0).setFld (chCtl n) CH_CTL_START (getF (BitVec.ofNat 64 (leAt b 0x3020208 8)) CH_STATUS_PC), none)
      | (s, _, c :: _) => (s, some c)) (s, none)

/-- Steps 6 and 7 of R478 with blocks of `w` bytes, once the snapshot engine's accesses are granted: the image, the circuit phase, the channels;
DONE to the coordinator. -/
def State.restoreFrom (s : State) (w : Nat) (m : Fin 16) (errs : EccObs) : State :=
  let a := s.loadArgs m
  let k := s.restoreK m
  let (s, b) := s.fwRead a.image a.bytes errs
  let (s, devmap) := s.readMap a errs
  let (s, rec_, bad) := s.memRead a.record 64 (s.errsAt a.record 64 errs)
  let s' := s.applyImage b a devmap (leAt rec_ 0x10 2) false errs
  match bad, s'.arbAccesses (s'.restoreArbs w (fins 8)) with
  | c :: _, _ => s.badRestore m c
  | [], (_, false) => (s'.restoreArbs w (fins 8)).foldl (fun s x => s.arbRaise x.2 x.1) s
  | [], (s, true) =>
    let (s, bad) := s.restoreBlocks w (fins 8) errs
    match bad with
    | some c => s.badRestore m c
    | none =>
      let s := s.modInt fun i => { i with k := k, committed := k, inputs := leAt rec_ 0x14 4 }
      let s := ({ s with mem := { s.mem with dirty := [] } }.setFlag safInt SAF_INT_DIRTY_VALID).setFld safInt SAF_INT_COMMITTED k
      let s := (s.newRun m 60 0 7).restorePhase m 8
      s.post (devmap.headD 0) msDone 1 (leBytes 8 k) none

/-- Steps 6 and 7 of R478. -/
def State.restoreState (s : State) (m : Fin 16) (errs : EccObs) : State := s.restoreFrom 50593792 m errs

/-- Step 9 of R478: once the slice step is made, VC0_EN, ARMED and RUN; from here RESTORE is as START. -/
def State.restoreGo (s : State) (m : Fin 16) : State :=
  match s.fw.int.resumeAt with
  | some tr =>
    if !s.flag timCtl TIM_CTL_REBASE_ARM && decide ((s.rd timRebaseAt).toNat = 2 ^ 64 - 1) then
      let s := (s.enableVc0).fwField safCtl SAF_CTL_ARMED 1
      let s := (s.modInt fun i => { i with resumeAt := none }).modRun fun r => { r with t0 := tr, state := 1 }
      let s := s.modMb m fun x => { x with phase := 9, aux := s.now }
      let s := s.mbWrite m 0 (match s.fw.run with
        | some r => s.runWindow r
        | none => [])
      s.runStep m
    else s
  | none => s

/-- One step of RESTORE: 1 and 2 send the mirror region, 3 restores the protected range, 4 and 5 send the checkpoint region, 6 awaits the
partner's, 7 restores the image and the channels, 8 awaits the slice step, 9 runs. -/
def State.restoreStep (s : State) (m : Fin 16) (errs : EccObs) : State :=
  let a := s.loadArgs m
  let k := s.restoreK m
  let to_ := s.arg m 58 2
  match s.fw.mb[m].phase with
  | 1 => if s.restoreFlag m 3 then s.sendRegion m to_ (a.mirror * 2 ^ 21) 0 a.prot 2 errs else s.restorePhase m 3
  | 2 => s.waitRegion m to_ 1 fun s => (s.post to_ msCopyDone 0 (leBytes 8 k ++ leBytes 1 0) none).restorePhase m 3
  | 3 => s.restoreOwn m errs
  | 4 => if s.restoreFlag m 2 then s.sendRegion m a.buddy (a.ckpt * 2 ^ 21) (a.mirror * 2 ^ 21) a.prot 5 errs else s.restorePhase m 6
  | 5 => s.waitRegion m a.buddy 4 fun s => (s.post a.buddy msCopyDone 0 (leBytes 8 k ++ leBytes 1 1) none).restorePhase m 6
  | 6 => if !s.restoreFlag m 4 then s.restorePhase m 7 else if s.tookCopy m 1 then (s.dropCopy m 1).restorePhase m 7 else s
  | 7 => s.restoreState m errs
  | 8 => s.restoreGo m
  | _ => s.runStep m

/-- RESTORE begins: the checks of R166 and R167, and the index of the source's device record (R435, R478). -/
def State.beginRestore (s : State) (m : Fin 16) (errs : EccObs) : State :=
  let a := s.loadArgs m
  let (s, b) := s.fwRead a.image a.bytes errs
  let t := s.retireUnits errs
  let c := t.failedCheck b a
  if c ≠ 0 then s.failRestore m (0x0100 + c)
  else if t.restoreFlag m 0 then t.restorePhase m 1
  else
    let at_ := a.record + (if t.restoreFlag m 1 then a.ckpt * 2 ^ 21 else 0)
    match t.memRead at_ 8 (t.errsAt at_ 8 errs) with
    | (t, x, []) => if leNat x = t.restoreK m then t.restorePhase m 1 else t.failRestore m 0x0201
    | (t, _, c :: _) => t.badRestore m c

/-- RESTORE (R477, R478). -/
def execRestore (m : Fin 16) (s : State) (errs : EccObs := []) : Host.Outcome State Fault Refusal :=
  .next (s.onCmd m cRestore (fun s => s.beginRestore m errs) fun s => s.restoreStep m errs)

end Sys2Proof.Machine
end

