-- ==== Sys2Proof/Machine/Security.lean ====
section
/-!
DEFINITION. Boot, recovery, firmware update, keys, attestation (R364, R366, R480 to R489), and the waits of commands that run out (R464, R478).
-/

namespace Sys2Proof.Machine

/-! ### The firmware image (R481, R482) -/

/-- The context strings "VM1-FW" and "VM1-ATTEST". -/
def ctxFw : List Byte := [0x56, 0x4D, 0x31, 0x2D, 0x46, 0x57]
def ctxAttest : List Byte := [0x56, 0x4D, 0x31, 0x2D, 0x41, 0x54, 0x54, 0x45, 0x53, 0x54]

/-- BODY_BYTES of an image. -/
def fwBody (b : List Byte) : Nat := leAt b 0x18 8

/-- Whether the header of an image is well formed. -/
def fwFormat (b : List Byte) : Bool :=
  decide (leAt b 0 4 = 0x57464D56 ∧ leAt b 4 2 = 1 ∧ leAt b 6 2 = 0 ∧ leAt b 0x14 4 = 0 ∧ 2 ^ 20 ≤ fwBody b ∧ fwBody b ≤ 6 * 2 ^ 20 ∧
    leAt b 0x14ED (0x2000 - 0x14ED) = 0 ∧ b.length = 0x2000 + fwBody b)

/-- The key-hash slot that an image's public key matches. -/
def State.keySlot (s : State) (b : List Byte) : Option Nat :=
  let h := shake256 (slice b 0x60 1952) 32
  if h = Config.keySlot0 then some 0 else if s.fw.slot1 = some h then some 1 else none

/-- The check of R482 on an image: 0, or the code of R465. -/
def State.fwCheck (s : State) (b : List Byte) : Nat :=
  if !fwFormat b then 0x0301
  else if (s.keySlot b).isNone then 0x0302
  else if !mldsaVerify ctxFw (slice b 0x60 1952) (b.take 0x800) (slice b 0x800 3309) then 0x0303
  else if shake256 (b.drop 0x2000) 64 ≠ slice b 0x20 64 then 0x0303
  else if leAt b 0x10 4 < s.fw.svnMin then 0x0304
  else 0

/-- Bytes of the image region of flash; what is erased reads FFH. -/
def State.flashRead (s : State) (a n : Nat) : List Byte := kgets (fun _ => 0xFF) s.fw.flash a n

/-- The image in flash. -/
def State.flashImage (s : State) : List Byte :=
  let n := leNat (s.flashRead 0x18 8)
  s.flashRead 0 (0x2000 + (if n ≤ 6 * 2 ^ 20 then n else 0))

/-- The image region erased and an image written into it. When that fails, what it holds is open: free bytes. -/
def State.flashImageWrite (s : State) (b : List Byte) (ok : Bool) : State :=
  if ok then { s with fw := { s.fw with flash := ksets (fun _ => 0xFF) [] 0 b } }
  else { s with fw := { s.fw with flash := ksets (fun _ => 0xFF) [] 0 (freeBytes s.free (8 * 2 ^ 20)) } }.take (8 * 2 ^ 20)

/-! ### Boot (R484) -/

/-- BOOT_IMAGE_VERIFIED: the boot ROM has read and checked the image: it jumps to it with MODE 3, or enters recovery (R453, R484). -/
def execBootImageVerified (s : State) : Host.Outcome State Fault Refusal :=
  .next
    (if s.heldReset || decide (s.fld ctlBoot CTL_BOOT_MODE ≠ 1) then s
     else
       let s := s.bump ctlBoot CTL_BOOT_BOOTS
       let b := s.flashImage
       let s := { s with fw := { s.fw with csram := ksets (fun _ => 0) s.fw.csram 0 (b.drop 0x2000) } }
       let c := s.fwCheck b
       if c ≠ 0 then (s.setFld ctlBoot CTL_BOOT_BOOT_ERR c).setMode 2
       else
         let s := (s.wr ctlFwVersion (BitVec.ofNat 64 (leAt b 0x08 8))).setFld ctlBoot CTL_BOOT_KEY_SLOT ((s.keySlot b).getD 0xF)
         let s := { s with fw := { s.fw with meas := shake256 (b.take 0x800) 64, svn := leAt b 0x10 4 } }
         s.assignRoles.setMode 3)

/-- The base map of a carrier board for a link (R364): ROLE 1, DIR and POS. -/
def carrierMap (bx by_ l : Nat) : Nat :=
  let x (off : Bool) : Nat := if (bx = 0) = (off = false) then 0 else 1
  let y (off : Bool) : Nat := if (by_ = 0) = (off = false) then 2 else 3
  let dir := if l < 4 then x false else if l < 8 then y false else if l < 12 then x true else if l < 16 then y true else if l < 20 then 4 else 5
  1 + 4 * dir + 32 * (l % 4)

/-- Firmware restores the port map from the straps where nothing has filled it (R364, R366). -/
def State.strapMap (s : State) : State :=
  if s.flag brdStrap BRD_STRAP_CARRIER && (List.range 24).all fun l => decide (s.fld (netPortMap l) NET_PORT_MAP_ROLE = 0) then
    (List.range 24).foldl (fun s l =>
      s.fwWrite (netPortMap l) (BitVec.ofNat 64 (carrierMap (s.fld brdStrap BRD_STRAP_SLOT_X) (s.fld brdStrap BRD_STRAP_SLOT_Y) l))) s
  else s

/-- Firmware brings back the top steps and the CTRL ceiling that the ledger holds (R536, R537). -/
def State.restoreTops (s : State) : State :=
  let l := s.fw.ledger
  if l.surveys = 0 ∨ s.fld pwrResurvey PWR_RESURVEY_COUNT ≠ 0 then s
  else
    let s := (List.range 8).foldl (fun s n => s.setFld (pwrSite n) PWR_SITE_TOP (kget (fun _ => 0) l.tops n)) s
    (s.setFld pwrClk PWR_CLK_CTRL_CEIL l.ceil).showTop

/-- FW_INIT_COMPLETE: firmware has applied the retirement list and INIT_DONE is set: links are enabled by the map, and MODE is 0 (R336, R366,
R484). -/
def execFwInitComplete (s : State) : Host.Outcome State Fault Refusal :=
  .next
    (if s.heldReset || decide (s.fld ctlBoot CTL_BOOT_MODE ≠ 3) || !s.flag mcStatus MC_STATUS_INIT_DONE then s
     else
       let s := (s.applyList [1, 2, 3, 4, 5, 6, 8]).restoreTops.strapMap
       let s := (List.range 24).foldl (fun s l =>
         if s.fld (netPortMap l) NET_PORT_MAP_ROLE ≠ 0 then s.fwField (lnkCtl l) LNK_CTL_EN 1 else s) s
       s.setMode 0)

/-! ### RECOVER and UPDATE (R485, R486) -/

/-- RECOVER once device memory can be read: the staged image is checked, written and read back, and boots (R485). -/
def State.recover (s : State) (m : Fin 16) (flashOk : Bool) (errs : EccObs) : State :=
  if !inMem (s.arg m 0 8) (s.arg m 8 8) then s.mbEnd m 3
  else if !s.memUsable then s
  else
    let (s, b) := s.fwRead (s.arg m 0 8) (s.arg m 8 8) errs
    let c := s.fwCheck b
    if c ≠ 0 then s.mbEnd m c
    else
      let s := s.flashImageWrite b flashOk
      if flashOk then (s.mbEnd m 0).setMode 1 else s.mbEnd m 0x0305

/-- RECOVER, on MB0 in recovery; elsewhere MB_POLL refuses it (R464, R485). `flashOk` says whether the read-back agreed. -/
def execRecover (flashOk : Bool) (s : State) (errs : EccObs := []) : Host.Outcome State Fault Refusal :=
  .next (s.onRom 0 0x00F0 16 fun s => s.recover 0 flashOk errs)

/-- UPDATE (R486). Where flash fails, how far it came is open. -/
def State.update (s : State) (m : Fin 16) (flashOk : Bool) (errs : EccObs) : State :=
  let raise := bit (s.arg m 16 1) 0
  let (s, b) := s.fwRead (s.arg m 0 8) (s.arg m 8 8) errs
  let c := s.fwCheck b
  if c ≠ 0 then s.mbFail m (leBytes 8 0 ++ leBytes 1 1) c
  else if flashOk then
    let s := s.flashImageWrite b true
    let s := if raise then { s with fw := { s.fw with svnMin := max s.fw.svnMin (min 64 (leAt b 0x10 4)) } } else s
    s.mbDone m (leBytes 8 b.length ++ leBytes 1 (if raise then 5 else 4))
  else
    let k := s.free
    let done := Config.freeNat k % (b.length + 1)
    ((s.take 2).flashImageWrite b false).mbFail m (leBytes 8 done ++ leBytes 1 (2 + Config.freeNat (k + 1) % 3)) 0x0305

/-- UPDATE (R486). -/
def execUpdate (m : Fin 16) (flashOk : Bool) (s : State) (errs : EccObs := []) : Host.Outcome State Fault Refusal :=
  .next (s.atOnce m cUpdate fun s => s.update m flashOk errs)

/-! ### OWNER_KEY, GET_CERT and ATTEST (R487 to R489) -/

/-- OWNER_KEY (R488). -/
def execOwnerKey (m : Fin 16) (s : State) : Host.Outcome State Fault Refusal :=
  .next (s.atOnce m cOwnerKey fun s => ({ s with fw := { s.fw with slot1 := some (slice s.fw.mb[m].cmd 16 32) } }).mbEnd m 0)

/-- "VM1-ID-KEY". -/
def idKeyLabel : List Byte := [0x56, 0x4D, 0x31, 0x2D, 0x49, 0x44, 0x2D, 0x4B, 0x45, 0x59]

/-- The identity key, as the security element derives it from the seed (R487). -/
def identityKey : DsaKey := dsaKeyGen (shake256 (slice Config.identitySeed 0 32 ++ idKeyLabel) 32)

/-- The device certificate (R487). -/
def State.certificate (s : State) : List Byte :=
  leBytes 4 0x54434D56 ++ leBytes 2 1 ++ leBytes 1 (s.fld ctlChipId CTL_CHIP_ID_STEPPING) ++ leBytes 1 0 ++ leBytes 8 Config.serial ++
    leBytes 16 0 ++ slice identityKey.pk 0 1952 ++ shake256 Config.makerKey 32 ++ slice Config.certSignature 0 3309

/-- GET_CERT (R487). -/
def execGetCert (m : Fin 16) (s : State) : Host.Outcome State Fault Refusal :=
  .next (s.atOnce m cGetCert fun s => s.mbDone m s.certificate)

/-- The signed part of an attestation report (R489). -/
def State.report (s : State) (nonce : List Byte) : List Byte :=
  let place := s.rd netPlace
  leBytes 4 0x54414D56 ++ leBytes 2 1 ++ leBytes 1 (s.fld ctlChipId CTL_CHIP_ID_STEPPING) ++ leBytes 1 (s.fld ctlBoot CTL_BOOT_KEY_SLOT) ++
    leBytes 8 Config.serial ++ slice nonce 0 32 ++ slice s.fw.meas 0 64 ++ s.regBytes ctlFwVersion ++ leBytes 4 s.fw.svn ++
    leBytes 4 s.fw.svnMin ++ slice ((s.fw.prog.map (·.hash)).getD []) 0 64 ++
    leBytes 8 (s.fld ctlChipId CTL_CHIP_ID_LAT_TABLE_MAX + 256 * b2n s.fw.slot1.isSome + 512 * s.fld brdJtag BRD_JTAG_DEBUG_LOCK) ++
    leBytes 8 s.now ++ leBytes 2 (getF place NET_PLACE_DEVICE_ID) ++ leBytes 2 (getF place NET_PLACE_SLICE_ID) ++
    leBytes 1 (getF place NET_PLACE_LOCK) ++ leBytes 1 (s.fld safCtl SAF_CTL_ARMED) ++ leBytes 42 0

/-- ATTEST (R489). -/
def execAttest (m : Fin 16) (s : State) : Host.Outcome State Fault Refusal :=
  .next
    (s.atOnce m cAttest fun s =>
      let r := s.report (slice s.fw.mb[m].cmd 16 32)
      s.mbDone m (r ++ slice (mldsaSign identityKey ctxAttest r) 0 3309))

/-! ### Waits that run out (R464, R469, R478) -/

/-- COMMAND_WAIT_TIMEOUT: SET_PORTS ends after 1 s with the survey table, MSG_RECV at TIMEOUT_MS, ACQUIRE after 100 ms, a wait of RESTORE
after 60 s. -/
def execCommandWaitTimeout (m : Fin 16) (s : State) : Host.Outcome State Fault Refusal :=
  .next
    (let past (t : Nat) : Bool := decide (s.fw.mb[m].since + t ≤ s.now)
     let op := s.mbOp m
     if s.heldReset || !s.fwRuns || decide (s.mbState m ≠ 2) then s
     else if op = 0x0011 then (if past 1000000000 then s.endPorts m else s)
     else if op = 0x0016 then (if past (1000000 * s.arg m 0 4) then s.mbEnd m 0xA else s)
     else if op = 0x0013 ∧ s.arg m 0 1 = 2 then (if past 100000000 then s.endTime m 0xA else s)
     else if op = 0x0026 ∧ s.fw.mb[m].phase < 9 then (if past 60000000000 then s.failRestore m 0xA else s)
     else s)

end Sys2Proof.Machine
end

