-- ==== Sys2Proof/Machine/Dispatch.lean ====
section
/-!
DEFINITION. The meaning of each command: one arm for each row of spec/opcode_table.json.
-/

namespace Sys2Proof.Machine

/-- The effect of a command on everything but the queue of waiting commands. -/
def exec (i : Instr) (s : State) : Host.Outcome State Fault Refusal :=
  match i with
  -- operations of a channel
  | .loadw u f => Sys2Proof.Machine.execLoadw u f s
  | .pass u f => Sys2Proof.Machine.execPass u f s
  | .drain u f => Sys2Proof.Machine.execDrain u f s
  | .loadacc u f => Sys2Proof.Machine.execLoadacc u f s
  | .vadd u f => Sys2Proof.Machine.execVadd u f s
  | .vsub u f => Sys2Proof.Machine.execVsub u f s
  | .vmul u f => Sys2Proof.Machine.execVmul u f s
  | .vfma u f => Sys2Proof.Machine.execVfma u f s
  | .vdiv u f => Sys2Proof.Machine.execVdiv u f s
  | .vsqrt u f => Sys2Proof.Machine.execVsqrt u f s
  | .vmax u f => Sys2Proof.Machine.execVmax u f s
  | .vmin u f => Sys2Proof.Machine.execVmin u f s
  | .vcmp u f => Sys2Proof.Machine.execVcmp u f s
  | .vsel u f => Sys2Proof.Machine.execVsel u f s
  | .viadd u f => Sys2Proof.Machine.execViadd u f s
  | .visub u f => Sys2Proof.Machine.execVisub u f s
  | .viand u f => Sys2Proof.Machine.execViand u f s
  | .vior u f => Sys2Proof.Machine.execVior u f s
  | .vixor u f => Sys2Proof.Machine.execVixor u f s
  | .vishl u f => Sys2Proof.Machine.execVishl u f s
  | .vishr u f => Sys2Proof.Machine.execVishr u f s
  | .vcvt u f => Sys2Proof.Machine.execVcvt u f s
  | .vunpk u f => Sys2Proof.Machine.execVunpk u f s
  | .vwadd u f => Sys2Proof.Machine.execVwadd u f s
  | .vwrnd u f => Sys2Proof.Machine.execVwrnd u f s
  | .vshuf u f => Sys2Proof.Machine.execVshuf u f s
  | .vrsum u f => Sys2Proof.Machine.execVrsum u f s
  | .vbcast u f => Sys2Proof.Machine.execVbcast u f s
  | .vmovs u f => Sys2Proof.Machine.execVmovs u f s
  | .xfill u f => Sys2Proof.Machine.execXfill u f s
  | .xreset u f => Sys2Proof.Machine.execXreset u f s
  | .xread u f => Sys2Proof.Machine.execXread u f s
  | .recip u f => Sys2Proof.Machine.execRecip u f s
  | .rsqrt u f => Sys2Proof.Machine.execRsqrt u f s
  | .exp u f => Sys2Proof.Machine.execExp u f s
  | .log u f => Sys2Proof.Machine.execLog u f s
  | .tanh u f => Sys2Proof.Machine.execTanh u f s
  | .ldv u f ecc => Sys2Proof.Machine.execLdv u f ecc s
  | .stv u f => Sys2Proof.Machine.execStv u f s
  | .lds u f ecc => Sys2Proof.Machine.execLds u f ecc s
  | .sts u f => Sys2Proof.Machine.execSts u f s
  | .qwait u f => Sys2Proof.Machine.execQwait u f s
  | .qrel u f => Sys2Proof.Machine.execQrel u f s
  | .qcommit u f => Sys2Proof.Machine.execQcommit u f s
  | .qstart u f => Sys2Proof.Machine.execQstart u f s
  | .nsend u f => Sys2Proof.Machine.execNsend u f s
  | .nrecv u f => Sys2Proof.Machine.execNrecv u f s
  | .cue u f => Sys2Proof.Machine.execCue u f s
  | .cueset u f => Sys2Proof.Machine.execCueset u f s
  | .sadd u f => Sys2Proof.Machine.execSadd u f s
  | .saddi u f => Sys2Proof.Machine.execSaddi u f s
  | .ssub u f => Sys2Proof.Machine.execSsub u f s
  | .smul u f => Sys2Proof.Machine.execSmul u f s
  | .sand u f => Sys2Proof.Machine.execSand u f s
  | .sor u f => Sys2Proof.Machine.execSor u f s
  | .sxor u f => Sys2Proof.Machine.execSxor u f s
  | .sshl u f => Sys2Proof.Machine.execSshl u f s
  | .sshr u f => Sys2Proof.Machine.execSshr u f s
  | .ssra u f => Sys2Proof.Machine.execSsra u f s
  | .slui u f => Sys2Proof.Machine.execSlui u f s
  | .scmplt u f => Sys2Proof.Machine.execScmplt u f s
  | .br u f => Sys2Proof.Machine.execBr u f s
  | .beqz u f => Sys2Proof.Machine.execBeqz u f s
  | .bnez u f => Sys2Proof.Machine.execBnez u f s
  | .intermit u f => Sys2Proof.Machine.execIntermit u f s
  | .halt u f => Sys2Proof.Machine.execHalt u f s
  | .signal u f => Sys2Proof.Machine.execSignal u f s
  -- what happens inside a channel
  | .weightTileLoaded ch e => Sys2Proof.Machine.execWeightTileLoaded ch e s
  | .accRowComplete ch e obs => Sys2Proof.Machine.execAccRowComplete ch e obs s
  | .drainRowWrite ch e obs => Sys2Proof.Machine.execDrainRowWrite ch e obs s
  | .resultWriteback ch => Sys2Proof.Machine.execResultWriteback ch s
  | .cueFire ch c => Sys2Proof.Machine.execCueFire ch c s
  | .shadowTargetChange ch => Sys2Proof.Machine.execShadowTargetChange ch s
  | .shadowCopyDone ch => Sys2Proof.Machine.execShadowCopyDone ch s
  | .sramScrubRead ch bank row errs => Sys2Proof.Machine.execSramScrubRead ch bank row errs s
  | .sramInitDone ch => Sys2Proof.Machine.execSramInitDone ch s
  | .runStart ch value => Sys2Proof.Machine.execRunStart ch value s
  | .runStop ch value => Sys2Proof.Machine.execRunStop ch value s
  | .stopAtCueWrite ch value => Sys2Proof.Machine.execStopAtCueWrite ch value s
  | .unarmedWaitPoll ch => Sys2Proof.Machine.execUnarmedWaitPoll ch s
  | .flitDeparture ch q => Sys2Proof.Machine.execFlitDeparture ch q s
  | .rxqFlitArrive ch q => Sys2Proof.Machine.execRxqFlitArrive ch q s
  | .depositComplete ch q => Sys2Proof.Machine.execDepositComplete ch q s
  | .rxWatchExpiry ch q => Sys2Proof.Machine.execRxWatchExpiry ch q s
  -- arbiters
  | .arbRequest a k dt => Sys2Proof.Machine.execArbRequest a k dt s
  | .arbRound a dt => Sys2Proof.Machine.execArbRound a dt s
  | .arbRelease a dt => Sys2Proof.Machine.execArbRelease a dt s
  | .arbMaskRise a k => Sys2Proof.Machine.execArbMaskRise a k s
  | .arbMaskFall a k => Sys2Proof.Machine.execArbMaskFall a k s
  | .starveDetect a k dt => Sys2Proof.Machine.execStarveDetect a k dt s
  | .arbPrioWrite a value => Sys2Proof.Machine.execArbPrioWrite a value s
  | .arbCtlWrite a value => Sys2Proof.Machine.execArbCtlWrite a value s
  -- memory
  | .streamBurstIssue ch q => Sys2Proof.Machine.execStreamBurstIssue ch q s
  | .burstComplete ch q k errs => Sys2Proof.Machine.execBurstComplete ch q k errs s
  | .streamEntryWritten ch q k => Sys2Proof.Machine.execStreamEntryWritten ch q k s
  | .storeEntryWritten ch q => Sys2Proof.Machine.execStoreEntryWritten ch q s
  | .streamDescriptorDone ch q => Sys2Proof.Machine.execStreamDescriptorDone ch q s
  | .countSync ch q toArith => Sys2Proof.Machine.execCountSync ch q toArith s
  | .pinTest c failed => Sys2Proof.Machine.execPinTest c failed s
  | .patrolScrubRead c err => Sys2Proof.Machine.execPatrolScrubRead c err s
  | .scrubSweepEnd c => Sys2Proof.Machine.execScrubSweepEnd c s
  | .remapDataWrite c value => Sys2Proof.Machine.execRemapDataWrite c value s
  | .memInitDone failed => Sys2Proof.Machine.execMemInitDone failed s
  | .lendWrite errs => Sys2Proof.Machine.execLendWrite s errs
  | .lendRead errs inTime => Sys2Proof.Machine.execLendRead errs inTime s
  | .lendReplyDepart => Sys2Proof.Machine.execLendReplyDepart s
  | .bar2Read off len errs => Sys2Proof.Machine.execBar2Read off len errs s
  | .bar2Write off data ep errs => Sys2Proof.Machine.execBar2Write off data ep s errs
  | .hostwinBudgetRefill => Sys2Proof.Machine.execHostwinBudgetRefill s
  -- scheduled fabric
  | .vc0CrossbarEnter p => Sys2Proof.Machine.execVc0CrossbarEnter p s
  | .vc0LinkArrive l => Sys2Proof.Machine.execVc0LinkArrive l s
  | .vc0WindowClose l => Sys2Proof.Machine.execVc0WindowClose l s
  | .crossbarOutputSlot p => Sys2Proof.Machine.execCrossbarOutputSlot p s
  | .swapTickCopy => Sys2Proof.Machine.execSwapTickCopy s
  | .bankSwap => Sys2Proof.Machine.execBankSwap s
  | .circuitEntryWrite bank c value => Sys2Proof.Machine.execCircuitEntryWrite bank c value s
  -- unscheduled traffic
  | .unsPacketInject port cls flits => Sys2Proof.Machine.execUnsPacketInject port cls flits s
  | .unsPacketArrive l cls => Sys2Proof.Machine.execUnsPacketArrive l cls s
  | .unsPacketForward p cls => Sys2Proof.Machine.execUnsPacketForward p cls s
  | .port32Deliver => Sys2Proof.Machine.execPort32Deliver s
  | .port33Write errs => Sys2Proof.Machine.execPort33Write s errs
  | .flaggedPacketRelease port => Sys2Proof.Machine.execFlaggedPacketRelease port s
  | .flagAckSend port => Sys2Proof.Machine.execFlagAckSend port s
  | .flagAckReceive port => Sys2Proof.Machine.execFlagAckReceive port s
  | .flagFailReceive port => Sys2Proof.Machine.execFlagFailReceive port s
  | .holdTimeout port => Sys2Proof.Machine.execHoldTimeout port s
  | .ackTimeout port flow => Sys2Proof.Machine.execAckTimeout port flow s
  | .netFlowClear d => Sys2Proof.Machine.execNetFlowClear d s
  | .routeEntryWrite d value => Sys2Proof.Machine.execRouteEntryWrite d value s
  | .tableOpenWrite value => Sys2Proof.Machine.execTableOpenWrite value s
  | .telemWindowClose => Sys2Proof.Machine.execTelemWindowClose s
  -- links
  | .flitReceive l bytes frac => Sys2Proof.Machine.execFlitReceive l bytes frac s
  | .replayTimeout l => Sys2Proof.Machine.execReplayTimeout l s
  | .lctlCredit l => Sys2Proof.Machine.execLctlCredit l s
  | .lctlTimestamp l => Sys2Proof.Machine.execLctlTimestamp l s
  | .lctlInit l => Sys2Proof.Machine.execLctlInit l s
  | .lctlReplace l => Sys2Proof.Machine.execLctlReplace l s
  | .lctlLaneAck l => Sys2Proof.Machine.execLctlLaneAck l s
  | .lctlLaneDone l => Sys2Proof.Machine.execLctlLaneDone l s
  | .lctlWidthReq l => Sys2Proof.Machine.execLctlWidthReq l s
  | .lctlWidthAck l => Sys2Proof.Machine.execLctlWidthAck l s
  | .lctlWidthGo l => Sys2Proof.Machine.execLctlWidthGo l s
  | .lctlRetrain l => Sys2Proof.Machine.execLctlRetrain l s
  | .laneParityWindow l => Sys2Proof.Machine.execLaneParityWindow l s
  | .laneLossOfLock l lane => Sys2Proof.Machine.execLaneLossOfLock l lane s
  | .cmdRetry l pattern => Sys2Proof.Machine.execCmdRetry l s pattern
  | .graceExpiry l => Sys2Proof.Machine.execGraceExpiry l s
  | .lnkEnWrite l value => Sys2Proof.Machine.execLnkEnWrite l value s
  | .lnkRetrainWrite l value => Sys2Proof.Machine.execLnkRetrainWrite l value s
  | .lnkWidthGoWrite l value => Sys2Proof.Machine.execLnkWidthGoWrite l value s
  | .detect l locked => Sys2Proof.Machine.execDetect l locked s
  | .equalise l settled => Sys2Proof.Machine.execEqualise l settled s
  | .identifyLanes l crossed inverted => Sys2Proof.Machine.execIdentifyLanes l crossed inverted s
  | .place l peerGood => Sys2Proof.Machine.execPlace l peerGood s
  | .align l => Sys2Proof.Machine.execAlign l s
  | .survey l samples => Sys2Proof.Machine.execSurvey l samples s
  | .trainStepTimeout l => Sys2Proof.Machine.execTrainStepTimeout l s
  | .trainRetry l => Sys2Proof.Machine.execTrainRetry l s
  | .eyeMonitor l lane v h prbs => Sys2Proof.Machine.execEyeMonitor l lane v h prbs s
  | .laserMonitor l lane bias power => Sys2Proof.Machine.execLaserMonitor l lane bias power s
  | .laserSourceWrite l lane value => Sys2Proof.Machine.execLaserSourceWrite l lane value s
  | .portMapWrite l value => Sys2Proof.Machine.execPortMapWrite l value s
  | .delayWrite l value => Sys2Proof.Machine.execDelayWrite l value s
  | .dmaxWrite l value => Sys2Proof.Machine.execDmaxWrite l value s
  -- Huawald time
  | .servoRun => Sys2Proof.Machine.execServoRun s
  | .benchmarkWrite value => Sys2Proof.Machine.execBenchmarkWrite value s
  | .acquireWrite value => Sys2Proof.Machine.execAcquireWrite value s
  | .rebaseArmWrite value => Sys2Proof.Machine.execRebaseArmWrite value s
  | .rebaseStep => Sys2Proof.Machine.execRebaseStep s
  | .timReleaseWrite value => Sys2Proof.Machine.execTimReleaseWrite value s
  | .trimSlew => Sys2Proof.Machine.execTrimSlew s
  | .timRefusedClear value => Sys2Proof.Machine.execTimRefusedClear value s
  | .refclkTLoss => Sys2Proof.Machine.execRefclkTLoss s
  | .refclkTReturn => Sys2Proof.Machine.execRefclkTReturn s
  | .holdExpired => Sys2Proof.Machine.execHoldExpired s
  | .countedCompare ch err => Sys2Proof.Machine.execCountedCompare ch err s
  -- safety, control cores and intermissions
  | .safRaiseWrite value => Sys2Proof.Machine.execSafRaiseWrite value s
  | .curtainNotice => Sys2Proof.Machine.execCurtainNotice s
  | .curtainStopTimeout => Sys2Proof.Machine.execCurtainStopTimeout s
  | .curtainChannelsStopped => Sys2Proof.Machine.execCurtainChannelsStopped s
  | .haltEnter => Sys2Proof.Machine.execHaltEnter s
  | .safKick value => Sys2Proof.Machine.execSafKick value s
  | .watchdogExpiry core => Sys2Proof.Machine.execWatchdogExpiry core s
  | .coreTakeover core => Sys2Proof.Machine.execCoreTakeover core s
  | .ctlPostData core value => Sys2Proof.Machine.execCtlPostData core value s
  | .postPairTimeout => Sys2Proof.Machine.execPostPairTimeout s
  | .lockstepMismatch => Sys2Proof.Machine.execLockstepMismatch s
  | .selfTestDone ch fail => Sys2Proof.Machine.execSelfTestDone ch fail s
  | .captureDone errs => Sys2Proof.Machine.execCaptureDone errs s
  | .copyEngineDone errs => Sys2Proof.Machine.execCopyEngineDone errs s
  | .msgCaptured => Sys2Proof.Machine.execMsgCaptured s
  | .msgCopy errs => Sys2Proof.Machine.execMsgCopy s errs
  | .msgDone => Sys2Proof.Machine.execMsgDone s
  | .msgResume errs => Sys2Proof.Machine.execMsgResume s errs
  | .msgHold => Sys2Proof.Machine.execMsgHold s
  | .msgCopyDone => Sys2Proof.Machine.execMsgCopyDone s
  | .msgStep errs => Sys2Proof.Machine.execMsgStep s errs
  | .msgHost => Sys2Proof.Machine.execMsgHost s
  -- mailboxes and firmware
  | .mbPoll m errs => Sys2Proof.Machine.execMbPoll m s errs
  | .mbAbort m value => Sys2Proof.Machine.execMbAbort m value s
  | .identify m => Sys2Proof.Machine.execIdentify m s
  | .setPlace m => Sys2Proof.Machine.execSetPlace m s
  | .netPlaceWrite value => Sys2Proof.Machine.execNetPlaceWrite value s
  | .setPorts m => Sys2Proof.Machine.execSetPorts m s
  | .getSurvey m => Sys2Proof.Machine.execGetSurvey m s
  | .timeSetBenchmark m => Sys2Proof.Machine.execTimeSetBenchmark m s
  | .timeClearBenchmark m => Sys2Proof.Machine.execTimeClearBenchmark m s
  | .timeAcquire m => Sys2Proof.Machine.execTimeAcquire m s
  | .timeRelease m => Sys2Proof.Machine.execTimeRelease m s
  | .timeClearRefused m => Sys2Proof.Machine.execTimeClearRefused m s
  | .routesStop m => Sys2Proof.Machine.execRoutesStop m s
  | .routesWrite m errs => Sys2Proof.Machine.execRoutesWrite m s errs
  | .routesStart m => Sys2Proof.Machine.execRoutesStart m s
  | .msgSend m => Sys2Proof.Machine.execMsgSend m s
  | .msgRecv m => Sys2Proof.Machine.execMsgRecv m s
  | .load m errs => Sys2Proof.Machine.execLoad m s errs
  | .start m => Sys2Proof.Machine.execStart m s
  | .inputDone m errs => Sys2Proof.Machine.execInputDone m s errs
  | .curtain m => Sys2Proof.Machine.execCurtain m s
  | .holdAtInt m => Sys2Proof.Machine.execHoldAtInt m s
  | .release m => Sys2Proof.Machine.execRelease m s
  | .restore m errs => Sys2Proof.Machine.execRestore m s errs
  | .resetSoft m => Sys2Proof.Machine.execResetSoft m s
  | .resetChn m => Sys2Proof.Machine.execResetChn m s
  | .resetLnk m => Sys2Proof.Machine.execResetLnk m s
  | .setPower m => Sys2Proof.Machine.execSetPower m s
  | .powerTransitionDone => Sys2Proof.Machine.execPowerTransitionDone s
  | .getLedger m => Sys2Proof.Machine.execGetLedger m s
  | .getRetired m => Sys2Proof.Machine.execGetRetired m s
  | .update m flashOk errs => Sys2Proof.Machine.execUpdate m flashOk s errs
  | .attest m => Sys2Proof.Machine.execAttest m s
  | .getCert m => Sys2Proof.Machine.execGetCert m s
  | .ownerKey m => Sys2Proof.Machine.execOwnerKey m s
  | .recover flashOk errs => Sys2Proof.Machine.execRecover flashOk s errs
  | .bootImageVerified => Sys2Proof.Machine.execBootImageVerified s
  | .fwInitComplete => Sys2Proof.Machine.execFwInitComplete s
  -- resets and the host link
  | .por => Sys2Proof.Machine.execPor s
  | .modReset => Sys2Proof.Machine.execModReset s
  | .modResetRelease straps => Sys2Proof.Machine.execModResetRelease straps s
  | .hotReset => Sys2Proof.Machine.execHotReset s
  | .flr => Sys2Proof.Machine.execFlr s
  | .channelReset ch => Sys2Proof.Machine.execChannelReset ch s
  | .linkReset l => Sys2Proof.Machine.execLinkReset l s
  | .bar0BadAccess write => Sys2Proof.Machine.execBar0BadAccess write s
  | .atomicopRequest => Sys2Proof.Machine.execAtomicopRequest s
  | .bar2Resize code => Sys2Proof.Machine.execBar2Resize code s
  | .msixUnmask v => Sys2Proof.Machine.execMsixUnmask v s
  | .d3hotEntry => Sys2Proof.Machine.execD3hotEntry s
  | .hostLinkChange speed width => Sys2Proof.Machine.execHostLinkChange speed width s
  | .ctlHostRaise value fromHost => Sys2Proof.Machine.execCtlHostRaise value fromHost s
  -- power
  | .vinSample vin iin pin => Sys2Proof.Machine.execVinSample vin iin pin s
  | .holdupExpired => Sys2Proof.Machine.execHoldupExpired s
  | .porAfterCrossing => Sys2Proof.Machine.execPorAfterCrossing s
  | .overpower pin => Sys2Proof.Machine.execOverpower pin s
  | .railFault r meas => Sys2Proof.Machine.execRailFault r meas s
  | .powerUp => Sys2Proof.Machine.execPowerUp s
  | .arithStepWrite value => Sys2Proof.Machine.execArithStepWrite value s
  | .arithPllLocked ch => Sys2Proof.Machine.execArithPllLocked ch s
  | .ctrlDroopStretch region => Sys2Proof.Machine.execCtrlDroopStretch region s
  | .netDroop monitor belowFloor => Sys2Proof.Machine.execNetDroop monitor belowFloor s
  | .refclkLoss which => Sys2Proof.Machine.execRefclkLoss which s
  | .thermalWarn g t => Sys2Proof.Machine.execThermalWarn g t s
  | .thermalCurtain g t => Sys2Proof.Machine.execThermalCurtain g t s
  | .thermalTrip g t => Sys2Proof.Machine.execThermalTrip g t s
  | .resurvey vfail => Sys2Proof.Machine.execResurvey vfail s
  | .railVoltageStep r up => Sys2Proof.Machine.execRailVoltageStep r up s
  | .ledgerWrite => Sys2Proof.Machine.execLedgerWrite s
  -- management interfaces
  | .i3cPrivateSelect bytes => Sys2Proof.Machine.execI3cPrivateSelect bytes s
  | .i3cPrivateWrite bytes => Sys2Proof.Machine.execI3cPrivateWrite bytes s
  | .i3cPrivateRead busBusy => Sys2Proof.Machine.execI3cPrivateRead busBusy s
  | .enec ev => Sys2Proof.Machine.execEnec ev s
  | .disec ev => Sys2Proof.Machine.execDisec ev s
  | .entdaa addr => Sys2Proof.Machine.execEntdaa addr s
  | .setdasa static dyn => Sys2Proof.Machine.execSetdasa static dyn s
  | .rstdaa => Sys2Proof.Machine.execRstdaa s
  | .getpid => Sys2Proof.Machine.execGetpid s
  | .getbcr => Sys2Proof.Machine.execGetbcr s
  | .getdcr => Sys2Proof.Machine.execGetdcr s
  | .getstatus => Sys2Proof.Machine.execGetstatus s
  | .getmwl => Sys2Proof.Machine.execGetmwl s
  | .getmrl => Sys2Proof.Machine.execGetmrl s
  | .ibiRetry acked => Sys2Proof.Machine.execIbiRetry acked s
  | .extest => Sys2Proof.Machine.execExtest s
  | .idcode => Sys2Proof.Machine.execIdcode s
  | .samplePreload => Sys2Proof.Machine.execSamplePreload s
  | .clamp => Sys2Proof.Machine.execClamp s
  | .highz => Sys2Proof.Machine.execHighz s
  | .dtmcs => Sys2Proof.Machine.execDtmcs s
  | .dmi addr data op => Sys2Proof.Machine.execDmi s addr data op
  | .bypass code => Sys2Proof.Machine.execBypass code s
  | .tapReset => Sys2Proof.Machine.execTapReset s
  -- the rest
  | .registerWrite off size4 value fromHost => Sys2Proof.Machine.execRegisterWrite off size4 value fromHost s
  | .nop ch bundle errs => Sys2Proof.Machine.execNop ch bundle s errs
  | .refclkReturn which => Sys2Proof.Machine.execRefclkReturn which s
  | .selfRefreshExit => Sys2Proof.Machine.execSelfRefreshExit s
  | .commandWaitTimeout m => Sys2Proof.Machine.execCommandWaitTimeout m s
  | .d0Return => Sys2Proof.Machine.execD0Return s
  | .aerErrorLogged e => Sys2Proof.Machine.execAerErrorLogged e s
  | .resetGlitch perst => Sys2Proof.Machine.execResetGlitch perst s

end Sys2Proof.Machine
end

