-- ==== Sys2Proof/Machine/Tick.lean ====
section
/-!
DEFINITION. The passing of one tick of TIME with no command waiting (log entry 1): time itself, and what firmware and the host bridge do on
their own as it passes.
-/

namespace Sys2Proof.Machine

/-- A command under way goes on (R464): it ends when what it waits for has come. -/
def State.goOn (s : State) (m : Fin 16) : State :=
  if s.mbState m ≠ 2 then s
  else
    match cmdOf (s.mbOp m) with
    | none => s
    | some c =>
      if (s.roleCore c.role).isNone then s
      else if c.op = 0x0011 then s.waitPorts m
      else if c.op = 0x0013 ∧ s.arg m 0 1 = 2 then s.waitAcquire m
      else if c.op = 0x0015 then s.waitSend m
      else if c.op = 0x0016 then s.waitRecv m
      else if c.op = 0x0021 then s.runStep m
      else if c.op = 0x0022 then s.waitInput m []
      else if c.op = 0x0023 then s.waitCurtain m
      else if c.op = 0x0026 then s.restoreStep m []
      else if c.op = 0x0031 then s.waitPower m
      else s

/-- What firmware does by itself in MODE 0: the circuit tables after a swap (R247), and the commands under way. -/
def State.fwTick (s : State) : State := if s.fwRuns then (fins 16).foldl State.goOn s.rearmSwap else s

/-- What the end of a tick decides: waits that were short when their cue fired are missed (R101, R102), and where a slot of the fabric ends with
it, the ports not yet counted in that slot are counted (R291). -/
def State.endTick (s : State) : State :=
  let s := (fins 8).foldl State.settleMiss s
  if 7 * (s.now + 1) / 8 = s.slotNow then s else s.telemRest s.slotNow

/-- Reads of channel SRAM that wait for their grant ask again: ring descriptors and payloads (R79, R117, R188). -/
def State.retryReads (s : State) (n : Fin 8) : State :=
  (fins 8).foldl (fun s q => s.fillTx n q 32) ((List.range 24).foldl (fun s q => s.readDesc n q) s)

/-- What time does by itself to the registers of a link: GRACE_LEFT falls, and FLOOR rises as copies pass EFF_TIMEOUT (R315, R339, R340). -/
def State.linkTick (s : State) (l : Fin 24) : State := (s.showGrace l).showSeq l

/-- What hardware does on its own as a tick begins. -/
def State.beginTick (s : State) : State :=
  let s := s.dueResets.refillBudget
  let s := (fins 8).foldl (fun s n => (s.syncChan n).retryReads n) s
  ((fins 24).foldl State.linkTick s).hostPump

/-- One tick of the 1,000 MHz TIME counter passes (R2, R375), but not in POR and MOD, where it stands at 0. A new cycle of every register begins
with it (R11; log entry 67). -/
def State.idleTick (s : State) : State :=
  if s.pwr.por then s
  else
    let s := { s with pwr := { s.pwr with onTicks := s.pwr.onTicks + 1 } }
    if s.pwr.mod then s
    else
      let s := s.endTick
      (s.wr timNow (s.rd timNow + 1)).nextCycle.beginTick.fwTick

end Sys2Proof.Machine
end

