-- ==== Sys2Proof/Safety.lean ====
section
/-!
DEFINITION. The terms claims about the machine are stated in: the invariant of its sparse maps, what a command leaves alone, results in
flight, and when a command of a channel has a bundle of its own.
-/

namespace Sys2Proof.Machine

/-- Device memory is in canonical form: addresses strictly rising, and no entry that equals what an unlisted address reads as. -/
def Memory.wf (m : List Host.Cell) : Bool := kwf memDefault m

/-- The register files, the SRAM, the weight buffers and the accumulators of a channel are in canonical form. -/
structure Chan.Wf (c : Chan) : Prop where
  sregs : kwf (fun _ => 0) c.sregs = true
  vregs : kwf (fun _ => zeroLanes) c.vregs = true
  sram : kwf (fun _ => 0) c.sram = true
  active : kwf (fun _ => tile0) c.active = true
  standby : kwf (fun _ => tile0) c.standby = true
  acc : kwf (fun _ => (⟨0, 0⟩ : AccEnt)) c.acc = true

/-- The invariant of every state: registers, device memory, mailbox memory and the memories of the channels are in canonical form, so that
reading after writing gives what was written. -/
structure State.Inv (s : State) : Prop where
  regs : kwf regReset s.regs = true
  mem : Memory.wf s.mem.bytes = true
  mbox : kwf (fun _ => 0) s.fw.mbmem = true
  chan : ∀ n : Fin 8, (s.chan n).Wf

/-- Only registers at offsets in `p` differ. -/
def OnlyRegs (p : Nat → Prop) (s t : State) : Prop :=
  (∀ off, ¬ p off → t.rd off = s.rd off) ∧ t = { s with regs := t.regs, before := t.before }

/-- Only registers at offsets in `p` differ, and, beside the registers, only channel `n`. -/
def OnlyChan (n : Fin 8) (p : Nat → Prop) (s t : State) : Prop :=
  (∀ off, ¬ p off → t.rd off = s.rd off) ∧ (∀ m, m ≠ n → t.chan m = s.chan m) ∧ t = { s with regs := t.regs, before := t.before, ch := t.ch, free := t.free }

/-- The place in the memory dies of the byte at a device address (R173, R174, R176). -/
def State.memPlace (s : State) (a : Nat) : Nat := memKey (s.memMap a).1 (s.memMap a).2 (a % 32)

/-- The byte of device memory at a device address. -/
def State.memByte (s : State) (a : Nat) : Byte := kget memDefault s.mem.bytes (s.memPlace a)

/-- An event is in flight in a channel, due in a cycle. -/
def Lands (t : State) (n : Fin 8) (due : Nat) (ev : Ev) : Prop := ∃ g ∈ (t.chan n).flight, g.due = due ∧ g.ev = ev

/-- A bundle of one operation, with FORMAT 1, read without errors (R85). -/
def oneSlot (o : Op) : Bundle := ⟨1, [o], false, []⟩

/-- A channel takes a bundle of one slot at once: it runs, holds and assembles nothing, nothing in flight is due, and the slot comes with
FORMAT 1, without read errors, and is the last of its bundle (R81, R85, R89). -/
def Alone (u : Issue) (s : State) : Prop :=
  s.running u.ch = true ∧ (s.chan u.ch).held = none ∧ (s.chan u.ch).asm = [] ∧ (s.chan u.ch).asmErrs = [] ∧ u.hdr = 1 ∧ u.more = false ∧
    u.errs = [] ∧
    ∀ g ∈ (s.chan u.ch).flight, (s.chan u.ch).cycle < g.due

/-- A vector operation put its lanes in flight, due `lat` cycles from its issue, for register `d`, and added their flags (R72, R144). -/
def VecOut (s t : State) (n : Fin 8) (lat d : Nat) (l : List Lane) : Prop :=
  Lands t n ((s.chan n).cycle + lat) (.vreg d (l.map (·.1))) ∧
    t.rd (chArithFlags n) = s.rd (chArithFlags n) ||| (laneFlags l).setWidth 64

/-- The lanes of the vector register that a field of a slot names. -/
def vOf (s : State) (u : Issue) (r : BitVec 5) : List (BitVec 32) := (s.chan u.ch).v r.toNat

/-- The value of the scalar register that a field of a slot names. -/
def sOf (s : State) (u : Issue) (r : BitVec 6) : Word64 := (s.chan u.ch).s r.toNat

/-- The random value of SR for element `i` of an operation whose stream number is `x` (R64). -/
def srOf (s : State) (u : Issue) (x i : Nat) : Nat :=
  srRandom (s.rd (chSrSeed u.ch)).toNat (s.fld (chSrRank u.ch) CH_SR_RANK_RANK) x i

/-- An operation has a bundle of its own (`Alone`) that raises none of the faults of its issue: its encoding, its queues and its addresses
are as R86, R115, R77, R117 and R118 ask. The units it takes are free and the tiles it uses complete (R104, R113). -/
def Issues (u : Issue) (o : Op) (s : State) : Prop :=
  Alone u s ∧ s.bundleFaults u.ch (oneSlot o) = [] ∧ (s.chan u.ch).opHazard o = none

/-- An access is granted at once: its requester exists and is not masked, nobody holds the arbiter or asks for it, and a memory channel takes
accesses (R192 to R194, R210). -/
def State.grants (s : State) (x : Fin 10 × ArbId) : Prop :=
  x.1.val < arbSize x.2 ∧ (s.arb x.2).holder = none ∧ (s.arb x.2).reqs[x.1].masked = false ∧ (∀ j : Fin 10, (s.arb x.2).reqs[j].asking = false) ∧
    ∀ c, x.2 = .mem c → s.memUsable = true

/-- Every access of a command is granted at once. -/
def Granted (s : State) (l : List (Fin 10 × ArbId)) : Prop := ∀ x ∈ l, s.grants x

/-- The registers in which arbiters count and show their grants (R224, R225). -/
def ArbRegs (off : Nat) : Prop := ∃ (a : ArbId) (k : Fin 10), off = arbStatOf a ∨ off = arbCntOf a k ∨ off = arbLongestOf a k

/-- The cycle `k` cycles after the one in which a channel issues. -/
def atCycle (s : State) (u : Issue) (k : Nat) : Nat := (s.chan u.ch).cycle + k

/-- The bundle address moves on by one, as after every bundle outside a branch's shadow (R84). -/
def NextPC (s t : State) (n : Fin 8) : Prop := t.fld (chStatus n) CH_STATUS_PC = (s.fld (chStatus n) CH_STATUS_PC + 1) % 32768

/-- The bundle address moves on: by one, or, after the second bundle of a taken branch's shadow, to its target (R84, R87). -/
def NextPC' (s t : State) (u : Issue) : Prop :=
  t.fld (chStatus u.ch) CH_STATUS_PC = match (s.chan u.ch).target with
    | some x => if (s.chan u.ch).shadowLeft = 1 then x % 32768 else (s.fld (chStatus u.ch) CH_STATUS_PC + 1) % 32768
    | none => (s.fld (chStatus u.ch) CH_STATUS_PC + 1) % 32768

/-- A command answers a next state of which `P` holds. -/
def Completes (i : Instr) (s : State) (P : State → Prop) : Prop := ∃ t, exec i s = .next t ∧ P t

/-- The command of a vector operation. -/
def VOp.instr (o : VOp) (u : Issue) (f : VecF) : Instr :=
  match o with
  | .vadd => .vadd u f
  | .vsub => .vsub u f
  | .vmul => .vmul u f
  | .vfma => .vfma u f
  | .vdiv => .vdiv u f
  | .vsqrt => .vsqrt u f
  | .vmax => .vmax u f
  | .vmin => .vmin u f
  | .vcmp => .vcmp u f
  | .vsel => .vsel u f
  | .viadd => .viadd u f
  | .visub => .visub u f
  | .viand => .viand u f
  | .vior => .vior u f
  | .vixor => .vixor u f
  | .vishl => .vishl u f
  | .vishr => .vishr u f
  | .vcvt => .vcvt u f
  | .vunpk => .vunpk u f
  | .vwadd => .vwadd u f
  | .vwrnd => .vwrnd u f
  | .vshuf => .vshuf u f
  | .vrsum => .vrsum u f
  | .vbcast => .vbcast u f
  | .vmovs => .vmovs u f
  | .xfill => .xfill u f
  | .xreset => .xreset u f
  | .xread => .xread u f

/-- The command of a control operation. -/
def COp.instr (o : COp) (u : Issue) (f : CtlF) : Instr :=
  match o with
  | .cue => .cue u f
  | .cueset => .cueset u f
  | .sadd => .sadd u f
  | .saddi => .saddi u f
  | .ssub => .ssub u f
  | .smul => .smul u f
  | .sand => .sand u f
  | .sor => .sor u f
  | .sxor => .sxor u f
  | .sshl => .sshl u f
  | .sshr => .sshr u f
  | .ssra => .ssra u f
  | .slui => .slui u f
  | .scmplt => .scmplt u f
  | .br => .br u f
  | .beqz => .beqz u f
  | .bnez => .bnez u f
  | .intermit => .intermit u f
  | .halt => .halt u f
  | .signal => .signal u f

/-- The scalar operations of the control slot (R99). -/
def scalarOps : List COp := [.sadd, .saddi, .ssub, .smul, .sand, .sor, .sxor, .sshl, .sshr, .ssra, .slui, .scmplt]

/-- The memories, registers and queues of a channel that programs see. -/
def SameMemories (c d : Chan) : Prop :=
  d.sregs = c.sregs ∧ d.vregs = c.vregs ∧ d.sram = c.sram ∧ d.isram = c.isram ∧ d.acc = c.acc ∧ d.kind = c.kind ∧ d.active = c.active ∧
    d.standby = c.standby ∧ d.txq = c.txq ∧ d.rxq = c.rxq ∧ d.rxd = c.rxd ∧ d.streams = c.streams

/-- The packet tests of R269, R271, R272, R273, R286, R289 on a packet at its input: its header is sound; a management packet that an endpoint
injects names a management link; a bulk packet finds the tables closed, no fence, a route that ends here exactly when it is for this device,
and a permitted turn. -/
def Admits (s : State) (p : Pkt) : Prop :=
  p.badHeader = false ∧
    if p.cls = 3 then p.inp < 24 ∨ (p.dest < 24 ∧ s.fld (netPortMap p.dest) NET_PORT_MAP_ROLE = 2)
    else s.flag netUnsCtl NET_UNS_CTL_TABLE_OPEN = false ∧ s.flag (netRoute p.dest) NET_ROUTE_FENCE = false ∧
      s.flag (netRoute p.src) NET_ROUTE_FENCE = false ∧ s.fld (netRoute p.dest) NET_ROUTE_DIR ≠ 7 ∧
      (s.fld (netRoute p.dest) NET_ROUTE_DIR = 6 ↔ p.dest = s.fld netPlace NET_PLACE_DEVICE_ID) ∧
      (s.fld (netRoute p.dest) NET_ROUTE_DIR < 6 → s.turnOk p.inp (s.fld (netRoute p.dest) NET_ROUTE_DIR) = true)

/-- Firmware has no message under way and port 32 nothing to inject on its own, so that a command of the unscheduled network acts alone. -/
def QuietPort32 (s : State) : Prop :=
  s.saf.notices = [] ∧ s.fw.out = [] ∧ s.fld ctlTxring CTL_TXRING_TAIL = s.fld ctlTxring CTL_TXRING_HEAD

/-- The count of a saturating field one higher (R12). -/
def bumped (s : State) (off : Nat) (f : Fld) : Nat := min (2 ^ f.w - 1) (s.fld off f + 1)

/-- A flit reaches a receiver that is not off, at the width in use, with lane parity and both codewords clean (R303, R305, R308); `f` is the flit. -/
def FlitDecodes (s : State) (l : Fin 24) (bytes f : List Byte) : Prop :=
  s.lstate l ≠ lsOff ∧ (s.link l).goRx = none ∧ bytes.length = 256 ∧
    (bytes.headD 0).toNat = lanePar (lanesOfCode (s.fld (lnkStatus l) LNK_STATUS_WIDTH)) bytes ∧
    rsDecode (codeword 0 bytes) = some (codeword 0 bytes, false) ∧ rsDecode (codeword 1 bytes) = some (codeword 1 bytes, false) ∧
    f = mergeWords (bytes.headD 0) (codeword 0 bytes) (codeword 1 bytes)

/-- A flit that also passes the CRC and the checks of its fields (R304, R308). -/
def FlitGood (s : State) (l : Fin 24) (bytes f : List Byte) : Prop :=
  FlitDecodes s l bytes f ∧ crcGood f = true ∧ s.wellFormedFlit l f = true

/-- A link retrains after going down with an event (R327, R328, R355): its state is held for the grace, RETRAIN goes out with the cause, and it is
at DETECT. -/
def Retrains (s t : State) (l : Fin 24) (ev : Fld) : Prop :=
  t.lstate l = lsTraining ∧ t.fld (lnkPhyStatus l) LNK_PHY_STATUS_STEP = 1 ∧ t.flag (lnkEvent l) ev = true ∧
    (t.link l).ring = (s.link l).ring ∧ (t.link l).cmds = [⟨10, leBytes 1 ev.lo⟩] ∧ ((t.link l).held = true ↔ (s.link l).held = true ∨ s.lstate l = lsUp) ∧
    (t.link l).grace = some (((s.link l).grace).getD (s.now + 1000 * s.graceUs l)) ∧
    t.fld (netPortHop l) NET_PORT_HOP_DELAY = 0x3FF

/-- The state with the oldest link-control flit of its kind taken from a link. -/
def without (s : State) (l : Fin 24) (c : LctlIn) : State := s.modLink l fun x => { x with lctlIn := x.lctlIn.erase c }

/-- A receive lane, and a transmit lane, fit to carry a logical lane (R350, R356, R368). -/
def rxFit (s : State) (l : Fin 24) (k : Nat) : Bool :=
  bit (s.fld (lnkPhyStatus l) LNK_PHY_STATUS_RX_GOOD) k && !bit (s.fld (lnkPhyStatus l) LNK_PHY_STATUS_CROSSED) k &&
    !bit (s.fld (lnkLaneCtl l) LNK_LANE_CTL_RX_FAILED) k
def txFit (s : State) (l : Fin 24) (peerGood : BitVec 10) (k : Nat) : Bool :=
  bit peerGood.toNat k && !bit (s.fld (lnkLaneCtl l) LNK_LANE_CTL_TX_FAILED) k

/-- The lanes on which a receiver asks to listen after a change to a width (R333): the lowest that are fit. -/
def widthMask (s : State) (l : Fin 24) (code : Nat) : Nat :=
  sumNat ((((List.range 10).filter (rxFit s l)).take (lanesOfCode code)).map (2 ^ ·))

/-- A safety cause stands in SAF_FAULT, and the host has its alert (R413). -/
def Raised (t : State) (code unit : Nat) : Prop := t.flag safFault (bitF (causeBit code unit)) = true ∧ t.flag ctlHostAlert (bitF 0) = true

/-- The oldest firmware message is of a kind and is not discarded (R467, R468). -/
def Waits (s : State) (msg : Nat) (m : Msg) : Prop := s.fwRuns = true ∧ s.rxHead = some m ∧ s.rxDiscard m = false ∧ m.msg = msg

/-- A firmware message has been taken from the ring and marked as taken (R455, R468). -/
def Took (s t : State) (m : Msg) : Prop :=
  t.fld ctlRxring CTL_RXRING_TAIL = (s.fld ctlRxring CTL_RXRING_TAIL + 1) % 64 ∧ kget (fun _ => 0) t.fw.seenSeq m.src = m.seq + 1

/-- A mailbox's accepted command may start: its opcode, its role, the power state, its arguments, ARMED, the channels and the device lock
are as its row of the command table asks (R459, R462 to R464, R509, R525). -/
def Ready (s : State) (m : Fin 16) (c : Cmd) : Prop :=
  s.heldReset = false ∧ s.fld ctlBoot CTL_BOOT_MODE = 0 ∧ s.mbOp m = c.op ∧ (s.roleCore c.role).isSome = true ∧ s.mbState m = 1 ∧
    (c.standby = false → s.fld pwrState PWR_STATE_STATE ≠ 1 ∧ s.pwr.change = none ∧ s.pwr.gated = false) ∧ s.waitsMem c = false ∧
    (c.op = 0x0020 → s.flag mcStatus MC_STATUS_INIT_DONE = true) ∧ s.argsOk m c = true ∧
    (c.armed = 1 → s.flag safCtl SAF_CTL_ARMED = false) ∧ (c.armed = 2 → s.flag safCtl SAF_CTL_ARMED = true) ∧
    (c.noRun = true → s.anyRunning = false) ∧ (c.lock = true → s.lockFree m = true)

/-- A mailbox's command runs, and may end (R459). -/
def Runs (s : State) (m : Fin 16) (c : Cmd) : Prop :=
  s.heldReset = false ∧ s.fld ctlBoot CTL_BOOT_MODE = 0 ∧ s.mbOp m = c.op ∧ (s.roleCore c.role).isSome = true ∧ s.mbState m = 2

/-- The state in which a command has started (R459, R462). -/
def started (s : State) (m : Fin 16) (c : Cmd) : State :=
  let s := if c.lock then { s with fw := { s.fw with lock := some m.val, took := some s.fw.mb[m].since } } else s
  (s.setFld (mbStatus m) MB_STATUS_STATE 2).modMb m fun x => { x with since := s.now }

/-- A command has ended: STATE 3 with code 0, else 4, ERROR its code, and the lock is not its own (R459, R462, R465). -/
def Ended (t : State) (m : Fin 16) (code : Nat) : Prop :=
  t.mbState m = (if code = 0 then 3 else 4) ∧ t.fld (mbStatus m) MB_STATUS_ERROR = code ∧ t.fw.lock ≠ some m.val

/-- The result window of a mailbox holds these bytes (R456). -/
def Window (t : State) (m : Fin 16) (b : List Byte) : Prop :=
  ∀ i < b.length, kget (fun _ => 0) t.fw.mbmem (0x4000 * m.val + 0x2000 + i) = nth 0 b i

/-- What no command may change: the fuses of R483. -/
def Fuses (s t : State) : Prop := (s.fw.slot1 ≠ none → t.fw.slot1 = s.fw.slot1) ∧ s.fw.svnMin ≤ t.fw.svnMin

/-- An accepted command meets nothing that makes it wait (R459, R464, R509, R525). -/
def Accepted (s : State) (m : Fin 16) (c : Cmd) : Prop :=
  s.heldReset = false ∧ s.fld ctlBoot CTL_BOOT_MODE = 0 ∧ s.mbOp m = c.op ∧ (s.roleCore c.role).isSome = true ∧ s.mbState m = 1 ∧
    (c.standby = false → s.fld pwrState PWR_STATE_STATE ≠ 1 ∧ s.pwr.change = none) ∧ s.waitsMem c = false

/-- The code of R465 with which an accepted command is refused, 0 if it may start; of several conditions that fail, the first in the order of
log entry 26. -/
def refusal (s : State) (m : Fin 16) (c : Cmd) : Nat :=
  if c.standby = false ∧ s.pwr.gated = true then 4
  else if c.op = 0x0020 ∧ s.flag mcStatus MC_STATUS_INIT_DONE = false then 2
  else if s.argsOk m c = false then 3
  else if c.armed = 1 ∧ s.flag safCtl SAF_CTL_ARMED = true then 8
  else if c.armed = 2 ∧ s.flag safCtl SAF_CTL_ARMED = false then 9
  else if c.noRun = true ∧ s.anyRunning = true then 8
  else if c.lock = true ∧ s.lockFree m = false then 2
  else 0

/-- The commands that carry out the rows of the command table, as the arguments of a mailbox select them (R464). -/
def mailboxRows (s : State) (m : Fin 16) : List (Instr × Cmd) :=
  let op := s.arg m 0 1
  [(.identify m, cIdentify), (.setPlace m, cSetPlace), (.setPorts m, cSetPorts), (.getSurvey m, cGetSurvey),
    (nth (.timeSetBenchmark m) [.timeSetBenchmark m, .timeClearBenchmark m, .timeAcquire m, .timeRelease m, .timeClearRefused m] op, cTime),
    (nth (.routesStop m) [.routesStop m, .routesWrite m [], .routesStart m] op, cRoutes), (.msgSend m, cMsgSend), (.msgRecv m, cMsgRecv),
    (.load m [], cLoad), (.start m, cStart), (.inputDone m [], cInputDone), (.curtain m, cCurtain), (.holdAtInt m, cHoldAtInt),
    (.release m, cRelease), (.restore m [], cRestore), (nth (.resetSoft m) [.resetSoft m, .resetChn m, .resetLnk m] op, cReset),
    (.setPower m, cSetPower), (.getLedger m, cGetLedger), (.getRetired m, cGetRetired), (.update m false [], cUpdate), (.update m true [], cUpdate),
    (.attest m, cAttest), (.getCert m, cGetCert), (.ownerKey m, cOwnerKey)]

/-- A register whose block gives writes no behaviour of its own: its fields' access types alone say what a write does (R8). -/
def plainKind (k : RegKind) : Bool :=
  decide (k ∉ [.netPlace, .chCtl, .chFault, .chTeMap, .chShadow, .mcHostwin, .mcRemapSel, .mcRemapData, .arbCtlM, .arbCtlB, .netFabCtl,
    .netCircuit, .netRoute, .netUnsCtl, .netFlowClear, .netPortMap, .netPortHop, .lnkCtl, .lnkLaneMap, .lnkLaneCtl, .lnkLaser, .timCtl,
    .timRefused, .safCtl, .safRaise, .safKick, .safRegion, .mbAbort, .ctlPostAddr, .ctlPostData, .ctlTxring, .ctlHostAlert, .ctlHostRaise, .pwrState,
    .pwrSupplyEvt, .pwrThermStat, .pwrArith, .pwrCap, .pwrRail, .brdI3c, .msixTable])

/-- A command changes only a mailbox's status, apart from the device lock, which the mailbox may give back. -/
def OnlyStatus (s t : State) (m : Fin 16) : Prop :=
  (∀ off, off ≠ mbStatus m → t.rd off = s.rd off) ∧ t = { s with regs := t.regs, fw := { s.fw with lock := t.fw.lock } } ∧
    (s.fw.lock ≠ some m.val → t.fw.lock = s.fw.lock)

end Sys2Proof.Machine
end

