-- ==== Sys2Proof/Certificates/Slice0/Obligations.lean ====
section
/-!
DEFINITION. The statements for the provers. Each docstring names the rules of spec/ that its clauses formalise; a clause that rests on a
choice of the model says so and names the log entry.
-/

open Sys2Proof Sys2Proof.Machine

/-! ### Operations of a channel (chapter 3) -/

/-- The FP32 operations of the FMA and divide units and the special functions (R66, R67, R91, R95, R144): alone in its bundle, each puts the correctly
rounded lanes in flight for VD at its latency and adds the lanes' flags. Where a NaN is added to 0 × ∞, whether VFMA sets INVALID is open, one free
choice for the device. Inside the issue interval of a divide unit the lanes are open, and only their landing is stated. How exp, log and tanh are rounded is the model's
reading (log entry 7). -/
def Obligations.VectorFloatResults : Prop :=
  ∀ (u : Issue) (f : VecF) (s : State), Alone u s →
    (vecLegal .vadd f = true → Completes (.vadd u f) s fun t =>
      VecOut s t u.ch 4 f.vd.toNat (List.zipWith (laneAdd (rmodeOf f.mode)) (vOf s u f.va) (vOf s u f.vb))) ∧
    (vecLegal .vsub f = true → Completes (.vsub u f) s fun t =>
      VecOut s t u.ch 4 f.vd.toNat (List.zipWith (laneSub (rmodeOf f.mode)) (vOf s u f.va) (vOf s u f.vb))) ∧
    (vecLegal .vmul f = true → Completes (.vmul u f) s fun t =>
      VecOut s t u.ch 4 f.vd.toNat (List.zipWith (laneMul (rmodeOf f.mode)) (vOf s u f.va) (vOf s u f.vb))) ∧
    (vecLegal .vfma f = true → Completes (.vfma u f) s fun t =>
      VecOut s t u.ch 6 f.vd.toNat (lanes2i (fun i x y => laneFma (rmodeOf f.mode) Config.fmaNanInvalid x y (nth 0 (vOf s u f.vc) i))
        (vOf s u f.va) (vOf s u f.vb))) ∧
    (vecLegal .vdiv f = true → (s.chan u.ch).unitBusy (divUnit f.slot) = false →
      Completes (.vdiv u f) s fun t => VecOut s t u.ch (if s.latA1 u.ch then 24 else 18) f.vd.toNat
        (List.zipWith (laneDiv (rmodeOf f.mode)) (vOf s u f.va) (vOf s u f.vb))) ∧
    (vecLegal .vsqrt f = true → (s.chan u.ch).unitBusy (divUnit f.slot) = false →
      Completes (.vsqrt u f) s fun t => VecOut s t u.ch (if s.latA1 u.ch then 24 else 18) f.vd.toNat
        ((vOf s u f.va).map (laneSqrt (rmodeOf f.mode)))) ∧
    (vecLegal .vdiv f = true → (s.chan u.ch).unitBusy (divUnit f.slot) = true → s.rehearsing u.ch = false →
      Completes (.vdiv u f) s fun t => ∃ l, l.length = 1024 ∧
        Lands t u.ch ((s.chan u.ch).cycle + if s.latA1 u.ch then 24 else 18) (.vreg f.vd.toNat l)) ∧
    (∀ g : SfF, g.rsv = 0 →
      (Completes (.recip u g) s fun t =>
        VecOut s t u.ch (if s.latA1 u.ch then 10 else 8) g.vd.toNat ((vOf s u g.va).map fun x => lane (recipNum (num32 x)))) ∧
      (Completes (.rsqrt u g) s fun t =>
        VecOut s t u.ch (if s.latA1 u.ch then 12 else 10) g.vd.toNat ((vOf s u g.va).map fun x => lane (rsqrtNum (num32 x)))) ∧
      (Completes (.exp u g) s fun t =>
        VecOut s t u.ch (if s.latA1 u.ch then 14 else 11) g.vd.toNat ((vOf s u g.va).map fun x => lane (expNum (num32 x)))) ∧
      (Completes (.log u g) s fun t =>
        VecOut s t u.ch (if s.latA1 u.ch then 14 else 11) g.vd.toNat ((vOf s u g.va).map fun x => lane (logNum (num32 x)))) ∧
      (Completes (.tanh u g) s fun t =>
        VecOut s t u.ch (if s.latA1 u.ch then 16 else 13) g.vd.toNat ((vOf s u g.va).map fun x => lane (tanhNum (num32 x)))))

/-- The integer, selecting and comparing vector operations (R66, R91): what each lane in flight is. The result of VMAX and VMIN for a NaN operand is
open, a function of the operands whose NaN is the canonical one; for zeros of opposite signs the sign alone is open. -/
def Obligations.VectorIntegerResults : Prop :=
  ∀ (u : Issue) (f : VecF) (s : State), Alone u s → (s.chan u.ch).unitBusy (slotUnit f.slot) = false →
    (vecLegal .vmax f = true → Completes (.vmax u f) s fun t =>
      VecOut s t u.ch 2 f.vd.toNat (List.zipWith (fun x y =>
        (if isNan (num32 x) || isNan (num32 y) then canon32 (Config.vmaxOpen x y)
         else if eqNum (num32 x) (num32 y) && decide (x ≠ y) then Config.vmaxOpen x y &&& 0x80000000#32
         else if ltNum (num32 x) (num32 y) then y else x, 0)) (vOf s u f.va) (vOf s u f.vb))) ∧
    (vecLegal .vmin f = true → Completes (.vmin u f) s fun t =>
      VecOut s t u.ch 2 f.vd.toNat (List.zipWith (fun x y =>
        (if isNan (num32 x) || isNan (num32 y) then canon32 (Config.vminOpen x y)
         else if eqNum (num32 x) (num32 y) && decide (x ≠ y) then Config.vminOpen x y &&& 0x80000000#32
         else if ltNum (num32 y) (num32 x) then y else x, 0)) (vOf s u f.va) (vOf s u f.vb))) ∧
    (vecLegal .vcmp f = true → Completes (.vcmp u f) s fun t =>
      VecOut s t u.ch 2 f.vd.toNat (List.zipWith (laneCmp f.fmt.toNat) (vOf s u f.va) (vOf s u f.vb))) ∧
    (vecLegal .vsel f = true → Completes (.vsel u f) s fun t =>
      VecOut s t u.ch 2 f.vd.toNat (lanes2i (fun i x y => (if nth 0 (vOf s u f.vc) i ≠ 0 then x else y, 0)) (vOf s u f.va) (vOf s u f.vb))) ∧
    (vecLegal .viadd f = true → Completes (.viadd u f) s fun t =>
      VecOut s t u.ch 2 f.vd.toNat (List.zipWith (fun (x y : BitVec 32) => (x + y, 0)) (vOf s u f.va) (vOf s u f.vb))) ∧
    (vecLegal .visub f = true → Completes (.visub u f) s fun t =>
      VecOut s t u.ch 2 f.vd.toNat (List.zipWith (fun (x y : BitVec 32) => (x - y, 0)) (vOf s u f.va) (vOf s u f.vb))) ∧
    (vecLegal .viand f = true → Completes (.viand u f) s fun t =>
      VecOut s t u.ch 2 f.vd.toNat (List.zipWith (fun (x y : BitVec 32) => (x &&& y, 0)) (vOf s u f.va) (vOf s u f.vb))) ∧
    (vecLegal .vior f = true → Completes (.vior u f) s fun t =>
      VecOut s t u.ch 2 f.vd.toNat (List.zipWith (fun (x y : BitVec 32) => (x ||| y, 0)) (vOf s u f.va) (vOf s u f.vb))) ∧
    (vecLegal .vixor f = true → Completes (.vixor u f) s fun t =>
      VecOut s t u.ch 2 f.vd.toNat (List.zipWith (fun (x y : BitVec 32) => (x ^^^ y, 0)) (vOf s u f.va) (vOf s u f.vb))) ∧
    (vecLegal .vishl f = true → Completes (.vishl u f) s fun t =>
      VecOut s t u.ch 2 f.vd.toNat (List.zipWith (fun (x y : BitVec 32) => (x <<< (y.toNat % 32), 0)) (vOf s u f.va) (vOf s u f.vb))) ∧
    (vecLegal .vishr f = true → Completes (.vishr u f) s fun t =>
      VecOut s t u.ch 2 f.vd.toNat (List.zipWith (fun (x y : BitVec 32) => (x >>> (y.toNat % 32), 0)) (vOf s u f.va) (vOf s u f.vb)))


/-- Conversions, wide partials and lane movement (R91 to R94, R144): what each puts in flight, for which register, due when, and its flags. -/
def Obligations.VectorConversionResults : Prop :=
  ∀ (u : Issue) (f : VecF) (s : State), Alone u s → (s.chan u.ch).unitBusy (slotUnit f.slot) = false →
    (vecLegal .vcvt f = true → Completes (.vcvt u f) s fun t =>
      let r := vcvtReg f.fmt.toNat f.mx f.sat (rmodeOf f.mode) (srOf s u ((sOf s u f.sx).toNat % 2 ^ 24)) (vOf s u f.va)
      Lands t u.ch (atCycle s u (if f.mx then 8 else 6)) (.vreg f.vd.toNat r.1) ∧
        t.rd (chArithFlags u.ch) = s.rd (chArithFlags u.ch) ||| r.2.setWidth 64) ∧
    (vecLegal .vunpk f = true → Completes (.vunpk u f) s fun t =>
      VecOut s t u.ch 4 f.vd.toNat (vunpkLanes f.fmt.toNat f.mx (vOf s u f.va))) ∧
    (vecLegal .vwadd f = true → Completes (.vwadd u f) s fun t =>
      let x := wideLane (vOf s u f.va) ((s.chan u.ch).v (f.va.toNat + 1)) ((s.chan u.ch).v (f.va.toNat + 2))
      let y := wideLane (vOf s u f.vb) ((s.chan u.ch).v (f.vb.toNat + 1)) ((s.chan u.ch).v (f.vb.toNat + 2))
      (∀ k < 3, Lands t u.ch (atCycle s u 3)
        (.vreg (f.vd.toNat + k) ((List.range 1024).map fun i => (x i + y i).extractLsb' (32 * k) 32))) ∧
        t.rd (chArithFlags u.ch) = s.rd (chArithFlags u.ch) |||
          (afIf ((List.range 1024).any fun i => wraps96 ((x i).toInt + (y i).toInt)) afWideWrap).setWidth 64) ∧
    (vecLegal .vwrnd f = true → Completes (.vwrnd u f) s fun t =>
      let x := wideLane (vOf s u f.va) ((s.chan u.ch).v (f.va.toNat + 1)) ((s.chan u.ch).v (f.va.toNat + 2))
      let r := vwrndReg f.fmt.toNat f.mx f.sat (rmodeOf f.mode) (srOf s u ((sOf s u f.sx).toNat % 2 ^ 24))
        (toSigned 10 (bitsOf (sOf s u f.sx).toNat 32 10)) x
      Lands t u.ch (atCycle s u (if f.mx then 10 else 8)) (.vreg f.vd.toNat r.1) ∧
        t.rd (chArithFlags u.ch) = s.rd (chArithFlags u.ch) ||| r.2.setWidth 64) ∧
    (vecLegal .vshuf f = true → Completes (.vshuf u f) s fun t =>
      Lands t u.ch (atCycle s u 5) (.vreg f.vd.toNat ((vOf s u f.vb).map fun i => nth 0 (vOf s u f.va) (i.toNat % 1024))) ∧
        t.rd (chArithFlags u.ch) = s.rd (chArithFlags u.ch)) ∧
    (vecLegal .vrsum f = true → Completes (.vrsum u f) s fun t =>
      Lands t u.ch (atCycle s u 40) (.vreg f.vd.toNat ((vrsum (vOf s u f.va)).1 :: List.replicate 1023 0)) ∧
        t.rd (chArithFlags u.ch) = s.rd (chArithFlags u.ch) ||| (vrsum (vOf s u f.va)).2.setWidth 64) ∧
    (vecLegal .vbcast f = true → Completes (.vbcast u f) s fun t =>
      Lands t u.ch (atCycle s u 2) (.vreg f.vd.toNat (List.replicate 1024 ((sOf s u f.sx).setWidth 32))) ∧
        t.rd (chArithFlags u.ch) = s.rd (chArithFlags u.ch)) ∧
    (vecLegal .vmovs f = true → Completes (.vmovs u f) s fun t =>
      Lands t u.ch (atCycle s u 3) (.sreg f.sx.toNat ((nth 0 (vOf s u f.va) ((sOf s u f.sx).toNat % 1024)).setWidth 64)) ∧
        t.rd (chArithFlags u.ch) = s.rd (chArithFlags u.ch))

/-- The expert slot table (R119, R144). With the unit of the slot free, XFILL gives the lanes, taken in ascending order, their rows, and leaves the table
as the last lane does; the reserved value passes; an index at or beyond EXPERTS counts in BAD_INDEX; below CAP a lane gets the present FILL, which rises
by one; at CAP, POLICY 1 with room in the deferral budget defers the lane, else it is dropped, each counted for its expert; counters saturate. XRESET
clears every FILL and DEFER_USED; XREAD reads the counts that have landed. -/
def Obligations.ExpertSlots : Prop :=
  (∀ (u : Issue) (s : State) (f : VecF), Alone u s → (s.chan u.ch).unitBusy (slotUnit f.slot) = false →
    (vecLegal .xfill f = true → Completes (.xfill u f) s fun t =>
      let r := s.xfill u.ch (vOf s u f.va)
      Lands t u.ch (atCycle s u 12) (.vreg f.vd.toNat r.1) ∧ t.rd (chXslotStat u.ch) = r.2.rd (chXslotStat u.ch) ∧
        ∀ e < 256, t.rd (chXcap u.ch e) = r.2.rd (chXcap u.ch e) ∧ t.rd (chXdrop u.ch e) = r.2.rd (chXdrop u.ch e)) ∧
    (vecLegal .xreset f = true → Completes (.xreset u f) s fun t =>
      (∀ e < 256, t.fld (chXcap u.ch e) CH_XCAP_FILL = 0) ∧ t.fld (chXslotStat u.ch) CH_XSLOT_STAT_DEFER_USED = 0) ∧
    (vecLegal .xread f = true → Completes (.xread u f) s fun t =>
      Lands t u.ch (atCycle s u 3) (.vreg f.vd.toNat ((List.range 1024).map fun e =>
        if e < 256 then BitVec.ofNat 32 (kget (fun _ => 0) (s.chan u.ch).xLanded e) else 0)))) ∧
  (∀ (s : State) (n : Fin 8) (x : BitVec 32) (xs : List (BitVec 32)),
    let y := s.xfillLane n x
    let fill := s.fld (chXcap n x.toNat) CH_XCAP_FILL
    let cap := s.fld (chXcap n x.toNat) CH_XCAP_CAP
    let used := s.fld (chXslotStat n) CH_XSLOT_STAT_DEFER_USED
    let defers := s.fld (chXslotCtl n) CH_XSLOT_CTL_POLICY = 1 ∧ used < s.fld (chXslotCtl n) CH_XSLOT_CTL_DEFER_CAP
    let known := x.toNat < s.fld (chXslotCtl n) CH_XSLOT_CTL_EXPERTS ∧ s.fld (chXslotCtl n) CH_XSLOT_CTL_EXPERTS ≤ 256
    s.xfill n (x :: xs) = (y.1 :: (y.2.xfill n xs).1, (y.2.xfill n xs).2) ∧ s.xfill n [] = ([], s) ∧
      (x = 0xFFFFFFFF → y = (0xFFFFFFFF, s)) ∧
      (x ≠ 0xFFFFFFFF → s.fld (chXslotCtl n) CH_XSLOT_CTL_EXPERTS ≤ x.toNat → y.1 = 0xFFFFFFFF ∧
        y.2.fld (chXslotStat n) CH_XSLOT_STAT_BAD_INDEX = bumped s (chXslotStat n) CH_XSLOT_STAT_BAD_INDEX ∧
        OnlyRegs (fun off => off = chXslotStat n) s y.2) ∧
      (known → fill < cap → y.1 = BitVec.ofNat 32 fill ∧ y.2.fld (chXcap n x.toNat) CH_XCAP_FILL = fill + 1 ∧
        OnlyRegs (fun off => off = chXcap n x.toNat) s y.2) ∧
      (known → cap ≤ fill → defers → y.1 = 0xFFFFFFFE ∧ y.2.fld (chXslotStat n) CH_XSLOT_STAT_DEFER_USED = used + 1 ∧
        y.2.fld (chXdrop n x.toNat) CH_XDROP_DEFERRED = bumped s (chXdrop n x.toNat) CH_XDROP_DEFERRED ∧
        OnlyRegs (fun off => off = chXslotStat n ∨ off = chXdrop n x.toNat) s y.2) ∧
      (known → cap ≤ fill → ¬ defers → y.1 = 0xFFFFFFFD ∧
        y.2.fld (chXdrop n x.toNat) CH_XDROP_DROPPED = bumped s (chXdrop n x.toNat) CH_XDROP_DROPPED ∧
        OnlyRegs (fun off => off = chXdrop n x.toNat) s y.2))

/-- The memory and queue slots (R96, R97, R144, R147, R188): each memory operation puts its SRAM access in flight, at its address, one cycle later
in rehearsal mode, and the errors given with LDV or LDS join its bundle's; QREL and QCOMMIT advance their counts, and the change sets out for the
stream engine; QSTART starts the engine, which takes a well-formed descriptor and refuses another once the banks grant its reading; where another
holds one of those banks the descriptor waits. -/
def Obligations.MemoryAndQueueSlots : Prop :=
  ∀ (u : Issue) (s : State),
    (∀ f : MemF, Issues u (.ldv f) s → Completes (.ldv u f) s fun t =>
      Lands t u.ch (atCycle s u (1 + (s.chan u.ch).extra))
        (.ldv f.v.toNat (memAddr (s.chan u.ch) f 64 64) [] (atCycle s u (9 + (s.chan u.ch).extra)))) ∧
    (∀ (f : MemF) (ecc : EccObs), exec (.ldv u f ecc) s = exec (.ldv (u.withSram ecc) f) s ∧
      exec (.lds u f ecc) s = exec (.lds (u.withSram ecc) f) s) ∧
    (∀ f : MemF, Issues u (.stv f) s → Completes (.stv u f) s fun t =>
      Lands t u.ch (atCycle s u (2 + (s.chan u.ch).extra)) (.stv (memAddr (s.chan u.ch) f 64 64) (vOf s u f.v))) ∧
    (∀ f : MemF, Issues u (.lds f) s → Completes (.lds u f) s fun t =>
      Lands t u.ch (atCycle s u (1 + (s.chan u.ch).extra))
        (.lds f.sd.toNat (memAddr (s.chan u.ch) f 8 8) [] (atCycle s u (9 + (s.chan u.ch).extra)))) ∧
    (∀ f : MemF, Issues u (.sts f) s → Completes (.sts u f) s fun t =>
      Lands t u.ch (atCycle s u (2 + (s.chan u.ch).extra)) (.sts (memAddr (s.chan u.ch) f 8 8) (sOf s u f.sd))) ∧
    (∀ f : QueF, Issues u (.qrel f) s → Completes (.qrel u f) s fun t =>
      let r := ((s.chan u.ch).stream f.q.toNat).r + f.count.toNat
      ((t.chan u.ch).stream f.q.toNat).r = r ∧ (r, s.now) ∈ ((t.chan u.ch).stream f.q.toNat).down) ∧
    (∀ f : QueF, Issues u (.qcommit f) s → Completes (.qcommit u f) s fun t =>
      let c := ((s.chan u.ch).stream f.q.toNat).c + f.count.toNat
      ((t.chan u.ch).stream f.q.toNat).c = c ∧ (c, s.now) ∈ ((t.chan u.ch).stream f.q.toNat).down) ∧
    (∀ f : QueF, Issues u (.qstart f) s →
      let a := ((s.chan u.ch).s f.count.toNat).toNat
      (Granted s (bankArbs 1 u.ch a 32) → Completes (.qstart u f) s fun t =>
        let d := (s.chan u.ch).sramRead (s.bankMap u.ch) a 32
        let x := (t.chan u.ch).stream f.q.toNat
        if leAt d 8 4 = 0 ∨ leAt d 12 2 = 0 ∨ leAt d 14 2 ≠ 0 ∨ leAt d 24 8 ≠ 0 ∨ leAt d 0 8 % 64 ≠ 0 ∨ toSigned 64 (leAt d 16 8) % 64 ≠ 0 then
          x.busy = false ∧ t.flag (mcSeErr u.ch) MC_SE_ERR_VALID = true
        else x.busy = true ∧ x.desc = none ∧ x.addr = leAt d 0 8 ∧ x.entries = leAt d 8 4 ∧ x.rowEntries = leAt d 12 2 ∧
          x.stride = toSigned 64 (leAt d 16 8) ∧ x.issued = 0 ∧ x.counted = 0) ∧
      ((∃ g ∈ granules a 32, ∀ b : Fin 64, b.val = g % 64 → ∃ k, (s.arb (.bank u.ch b)).holder = some k ∧ k ≠ 1) →
        Completes (.qstart u f) s fun t =>
          ((t.chan u.ch).stream f.q.toNat).busy = true ∧ ((t.chan u.ch).stream f.q.toNat).desc = some (a, [])))

/-- The tensor-engine operations (R104 to R109, R113, R143 to R145, R147), alone in their bundle, their units free and their tiles complete,
rehearsed or not: a LOADW sets out 64 reads for each engine and has its tile in the standby buffer 64 cycles later; a PASS swaps the two buffers of
its engines at once, takes the tiles that stood by and completes its row r a fixed time after it; a DRAIN reads accumulator row i and writes output row i at
their cycles, a wide one in three parts; a LOADACC completes its row i at its cycle. None of these results is undefined. -/
def Obligations.TensorEngineSchedule : Prop :=
  ∀ (u : Issue) (s : State),
    let x := (s.chan u.ch).extra
    let inFlight := fun (t : State) (id : Nat) (j : Job) => (id, j) ∈ (t.chan u.ch).jobs ∧ j.undef = [] ∧ j.errs = []
    (∀ f : LoadwF, Issues u (.loadw f) s → Completes (.loadw u f) s fun t =>
      ∀ e ∈ engines f.grp f.eng, ∃ id j, inFlight t id j ∧ j.op = .loadw e (tileBytes f.fmtW.toNat) (decide (f.ss ≠ 0)) ∧
        Lands t u.ch (atCycle s u (64 + x)) (.tileDone id) ∧
        (∀ m < 64, Lands t u.ch (atCycle s u (1 + x + m)) (.read id false m
          (((s.chan u.ch).s f.sa.toNat).toNat + e % 8 * tileBytes f.fmtW.toNat + tileBytes f.fmtW.toNat / 64 * m) (tileBytes f.fmtW.toNat / 64))) ∧
        (f.ss ≠ 0 → ∀ m < 16, Lands t u.ch (atCycle s u (1 + x + m)) (.read id true m
          (((s.chan u.ch).s f.ss.toNat).toNat + e % 8 * 1024 + 64 * m) 64))) ∧
    (∀ f : PassF, Issues u (.pass f) s → s.shadowing u.ch = none ∨ getF (s.chan u.ch).applied.teMap CH_TE_MAP_REPLACE_EN = 0 →
      Completes (.pass u f) s fun t =>
        (∀ e ∈ engines f.grp f.eng, let p := (s.chan u.ch).phys e
          kget (fun _ => tile0) (t.chan u.ch).active p = kget (fun _ => tile0) (s.chan u.ch).standby p ∧
          kget (fun _ => tile0) (t.chan u.ch).standby p = kget (fun _ => tile0) (s.chan u.ch).active p) ∧
        ∃ id j shadow, inFlight t id j ∧
          j.op = .pass ((engines f.grp f.eng).map fun e => (e, kget (fun _ => tile0) (s.chan u.ch).standby ((s.chan u.ch).phys e)))
            f.fmtA.toNat f.fmtW.toNat (f.rowsM1.toNat + 1) f.accRow.toNat f.cont f.anchor.toInt (decide (f.ss ≠ 0)) shadow ∧
          ∀ e ∈ engines f.grp f.eng, ∀ r ≤ f.rowsM1.toNat,
            Lands t u.ch (atCycle s u ((if is16 f.fmtA.toNat then (if s.latA1 u.ch then 276 else 270) else (if s.latA1 u.ch then 268 else 262)) + x +
              pieceOf f.fmtA.toNat f.fmtW.toNat r)) (.rowDone id e r)) ∧
    (∀ f : DrainF, Issues u (.drain f) s → f.fmtO ≠ 11 → Completes (.drain u f) s fun t =>
      ∀ e ∈ engines f.grp f.eng, ∃ id j, inFlight t id j ∧ (∃ fmt mx mode sat st rows a ad sd sh, j.op = .drain e fmt mx mode sat st rows a ad sd sh ∧
          fmt = f.fmtO.toNat ∧ mx = f.mx ∧ mode = f.mode ∧ sat = f.sat ∧ rows = f.rowsM1.toNat + 1 ∧ a = f.accRow.toNat) ∧
        ∀ i ≤ f.rowsM1.toNat, Lands t u.ch (atCycle s u (1 + i)) (.drainRead id i) ∧ Lands t u.ch (atCycle s u (10 + x + i)) (.drainWrite id i 0) ∧
          (f.mx = true → Lands t u.ch (atCycle s u (10 + x + i)) (.drainWrite id i 9))) ∧
    (∀ f : DrainF, Issues u (.drain f) s → f.fmtO = 11 → Completes (.drain u f) s fun t =>
      ∀ e ∈ engines f.grp f.eng, ∃ id j, inFlight t id j ∧ ∀ i ≤ f.rowsM1.toNat, Lands t u.ch (atCycle s u (1 + i)) (.drainRead id i) ∧
        ∀ k < 3, Lands t u.ch (atCycle s u (8 + x + 3 * i + k)) (.drainWrite id i k)) ∧
    (∀ f : LoadaccF, Issues u (.loadacc f) s → Completes (.loadacc u f) s fun t =>
      ∀ e ∈ engines f.grp f.eng, ∃ id j, inFlight t id j ∧ j.op = .loadacc e (f.rowsM1.toNat + 1) f.accRow.toNat f.anchor.toInt ∧
        ∀ i ≤ f.rowsM1.toNat, Lands t u.ch (atCycle s u (12 + x + 3 * i)) (.rowDone id e i))


/-- The scalar operations (R99): alone in its bundle, each has its 64-bit result in flight for SD, readable by the next bundle. -/
def Obligations.ScalarResults : Prop :=
  ∀ (u : Issue) (f : CtlF) (s : State), Alone u s →
    (ctlLegal .sadd f = true → Completes (.sadd u f) s fun t =>
      Lands t u.ch (atCycle s u 1) (.sreg f.sd.toNat (sOf s u f.sa + sOf s u f.sb)) ∧ NextPC' s t u) ∧
    (ctlLegal .saddi f = true → Completes (.saddi u f) s fun t =>
      Lands t u.ch (atCycle s u 1) (.sreg f.sd.toNat (sOf s u f.sa + f.imm.signExtend 64)) ∧ NextPC' s t u) ∧
    (ctlLegal .ssub f = true → Completes (.ssub u f) s fun t =>
      Lands t u.ch (atCycle s u 1) (.sreg f.sd.toNat (sOf s u f.sa - sOf s u f.sb)) ∧ NextPC' s t u) ∧
    (ctlLegal .smul f = true → Completes (.smul u f) s fun t =>
      Lands t u.ch (atCycle s u 1) (.sreg f.sd.toNat (BitVec.ofNat 64 ((sOf s u f.sa).toNat * (sOf s u f.sb).toNat))) ∧ NextPC' s t u) ∧
    (ctlLegal .sand f = true → Completes (.sand u f) s fun t =>
      Lands t u.ch (atCycle s u 1) (.sreg f.sd.toNat (sOf s u f.sa &&& sOf s u f.sb)) ∧ NextPC' s t u) ∧
    (ctlLegal .sor f = true → Completes (.sor u f) s fun t =>
      Lands t u.ch (atCycle s u 1) (.sreg f.sd.toNat (sOf s u f.sa ||| sOf s u f.sb)) ∧ NextPC' s t u) ∧
    (ctlLegal .sxor f = true → Completes (.sxor u f) s fun t =>
      Lands t u.ch (atCycle s u 1) (.sreg f.sd.toNat (sOf s u f.sa ^^^ sOf s u f.sb)) ∧ NextPC' s t u) ∧
    (ctlLegal .sshl f = true → Completes (.sshl u f) s fun t =>
      Lands t u.ch (atCycle s u 1) (.sreg f.sd.toNat (sOf s u f.sa <<< ((sOf s u f.sb).toNat % 64))) ∧ NextPC' s t u) ∧
    (ctlLegal .sshr f = true → Completes (.sshr u f) s fun t =>
      Lands t u.ch (atCycle s u 1) (.sreg f.sd.toNat (sOf s u f.sa >>> ((sOf s u f.sb).toNat % 64))) ∧ NextPC' s t u) ∧
    (ctlLegal .ssra f = true → Completes (.ssra u f) s fun t =>
      Lands t u.ch (atCycle s u 1) (.sreg f.sd.toNat ((sOf s u f.sa).sshiftRight ((sOf s u f.sb).toNat % 64))) ∧ NextPC' s t u) ∧
    (ctlLegal .slui f = true → Completes (.slui u f) s fun t =>
      Lands t u.ch (atCycle s u 1) (.sreg f.sd.toNat ((sOf s u f.sd <<< 16) ||| f.imm.setWidth 64)) ∧ NextPC' s t u) ∧
    (ctlLegal .scmplt f = true → Completes (.scmplt u f) s fun t =>
      Lands t u.ch (atCycle s u 1) (.sreg f.sd.toNat (if (sOf s u f.sa).toInt < (sOf s u f.sb).toInt then 1 else 0)) ∧ NextPC' s t u)

/-- Branches, HALT, INTERMIT, SIGNAL and NOP (R84, R86, R87, R99, R121, R124): a branch lets two more bundles issue and then goes to its
target when it is taken; HALT and INTERMIT stop the channel with RUN 0 and leave its queues; SIGNAL posts its code; the empty bundle passes. A
bundle that comes as the 512 bits of instruction SRAM (R85) runs as its slots do; one that breaks an encoding rule is a channel fault, ILLEGAL. -/
def Obligations.ControlFlow : Prop :=
  ∀ (u : Issue) (s : State),
    (∀ f : CtlF, Issues u (.ctl .br f) s → Completes (.br u f) s fun t =>
      (t.chan u.ch).shadowLeft = 2 ∧ (t.chan u.ch).target = some (f.imm.toNat % 32768) ∧ NextPC s t u.ch) ∧
    (∀ f : CtlF, Issues u (.ctl .beqz f) s → Completes (.beqz u f) s fun t =>
      (t.chan u.ch).shadowLeft = 2 ∧
        (t.chan u.ch).target = (if sOf s u f.sa = 0 then some (f.imm.toNat % 32768) else none) ∧ NextPC s t u.ch) ∧
    (∀ f : CtlF, Issues u (.ctl .bnez f) s → Completes (.bnez u f) s fun t =>
      (t.chan u.ch).shadowLeft = 2 ∧
        (t.chan u.ch).target = (if sOf s u f.sa = 0 then none else some (f.imm.toNat % 32768)) ∧ NextPC s t u.ch) ∧
    (∀ f : CtlF, Issues u (.ctl .halt f) s → Completes (.halt u f) s fun t =>
      t.fld (chStatus u.ch) CH_STATUS_STATE = stHalted ∧ t.fld (chCtl u.ch) CH_CTL_RUN = 0 ∧
        (t.chan u.ch).txq = (s.chan u.ch).txq ∧ (t.chan u.ch).rxq = (s.chan u.ch).rxq ∧ (t.chan u.ch).rxd = (s.chan u.ch).rxd) ∧
    (∀ f : CtlF, Issues u (.ctl .intermit f) s → Completes (.intermit u f) s fun t =>
      t.fld (chStatus u.ch) CH_STATUS_STATE = stIntermission ∧ t.fld (chCtl u.ch) CH_CTL_RUN = 0 ∧
        (t.chan u.ch).txq = (s.chan u.ch).txq ∧ (t.chan u.ch).rxq = (s.chan u.ch).rxq ∧ (t.chan u.ch).rxd = (s.chan u.ch).rxd) ∧
    (∀ f : CtlF, Issues u (.ctl .signal f) s → Completes (.signal u f) s fun t =>
      t.signals = s.signals ++ [(u.ch.val, f.imm.toNat)] ∧ NextPC' s t u) ∧
    (Alone u s → Completes (.nop u.ch 1 []) s fun t =>
      (t.chan u.ch).flight = (s.chan u.ch).flight ∧ (t.chan u.ch).cycle = (s.chan u.ch).cycle + 1 ∧ NextPC' s t u) ∧
    (∀ (w : BitVec 512) (o : Op), Alone u s → decodeBundle w [] = oneSlot o → Completes (.nop u.ch w []) s fun t => t = s.slotIssue u o) ∧
    (∀ w : BitVec 512, Alone u s → (decodeBundle w []).cue? = none → (decodeBundle w []).waits = [] →
      (decodeBundle w []).legal (s.chan u.ch) = false → Completes (.nop u.ch w []) s fun t =>
        t.flag (chFault u.ch) (bitF 0) = true ∧ t.fld (chStatus u.ch) CH_STATUS_STATE = stFault ∧ t.fld (chCtl u.ch) CH_CTL_RUN = 0 ∧
          t.flag safFault (bitF u.ch) = true)

/-- Cues, waits and network operations (R89, R99 to R101, R117, R118, R151): CUE on a cue that has not fired holds the bundle with HOLD_CUE,
and passes in the cycle in which it fires; CUESET has its cue written in the next cycle; QWAIT passes when AVAIL suffices and is held with HOLD_Q
otherwise, unless it could never be met or its cue has fired; NSEND and NRECV queue their descriptors, and an idle TXQ reads the payloads once the
banks grant it. -/
def Obligations.CueWaitAndNetworkSlots : Prop :=
  ∀ (u : Issue) (s : State), Alone u s →
    (∀ f : CtlF, f.imm.toNat < 16 → s.fired u.ch f.imm.toNat = false → s.flag (chCtl u.ch) CH_CTL_STOP_AT_CUE = false →
      Completes (.cue u f) s fun t =>
        (t.chan u.ch).held = some ⟨oneSlot (.ctl .cue f), s.now, false, [], false⟩ ∧ t.fld (chStatus u.ch) CH_STATUS_HOLD_CUE = 1 ∧
          t.fld (chStatus u.ch) CH_STATUS_PC = s.fld (chStatus u.ch) CH_STATUS_PC) ∧
    (∀ f : CtlF, ctlLegal .cue f = true → s.fired u.ch f.imm.toNat = true →
      (s.chan u.ch).cycle ≤ kget (fun _ => 0) (s.chan u.ch).firedAt f.imm.toNat → s.flag (chCtl u.ch) CH_CTL_STOP_AT_CUE = false →
      Completes (.cue u f) s fun t =>
        (t.chan u.ch).held = none ∧ t.fld (chStatus u.ch) CH_STATUS_HOLD_CUE = 0 ∧ NextPC' s t u) ∧
    (∀ f : CtlF, ctlLegal .cueset f = true → Completes (.cueset u f) s fun t =>
      Lands t u.ch (atCycle s u 1) (.cueWrite f.sd.toNat (sOf s u f.sa + f.imm.setWidth 64)) ∧
        (∀ c < 16, t.rd (chCue u.ch c) = s.rd (chCue u.ch c)) ∧ NextPC' s t u) ∧
    (∀ f : QueF, Op.legal (s.chan u.ch) (.qwait f) = true → f.count.toNat ≤ s.fld (chQCount u.ch f.q.toNat) CH_Q_COUNT_AVAIL →
      Completes (.qwait u f) s fun t => (t.chan u.ch).held = none ∧ NextPC' s t u) ∧
    (∀ f : QueF, Op.legal (s.chan u.ch) (.qwait f) = true → s.fld (chQCount u.ch f.q.toNat) CH_Q_COUNT_AVAIL < f.count.toNat →
      f.count.toNat ≤ s.ringEntries u.ch f.q.toNat → s.fired u.ch f.cue.toNat = false →
      Completes (.qwait u f) s fun t =>
        (t.chan u.ch).held = some ⟨oneSlot (.qwait f), s.now, true, [f], false⟩ ∧ t.fld (chStatus u.ch) CH_STATUS_HOLD_Q = 1 ∧
          t.fld (chStatus u.ch) CH_STATUS_PC = s.fld (chStatus u.ch) CH_STATUS_PC) ∧
    (∀ f : NetF, Issues u (.nsend f) s →
      let q := f.qn.toNat
      let a := ((s.chan u.ch).s f.sa.toNat).toNat
      let seen := fun d : TxDesc => (d.circuit, d.addr, d.n, d.slot0, d.issued, d.cue, d.sent)
      (Completes (.nsend u f) s fun t => (t.chan u.ch).txq[q].map seen = (s.chan u.ch).txq[q].map seen ++
        [(f.circuit.toNat, a, f.nflM1.toNat + 1, (7 * (s.rd (chCue u.ch f.cue.toNat)).toNat + 7) / 8 + f.slot.toNat, s.now, f.cue.toNat, 0)]) ∧
      ((s.chan u.ch).txq[q] = [] →
        Granted s ((List.range (f.nflM1.toNat + 1)).flatMap fun j => bankArbs 0 u.ch (a + 256 * j) 232) →
        Completes (.nsend u f) s fun t => ∃ d, (t.chan u.ch).txq[q] = [d] ∧ (∀ e ∈ d.data, e.1 ≤ s.now + s.payloadBound u.ch) ∧
          d.data.map (·.2) = (List.range (f.nflM1.toNat + 1)).map (fun j => (s.chan u.ch).sramRead (s.bankMap u.ch) (a + 256 * j) 232))) ∧
    (∀ f : NetF, Issues u (.nrecv f) s → Completes (.nrecv u f) s fun t =>
      (t.chan u.ch).rxd[f.qn.toNat] = (s.chan u.ch).rxd[f.qn.toNat] ++
        [⟨((s.chan u.ch).s f.sa.toNat).toNat, f.nflM1.toNat + 1, 0, s.now, false⟩])


/-- The frame of the vector, special-function and scalar operations: issued alone on a channel that does not rehearse, such an operation
changes no register but CH_STATUS and CH_ARITH_FLAGS of its channel, no other channel, nothing outside the channels, and none of its own
channel's memories, registers or queues (its result lands later). XFILL and XRESET also write the expert table and are not named here. -/
def Obligations.ChannelOperationFrame : Prop :=
  ∀ (u : Issue) (s : State), Alone u s → (s.chan u.ch).applied.rehearsal = false →
    let framed := fun t => OnlyChan u.ch (fun off => off = chStatus u.ch ∨ off = chArithFlags u.ch) s t ∧
      SameMemories (s.chan u.ch) (t.chan u.ch)
    (∀ (o : VOp) (f : VecF), o ≠ .xfill → o ≠ .xreset → vecLegal o f = true → (s.chan u.ch).opHazard (.vec o f) = none → Completes (o.instr u f) s framed) ∧
    (∀ g : SfF, g.rsv = 0 → ∀ i ∈ [Instr.recip u g, .rsqrt u g, .exp u g, .log u g, .tanh u g], Completes i s framed) ∧
    (∀ o ∈ scalarOps, ∀ f : CtlF, ctlLegal o f = true → Completes (o.instr u f) s framed)

/-- Results landing (R76, R84, R99, R100, R104, R107 to R109, R144), each the event in flight that is due, on a channel that does not rehearse: a
register result in its register, S0 apart, which reads 0, changing nothing else but the channel's own record of what is in flight; a cue register,
whose flag is then clear unless its tick is reached; in the tensor engines, a tile read in time is in the standby buffer of the engine, and of TE16 while
it shadows that engine; a row of a LOADACC is in the accumulator file with the weight tag of its anchor; a row of a PASS holds the sums of its tile and
row, and a non-finite operand is a fault where CH_ARITH_CTL asks for it; a drained row, its scales or a third of a wide one is in channel SRAM where no
access of the cycle holds its banks. The seed and rank are those at the write of the row, the model's choice (log entry 63). -/
def Obligations.ResultsLand : Prop :=
  ∀ (n : Fin 8) (s : State) (g : Flight) (rest : List Flight), (s.chan n).applied.rehearsal = false → (s.chan n).flight = g :: rest →
    (s.running n = false ∨ ((s.chan n).held = none ∧ g.due ≤ (s.chan n).cycle)) →
    (∀ r v, g.ev = .sreg r v → Completes (.resultWriteback n) s fun t =>
      (t.chan n).s r = (if r = 0 then 0 else v) ∧ (∀ k, k ≠ r → (t.chan n).s k = (s.chan n).s k) ∧ (t.chan n).flight = rest ∧
        (t.chan n).vregs = (s.chan n).vregs ∧ (t.chan n).sram = (s.chan n).sram ∧ OnlyChan n (fun _ => False) s t) ∧
    (∀ r l, g.ev = .vreg r l → Completes (.resultWriteback n) s fun t =>
      (t.chan n).v r = l ∧ (∀ k, k ≠ r → (t.chan n).v k = (s.chan n).v k) ∧ (t.chan n).flight = rest ∧
        (t.chan n).sregs = (s.chan n).sregs ∧ (t.chan n).sram = (s.chan n).sram ∧ OnlyChan n (fun _ => False) s t) ∧
    (∀ c tick, c < 16 → g.ev = .cueWrite c tick → Completes (.resultWriteback n) s fun t =>
      t.rd (chCue n c) = tick ∧ t.fired n c = s.cueReached n tick.toNat g.due ∧ (t.chan n).flight = rest) ∧
    ∀ (e : Fin 16) (id : Nat) (j : Job), (s.chan n).job? id = some j → j.undef.contains e.val = false → j.errs = [] →
    let p := (s.chan n).phys e
    (∀ len mx, j.op = .loadw e len mx → g.ev = .tileDone id → p = e.val ∨ s.shadowing n = none → Completes (.weightTileLoaded n e) s fun t =>
      let old := fun q => kget (fun _ => tile0) (s.chan n).standby q
      let new := fun q => (⟨bufBytes j.buf 64 ++ (old q).elems.drop len, if mx then bufBytes j.sbuf 16 else (old q).scales, mx⟩ : Tile)
      kget (fun _ => tile0) (t.chan n).standby p = new p ∧
        (s.shadowing n = some e.val → kget (fun _ => tile0) (t.chan n).standby 16 = new 16)) ∧
    (∀ rows accRow anchor r, j.op = .loadacc e rows accRow anchor → g.ev = .rowDone id e r → Completes (.accRowComplete n e noObs) s fun t =>
      let b := (List.range 3).flatMap fun m => kget (fun _ => []) j.buf (3 * r + m)
      (t.chan n).accRow p (accRow + r) = (List.range 128).map fun col => ⟨BitVec.ofNat 96 (leAt b (12 * col) 12), anchor - 32⟩) ∧
    (∀ tiles fa fw rows accRow cont anchor mxA shadow tile r, j.op = .pass tiles fa fw rows accRow cont anchor mxA shadow →
      g.ev = .rowDone id e r → tiles.find? (fun x => decide (x.1 = e.val)) = some (e.val, tile) →
      let res := passRow j tile fa fw anchor mxA cont r ((s.chan n).accRow p (accRow + r)) s.free noObs.te
      Completes (.accRowComplete n e noObs) s fun t =>
        (t.chan n).accRow p (accRow + r) = res.entries ∧ t.rd (chArithFlags n) = s.rd (chArithFlags n) ||| res.flags.setWidth 64 ∧
          (res.nonfin = true → s.flag (chArithCtl n) CH_ARITH_CTL_NONFIN_FAULT = true → t.flag (chFault n) (bitF 9) = true)) ∧
    (∀ fmt mx mode sat stream rows accRow addr saddr shadow i, j.op = .drain e fmt mx mode sat stream rows accRow addr saddr shadow →
      let rnd := fun col => srRandom (s.rd (chSrSeed n)).toNat (s.fld (chSrRank n) CH_SR_RANK_RANK) stream ((256 * e + accRow + i) * 128 + col)
      let r := drainRow (kget (fun _ => []) j.rows i) fmt mx sat (rmodeOf mode) rnd
      let out := packBits (fmtBits fmt) (r.1.map fun w => w % 2 ^ fmtBits fmt)
      let writes := fun (k a : Nat) (b : List Byte) => g.ev = .drainWrite id i k →
        (s.chan n).claimCycle ≠ g.due ∨ (∀ h ∈ (s.chan n).claims, ∀ x ∈ granules a b.length, x % 64 ≠ h.1) →
        Completes (.drainRowWrite n e noObs) s fun t => (t.chan n).sram = ((s.chan n).sramWrite (s.chan n).applied.bankMap a b).sram ∧
          t.rd (chArithFlags n) = s.rd (chArithFlags n) ||| (if k = 9 then 0 else r.2.2.setWidth 64)
      (fmt ≠ 11 → writes 0 (addr + outRowBytes fmt * i) out) ∧ writes 9 (saddr + 4 * i) (r.2.1.map (BitVec.ofNat 8)) ∧
        (fmt = 11 → ∀ m < 3, writes m (addr + 1536 * i + 512 * m) (slice out (512 * m) 512)))


/-- Starting, stopping and holding a channel (R100, R102, R121, R123, R124, R127, R154), where its registers take writes: an accepted start runs the
bundle at START with its queues of received flits empty; a refused one sets START_ERR; RUN 0 discards every queue; STOP_AT_CUE waits for a cue, stops
a channel already held on one, and has no effect on a channel that did not run, one that the same write starts included; a cue reached fires, and a
bundle held on it alone issues; a hold on a cue that never fires ends in IDLE with UNARMED. -/
def Obligations.ChannelStartStop : Prop :=
  ∀ (n : Fin 8) (s : State) (v : Word64), s.takesWrites (chCtl n) = true →
    (s.running n = false → s.startOk n = true → (s.chan n).flight = [] → Completes (.runStart n v) s fun t =>
        t.running n = true ∧ t.fld (chCtl n) CH_CTL_RUN = 1 ∧ t.fld (chStatus n) CH_STATUS_START_ERR = 0 ∧
        t.fld (chStatus n) CH_STATUS_PC = getF v CH_CTL_START ∧ (t.chan n).cycle = 0 ∧ (t.chan n).held = none ∧
        (t.chan n).rxq = Vector.replicate 8 [] ∧ (t.chan n).rxd = Vector.replicate 8 [] ∧ (t.chan n).portClosed = false ∧
        (getF v CH_CTL_STOP_AT_CUE = 1 → t.flag (chCtl n) CH_CTL_STOP_AT_CUE = false) ∧
        (t.chan n).applied = ⟨s.rd (chBankMap n), s.rd (chTeMap n), decide (getF v CH_CTL_REHEARSAL ≠ 0), decide (getF v CH_CTL_PAD_A1 ≠ 0),
          decide (getF v CH_CTL_COUNTED ≠ 0)⟩) ∧
    (s.running n = false → s.startOk n = false → (s.chan n).flight = [] → Completes (.runStart n v) s fun t =>
      t.fld (chStatus n) CH_STATUS_START_ERR = 1 ∧ t.fld (chStatus n) CH_STATUS_STATE = s.fld (chStatus n) CH_STATUS_STATE ∧
        t.chan n = s.chan n) ∧
    (s.running n = true → Completes (.runStop n v) s fun t =>
      t.fld (chStatus n) CH_STATUS_STATE = stIdle ∧ t.fld (chCtl n) CH_CTL_RUN = 0 ∧ (t.chan n).txq = Vector.replicate 8 [] ∧
        (t.chan n).rxq = Vector.replicate 8 [] ∧ (t.chan n).rxd = Vector.replicate 8 [] ∧ (t.chan n).portClosed = true) ∧
    (s.running n = true → s.fld (chCtl n) CH_CTL_RUN = 1 → (s.chan n).held = none → Completes (.stopAtCueWrite n v) s fun t =>
      t.flag (chCtl n) CH_CTL_STOP_AT_CUE = true ∧ t.running n = true ∧ t.chan n = s.chan n) ∧
    (∀ h q, s.running n = true → s.fld (chCtl n) CH_CTL_RUN = 1 → (s.chan n).held = some h → h.bundle.cue? = some q →
      Completes (.stopAtCueWrite n v) s fun t =>
        t.fld (chStatus n) CH_STATUS_STATE = stHalted ∧ t.flag (chCtl n) CH_CTL_STOP_AT_CUE = false ∧ (t.chan n).held = none) ∧
    (s.running n = false → s.fld (chCtl n) CH_CTL_RUN = 0 → Completes (.stopAtCueWrite n v) s fun t =>
      t.flag (chCtl n) CH_CTL_STOP_AT_CUE = false ∧ t.chan n = s.chan n) ∧
    (∀ c : Fin 16, s.fired n c = false → (s.chan n).held = none → s.cueReached n (s.rd (chCue n c)).toNat (s.chan n).cycle = true →
      Completes (.cueFire n c) s fun t =>
        t.fired n c = true ∧ kget (fun _ => 0) (t.chan n).firedAt c = (s.chan n).cycle ∧
          OnlyChan n (fun off => off = chStatus n) s t) ∧
    (∀ (c : Fin 16) (f : CtlF) (since : Nat), s.fired n c = false → (s.chan n).held = some ⟨oneSlot (.ctl .cue f), since, false, [], false⟩ →
      f.imm.toNat = c.val → ctlLegal .cue f = true → s.running n = true → (s.chan n).flight = [] →
      s.cueReached n (s.rd (chCue n c)).toNat (s.cycleNow n) = true → Completes (.cueFire n c) s fun t =>
        (t.chan n).held = none ∧ t.fld (chStatus n) CH_STATUS_HOLD_CUE = 0 ∧ (t.chan n).cycle = s.cycleNow n + 1) ∧
    (∀ h, s.running n = true → (s.chan n).held = some h → (s.chan n).lastPoll = some (s.fld (chStatus n) CH_STATUS_PC) →
      (∃ q ∈ h.bundle.cuesNamed, (s.rd (chCue n q)).toNat = 2 ^ 64 - 1) → Completes (.unarmedWaitPoll n) s fun t =>
        t.fld (chStatus n) CH_STATUS_STATE = stIdle ∧ t.flag safFault (bitF 13) = true ∧ t.flag ctlHostAlert (bitF 0) = true)

/-- The understudy engine and the channel memories' upkeep (R79, R81, R110, R122): TARGET follows time and comparing pauses while its weights are
copied; 64 cycles later comparing resumes, with the tiles of the target in TE16; of a word that the scrubber reads once its bank grants it, a corrected
error is counted for the bank and an uncorrectable one is a channel fault; with its memories zeroed a channel leaves INIT for IDLE. -/
def Obligations.ChannelUpkeep : Prop :=
  ∀ (n : Fin 8) (s : State),
    (s.now / s.shadowPeriod n % 16 ≠ s.fld (chShadow n) CH_SHADOW_TARGET → Completes (.shadowTargetChange n) s fun t =>
      t.fld (chShadow n) CH_SHADOW_TARGET = s.now / s.shadowPeriod n % 16 ∧ t.fld (chShadow n) CH_SHADOW_COMPARING = 0 ∧
        (t.chan n).shCopying = (if s.mayShadow n then some s.now else none) ∧ OnlyChan n (fun off => off = chShadow n) s t) ∧
    (∀ x, (s.chan n).shCopying = some x → s.mayShadow n = true → 64 * 1000 ≤ (s.now - x) * s.arithMHz n →
      Completes (.shadowCopyDone n) s fun t =>
        t.flag (chShadow n) CH_SHADOW_COMPARING = true ∧ (t.chan n).shCopying = none ∧
        kget (fun _ => tile0) (t.chan n).active 16 = kget (fun _ => tile0) (s.chan n).active ((s.chan n).phys (s.chan n).shTarget) ∧
        OnlyChan n (fun off => off = chShadow n) s t) ∧
    (∀ (b : Fin 66) (row : Fin 12288) (w : Nat) (e : SymErr), s.fld (chStatus n) CH_STATUS_STATE ≠ stInit → w < 8 →
      Granted s (((fins 64).filter fun l : Fin 64 => decide (physBank (s.bankMap n) l.val = b.val)).map fun l : Fin 64 => (3, .bank n l)) →
      ((readWord 0 e).2 = .corrected → Completes (.sramScrubRead n b row [(w, e)]) s fun t =>
        t.fld (safSramEcc n b) SAF_SRAM_ECC_CORRECTED = bumped s (safSramEcc n b) SAF_SRAM_ECC_CORRECTED ∧
          (∀ off, off ≠ safSramEcc n b → ¬ ArbRegs off → t.rd off = s.rd off) ∧ (t.chan n).sram = (s.chan n).sram) ∧
      ((readWord 0 e).2 = .bad → Completes (.sramScrubRead n b row [(w, e)]) s fun t =>
        t.fld (safSramEcc n b) SAF_SRAM_ECC_UNCORRECTABLE = bumped s (safSramEcc n b) SAF_SRAM_ECC_UNCORRECTABLE ∧
          t.flag (chFault n) (bitF 6) = true ∧ t.fld (chStatus n) CH_STATUS_STATE = stFault)) ∧
    (s.fld (chStatus n) CH_STATUS_STATE = stInit → Completes (.sramInitDone n) s fun t =>
      t.fld (chStatus n) CH_STATUS_STATE = stIdle ∧ (t.chan n).sregs = [] ∧ (t.chan n).vregs = [] ∧ (t.chan n).sram = [] ∧
        (t.chan n).isram = [] ∧ (t.chan n).acc = [] ∧ (t.chan n).active = [] ∧ (t.chan n).standby = [] ∧
        OnlyChan n (fun off => off = chStatus n) s t)

/-- The network port of a channel (R79, R101, R116 to R118, R124, R130, R232, R250): the next flit of a TXQ leaves in its slot, or is late when
its payload is not there, and CH_OVERRUN then names the cue of its NSEND; a flit of an RXQ arrives 40 ns after the crossbar; the oldest flit is deposited in the
next slot of the oldest posted descriptor once the banks grant it; a descriptor still incomplete at the limit of the watch is one missing flit. -/
def Obligations.ChannelNetworkPort : Prop :=
  ∀ (n q : Fin 8) (s : State),
    let seen := fun d : TxDesc => (d.circuit, d.addr, d.n, d.slot0, d.issued, d.cue, d.sent)
    (∀ d rest, (s.chan n).txq[q.val] = d :: rest →
      rest.find? (fun e => decide (e.slot0 ≤ s.slotNow ∧ e.slot0 < d.slot0 + d.sent)) = none → d.slot0 + d.sent ≤ s.slotNow →
      (∀ x, d.data[d.sent]? = some x → x.1 ≤ slotTick (d.slot0 + d.sent) → Completes (.flitDeparture n q) s fun t =>
        t.net.enter = klAdd s.net.enter (24 + n) ⟨d.circuit, d.slot0 + d.sent, 0, x.2⟩ ∧
          (t.chan n).txq[q.val].map seen = (if d.sent + 1 = d.n then rest else { d with sent := d.sent + 1 } :: rest).map seen) ∧
      ((∀ x, d.data[d.sent]? = some x → slotTick (d.slot0 + d.sent) < x.1) → Completes (.flitDeparture n q) s fun t =>
        t.flag (chFault n) (bitF 4) = true ∧ t.fld (chStatus n) CH_STATUS_STATE = stFault ∧
          (s.fld (chFault n) CH_FAULT_CUE_OVERRUN = 0 → s.fld (chFault n) CH_FAULT_SEND_LATE = 0 → d.cue < 16 →
            t.fld (chOverrun n) CH_OVERRUN_CUE = d.cue ∧ t.fld (chOverrun n) CH_OVERRUN_QUEUE = q ∧ t.fld (chOverrun n) CH_OVERRUN_KIND = 2))) ∧
    (∀ x, (kl s.net.toChan n).find? (fun y => y.2.1 = q.val) = some x → 8 * x.1 + 280 ≤ 7 * s.now → (s.chan n).portClosed = false →
      (s.chan n).rxq[q.val].length < 64 → Completes (.rxqFlitArrive n q) s fun t =>
        (t.chan n).rxq[q.val] = (s.chan n).rxq[q.val] ++ [x.2.2.data] ∧ t.net.toChan = klSet s.net.toChan n ((kl s.net.toChan n).erase x)) ∧
    (∀ x xs d ds, (s.chan n).rxq[q.val] = x :: xs → (s.chan n).rxd[q.val] = d :: ds → Granted s (bankArbs 0 n (d.addr + 256 * d.done) 232) →
      Completes (.depositComplete n q) s fun t =>
        (t.chan n).sram = ((s.chan n).sramWrite (s.bankMap n) (d.addr + 256 * d.done) (x.take 232)).sram ∧
        (t.chan n).rxq[q.val] = xs ∧ (t.chan n).rxd[q.val] = (if d.done + 1 = d.n then ds else { d with done := d.done + 1 } :: ds) ∧
        (t.chan n).sregs = (s.chan n).sregs ∧ (t.chan n).vregs = (s.chan n).vregs ∧ t.mem = s.mem) ∧
    (∀ lim d, s.rxLimit n = some lim → (s.chan n).rxd[q.val].find? (fun e => !e.missed && decide (e.posted + lim ≤ s.now)) = some d →
      Completes (.rxWatchExpiry n q) s fun t =>
        t.fld (netVc0Cnt (24 + n)) NET_VC0_CNT_MISSING = bumped s (netVc0Cnt (24 + n)) NET_VC0_CNT_MISSING ∧
          t.flag netFabStat NET_FAB_STAT_VC0_FAULT = true ∧ t.flag safFault (bitF 10) = true)


/-! ### Arbiters (chapter 5) -/

/-- Whom a round grants (R192, R223): with the reserved grant due, a requester whose wait no other exceeds; otherwise one whose level, base
priority plus boost but at most 7, no other exceeds; among equals the lower index. Only an unmasked requester that asks is granted, and some
requester is granted when one asks. -/
def Obligations.ArbiterChoice : Prop :=
  ∀ (s : State) (a : ArbId) (x : Arb),
    (∀ k reserved, s.arbPick a x = some (k, reserved) →
      x.reqs[k].asking = true ∧ x.reqs[k].masked = false ∧ (reserved = true ↔ max 4 (min 64 (s.fld (arbCtlOf a) ARB_CTL_N)) ≤ x.since + 1) ∧
      ∀ j : Fin 10, x.reqs[j].asking = true → x.reqs[j].masked = false →
        let rank := fun i : Fin 10 => if reserved then (x.reqs[i].wait).getD 0 else min 7 (s.arbBase a i + x.reqs[i].boost)
        rank j < rank k ∨ (rank j = rank k ∧ k ≤ j)) ∧
    ((∃ j : Fin 10, x.reqs[j].asking = true ∧ x.reqs[j].masked = false) → (s.arbPick a x).isSome = true)

/-- The arbiters' commands (R79, R192 to R196, R210, R222, R223): a request starts its wait at 0; a round, where the resource is free, gives the choice the
hold, clears its boost and wait, raises every other waiting requester's boost by one up to 7 and counts the grant; a memory channel grants nothing
before its memory is usable; a release, a mask and its fall; STARVE beyond the threshold; base priorities apply while boosts stay; a write to ARB_CTL
restarts the count toward the reserved grant. -/
def Obligations.ArbiterCommands : Prop :=
  ∀ (a : ArbId) (s : State),
    (∀ (k : Fin 10) (dt : Nat), k.val < arbSize a → (s.arb a).reqs[k].masked = false → (s.arb a).reqs[k].asking = false →
      (s.arb a).holder ≠ some k.val →
      Completes (.arbRequest a k dt) s fun t => (t.arb a).reqs[k] = ⟨true, (s.arb a).reqs[k].boost, some 0, false⟩) ∧
    (∀ (dt : Nat) (k : Fin 10) (reserved : Bool), (s.arb a).holder = none → (∀ c, a = .mem c → s.memUsable = true) →
      ((∃ n b, a = .bank n b) → dt ≠ 0 ∨ s.arbFree a = true) →
      s.arbPick a { s.arb a with reqs := (s.arb a).reqs.map fun r => { r with wait := r.wait.map (· + dt) } } = some (k, reserved) →
      Completes (.arbRound a dt) s fun t =>
        (t.arb a).holder = some k.val ∧ (t.arb a).reqs[k] = ⟨false, 0, none, false⟩ ∧
        (t.arb a).since = (if reserved then 0 else (s.arb a).since + 1) ∧
        t.fld (arbCntOf a k) ARB_CNT_GRANTS = min (2 ^ 32 - 1) (s.fld (arbCntOf a k) ARB_CNT_GRANTS + 1) ∧
        ∀ j : Fin 10, j ≠ k → (t.arb a).reqs[j].boost =
          if (s.arb a).reqs[j].asking ∧ (s.arb a).reqs[j].masked = false then min 7 ((s.arb a).reqs[j].boost + 1) else (s.arb a).reqs[j].boost) ∧
    (∀ (c : Fin 128) (dt : Nat), a = .mem c → s.memUsable = false → Completes (.arbRound a dt) s fun t => (t.arb a).holder = (s.arb a).holder) ∧
    (∀ dt : Nat, Completes (.arbRelease a dt) s fun t => (t.arb a).holder = none) ∧
    (∀ k : Fin 10, k.val < arbSize a → Completes (.arbMaskRise a k) s fun t =>
      (t.arb a).reqs[k] = ⟨false, 0, none, true⟩ ∧ (t.arb a).holder ≠ some k.val) ∧
    (∀ k : Fin 10, (s.arb a).reqs[k].masked = true → Completes (.arbMaskFall a k) s fun t => (t.arb a).reqs[k] = ⟨false, 0, none, false⟩) ∧
    (∀ (k : Fin 10) (dt w : Nat), (s.arb a).reqs[k].wait = some w → s.fld (arbCtlOf a) ARB_CTL_STARVE_THRESH ≠ 0 →
      s.fld (arbCtlOf a) ARB_CTL_STARVE_THRESH < w + dt → Completes (.starveDetect a k dt) s fun t =>
        t.flag (arbStatOf a) ARB_STAT_STARVE = true) ∧
    (∀ v : Word64, s.takesWrites (arbPrioOf a) = true → Completes (.arbPrioWrite a v) s fun t =>
      (∀ k, k < arbSize a → t.arbBase a k = getF v ⟨4 * k, 3⟩) ∧ t.arbs = s.arbs ∧ OnlyRegs (fun off => off = arbPrioOf a) s t) ∧
    (∀ v : Word64, s.takesWrites (arbCtlOf a) = true → Completes (.arbCtlWrite a v) s fun t =>
      (t.arb a).since = 0 ∧ (t.arb a).reqs = (s.arb a).reqs ∧ t.fld (arbCtlOf a) ARB_CTL_N = getF v ARB_CTL_N ∧
        t.fld (arbCtlOf a) ARB_CTL_STARVE_THRESH = getF v ARB_CTL_STARVE_THRESH)


/-! ### The scheduled fabric (chapter 6) -/

/-- When a VC0 flit passes its lookup at an input port (R237, R242, R243, R252): VC0 is enabled and the device not in STANDBY, the flit's bank
is active, its entry is valid, names this input, has clean reserved bits and the lending mark exactly for the memory port, its output
exists, both link ports carry VC0, and, at a source, the destination is not fenced. -/
def Obligations.LookupPasses : Prop :=
  ∀ (s : State) (p : Nat) (x : Vc0Flit) (e : Word64),
    s.lookup p x = .pass e ↔
      e = s.rd (netCircuit (s.fld netFabCtl NET_FAB_CTL_ACTIVE_BANK) x.circuit) ∧
      s.flag netFabCtl NET_FAB_CTL_VC0_EN = true ∧ s.fld pwrState PWR_STATE_STATE ≠ 2 ∧
      x.bank = s.fld netFabCtl NET_FAB_CTL_ACTIVE_BANK ∧ entValid e = true ∧ entIn e = p ∧ entClean e = true ∧
      (entLend e = true ↔ entOut e = 33) ∧ (entOut e < 32 ∨ entOut e = 33) ∧ (entOut e < 24 → s.vc0Ok (entOut e) = true) ∧
      (p < 24 → s.vc0Ok p = true) ∧ (24 ≤ p → s.flag (netRoute (entDest e)) NET_ROUTE_FENCE = false)

/-- The scheduled fabric's commands (R232, R235, R236, R241, R243 to R245): a flit that passes is due 53 slots after its departure slot (18 from
the host port); a flit from a link waits in its hold when it comes within its window, whose times are sixteenths of a tick here, and enters the crossbar when the
window closes 20 ticks before its slot, but not in STANDBY (R29); the
swap tick is copied; the banks swap when ARM is 1 and the swap is missed otherwise; a circuit entry is written, or refused. -/
def Obligations.FabricCommands : Prop :=
  ∀ (s : State),
    (∀ (p : Fin 34) x rest e, kl s.net.enter p = x :: rest → (p.val = 33 ∨ 8 * x.slot + 280 ≤ 7 * s.now) →
      s.lookup p { x with bank := s.fld netFabCtl NET_FAB_CTL_ACTIVE_BANK } = .pass e → Completes (.vc0CrossbarEnter p) s fun t =>
        t.net.enter = klSet s.net.enter p rest ∧
        t.net.due = klAdd s.net.due (entOut e) ⟨x.slot + (if p.val = 33 then 18 else 53), p, e,
          { x with bank := s.fld netFabCtl NET_FAB_CTL_ACTIVE_BANK }⟩ ∧ t.regs = s.regs) ∧
    (∀ (l : Fin 24) at_ x rest e, (s.link l).vc0In = (at_, x) :: rest → at_ ≤ 16 * s.now + 15 → (kl s.net.hold l).length < 2048 →
      s.lookup l x = .pass e →
      16 * (8 * x.slot + 7 * (136 + s.fld (netPortHop l) NET_PORT_HOP_DELAY)) ≤ 7 * at_ →
      7 * (at_ + 16 * 20) ≤ 16 * 8 * (x.slot + s.fld (netPortHop l) NET_PORT_HOP_H) → Completes (.vc0LinkArrive l) s fun t =>
        (t.link l).vc0In = rest ∧ t.net.hold = klAdd s.net.hold l ⟨x.slot + s.fld (netPortHop l) NET_PORT_HOP_H, l, e, x⟩ ∧ t.regs = s.regs) ∧
    (∀ (l : Fin 24) d, (kl s.net.hold l).find? (fun d => decide (8 * d.due ≤ 7 * (s.now + 20))) = some d → Completes (.vc0WindowClose l) s fun t =>
      t.net.hold = klSet s.net.hold l ((kl s.net.hold l).erase d) ∧
        t.net.due = (if s.standby then s.net.due else klAdd s.net.due (entOut d.entry) d)) ∧
    (∀ x rest, s.net.swapCopy = x :: rest → s.flag netFabCtl NET_FAB_CTL_SWAP_EN = true → s.now ≤ x → Completes .swapTickCopy s fun t =>
      t.rd netSwapTick = BitVec.ofNat 64 x ∧ t.net.swapCopy = rest) ∧
    (s.flag netFabCtl NET_FAB_CTL_SWAP_EN = true → (s.rd netSwapTick).toNat ≠ 2 ^ 64 - 1 → (s.rd netSwapTick).toNat ≤ s.now →
      (s.flag netFabCtl NET_FAB_CTL_ARM = true → Completes .bankSwap s fun t =>
        t.fld netFabCtl NET_FAB_CTL_ACTIVE_BANK = 1 - s.fld netFabCtl NET_FAB_CTL_ACTIVE_BANK ∧ t.fld netFabCtl NET_FAB_CTL_ARM = 0 ∧
          t.rd netSwapTick = ~~~0 ∧
          OnlyRegs (fun off => off = netFabCtl ∨ off = netFabStat ∨ off = netSwapTick) s t) ∧
      (s.flag netFabCtl NET_FAB_CTL_ARM = false → Completes .bankSwap s fun t =>
        t.flag netFabStat NET_FAB_STAT_SWAP_MISSED = true ∧ t.rd netSwapTick = ~~~0 ∧ t.flag safFault (bitF 10) = true ∧
          t.fld netFabCtl NET_FAB_CTL_ACTIVE_BANK = s.fld netFabCtl NET_FAB_CTL_ACTIVE_BANK)) ∧
    (∀ (b : Fin 2) (c : Fin 4096) (v : Word64), s.takesWrites (netCircuit b c) = true →
      (if (b.val = s.fld netFabCtl NET_FAB_CTL_ACTIVE_BANK ∧ s.flag netFabCtl NET_FAB_CTL_VC0_EN = true) ∨
          (b.val ≠ s.fld netFabCtl NET_FAB_CTL_ACTIVE_BANK ∧ s.flag netFabCtl NET_FAB_CTL_ARM = true) then
        Completes (.circuitEntryWrite b c v) s fun t =>
          t.flag netFabStat NET_FAB_STAT_TABLE_WRITE_REFUSED = true ∧ OnlyRegs (fun off => off = netFabStat) s t
      else Completes (.circuitEntryWrite b c v) s fun t =>
          t.rd (netCircuit b c) = v ∧ OnlyRegs (fun off => off = netCircuit b c) s t))


/-! ### Device memory (chapter 5) -/

/-- The code of memories corrects (R175 to R179): a sector that is not poisoned, with one symbol in error by a non-zero difference, is read right and
the correction is counted; two symbols in error are never taken for a clean sector. The same holds of a 64-bit word of an SRAM, and one symbol of a
check sector in error is found where it stands. -/
def Obligations.SingleSymbolCorrected : Prop :=
  (∀ (s : State) (c sec y : Nat) (d : BitVec 4), y < 68 → d ≠ 0 → c < 128 → sec < 2 ^ 28 → s.mem.poisoned c sec = false →
    decodeSyn (syndrome false [(y, d)]) = .corrected y d.toNat ∧
    (s.readSector c sec [(y, d)]).2 = some (s.mem.sector c sec) ∧
    (s.readSector c sec [(y, d)]).1.fld (mcChEcc c) MC_CH_ECC_CORRECTED = bumped s (mcChEcc c) MC_CH_ECC_CORRECTED ∧
    ∀ z (e : BitVec 4), z < 68 → e ≠ 0 → z ≠ y → decodeSyn (syndrome false [(y, d), (z, e)]) ≠ .clean) ∧
  (∀ (w : Word64) (y : Nat) (d : BitVec 4), y < 20 → d ≠ 0 → readWord w [(y, d)] = (w, .corrected) ∧
    ∀ z (e : BitVec 4), z < 20 → e ≠ 0 → z ≠ y → (readWord w [(y, d), (z, e)]).2 ≠ .clean) ∧
  (∀ (y : Nat) (d : BitVec 4), y < 64 → d ≠ 0 → decodeCheck [(y, d)] = .corrected y d.toNat)

/-- The address map and what memory holds (R174, R189): an address maps to its channel by the hash of its granule number, to the physical page that the
remap table gives, and to its sector; the hash is one-to-one over the low seven bits of the granule number and the map over addresses while the
table is at its reset values; an aligned 4 KiB touches 32 different channels, an aligned 2 MiB page places 16 KiB on each, and a stride of a power of
two does not fall on one channel. After up to 32 bytes are stored within one sector, reading the same bytes gives them, every byte of every other place
is as before, and no register changes but where part of a poisoned sector is written. -/
def Obligations.MemoryMapAndWrites : Prop :=
  (∀ (s : State) (a : Nat), a < 0xEC00000000 →
    let g := a / 128
    let c := (g ^^^ g >>> 7 ^^^ g >>> 14 ^^^ g >>> 21 ^^^ g >>> 28) &&& 0x7F
    let d := (g >>> 7 <<< 7) ||| (a &&& 0x7F)
    let e := kget remapReset s.mem.remap (c * 3776 + (d >>> 21))
    d >>> 21 < 3776 ∧ (s.memMap a).1 = e.1 ∧ (s.memMap a).2 = e.2 * 2 ^ 16 + (d >>> 5 &&& 0xFFFF) ∧ s.memPlace a = memKey e.1 (s.memMap a).2 (a % 32)) ∧
  (∀ a b, a / 2 ^ 14 = b / 2 ^ 14 → chanOf a = chanOf b → a / 128 = b / 128) ∧
  (∀ (s : State) (a b : Nat), s.mem.remap = [] → a < 0xEC00000000 → b < 0xEC00000000 → s.memPlace a = s.memPlace b → a = b) ∧
  (∀ a i j, i < 32 → j < 32 → a % 4096 = 0 → chanOf (a + 128 * i) = chanOf (a + 128 * j) → i = j) ∧
  (∀ a c, a % 2 ^ 21 = 0 → c < 128 → ((List.range 16384).filter fun i => decide (chanOf (a + 128 * i) = c)).length * 128 = 16384) ∧
  (∀ a k, 7 ≤ k → k ≤ 27 → ∃ j, (j = 1 ∨ j = 2) ∧ chanOf (a + j * 2 ^ k) ≠ chanOf a) ∧
  ∀ (s : State) (a : Nat) (b : List Byte), b ≠ [] → a / 32 = (a + b.length - 1) / 32 →
    (∀ i, i < b.length → (s.memWrite a b []).memByte (a + i) = nth 0 b i) ∧
    (∀ x, (∀ i, i < b.length → s.memPlace x ≠ s.memPlace (a + i)) → (s.memWrite a b []).memByte x = s.memByte x) ∧
    (b.length = 32 ∨ s.mem.poisoned (s.memMap a).1 (s.memMap a).2 = false → (s.memWrite a b []).regs = s.regs) ∧ (s.memWrite a b []).ch = s.ch

/-- The stream engines (R79, R155, R156, R182, R188 to R190, R194, R584): a running engine with room issues a burst of one or two entries, or the oldest
that a mask withdrew; an entry out of range stops it; granted by its memory channel, a completed load burst of one entry has its data waiting for the ring, one
that cannot be read stops the engine with MEMORY, and the oldest store burst has written memory; an entry in place raises W over the unbroken prefix; with
every entry counted the engine is idle; a count becomes visible on the other side two cycles of the reading clock after its change. -/
def Obligations.StreamCommands : Prop :=
  ∀ (n : Fin 8) (q : Fin 24) (s : State),
    let x := (s.chan n).stream q
    let arb := fun i => s.memArbs (n.castLE (by decide)) [(x.entryAddr i).toNat]
    (x.busy = true → x.desc = none → sumNat ((s.chan n).streams.toList.map fun y => y.bursts.length) < 256 →
      (x.redo = [] → s.streamRoom n q ≠ 0 → entryOk (x.entryAddr x.issued) = true → Completes (.streamBurstIssue n q) s fun t =>
        let k := if 2 ≤ s.streamRoom n q ∧ x.entryAddr x.issued % 128 = 0 ∧ x.entryAddr (x.issued + 1) = x.entryAddr x.issued + 64 then 2 else 1
        (t.chan n).stream q = { x with issued := x.issued + k, bursts := x.bursts ++ [(x.issued, k)] } ∧
          (∀ off, ¬ ArbRegs off → t.rd off = s.rd off) ∧ ∀ m, m ≠ n → t.chan m = s.chan m) ∧
      (∀ b l, x.redo = b :: l → entryOk (x.entryAddr b.1) = true → Completes (.streamBurstIssue n q) s fun t =>
        (t.chan n).stream q = { x with redo := l, bursts := x.bursts ++ [b] }) ∧
      (x.redo = [] → s.streamRoom n q ≠ 0 → entryOk (x.entryAddr x.issued) = false → Completes (.streamBurstIssue n q) s fun t =>
        ((t.chan n).stream q).busy = false ∧ t.flag (mcSeErr n) MC_SE_ERR_VALID = true)) ∧
    (∀ k i, x.bursts[k]? = some (i, 1) →
      let a := (x.entryAddr i).toNat
      (q.val < 16 → Granted s (arb i) → (∀ sec ∈ sectorsOf a 64, s.mem.poisoned (s.memMap sec).1 (s.memMap sec).2 = false) →
        Completes (.burstComplete n q k []) s fun t =>
          (i, (s.memRead a 64 []).2.1) ∈ ((t.chan n).stream q).landed ∧ ((t.chan n).stream q).bursts = x.bursts.eraseIdx k ∧ t.mem = s.mem) ∧
      (q.val < 16 → Granted s (arb i) → (∃ sec ∈ sectorsOf a 64, s.mem.poisoned (s.memMap sec).1 (s.memMap sec).2 = true) →
        Completes (.burstComplete n q k []) s fun t =>
          ((t.chan n).stream q).busy = false ∧ t.flag (mcSeErr n) MC_SE_ERR_VALID = true ∧ t.flag safFault (bitF 8) = true) ∧
      (16 ≤ q.val → k = 0 → Granted s (bankArbs 1 n (s.ringAddr n q i) 64 ++ arb i) → Completes (.burstComplete n q k []) s fun t =>
        t.mem.bytes = (s.memWrite a ((s.chan n).sramRead (s.bankMap n) (s.ringAddr n q i) 64) []).mem.bytes ∧
          (i, []) ∈ ((t.chan n).stream q).landed)) ∧
    (∀ k e, q.val < 16 → (x.landed.filter fun e => decide (e.2 ≠ []))[k]? = some e → Granted s (bankArbs 1 n (s.ringAddr n q e.1) 64) →
      Completes (.streamEntryWritten n q k) s fun t =>
        (t.chan n).sram = ((s.chan n).sramWrite (s.bankMap n) (s.ringAddr n q e.1) e.2).sram ∧
        x.w ≤ ((t.chan n).stream q).w ∧ ((t.chan n).stream q).w - x.w = ((t.chan n).stream q).counted - x.counted) ∧
    (16 ≤ q.val → (x.counted, []) ∈ x.landed → Completes (.storeEntryWritten n q) s fun t =>
      ((t.chan n).stream q).m = x.m + 1 ∧ ((t.chan n).stream q).counted = x.counted + 1 ∧ ((t.chan n).stream q).up = x.up ++ [(x.m + 1, s.now)]) ∧
    (x.busy = true → x.desc = none → x.counted = x.entries → Completes (.streamDescriptorDone n q) s fun t =>
      (t.chan n).stream q = { x with busy := false } ∧ t.fld (chQCount n q) CH_Q_COUNT_SE_BUSY = 0) ∧
    (∀ v, (x.up.filter fun y => decide (y.2 * s.arithMHz n + 2000 ≤ s.now * s.arithMHz n)).getLast? = some v → (s.chan n).held = none →
      Completes (.countSync n q true) s fun t =>
        (if q.val < 16 then ((t.chan n).stream q).ws else ((t.chan n).stream q).ms) = v.1 ∧ OnlyChan n (fun off => off = chQCount n q) s t) ∧
    (∀ v, (x.down.filter fun y => decide (y.2 + 2 ≤ s.now)).getLast? = some v → Completes (.countSync n q false) s fun t =>
      (if q.val < 16 then ((t.chan n).stream q).rm else ((t.chan n).stream q).cm) = v.1 ∧ OnlyChan n (fun _ => False) s t)

/-- Upkeep of device memory (R180 to R187, R210, R211, R213, R218, R220, R221): a failing pin is shown and raises MEMORY; the patrol scrub writes back
a corrected sector, poisons an uncorrectable one and goes on to the next; a finished sweep is counted and the counts of the sweep start again;
a remap entry is written, or refused; memory initialised holds zeros; a self-refresh is left. -/
def Obligations.MemoryUpkeep : Prop :=
  ∀ (s : State),
    (∀ (c : Fin 128) (failed : BitVec 16) p ps, maskList 16 failed.toNat = p :: ps → s.memUsable = true →
      Completes (.pinTest c failed) s fun t =>
        t.flag (mcChStatus c) MC_CH_STATUS_PIN_FAIL = true ∧ t.fld (mcChStatus c) MC_CH_STATUS_PIN = p ∧ t.flag safFault (bitF 8) = true) ∧
    (∀ (c : Fin 128) (e : SymErr), s.flag mcScrubCtl MC_SCRUB_CTL_EN = true → s.memUsable = true → s.fld (mcChStatus c) MC_CH_STATUS_STATE = 1 →
      let sec := kget (fun _ => 0) s.mem.scrubPos c
      (sec < checkBase → Completes (.patrolScrubRead c e) s fun t =>
        kget (fun _ => 0) t.mem.scrubPos c = sec + 1 ∧
        (∀ d, (s.readSector c sec e).2 = some d → t.mem.bytes = (s.mem.store c sec 0 d).bytes) ∧
        ((s.readSector c sec e).2 = none → t.mem.poisoned c sec = true)) ∧
      (checkBase ≤ sec → sec < 2 ^ 28 → Completes (.patrolScrubRead c e) s fun t =>
        kget (fun _ => 0) t.mem.scrubPos c = sec + 1 ∧ t.mem.bytes = s.mem.bytes ∧
          (∀ y d, decodeCheck e = .corrected y d →
            t.fld (mcChEcc c) MC_CH_ECC_CORRECTED = bumped s (mcChEcc c) MC_CH_ECC_CORRECTED))) ∧
    (∀ c : Fin 128, s.flag mcScrubCtl MC_SCRUB_CTL_EN = true → s.memUsable = true → s.fld (mcChStatus c) MC_CH_STATUS_STATE = 1 →
      Completes (.scrubSweepEnd c) s fun t =>
        kget (fun _ => 0) t.mem.sweeps c = kget (fun _ => 0) s.mem.sweeps c + 1 ∧ kget (fun _ => 0) t.mem.scrubPos c = 0 ∧
          ∀ a, t.memByte a = s.memByte a) ∧
    (∀ (c : Fin 128) (v : Word64), s.takesWrites (mcRemapData c) = true →
      let p := s.fld (mcRemapSel c) MC_REMAP_SEL_PAGE
      (if s.anyRunning = true ∨ 3776 ≤ p ∨ 3840 ≤ getF v MC_REMAP_DATA_TO_PAGE ∨
          s.flag (mcChStatus (getF v MC_REMAP_DATA_TO_CHAN)) MC_CH_STATUS_RETIRED = true then
        Completes (.remapDataWrite c v) s fun t =>
          t.flag mcStatus MC_STATUS_REMAP_REFUSED = true ∧ OnlyRegs (fun off => off = mcStatus) s t
      else Completes (.remapDataWrite c v) s fun t =>
        kget remapReset t.mem.remap (c * 3776 + p) = (getF v MC_REMAP_DATA_TO_CHAN, getF v MC_REMAP_DATA_TO_PAGE) ∧
          t.mem.bytes = s.mem.bytes ∧ ∀ off, off ≠ mcRemapData c → t.rd off = s.rd off)) ∧
    (∀ failed : List (Fin 128), s.flag mcStatus MC_STATUS_INIT_DONE = false → s.heldReset = false → Completes (.memInitDone failed) s fun t =>
      t.flag mcStatus MC_STATUS_INIT_DONE = true ∧ (∀ a, t.memByte a = 0) ∧ (∀ c sec, t.mem.poisoned c sec = false) ∧
        ∀ c : Fin 128, t.fld (mcChStatus c) MC_CH_STATUS_STATE = if failed.contains c then 2 else 1) ∧
    (s.mem.selfRefresh = true → s.fld safStat SAF_STAT_STATE ≠ 2 → s.fld pwrState PWR_STATE_STATE ≠ 2 → s.saf.haltSteps = false →
      s.pwr.gated = false → s.heldReset = false → Completes .selfRefreshExit s fun t =>
        t.mem = { s.mem with selfRefresh := false } ∧ ∀ c : Fin 128, t.fld (mcChStatus c) MC_CH_STATUS_STATE =
          if s.fld (mcChStatus c) MC_CH_STATUS_STATE = 3 then 1 else s.fld (mcChStatus c) MC_CH_STATUS_STATE)

/-- Lending and host accesses to device memory (R27, R182, R202 to R209, R503): a lending WRITE within its bounds, its lanes and arbiters free for it, is
stored; a READ leaves a reply for its slot, or none where memory cannot be read; a reply departs in its slot; a request outside the permitted operations or
out of range is counted and raises LENDING; a host write with nothing held is stored, one that came poisoned poisons its sectors, a host read answers the
bytes or that they cannot be read, and an access outside memory is turned away. -/
def Obligations.LendingAndHostAccess : Prop :=
  ∀ (s : State),
    (∀ read r, nextLend read s.net.lend = some r → r.bad = false → inMem r.addr (8 * r.words) = true → s.memUsable = true →
      s.net.laneFree 0 (s.net.lend.findIdx fun e => decide (e = r)) = true → Granted s (s.bridgeArbs r.addr (8 * r.words) (!read)) →
      (read = false → Completes (.lendWrite []) s fun t =>
        t.mem.bytes = (s.memWrite r.addr (slice r.data 16 (8 * r.words)) []).mem.bytes ∧ t.net.lend = s.net.lend.erase r) ∧
      (read = true → (s.memRead r.addr (8 * r.words) []).2.2 = [] → ∀ inTime, Completes (.lendRead [] inTime) s fun t => ∃ p : LendReply,
        t.net.replies = s.net.replies ++ [p] ∧ p.circuit = r.replyCircuit ∧ p.slot = r.slot + r.replySlots ∧ p.ready = inTime ∧
        (∀ i, i < 8 * r.words → nth 0 p.data (16 + i) = nth 0 (s.memRead r.addr (8 * r.words) []).2.1 i)) ∧
      (read = true → (s.memRead r.addr (8 * r.words) []).2.2 ≠ [] → ∀ inTime, Completes (.lendRead [] inTime) s fun t =>
        t.net.replies = s.net.replies ∧ t.flag safFault (bitF 8) = true)) ∧
    (∀ r, nextLend false s.net.lend = some r →
      (r.bad = true → Completes (.lendWrite []) s fun t =>
        t.fld mcLendStat MC_LEND_STAT_BAD_OP = bumped s mcLendStat MC_LEND_STAT_BAD_OP ∧ t.flag safFault (bitF 9) = true ∧ t.mem = s.mem) ∧
      (r.bad = false → inMem r.addr (8 * r.words) = false ∨ s.memUsable = false → Completes (.lendWrite []) s fun t =>
        t.fld mcLendStat MC_LEND_STAT_RANGE = bumped s mcLendStat MC_LEND_STAT_RANGE ∧ t.flag safFault (bitF 9) = true ∧ t.mem = s.mem)) ∧
    (∀ r, s.net.replies.find? (fun r => decide (r.slot ≤ s.slotNow)) = some r →
      (r.ready = true → Completes .lendReplyDepart s fun t =>
        t.net.enter = klAdd s.net.enter 33 ⟨r.circuit, r.slot, 0, r.data⟩ ∧ t.net.replies = s.net.replies.erase r ∧ t.regs = s.regs) ∧
      (r.ready = false → Completes .lendReplyDepart s fun t =>
        t.fld mcLendStat MC_LEND_STAT_LATE = bumped s mcLendStat MC_LEND_STAT_LATE ∧ t.flag safFault (bitF 9) = true)) ∧
    (∀ (off : BitVec 40) (b : List Byte), s.heldReset = false → s.host.d3 = false → s.mem.hostq = [] → s.hostHeld = false →
      s.inBar2 off.toNat b.length = true → s.memUsable = true →
      let a := s.hostAddr off.toNat
      (inMem a b.length = true → (∀ e ∈ s.net.lane, e.1 ≠ 2 ∧ e.2 &&& s.lanesOf a b.length = 0) →
        (Granted s (s.bridgeArbs a b.length true) → Completes (.bar2Write off b false []) s fun t =>
          t.mem.bytes = (s.memWrite a b []).mem.bytes ∧ t.mem.hostq = []) ∧
        (Granted s (s.bridgeArbs a b.length false) →
          (Completes (.bar2Write off b true []) s fun t => t.flag ctlHostAlert (bitF 25) = true ∧
            ∀ sec ∈ sectorsOf a b.length, t.mem.poisoned (s.memMap sec).1 (s.memMap sec).2 = true) ∧
          ((s.memRead a b.length []).2.2 = [] → Completes (.bar2Read off b.length []) s fun t =>
            t.host.cpl = some (0, (s.memRead a b.length []).2.1) ∧ t.mem.bytes = s.mem.bytes) ∧
          ((s.memRead a b.length []).2.2 ≠ [] → Completes (.bar2Read off b.length []) s fun t =>
            (∃ d, t.host.cpl = some (2, d)) ∧ t.mem.bytes = s.mem.bytes))) ∧
      (inMem a b.length = false →
        (Completes (.bar2Read off b.length []) s fun t =>
          t.host.cpl = some (1, []) ∧ t.flag ctlHostAlert (bitF 24) = true ∧ t.mem.bytes = s.mem.bytes) ∧
        (Completes (.bar2Write off b false []) s fun t =>
          t.fld ctlPcieStat CTL_PCIE_STAT_DROPPED_WRITES = bumped s ctlPcieStat CTL_PCIE_STAT_DROPPED_WRITES ∧ t.mem.bytes = s.mem.bytes))) ∧
    (s.flag mcHostwin MC_HOSTWIN_RATE_EN = true → s.mem.hostq = [] → Completes .hostwinBudgetRefill s fun t =>
      let us := (s.now - s.mem.refill) / 1000
      t.mem.refill = s.mem.refill + 1000 * us ∧ t.mem.bytes = s.mem.bytes ∧
        t.mem.budget = min (s.fld mcHostwin MC_HOSTWIN_RATE : Int) (s.mem.budget + (s.fld mcHostwin MC_HOSTWIN_RATE : Int) * (us : Nat)))


/-! ### Unscheduled and management traffic (chapter 7) -/

/-- What becomes of a packet that arrives or is injected (R269, R271, R286, R289, R300): one that passes the tests waits at its input, and no
register changes; any other is dropped: it waits nowhere, EVENT is set, and the drop is counted for its port and class, where its header names one. -/
def Obligations.PacketTests : Prop :=
  ∀ (s : State) (p : Pkt), p.inp < 34 → p.cls < 4 →
    (Admits s p → s.allowIn p = s.setNet { s.net with waiting := klAdd s.net.waiting (4 * p.inp + p.cls) p }) ∧
    (¬ Admits s p → (s.allowIn p).net = s.net ∧ (s.allowIn p).flag netUnsStat NET_UNS_STAT_EVENT = true ∧
      (p.cls ≠ 0 → (s.allowIn p).fld (netTelemDrops (4 * p.inp + p.cls)) NET_TELEM_DROPS_DROPS =
        bumped s (netTelemDrops (4 * p.inp + p.cls)) NET_TELEM_DROPS_DROPS))

/-- Packets on their way (R267, R268, R271, R275 to R281, R288, R418, R455): an injected unflagged packet is counted in its flow and waits; a flagged
one carries the count, opens the flag and turns the epoch; one that arrived is counted and waits; a packet leaves by its endpoint's output, or by the link
chosen for it, when its turn comes; port 32 fills the receive ring, or hands a notice to the curtain engine, and port 33 writes memory, each delivered packet
counted in its epoch. -/
def Obligations.PacketCommands : Prop :=
  ∀ (s : State),
    (∀ (port : Fin 2) (cls : Fin 4) (flits : List (List Byte)), QuietPort32 s → flits ≠ [] →
      let p : Pkt := ⟨cls, flits, 32 + port, decide (port.val = 0)⟩
      let f := s.sendFlow (p.sendKey port)
      (cls.val = 3 → Admits s p → Completes (.unsPacketInject port cls flits) s fun t =>
        t.net.waiting = klAdd s.net.waiting (4 * (32 + port) + 3) p) ∧
      (cls.val = 1 ∨ cls.val = 2 → s.flag netUnsCtl NET_UNS_CTL_INJECT_STOP = false → p.badHeader = false → f.stalled = false → f.held = [] →
        (p.flag = false → f.count < 65535 → Admits s (p.stamp 0 f.epoch 0) → Completes (.unsPacketInject port cls flits) s fun t =>
          t.net.waiting = klAdd s.net.waiting (4 * (32 + port) + cls) (p.stamp 0 f.epoch 0) ∧
            (t.sendFlow (p.sendKey port)).count = f.count + 1) ∧
        (p.flag = true → f.await = none → Admits s (p.stamp 1 f.epoch f.count) → Completes (.unsPacketInject port cls flits) s fun t =>
          t.net.waiting = klAdd s.net.waiting (4 * (32 + port) + cls) (p.stamp 1 f.epoch f.count) ∧
            t.sendFlow (p.sendKey port) = ⟨1 - f.epoch, 0, some s.now, false, []⟩))) ∧
    (∀ (l : Fin 24) (cls : Fin 4) p rest, kl s.net.arrived (4 * l + cls) = p :: rest → p.inp = l.val → p.cls = cls.val → Admits s p →
      Completes (.unsPacketArrive l cls) s fun t =>
        t.net.arrived = klSet s.net.arrived (4 * l + cls) rest ∧ t.net.waiting = klAdd s.net.waiting (4 * l + cls) p ∧
        (cls.val ≠ 3 → t.fld netUnsStat NET_UNS_STAT_ARRIVALS =
          (s.fld netUnsStat NET_UNS_STAT_ARRIVALS + 1) % 2 ^ NET_UNS_STAT_ARRIVALS.w)) ∧
    (∀ (p : Fin 34) (cls : Fin 4) k o, s.saf.notices = [] → s.headPkt p cls = some k → (cls.val = 3 → s.fld pwrState PWR_STATE_STATE ≠ 2) →
      (if s.isLocal k = true then o = 32 + k.destPort else s.pickLink k = some o) → kget (fun _ => none) s.net.out (4 * o + cls) = none →
      s.servedNext o cls p = true → Completes (.unsPacketForward p cls) s fun t =>
        kget (fun _ => none) t.net.out (4 * o + cls) = some ⟨k, 0⟩ ∧ kget (fun _ => 33) t.net.served (4 * o + cls) = p.val ∧
          t.net.waiting = klSet s.net.waiting (4 * p + cls) ((kl s.net.waiting (4 * p + cls)).drop 1) ∧ t.regs = s.regs) ∧
    (∀ p rest, kl s.net.toEnd 0 = p :: rest → p.type = 0 → p.flag = false → p.cls ≠ 3 →
      (p.isNotice = false → (s.fld ctlRxring CTL_RXRING_HEAD + 1) % 64 ≠ s.fld ctlRxring CTL_RXRING_TAIL → Completes .port32Deliver s fun t =>
        t.fw.csram = ksets (fun _ => 0) s.fw.csram (0x600000 + 4096 * s.fld ctlRxring CTL_RXRING_HEAD) ((p.flits.headD []).take 16 ++ p.body) ∧
        t.fld ctlRxring CTL_RXRING_HEAD = (s.fld ctlRxring CTL_RXRING_HEAD + 1) % 64 ∧
        t.arrivedOf 0 p = s.arrivedOf 0 p + 1 ∧ t.net.toEnd = klSet s.net.toEnd 0 rest) ∧
      (p.isNotice = true → Completes .port32Deliver s fun t =>
        t.saf.inbox = s.saf.inbox ++ [(p.notice, p.inp, s.now)] ∧ t.arrivedOf 0 p = s.arrivedOf 0 p + 1 ∧
          t.net.toEnd = klSet s.net.toEnd 0 rest)) ∧
    (∀ p rest, kl s.net.toEnd 1 = p :: rest → p.type = 0 → p.flag = false → p.cls ≠ 3 → p.body.length = p.length →
      inMem (leAt p.body 0 8) (p.length - 8) = true → s.memUsable = true → s.net.laneFree 1 0 = true →
      Granted s (s.bridgeArbs (leAt p.body 0 8) (p.length - 8) true) → Completes (.port33Write []) s fun t =>
        t.mem.bytes = (s.memWrite (leAt p.body 0 8) (p.body.drop 8) []).mem.bytes ∧ t.arrivedOf 1 p = s.arrivedOf 1 p + 1 ∧
          t.net.toEnd = klSet s.net.toEnd 1 rest)

/-- Flagged packets (R280 to R284): a held one is delivered once its count is reached, the count of its epoch starts again and its acknowledgement
waits, which is then sent; the acknowledgement closes the flag at the sender; a failure, or the timeout of the acknowledgement, stalls the flow and sets
STALLED; a packet held too long is dropped and its flag fails. Firmware has nothing to send meanwhile. -/
def Obligations.FlagCommands : Prop :=
  ∀ (s : State) (port : Fin 2), QuietPort32 s → s.flag netUnsCtl NET_UNS_CTL_INJECT_STOP = false →
    (∀ x, (kl s.net.store port).find? (fun x => decide (x.1.count ≤ s.arrivedOf port x.1)) = some x →
      (port.val = 0 → x.1.isNotice = true ∨ (s.fld ctlRxring CTL_RXRING_HEAD + 1) % 64 ≠ s.fld ctlRxring CTL_RXRING_TAIL) →
      (port.val = 1 → x.1.body.length = x.1.length ∧ inMem (leAt x.1.body 0 8) (x.1.length - 8) = true ∧ s.memUsable = true ∧
        Granted s (s.bridgeArbs (leAt x.1.body 0 8) (x.1.length - 8) true)) →
      Completes (.flaggedPacketRelease port) s fun t =>
        (port.val = 1 → t.mem.bytes = (s.memWrite (leAt x.1.body 0 8) (x.1.body.drop 8) []).mem.bytes) ∧ t.arrivedOf port x.1 = 0 ∧
          t.net.toAck = klAdd s.net.toAck port x.1 ∧ t.net.store = klSet s.net.store port ((kl s.net.store port).erase x)) ∧
    (∀ p rest, kl s.net.toAck port = p :: rest →
      let q : Pkt := ⟨2, packFlits (mkHeader p.src (s.fld netPlace NET_PLACE_DEVICE_ID) 2 p.srcPort port 0 0 p.epoch 1 0 0) [], 32 + port,
        decide (port.val = 0)⟩
      Completes (.flagAckSend port) s fun t =>
        t.net.toAck = klSet s.net.toAck port rest ∧ (Admits s q → t.net.waiting = klAdd s.net.waiting (4 * (32 + port) + 2) q)) ∧
    (∀ p k, (kl s.net.flags port).find? (fun p => decide (p.type = 1)) = some p → s.openFlags port p = [k] → (s.sendFlow k).held = [] →
      Completes (.flagAckReceive port) s fun t =>
        t.sendFlow k = { s.sendFlow k with await := none } ∧ t.net.flags = klSet s.net.flags port ((kl s.net.flags port).erase p)) ∧
    (∀ p k, (kl s.net.flags port).find? (fun p => decide (p.type = 2)) = some p → s.openFlags port p = [k] →
      Completes (.flagFailReceive port) s fun t =>
        t.sendFlow k = { s.sendFlow k with stalled := true } ∧ t.flag netUnsStat NET_UNS_STAT_STALLED = true ∧
          t.fld netUnsStat NET_UNS_STAT_STALLED_DEST = k % 4096 ∧ t.flag netUnsStat NET_UNS_STAT_EVENT = true) ∧
    (∀ x, (kl s.net.store port).find? (fun x => decide (x.2 + 1000 * max 1 (s.fld netUnsCtl NET_UNS_CTL_HOLD_TIMEOUT) ≤ s.now)) = some x →
      x.1.cls < 4 → Completes (.holdTimeout port) s fun t =>
        t.net.store = klSet s.net.store port ((kl s.net.store port).erase x) ∧ t.arrivedOf port x.1 = 0 ∧
          t.flag netUnsStat NET_UNS_STAT_EVENT = true) ∧
    (∀ flow at_, (s.sendFlow (16384 * port + flow % 16384)).await = some at_ → (s.sendFlow (16384 * port + flow % 16384)).stalled = false →
      at_ + 1000 * max 1 (s.fld netUnsCtl NET_UNS_CTL_ACK_TIMEOUT) ≤ s.now → Completes (.ackTimeout port flow) s fun t =>
        t.sendFlow (16384 * port + flow % 16384) = { s.sendFlow (16384 * port + flow % 16384) with stalled := true } ∧
          t.flag netUnsStat NET_UNS_STAT_STALLED = true ∧ t.fld netUnsStat NET_UNS_STAT_STALLED_DEST = flow % 4096)

/-- Tables and telemetry of the unscheduled network (R285, R289, R292, R297, R298): NET_FLOW_CLEAR returns every entry of one device to its reset
state and leaves the others; a route entry is written only while TABLE_OPEN is 1; TABLE_OPEN is set only while DRAINED is 1, a write that would set it
earlier changing nothing but ROUTE_WRITE_REFUSED, and a packet that arrives while it is 1 is dropped and sets DRAIN_BREACH; at a window boundary the
histograms are copied and start again, and a window that a shorter length cuts is not shown (the model's reading, log entry 78). -/
def Obligations.TableAndTelemetryCommands : Prop :=
  ∀ (s : State),
    (∀ d : BitVec 12, s.takesWrites netFlowClear = true → Completes (.netFlowClear d) s fun t =>
      (∀ k, k % 4096 = d.toNat → t.sendFlow k = SendFlow.reset ∧ t.recvFlow k = (0, 0)) ∧
      (∀ k, k % 4096 ≠ d.toNat → t.sendFlow k = s.sendFlow k ∧ t.recvFlow k = s.recvFlow k) ∧
      ∀ off, off ≠ netUnsStat → t.rd off = s.rd off) ∧
    (∀ (d : BitVec 12) (v : Word64), s.takesWrites (netRoute d.toNat) = true →
      (s.flag netUnsCtl NET_UNS_CTL_TABLE_OPEN = true → Completes (.routeEntryWrite d v) s fun t =>
        t.fld (netRoute d.toNat) NET_ROUTE_DIR = getF v NET_ROUTE_DIR ∧ t.fld (netRoute d.toNat) NET_ROUTE_FENCE = getF v NET_ROUTE_FENCE ∧
          OnlyRegs (fun off => off = netRoute d.toNat) s t) ∧
      (s.flag netUnsCtl NET_UNS_CTL_TABLE_OPEN = false → Completes (.routeEntryWrite d v) s fun t =>
        t.flag netUnsStat NET_UNS_STAT_ROUTE_WRITE_REFUSED = true ∧ OnlyRegs (fun off => off = netUnsStat) s t)) ∧
    (∀ v : Word64, s.takesWrites netUnsCtl = true → s.flag netUnsCtl NET_UNS_CTL_TABLE_OPEN = false → getF v NET_UNS_CTL_TABLE_OPEN = 1 →
      (s.drained = true → Completes (.tableOpenWrite v) s fun t => t.flag netUnsCtl NET_UNS_CTL_TABLE_OPEN = true) ∧
      (s.drained = false → Completes (.tableOpenWrite v) s fun t =>
        t.flag netUnsStat NET_UNS_STAT_ROUTE_WRITE_REFUSED = true ∧ OnlyRegs (fun off => off = netUnsStat) s t)) ∧
    (∀ p : Pkt, p.cls = 1 ∨ p.cls = 2 → p.inp < 34 → p.badHeader = false → s.flag netUnsCtl NET_UNS_CTL_TABLE_OPEN = true →
      (s.allowIn p).net = s.net ∧ (s.allowIn p).flag netUnsStat NET_UNS_STAT_DRAIN_BREACH = true ∧
        (s.allowIn p).fld (netUnsDrop1 p.inp) NET_UNS_DROP1_BREACH = bumped s (netUnsDrop1 p.inp) NET_UNS_DROP1_BREACH) ∧
    (s.net.winTick / 2 ^ s.net.window < s.now / 2 ^ s.net.window → Completes .telemWindowClose s fun t =>
      t.net.hist = [] ∧ t.net.winTick = s.now ∧ t.net.winSlot = s.slotNow ∧
        t.fld netTelemStat NET_TELEM_STAT_WINDOW = (s.now / 2 ^ s.net.window - 1) % 2 ^ NET_TELEM_STAT_WINDOW.w ∧
        ∀ r < 136, ∀ i < 4,
          t.fld (netTelemHist r i) NET_TELEM_HIST_BIN_EVEN = s.binOf r (2 * i) % 2 ^ 32 ∧
          t.fld (netTelemHist r i) NET_TELEM_HIST_BIN_ODD = s.binOf r (2 * i + 1) % 2 ^ 32) ∧
    (s.now / 2 ^ s.net.window ≤ s.net.winTick / 2 ^ s.net.window → s.net.window ≠ s.winLog2 →
      s.net.winTick / 2 ^ s.winLog2 < s.now / 2 ^ s.winLog2 → Completes .telemWindowClose s fun t =>
        t.net.hist = [] ∧ t.net.window = s.winLog2 ∧ t.net.winTick = s.now ∧ t.regs = s.regs)


/-! ### Links (chapters 8 and 9) -/

/-- The receiver (R307, R308, R309, R312, R316, R319, R327): a link that is off takes nothing; a flit with an uncorrectable codeword, a
wrong CRC or a field that is not allowed is counted and discarded; one in sequence is accepted, and EXPECTED goes on by one; one behind or
ahead is counted and discarded; one outside both windows takes the link down; a link-control flit is kept with the time of its reception, UP or
not. The flits acknowledge nothing new. -/
def Obligations.LinkReceiver : Prop :=
  ∀ (s : State) (l : Fin 24) (bytes f : List Byte) (frac : Fin 16),
    (s.lstate l = lsOff → Completes (.flitReceive l bytes frac) s fun t => t = s) ∧
    (s.lstate l ≠ lsOff → (s.link l).goRx = none → bytes.length = 256 →
      (bytes.headD 0).toNat = lanePar (lanesOfCode (s.fld (lnkStatus l) LNK_STATUS_WIDTH)) bytes →
      rsDecode (codeword 0 bytes) = none ∨ rsDecode (codeword 1 bytes) = none → Completes (.flitReceive l bytes frac) s fun t =>
        t.fld (lnkErr0 l) LNK_ERR0_FEC_UE = bumped s (lnkErr0 l) LNK_ERR0_FEC_UE ∧ OnlyRegs (fun off => off = lnkErr0 l) s t) ∧
    (FlitDecodes s l bytes f → crcGood f = false → Completes (.flitReceive l bytes frac) s fun t =>
      t.fld (lnkErr0 l) LNK_ERR0_CRC_ERR = bumped s (lnkErr0 l) LNK_ERR0_CRC_ERR ∧ OnlyRegs (fun off => off = lnkErr0 l) s t) ∧
    (FlitDecodes s l bytes f → crcGood f = true → s.wellFormedFlit l f = false → Completes (.flitReceive l bytes frac) s fun t =>
      t.fld (lnkErr2 l) LNK_ERR2_MALFORMED = bumped s (lnkErr2 l) LNK_ERR2_MALFORMED ∧ OnlyRegs (fun off => off = lnkErr2 l) s t) ∧
    (FlitGood s l bytes f → bitsOf (leAt f 0 8) 23 12 = s.fld (lnkSeq l) LNK_SEQ_TX_ACKED →
      let h := leAt f 0 8
      let d := slice f 8 232
      let kind := bitsOf h 8 3
      let e := s.fld (lnkSeq l) LNK_SEQ_RX_EXPECTED
      let dist := seqSub (bitsOf h 11 12) e
      (kind = 4 → Completes (.flitReceive l bytes frac) s fun t =>
        (t.link l).lctlIn = (s.link l).lctlIn ++ [⟨bitsOf h 35 8, d.drop 32, s.now, frac⟩] ∧ (t.link l).ring = (s.link l).ring ∧
          ∀ off, (∀ v < 4, off ≠ lnkCredTx l v) → off ≠ netUnsStat → t.rd off = s.rd off) ∧
      (s.lstate l = lsUp → kind = 0 → dist = 0 → Completes (.flitReceive l bytes frac) s fun t =>
        t.fld (lnkSeq l) LNK_SEQ_RX_EXPECTED = (e + 1) % 4096 ∧
          (t.link l).vc0In = (s.link l).vc0In ++ [(16 * (s.now + 50) + frac, ⟨bitsOf h 35 12, slotOfStamp s.slotNow (bitsOf h 47 16), bitsOf h 63 1, d⟩)]) ∧
      (s.lstate l = lsUp → kind < 4 → kind ≠ 0 → dist = 0 → bit h 47 = true → bit h 48 = true → s.hasRoom l kind = true →
        kl (s.link l).part (if kind = 3 ∧ bit h 49 = true then 4 else kind) = [] →
        Completes (.flitReceive l bytes frac) s fun t =>
          t.fld (lnkSeq l) LNK_SEQ_RX_EXPECTED = (e + 1) % 4096 ∧ t.net.arrived = klAdd s.net.arrived (4 * l + kind) ⟨kind, [d], l, bit h 49⟩) ∧
      (s.lstate l = lsUp → kind ≠ 4 → 1 ≤ dist → dist ≤ 1535 → Completes (.flitReceive l bytes frac) s fun t =>
        t.fld (lnkErr1 l) LNK_ERR1_OOS = bumped s (lnkErr1 l) LNK_ERR1_OOS ∧ OnlyRegs (fun off => off = lnkErr1 l ∨ off = netUnsStat) s t) ∧
      (s.lstate l = lsUp → kind ≠ 4 → 2561 ≤ dist → Completes (.flitReceive l bytes frac) s fun t =>
        t.fld (lnkErr1 l) LNK_ERR1_DUP = bumped s (lnkErr1 l) LNK_ERR1_DUP ∧ OnlyRegs (fun off => off = lnkErr1 l ∨ off = netUnsStat) s t) ∧
      (s.lstate l = lsUp → kind ≠ 4 → 1536 ≤ dist → dist ≤ 2560 → Completes (.flitReceive l bytes frac) s fun t => Retrains s t l LNK_EVENT_SEQ_BREACH))

/-- The transmitter (R229, R230, R239, R240, R310, R312 to R315, R317, R321): the VC0 flit due in a slot leaves by its output; of two the one
from the lower input leaves and the other is dropped as late, as is one due in the control slot of a link; on a link the flit enters the ring
and leaves at once with the next sequence number when nothing is ahead of it; a full ring drops it; the output of an endpoint sends one flit of a packet
in a slot with nothing else due; the oldest entry not acknowledged in time counts in REPLAYS and starts a replay, or after REPLAY_LIMIT sendings takes the link
down. The device is not in STANDBY. -/
def Obligations.LinkTransmitter : Prop :=
  ∀ (s : State), s.standby = false →
    (∀ (p : Fin 34) d, kl s.net.due p = [d] → d.due = s.slotNow → kget (fun _ => 0) s.net.slotNext p ≤ d.due →
      (24 ≤ p.val → p.val < 32 → Completes (.crossbarOutputSlot p) s fun t =>
        t.net.toChan = klAdd s.net.toChan (p - 24) (d.due, entRxq d.entry, { d.flit with slot := d.due }) ∧ kl t.net.due p = [] ∧
          t.fld (netVc0Cnt p) NET_VC0_CNT_FLITS = bumped s (netVc0Cnt p) NET_VC0_CNT_FLITS) ∧
      (p.val = 33 → Completes (.crossbarOutputSlot p) s fun t =>
        t.net.lend = s.net.lend ++ [⟨d.flit.circuit, d.due, d.flit.data⟩] ∧ kl t.net.due p = []) ∧
      (p.val < 24 → isControl d.due = true → Completes (.crossbarOutputSlot p) s fun t =>
        t.fld (netVc0Err p) NET_VC0_ERR_LATE = bumped s (netVc0Err p) NET_VC0_ERR_LATE ∧ t.flag safFault (bitF 10) = true)) ∧
    (∀ (p : Fin 34) d e, kl s.net.due p = [d, e] → d.due = s.slotNow → e.due = s.slotNow → d.inp < e.inp →
      kget (fun _ => 0) s.net.slotNext p ≤ d.due → 24 ≤ p.val → p.val < 32 → Completes (.crossbarOutputSlot p) s fun t =>
        t.net.toChan = klAdd s.net.toChan (p - 24) (d.due, entRxq d.entry, { d.flit with slot := d.due }) ∧
          t.fld (netVc0Err p) NET_VC0_ERR_LATE = bumped s (netVc0Err p) NET_VC0_ERR_LATE ∧ t.flag safFault (bitF 10) = true) ∧
    (∀ (l : Fin 24) d, kl s.net.due l = [d] → d.due = s.slotNow → kget (fun _ => 0) s.net.slotNext l ≤ d.due → isControl d.due = false →
      (1024 ≤ (s.link l).ring.length → Completes (.crossbarOutputSlot ⟨l.val, by omega⟩) s fun t =>
        t.fld (lnkErr2 l) LNK_ERR2_RING_FULL = bumped s (lnkErr2 l) LNK_ERR2_RING_FULL ∧ t.flag safFault (bitF 10) = true) ∧
      ((s.link l).ring.length < 1024 → s.lstate l = lsUp → (s.link l).txFree ≤ d.due → (s.link l).goTx = none → (s.link l).txWidth = 0 →
        ((s.link l).cmds = [] ∨ s.vc0Ok l = true) → s.flag (lnkStatus l) LNK_STATUS_REPLAYING = false → s.windowOpen l = true →
        (∀ e ∈ (s.link l).ring, e.seq ≠ none) → Completes (.crossbarOutputSlot ⟨l.val, by omega⟩) s fun t =>
          let q := s.fld (lnkSeq l) LNK_SEQ_TX_NEXT
          let cls := vc0Fields (entOutCircuit d.entry) d.due d.flit.bank
          (t.link l).ring = (s.link l).ring ++ [⟨0, cls, d.flit.data, some q, slotTick d.due, 1⟩] ∧
            (t.link l).line = some (d.due, encodeFlit 8 (q * 2 ^ 11 + s.ackFor l d.due * 2 ^ 23 + cls * 2 ^ 35) d.flit.data) ∧
            (t.link l).txFree = d.due + 1 ∧ t.fld (lnkSeq l) LNK_SEQ_TX_NEXT = (q + 1) % 4096 ∧
            t.fld (lnkCredTx l 0) LNK_CRED_TX_OUT_D = (s.fld (lnkCredTx l 0) LNK_CRED_TX_OUT_D + 8) % 65536 ∧
            t.fld (lnkCredTx l 0) LNK_CRED_TX_OUT_H = (s.fld (lnkCredTx l 0) LNK_CRED_TX_OUT_H + 1) % 65536)) ∧
    (∀ (p : Fin 34) x, 32 ≤ p.val → kl s.net.due p = [] → kget (fun _ => 0) s.net.slotNext p ≤ s.slotNow → s.endNext p = some x →
      (x.sent + 1 < x.pkt.flits.length → Completes (.crossbarOutputSlot p) s fun t =>
        kget (fun _ => none) t.net.out (4 * p + x.pkt.cls) = some { x with sent := x.sent + 1 } ∧ t.net.toEnd = s.net.toEnd) ∧
      (x.sent + 1 = x.pkt.flits.length → Completes (.crossbarOutputSlot p) s fun t =>
        kget (fun _ => none) t.net.out (4 * p + x.pkt.cls) = none ∧ t.net.toEnd = klAdd s.net.toEnd (p - 32) x.pkt)) ∧
    (∀ (l : Fin 24) e rest, (s.link l).ring = e :: rest → e.seq ≠ none → s.lstate l = lsUp → e.tick + s.effTimeout l ≤ s.now →
      (e.sends < s.replayLimit l → Completes (.replayTimeout l) s fun t =>
        t.link l = { s.link l with ptr := 0 } ∧ t.flag (lnkStatus l) LNK_STATUS_REPLAYING = true ∧
          t.fld (lnkErr1 l) LNK_ERR1_REPLAYS = bumped s (lnkErr1 l) LNK_ERR1_REPLAYS ∧
          ∀ off, off ≠ lnkErr1 l → off ≠ lnkStatus l → t.rd off = s.rd off) ∧
      (s.replayLimit l ≤ e.sends → Completes (.replayTimeout l) s fun t => Retrains s t l LNK_EVENT_REPLAY_LIMIT ∧
        t.fld (lnkErr1 l) LNK_ERR1_REPLAYS = bumped s (lnkErr1 l) LNK_ERR1_REPLAYS))

/-- The link-control flits but TIMESTAMP (R309, R325 to R327, R332 to R335): what each does when it is the oldest of its kind received. -/
def Obligations.LinkControlFlits : Prop :=
  ∀ (s : State) (l : Fin 24) (c : LctlIn), (s.link l).lctlIn.find? (fun x => decide (x.ctype = c.ctype)) = some c →
    let b := c.body
    (c.ctype = 1 → Completes (.lctlCredit l) s fun t => t = without s l c) ∧
    (c.ctype = 3 →
      let fl := leAt b 1 1
      let i : PeerInit := ⟨leAt b 2 2 % 4096, leAt b 4 1, bit fl 0, leAt b 6 2 % 4096, slice b 8 16⟩
      let rec_ (t : State) : Prop := t.fld (lnkPeer l) LNK_PEER_PEER_ID = i.device ∧ t.fld (lnkPeer l) LNK_PEER_PEER_PORT = i.port % 32
      (s.lstate l = lsUp → Completes (.lctlInit l) s fun t => rec_ t ∧ t.link l = (without s l c).link l ∧ t.lstate l = lsUp) ∧
      (s.lstate l = lsInit → leAt b 0 1 ≠ b2n (decide (s.fld (netPortMap l) NET_PORT_MAP_ROLE = 2)) → Completes (.lctlInit l) s fun t =>
        t.flag (lnkEvent l) LNK_EVENT_MODE_MISMATCH = true ∧ rec_ t ∧ t.lstate l = lsInit ∧ t.link l = (without s l c).link l) ∧
      (s.lstate l = lsInit → leAt b 0 1 = b2n (decide (s.fld (netPortMap l) NET_PORT_MAP_ROLE = 2)) →
        ((s.link l).sentSeen = false → Completes (.lctlInit l) s fun t =>
          (t.link l).peerInit = some i ∧ ((t.link l).gotSeen = true ↔ (s.link l).gotSeen = true ∨ bit fl 1 = true) ∧ rec_ t ∧
            ∀ off, off ≠ lnkPeer l → off ≠ netUnsStat → t.rd off = s.rd off) ∧
        ((s.link l).sentSeen = true → bit fl 1 = true → (s.link l).held = false → Completes (.lctlInit l) s fun t =>
          t.lstate l = lsUp ∧ rec_ t ∧ (t.link l).ring = [] ∧ t.fld (lnkSeq l) LNK_SEQ_TX_NEXT = 0 ∧ t.fld (lnkSeq l) LNK_SEQ_TX_ACKED = 0 ∧
            t.fld (lnkSeq l) LNK_SEQ_RX_EXPECTED = 0) ∧
        (∀ g, (s.link l).sentSeen = true → bit fl 1 = true → (s.link l).held = true → bit fl 0 = true → (s.link l).oldPeer = (i.device, i.port) →
          (s.link l).grace = some g → s.now < g →
          seqSub i.expected (s.fld (lnkSeq l) LNK_SEQ_TX_ACKED) ≤ seqSub (s.fld (lnkSeq l) LNK_SEQ_TX_NEXT) (s.fld (lnkSeq l) LNK_SEQ_TX_ACKED) →
          Completes (.lctlInit l) s fun t =>
            t.lstate l = lsUp ∧ t.flag (lnkEvent l) LNK_EVENT_RESUMED = true ∧ rec_ t ∧
              (t.link l).ring = (s.link l).ring.drop (seqSub i.expected (s.fld (lnkSeq l) LNK_SEQ_TX_ACKED)) ∧
              t.fld (lnkSeq l) LNK_SEQ_TX_ACKED = i.expected ∧ t.fld (lnkSeq l) LNK_SEQ_TX_NEXT = s.fld (lnkSeq l) LNK_SEQ_TX_NEXT ∧
              t.fld (lnkSeq l) LNK_SEQ_RX_EXPECTED = s.fld (lnkSeq l) LNK_SEQ_RX_EXPECTED ∧
              t.flag (lnkStatus l) LNK_STATUS_HOLD = false ∧ (t.link l).grace = none))) ∧
    (c.ctype = 4 → s.lstate l = lsUp → (s.link l).replTx = none → Completes (.lctlReplace l) s fun t =>
      let r : ReplTx := ⟨leAt b 0 1, leAt b 1 1, s.fld (lnkSeq l) LNK_SEQ_TX_NEXT⟩
      (t.link l).replTx = some r ∧ t.regs = s.regs ∧
        (t.link l).cmds = (s.link l).cmds ++ [⟨5, leBytes 1 r.logical ++ leBytes 1 r.under ++ leBytes 2 r.switch⟩]) ∧
    (∀ r, c.ctype = 5 → (s.link l).replRx = some r → r.logical = leAt b 0 1 → r.under = leAt b 1 1 → r.logical < 8 → r.under < 10 →
      let sp := leAt b 2 2 % 4096
      let e := s.fld (lnkSeq l) LNK_SEQ_RX_EXPECTED
      (2048 ≤ seqSub e sp ∨ e = sp → Completes (.lctlLaneAck l) s fun t =>
        (t.link l).replRx = some { r with switch := some sp } ∧ t.regs = s.regs) ∧
      (seqSub e sp < 2048 → e ≠ sp → Completes (.lctlLaneAck l) s fun t =>
        t.rxLane l r.logical = r.under ∧ (t.link l).replRx = none ∧ t.flag (lnkEvent l) LNK_EVENT_LANE_REPLACED = true ∧
          (⟨⟨6, leBytes 1 r.logical ++ leBytes 1 r.under⟩, 1, s.now⟩ : PendCmd) ∈ (t.link l).pend ∧
          (⟨6, leBytes 1 r.logical ++ leBytes 1 r.under⟩ : Lctl) ∈ (t.link l).cmds)) ∧
    (∀ r, c.ctype = 6 → (s.link l).replTx = some r → r.logical = leAt b 0 1 → r.logical < 8 → r.under < 10 → s.txLane l r.logical < 10 →
      Completes (.lctlLaneDone l) s fun t =>
        t.txLane l r.logical = r.under ∧ (t.link l).replTx = none ∧ t.flag (lnkEvent l) LNK_EVENT_LANE_REPLACED = true ∧
          t.fld (lnkLaneCtl l) LNK_LANE_CTL_TX_FAILED = s.fld (lnkLaneCtl l) LNK_LANE_CTL_TX_FAILED ||| 2 ^ s.txLane l r.logical) ∧
    (c.ctype = 7 → s.lstate l = lsUp →
      let code := leAt b 0 1 % 4
      let own := s.fld netPlace NET_PLACE_DEVICE_ID
      let first := own < leAt b 3 2 ∨ (own = leAt b 3 2 ∧ l.val < leAt b 5 1)
      (s.vc0Ok l = true → Completes (.lctlWidthReq l) s fun t =>
        t.flag (lnkEvent l) LNK_EVENT_WIDTH_REFUSED = true ∧ t.link l = (without s l c).link l) ∧
      (s.vc0Ok l = false → (s.link l).reqOut = none → (s.link l).replTx = none → (s.link l).goTx = none → (s.link l).txWidth ≠ code →
        Completes (.lctlWidthReq l) s fun t =>
          (t.link l).goTx = some (code, 0, leAt b 1 2) ∧ (t.link l).rxLanes = widthMask s l code ∧ t.regs = s.regs ∧
            (t.link l).cmds = (s.link l).cmds ++ [⟨8, leBytes 1 code ++ leBytes 2 (widthMask s l code)⟩, ⟨9, leBytes 1 code⟩]) ∧
      (s.vc0Ok l = false → (s.link l).reqOut = none → (s.link l).replTx ≠ none → Completes (.lctlWidthReq l) s fun t =>
        (t.link l).reqIn = some (code, leAt b 1 2) ∧ t.regs = s.regs) ∧
      (s.vc0Ok l = false → (s.link l).reqOut ≠ none → first → Completes (.lctlWidthReq l) s fun t => t = without s l c) ∧
      (s.vc0Ok l = false → (s.link l).reqOut ≠ none → ¬ first → Completes (.lctlWidthReq l) s fun t =>
        t.flag (lnkEvent l) LNK_EVENT_WIDTH_WITHDRAWN = true ∧ (t.link l).reqOut = none ∧ t.fld (lnkCtl l) LNK_CTL_WIDTH_GO = 0)) ∧
    (∀ code mask, c.ctype = 8 → (s.link l).reqOut = some (code, mask) → (s.link l).goTx = none → (s.link l).txWidth ≠ code →
      Completes (.lctlWidthAck l) s fun t =>
        (t.link l).reqOut = none ∧ (t.link l).goTx = some (code, 0, leAt b 1 2) ∧ t.fld (lnkCtl l) LNK_CTL_WIDTH_GO = 0) ∧
    (c.ctype = 9 →
      let code := leAt b 0 1 % 4
      (s.vc0Ok l = true → Completes (.lctlWidthGo l) s fun t =>
        t.flag (lnkEvent l) LNK_EVENT_WIDTH_REFUSED = true ∧ t.fld (lnkStatus l) LNK_STATUS_WIDTH = s.fld (lnkStatus l) LNK_STATUS_WIDTH) ∧
      (s.vc0Ok l = false → leAt b 1 1 % 4 = 3 → s.fld (lnkStatus l) LNK_STATUS_WIDTH ≠ code → Completes (.lctlWidthGo l) s fun t =>
        t.fld (lnkStatus l) LNK_STATUS_WIDTH = code ∧ t.flag (lnkEvent l) LNK_EVENT_WIDTH_CHANGED = true ∧
          ∀ j q, j < 8 → (maskList 10 (s.link l).rxLanes)[j]? = some q → t.rxLane l j = q) ∧
      (s.vc0Ok l = false → leAt b 1 1 % 4 ≠ 3 → s.fld (lnkStatus l) LNK_STATUS_WIDTH ≠ code → Completes (.lctlWidthGo l) s fun t =>
        (t.link l).goRx = some (code, 3 - leAt b 1 1 % 4) ∧ t.regs = s.regs)) ∧
    (c.ctype = 10 →
      (lsInit ≤ s.lstate l → Completes (.lctlRetrain l) s fun t => Retrains s t l LNK_EVENT_DOWN) ∧
      (s.lstate l = lsTraining → (∃ p ∈ (s.link l).pend, p.cmd.ctype = 10 ∧ 1 < p.sends) → Completes (.lctlRetrain l) s fun t =>
        t.flag (lnkEvent l) LNK_EVENT_RETRAIN_MERGED = true ∧ (∀ p ∈ (t.link l).pend, p.cmd.ctype ≠ 10) ∧ t.lstate l = lsTraining) ∧
      (s.lstate l = lsTraining → (∀ p ∈ (s.link l).pend, p.cmd.ctype ≠ 10) → Completes (.lctlRetrain l) s fun t => t = without s l c))

/-- Lanes, timers and LNK_CTL (R327 to R338, R361, R362): parity errors within the threshold are forgotten at the end of their window, a lane
beyond it is replaced by an understudy; a lane that loses lock; a command not answered is sent again, and after 16 sendings takes the link
down; the test pattern on the failed lane ends a replacement; a grace that ends flushes; LNK_CTL brings a link up, off, to retrain, or to another width. -/
def Obligations.LinkLanesAndControl : Prop :=
  ∀ (s : State) (l : Fin 24),
    ((s.link l).parWin < s.now / 2 ^ 20 →
      let th := s.fld (lnkLaneCtl l) LNK_LANE_CTL_PAR_THRESH
      ((∀ j < 8, th = 0 ∨ kget (fun _ => 0) (s.link l).parity j ≤ th) → Completes (.laneParityWindow l) s fun t =>
        t = s.modLink l fun x => { x with parity := [], parWin := s.now / 2 ^ 20 }) ∧
      (∀ j q, j < 8 → (∀ i < 8, (th ≠ 0 ∧ th < kget (fun _ => 0) (s.link l).parity i) ↔ i = j) → s.lstate l = lsUp →
        s.logicalOf l (s.rxLane l j) = some j → (s.link l).replRx = none → (s.link l).mirror = none → s.rxLane l j < 10 →
        bit (s.fld (lnkLaneCtl l) LNK_LANE_CTL_RX_FAILED) (s.rxLane l j) = false →
        (s.vc0Ok l = true ∨ s.flag (lnkCtl l) LNK_CTL_NARROW_FIRST = false) → s.freeLane l = some q → Completes (.laneParityWindow l) s fun t =>
          (t.link l).replRx = some ⟨j, s.rxLane l j, q, none⟩ ∧ (t.link l).parity = [] ∧
            bit (t.fld (lnkLaneCtl l) LNK_LANE_CTL_RX_FAILED) (s.rxLane l j) = true ∧
            (t.link l).cmds = (s.link l).cmds ++ [⟨4, leBytes 1 j ++ leBytes 1 q⟩])) ∧
    (∀ q, s.freeLane l = some q → rxFit s l q = true ∧ s.logicalOf l q = none ∧ s.flag (lnkMargin l q) LNK_MARGIN_LOW = false) ∧
    (∀ k : Fin 10,
      (s.lstate l = lsUp → s.logicalOf l k = none → Completes (.laneLossOfLock l k) s fun t =>
        bit (t.fld (lnkPhyStatus l) LNK_PHY_STATUS_RX_GOOD) k = false ∧ bit (t.fld (lnkLaneCtl l) LNK_LANE_CTL_RX_FAILED) k = true ∧
          OnlyRegs (fun off => off = lnkPhyStatus l ∨ off = lnkLaneCtl l) s t) ∧
      (∀ j, s.lstate l = lsUp → s.logicalOf l k = some j → (s.link l).replRx = none → (s.link l).mirror = none → s.freeLane l = none →
        let good := ((List.range 10).filter fun i => decide (i ≠ k.val) && rxFit s l i).length
        (s.vc0Ok l = true → Completes (.laneLossOfLock l k) s fun t =>
          t.flag (lnkEvent l) LNK_EVENT_LANE_EXHAUSTED = true ∧ t.flag safFault (bitF 22) = true ∧ t.lstate l = lsUp) ∧
        (s.vc0Ok l = false → 2 ≤ good → Completes (.laneLossOfLock l k) s fun t =>
          ∃ m, (t.link l).reqOut = some (if 4 ≤ good then 1 else 2, m)) ∧
        (s.vc0Ok l = false → good < 2 → Completes (.laneLossOfLock l k) s fun t => Retrains s t l LNK_EVENT_DOWN)) ∧
      (s.lstate l = lsInit → s.logicalOf l k ≠ none → Completes (.laneLossOfLock l k) s fun t => Retrains s t l LNK_EVENT_DOWN)) ∧
    (∀ p (pattern : BitVec 10), (∀ k, (s.link l).mirror = some k → bit pattern.toNat k = false) →
      (s.link l).pend.find? (fun p => decide (p.tick + 1000 ≤ s.now)) = some p →
      (p.sends < 16 → Completes (.cmdRetry l pattern) s fun t =>
        (t.link l).cmds = (s.link l).cmds ++ [p.cmd] ∧ { p with sends := p.sends + 1, tick := s.now } ∈ (t.link l).pend ∧ t.regs = s.regs) ∧
      (16 ≤ p.sends → lsInit ≤ s.lstate l → Completes (.cmdRetry l pattern) s fun t => Retrains s t l LNK_EVENT_CMD_TIMEOUT) ∧
      (16 ≤ p.sends → s.lstate l < lsInit → Completes (.cmdRetry l pattern) s fun t =>
        t.flag (lnkEvent l) LNK_EVENT_CMD_TIMEOUT = true ∧ ∀ q ∈ (t.link l).pend, q.cmd.ctype ≠ p.cmd.ctype)) ∧
    (∀ k (pattern : BitVec 10), (s.link l).mirror = some k → bit pattern.toNat k = true → (s.link l).failing = [] →
      (∀ p ∈ (s.link l).pend, s.now < p.tick + 1000) → Completes (.cmdRetry l pattern) s fun t =>
        (t.link l).mirror = none ∧ (∀ p ∈ (t.link l).pend, p.cmd.ctype ≠ 6) ∧ t.regs = s.regs) ∧
    (∀ g, (s.link l).grace = some g →
      (s.now < g → Completes (.graceExpiry l) s fun t =>
        t.fld (lnkStatus l) LNK_STATUS_GRACE_LEFT = (g - s.now + 999) / 1000 % 2 ^ LNK_STATUS_GRACE_LEFT.w ∧
          OnlyRegs (fun off => off = lnkStatus l) s t) ∧
      (g ≤ s.now → s.lstate l ≠ lsUp → Completes (.graceExpiry l) s fun t =>
        (t.link l).ring = [] ∧ (t.link l).grace = none ∧ (t.link l).held = false ∧ t.flag (lnkStatus l) LNK_STATUS_HOLD = false ∧
          t.fld (lnkSeq l) LNK_SEQ_TX_NEXT = 0 ∧ t.lstate l = s.lstate l ∧ t.flag (lnkEvent l) LNK_EVENT_FLUSH = true)) ∧
    (∀ v : Word64, s.takesWrites (lnkCtl l) = true → getF v LNK_CTL_RETRAIN = 0 → getF v LNK_CTL_WIDTH_GO = 0 →
      (s.flag (lnkCtl l) LNK_CTL_EN = false → getF v LNK_CTL_EN = 1 →
        (s.mapConflict l = true → Completes (.lnkEnWrite l v) s fun t =>
          t.flag netMapStat NET_MAP_STAT_MAP_CONFLICT = true ∧ t.fld netMapStat NET_MAP_STAT_CONFLICT_PORT = l ∧ t.lstate l = s.lstate l) ∧
        (s.mapConflict l = false → s.fld (netPortMap l) NET_PORT_MAP_ROLE = 0 → Completes (.lnkEnWrite l v) s fun t =>
          t.lstate l = s.lstate l ∧ t.flag (lnkCtl l) LNK_CTL_EN = true) ∧
        (s.mapConflict l = false → s.fld (netPortMap l) NET_PORT_MAP_ROLE ≠ 0 → s.fld safStat SAF_STAT_STATE ≠ 2 →
          Completes (.lnkEnWrite l v) s fun t =>
            t.lstate l = lsTraining ∧ t.fld (lnkPhyStatus l) LNK_PHY_STATUS_STEP = 1 ∧
              (t.isPool l = true ↔ s.fld (netPortMap l) NET_PORT_MAP_ROLE = 2))) ∧
      (s.flag (lnkCtl l) LNK_CTL_EN = true → getF v LNK_CTL_EN = 0 → Completes (.lnkEnWrite l v) s fun t =>
        t.lstate l = lsOff ∧ (t.link l).ring = [] ∧ t.fld (lnkSeq l) LNK_SEQ_TX_NEXT = 0 ∧ (t.link l).grace = none ∧
          t.flag (lnkEvent l) LNK_EVENT_FLUSH = true)) ∧
    (∀ v : Word64, s.takesWrites (lnkCtl l) = true → s.flag (lnkCtl l) LNK_CTL_EN = true → getF v LNK_CTL_EN = 1 → getF v LNK_CTL_WIDTH_GO = 0 →
      lsInit ≤ s.lstate l → Completes (.lnkRetrainWrite l v) s fun t =>
        t.lstate l = lsTraining ∧ t.flag (lnkEvent l) LNK_EVENT_DOWN = true ∧ t.fld (lnkCtl l) LNK_CTL_RETRAIN = 0) ∧
    (∀ v : Word64, s.takesWrites (lnkCtl l) = true → s.flag (lnkCtl l) LNK_CTL_EN = true → getF v LNK_CTL_EN = 1 → getF v LNK_CTL_RETRAIN = 0 →
      s.lstate l = lsUp →
      (s.fld (netPortHop l) NET_PORT_HOP_DELAY = 0x3FF → getF v LNK_CTL_WIDTH_REQ ≠ 0 → Completes (.lnkWidthGoWrite l v) s fun t =>
        (t.link l).reqOut = some (getF v LNK_CTL_WIDTH_REQ - 1, widthMask s l (getF v LNK_CTL_WIDTH_REQ - 1)) ∧
          ∃ b, (t.link l).cmds = (s.link l).cmds ++ [⟨7, leBytes 1 (getF v LNK_CTL_WIDTH_REQ - 1) ++ b⟩]) ∧
      (s.fld (netPortHop l) NET_PORT_HOP_DELAY ≤ s.fld (netPortHop l) NET_PORT_HOP_DMAX → s.fld (netPortHop l) NET_PORT_HOP_DMAX ≤ 440 →
        Completes (.lnkWidthGoWrite l v) s fun t =>
          t.flag (lnkEvent l) LNK_EVENT_WIDTH_REFUSED = true ∧ t.fld (lnkCtl l) LNK_CTL_WIDTH_GO = 0 ∧ t.link l = s.link l))


/-- Placing the logical lanes (R356): a lane whose physical lane is fit stays where it is, one that moves goes to the lowest free lane, and a
placement that succeeds puts every logical lane on a fit lane, no two on one if none shared one before. -/
def Obligations.LanePlacement : Prop :=
  ∀ (good free : Nat → Bool) (map m : List Nat), map.length = 8 → (∀ q, free q = true → good q = true) → placeLanes good free map = some m →
    m.length = 8 ∧ (∀ j < 8, good (nth 0 m j) = true) ∧ (∀ j < 8, good (nth 0 map j) = true → nth 0 m j = nth 0 map j) ∧
      (∀ j < 8, good (nth 0 map j) = false → free (nth 0 m j) = true ∧ ∀ q < nth 0 m j, free q = true → q ∈ map ∨ q ∈ m) ∧
      (map.Nodup → m.Nodup)

/-- Training (R350, R355, R356, R358): each step within its limit leads to the next; a lane locked and not failed, settled, not crossed; with
every lane fit the map stays and the width is eight, and with fewer it narrows or fails; the survey of 256 markers gives DELAY, turnaround and
spread; a step that exceeds its limit ends the attempt, which begins again 10 ms later. -/
def Obligations.LinkTraining : Prop :=
  ∀ (s : State) (l : Fin 24),
    (∀ locked : BitVec 10, s.atStep l 1 = true →
      let lk := locked.toNat - (locked.toNat &&& s.fld (lnkLaneCtl l) LNK_LANE_CTL_RX_FAILED)
      (lk ≠ 0 → Completes (.detect l locked) s fun t =>
        t.fld (lnkPhyStatus l) LNK_PHY_STATUS_STEP = 2 ∧ (t.link l).locked = lk ∧ (t.link l).stepTick = s.now ∧ t.lstate l = lsTraining) ∧
      (lk = 0 → Completes (.detect l locked) s fun t => t.regs = s.regs)) ∧
    (∀ settled : BitVec 10, s.atStep l 2 = true → settled.toNat &&& (s.link l).locked = (s.link l).locked →
      Completes (.equalise l settled) s fun t =>
        t.fld (lnkPhyStatus l) LNK_PHY_STATUS_STEP = 3 ∧ OnlyRegs (fun off => off = lnkPhyStatus l) s (t.setLink l (s.link l))) ∧
    (∀ crossed inverted : BitVec 10, s.atStep l 3 = true → (s.link l).locked < 1024 → Completes (.identifyLanes l crossed inverted) s fun t =>
      t.fld (lnkPhyStatus l) LNK_PHY_STATUS_STEP = 4 ∧
        ∀ k < 10, bit (t.fld (lnkPhyStatus l) LNK_PHY_STATUS_CROSSED) k = (bit crossed.toNat k && bit (s.link l).locked k) ∧
          bit (t.fld (lnkPhyStatus l) LNK_PHY_STATUS_POLARITY) k = (bit inverted.toNat k && bit (s.link l).locked k) ∧
          bit (t.fld (lnkPhyStatus l) LNK_PHY_STATUS_RX_GOOD) k = (bit (s.link l).locked k && !bit crossed.toNat k)) ∧
    (∀ g : BitVec 10, s.atStep l 4 = true →
      let rm := (List.range 8).map (s.rxLane l)
      let tm := (List.range 8).map (s.txLane l)
      let n := min ((List.range 10).filter (rxFit s l)).length ((List.range 10).filter (txFit s l g)).length
      let rp := placeLanes (rxFit s l) (fun k => rxFit s l k && !s.flag (lnkMargin l k) LNK_MARGIN_LOW) rm
      let tp := placeLanes (txFit s l g) (txFit s l g) tm
      (∀ r x, rp = some r → tp = some x → Completes (.place l g) s fun t =>
        t.fld (lnkStatus l) LNK_STATUS_WIDTH = 0 ∧ (t.link l).txWidth = 0 ∧ t.fld (lnkPhyStatus l) LNK_PHY_STATUS_STEP = 5 ∧
          ∀ j < 8, t.rxLane l j = nth 0 r j % 16 ∧ t.txLane l j = nth 0 x j % 16) ∧
      (rp = none ∨ tp = none → 2 ≤ n → Completes (.place l g) s fun t =>
        t.fld (lnkStatus l) LNK_STATUS_WIDTH = (if 4 ≤ n then 1 else 2) ∧ (t.link l).txWidth = (if 4 ≤ n then 1 else 2) ∧
          t.fld (lnkPhyStatus l) LNK_PHY_STATUS_STEP = 5 ∧
          ∀ j < (if 4 ≤ n then 4 else 2), rxFit s l (t.rxLane l j) = true ∧ txFit s l g (t.txLane l j) = true) ∧
      (rp = none ∨ tp = none → n < 2 → Completes (.place l g) s fun t =>
        t.fld (lnkPhyStatus l) LNK_PHY_STATUS_FAIL_STEP = 4 ∧ (t.link l).restart = some (s.now + 10000000) ∧
          t.fld (lnkPhyStatus l) LNK_PHY_STATUS_TRAIN_FAILS = bumped s (lnkPhyStatus l) LNK_PHY_STATUS_TRAIN_FAILS)) ∧
    (s.atStep l 5 = true →
      (s.isPool l = true ∨ s.fld (lnkStatus l) LNK_STATUS_WIDTH ≠ 0 → Completes (.align l) s fun t => t.lstate l = lsInit) ∧
      (s.isPool l = false → s.fld (lnkStatus l) LNK_STATUS_WIDTH = 0 → Completes (.align l) s fun t =>
        t.fld (lnkPhyStatus l) LNK_PHY_STATUS_STEP = 6 ∧ t.lstate l = lsTraining)) ∧
    (∀ samples : List (Nat × Nat), s.atStep l 6 = true → samples.length = 256 →
      let mean := sumNat (samples.map fun x => x.1 - x.2) / 512
      Completes (.survey l samples) s fun t =>
        t.lstate l = lsInit ∧ t.flag (lnkSurvey l) LNK_SURVEY_VALID = true ∧
          (t.flag (lnkSurvey l) LNK_SURVEY_OVER = true ↔ 16360 ≤ mean) ∧
          (mean < 16384 → t.fld (lnkSurvey l) LNK_SURVEY_DELAY_Q4 = mean) ∧
          (sumNat (samples.map (·.2)) / 256 < 65536 → t.fld (lnkSurvey l) LNK_SURVEY_TURN_Q4 = sumNat (samples.map (·.2)) / 256) ∧
          ∀ off, off ≠ lnkSurvey l → off ≠ lnkStatus l → off ≠ lnkPhyStatus l → t.rd off = s.rd off) ∧
    (∀ k, s.fld (lnkPhyStatus l) LNK_PHY_STATUS_STEP = k → s.lstate l = lsTraining → (s.link l).restart = none →
      (s.link l).stepTick + (if k = 1 then 2000000 else if k = 2 then 20000000 else 1000000) < s.now → Completes (.trainStepTimeout l) s fun t =>
        t.fld (lnkPhyStatus l) LNK_PHY_STATUS_FAIL_STEP = k ∧ (t.link l).restart = some (s.now + 10000000) ∧
          t.fld (lnkPhyStatus l) LNK_PHY_STATUS_TRAIN_FAILS = bumped s (lnkPhyStatus l) LNK_PHY_STATUS_TRAIN_FAILS) ∧
    (∀ at_, (s.link l).restart = some at_ → s.lstate l = lsTraining → at_ ≤ s.now → Completes (.trainRetry l) s fun t =>
      t.fld (lnkPhyStatus l) LNK_PHY_STATUS_STEP = 1 ∧ (t.link l).restart = none ∧ (t.link l).stepTick = s.now ∧ t.lstate l = lsTraining)

/-- Monitors and the writes of link ports (R234, R352 to R354, R359, R362): the margins of a lane and LOW against the floors; test-pattern errors
of an understudy; bias and power of a lit laser, WARN and FAIL; SOURCE names a laser only if no other lane has it; NET_PORT_MAP is written
only while the link is OFF; DELAY and DMAX are written, and H, VC0_OK and EFF_TIMEOUT follow. -/
def Obligations.LinkMonitorsAndWrites : Prop :=
  ∀ (s : State) (l : Fin 24),
    (∀ (k : Fin 10) (v h : BitVec 10) prbs, s.lstate l ≠ lsOff →
      (s.logicalOf l k = none ∨ s.lstate l ≠ lsUp ∨
        (s.fld (lnkMarginCtl l) LNK_MARGIN_CTL_V_FLOOR ≤ v.toNat ∧ s.fld (lnkMarginCtl l) LNK_MARGIN_CTL_H_FLOOR ≤ h.toNat)) →
      Completes (.eyeMonitor l k v h prbs) s fun t =>
        t.fld (lnkMargin l k) LNK_MARGIN_EYE_V = v.toNat ∧ t.fld (lnkMargin l k) LNK_MARGIN_EYE_H = h.toNat ∧
          (t.flag (lnkMargin l k) LNK_MARGIN_LOW = true ↔ v.toNat < s.fld (lnkMarginCtl l) LNK_MARGIN_CTL_V_FLOOR ∨
            h.toNat < s.fld (lnkMarginCtl l) LNK_MARGIN_CTL_H_FLOOR) ∧
          (s.flag (lnkMargin l k) LNK_MARGIN_UNDERSTUDY = true → t.fld (lnkMargin l k) LNK_MARGIN_PRBS_ERR =
            min (2 ^ 32 - 1) (s.fld (lnkMargin l k) LNK_MARGIN_PRBS_ERR + prbs)) ∧ OnlyRegs (fun off => off = lnkMargin l k) s t) ∧
    (∀ (k : Fin 10) (bias power : BitVec 8), 8 ≤ l.val → bit (s.link l).lit k = true → Completes (.laserMonitor l k bias power) s fun t =>
      let r := lnkLaser (l - 8) k
      t.fld r LNK_LASER_BIAS = bias.toNat ∧ t.fld r LNK_LASER_POWER = power.toNat ∧
        (140 ≤ bias.toNat → t.flag r LNK_LASER_WARN = true) ∧
        ((180 ≤ bias.toNat ∧ power.toInt < -4) ∨ power.toInt ≤ -12 →
          t.flag r LNK_LASER_FAIL = true ∧ bit (t.link l).lit k = false ∧ t.flag ctlHostAlert (bitF 11) = true)) ∧
    (∀ (k : Fin 10) (v : Word64), 8 ≤ l.val → s.takesWrites (lnkLaser (l - 8) k) = true →
      (s.laserTaken l k (getF v LNK_LASER_SOURCE) = false ∨ getF v LNK_LASER_SOURCE = 0 ∨ getF v LNK_LASER_SOURCE = 3 →
        Completes (.laserSourceWrite l k v) s fun t =>
          t.fld (lnkLaser (l - 8) k) LNK_LASER_SOURCE = getF v LNK_LASER_SOURCE ∧ t.fld (lnkLaser (l - 8) k) LNK_LASER_FAIL = 0 ∧
            OnlyRegs (fun off => off = lnkLaser (l - 8) k) s t) ∧
      (s.laserTaken l k (getF v LNK_LASER_SOURCE) = true → getF v LNK_LASER_SOURCE = 1 ∨ getF v LNK_LASER_SOURCE = 2 →
        Completes (.laserSourceWrite l k v) s fun t =>
          t.flag (lnkPhyStatus l) LNK_PHY_STATUS_LASER_REFUSED = true ∧ OnlyRegs (fun off => off = lnkPhyStatus l) s t)) ∧
    (∀ v : Word64, s.takesWrites (netPortMap l) = true →
      (s.lstate l = lsOff → Completes (.portMapWrite l v) s fun t =>
        t.fld (netPortMap l) NET_PORT_MAP_ROLE = getF v NET_PORT_MAP_ROLE ∧ t.fld (netPortMap l) NET_PORT_MAP_DIR = getF v NET_PORT_MAP_DIR ∧
          t.fld (netPortMap l) NET_PORT_MAP_POS = getF v NET_PORT_MAP_POS ∧ OnlyRegs (fun off => off = netPortMap l) s t) ∧
      (s.lstate l ≠ lsOff → Completes (.portMapWrite l v) s fun t =>
        t.flag netMapStat NET_MAP_STAT_MAP_WRITE_REFUSED = true ∧ OnlyRegs (fun off => off = netMapStat) s t)) ∧
    (∀ v : Word64, s.takesWrites (netPortHop l) = true → s.fld (lnkStatus l) LNK_STATUS_WIDTH = 0 →
      s.fld (netPortMap l) NET_PORT_MAP_ROLE = 1 → Completes (.delayWrite l v) s fun t =>
      let d := getF v NET_PORT_HOP_DELAY
      let m := s.fld (netPortHop l) NET_PORT_HOP_DMAX
      t.fld (netPortHop l) NET_PORT_HOP_DELAY = d ∧ t.fld (netPortHop l) NET_PORT_HOP_DMAX = m ∧
        (t.vc0Ok l = true ↔ d ≠ 0x3FF ∧ d ≤ m ∧ m ≤ 440) ∧
        OnlyRegs (fun off => off = netPortHop l ∨ off = lnkStatus l) s t) ∧
    (∀ v : Word64, s.takesWrites (netPortHop l) = true → (s.fld (lnkStatus l) LNK_STATUS_WIDTH ≠ 0 ∨ s.fld (netPortMap l) NET_PORT_MAP_ROLE ≠ 1) →
      getF v NET_PORT_HOP_DELAY ≠ 0x3FF → Completes (.delayWrite l v) s fun t =>
        t.fld (netPortHop l) NET_PORT_HOP_DELAY = s.fld (netPortHop l) NET_PORT_HOP_DELAY) ∧
    (∀ v : Word64, s.takesWrites (netPortHop l) = true → Completes (.dmaxWrite l v) s fun t =>
      let m := getF v NET_PORT_HOP_DMAX
      t.fld (netPortHop l) NET_PORT_HOP_DMAX = m ∧ t.fld (netPortHop l) NET_PORT_HOP_DELAY = s.fld (netPortHop l) NET_PORT_HOP_DELAY ∧
        (m ≤ 440 → t.fld (netPortHop l) NET_PORT_HOP_H = (7 * (364 + 3 * m) + 7) / 8) ∧
        OnlyRegs (fun off => off = netPortHop l ∨ off = lnkStatus l) s t)


/-! ### Huawald time (chapter 10) -/

/-- Samples and the servo (R380 to R383, R387, R390): a stamp gives offset and delay; one that passes the tests joins the samples, one with a bad
delay is counted, one that jumps refuses its link; the first sample of an acquisition is kept, the second steps the counter by whole grid
periods and sets the rate; the servo run forms the mean of the latest samples, moves the integrator and the trim within ±300 ppm, locks after
64 good runs, unlocks after 4 bad ones, holds without samples, and does nothing while REFCLK_T is absent. -/
def Obligations.TimeServoAndSamples : Prop :=
  ∀ (s : State),
    (∀ (l : Fin 24) (c : LctlIn), (s.link l).lctlIn.find? (fun x => decide (x.ctype = 2)) = some c → s.lstate l = lsUp → s.timLost = false →
      let t1 := leAt c.body 0 8
      let t2 := 16 * c.tick + c.frac
      let t3 := leAt c.body 8 8
      let t4 := leAt c.body 16 8
      let theta : Int := (((t2 : Int) - t1) - ((t4 : Int) - t3)).tdiv 2
      let delay : Int := (((t2 : Int) - t1) + ((t4 : Int) - t3)).tdiv 2 - 480
      let d := s.fld (netPortHop l) NET_PORT_HOP_DELAY
      let fit := t3 ∈ (s.link l).sentStamps ∧ bit (s.fld timServo TIM_SERVO_MASK) l = true ∧ s.fld (netPortMap l) NET_PORT_MAP_ROLE = 1 ∧
        s.fld (lnkStatus l) LNK_STATUS_WIDTH = 0 ∧ d ≠ 0x3FF
      let near := (delay - 16 * d).natAbs ≤ 16 * s.fld timServo TIM_SERVO_DELAY_TOL
      (s.tim.base < tsAcquiring → Completes (.lctlTimestamp l) s fun t =>
        (t.link l).stamp = (t1, t2) ∧ t.flag (timLink l) TIM_LINK_FRESH = true ∧ t.flag (timLink l) TIM_LINK_USED = false ∧
          t.fld (timLink l) TIM_LINK_DELAY_Q4 = min 65535 delay.toNat ∧
          (fitsInt 32 theta = true → t.fld (timLink l) TIM_LINK_THETA = ofInt 32 theta) ∧ t.tim = s.tim ∧
          ∀ off, off ≠ timLink l → t.rd off = s.rd off) ∧
      (tsLocking ≤ s.tim.base → fit →
        (near → bit (s.fld timRefused TIM_REFUSED_LINKS) l = false → theta.natAbs ≤ 16 * max 8 (s.fld timServo TIM_SERVO_JUMP_THRESH) →
          Completes (.lctlTimestamp l) s fun t =>
            t.flag (timLink l) TIM_LINK_USED = true ∧ t.tim.samples = s.tim.samples ++ [(t2, l.val, theta)] ∧
              t.tim.base = (if s.tim.base = tsHold then tsLocking else s.tim.base)) ∧
        (near → bit (s.fld timRefused TIM_REFUSED_LINKS) l = false → 16 * max 8 (s.fld timServo TIM_SERVO_JUMP_THRESH) < theta.natAbs →
          Completes (.lctlTimestamp l) s fun t =>
            bit (t.fld timRefused TIM_REFUSED_LINKS) l = true ∧ t.flag timStat TIM_STAT_JUMP = true ∧ t.fld timStat TIM_STAT_JUMP_LINK = l ∧
              t.tim.samples = s.tim.samples) ∧
        (¬ near → Completes (.lctlTimestamp l) s fun t =>
          t.fld (timLink l) TIM_LINK_BAD_DELAY = bumped s (timLink l) TIM_LINK_BAD_DELAY ∧ t.tim.samples = s.tim.samples)) ∧
      (s.tim.base = tsAcquiring → s.fld timCtl TIM_CTL_ACQ_LINK = l → fit → near →
        (s.tim.acq = none → Completes (.lctlTimestamp l) s fun t => t.tim.acq = some (theta, t2) ∧ t.now = s.now) ∧
        (∀ th0 a0, s.tim.acq = some (th0, a0) → (-theta + 64) % 128 ≠ 0 → t2 ≠ a0 → Completes (.lctlTimestamp l) s fun t =>
          t.now = ((s.now : Int) + 8 * ((-theta + 64) / 128)).toNat % 2 ^ 64 ∧ t.tim.base = tsLocking ∧
            t.fld timStat TIM_STAT_STATE = tsLocking ∧ t.flag timCtl TIM_CTL_ACQUIRE = false ∧
            t.fld timTrim TIM_TRIM_INTEG = ofInt 32 (clampTrim (((theta - th0) * 2 ^ 32).tdiv ((t2 : Int) - a0)))))) ∧
    (2048 ≤ s.now → s.tim.lastRun ≤ (s.now - 2048) / 4096 →
      let k := (s.now - 2048) / 4096
      let cut := 16 * (4096 * k + 2048) / 10
      let use := (List.range 24).filterMap (lastSample (s.tim.samples.filter fun x => decide (x.1 / 10 < cut)))
      let e : Int := (use.foldl (· + ·) 0).tdiv use.length
      let kp := max 2 (s.fld timServo TIM_SERVO_KP_SHIFT)
      let ki := max (kp + 2) (s.fld timServo TIM_SERVO_KI_SHIFT)
      let integ := toSigned 32 (s.fld timTrim TIM_TRIM_INTEG) + (e * 2 ^ 16).tdiv (2 ^ ki)
      (s.timLost = true → Completes .servoRun s fun t => t.regs = s.regs ∧ t.tim.lastRun = k + 1) ∧
      (s.timLost = false → tsLocking ≤ s.tim.base → use = [] → Completes .servoRun s fun t =>
        t.tim.base = tsHold ∧ t.fld timStat TIM_STAT_STATE = tsHold ∧ t.rd timTrim = s.rd timTrim) ∧
      (s.timLost = false → tsLocking ≤ s.tim.base → use ≠ [] → fitsInt 32 integ = true → Completes .servoRun s fun t =>
        t.fld timTrim TIM_TRIM_INTEG = ofInt 32 integ ∧
          t.fld timTrim TIM_TRIM_TRIM = ofInt 32 (clampTrim (-((e * 2 ^ 16).tdiv (2 ^ kp) + integ))) ∧
          (fitsInt 32 e = true → t.fld timStat TIM_STAT_OFFSET = ofInt 32 e) ∧
          t.tim.base =
            (if s.tim.base = tsHold then tsLocking
             else if s.tim.base = tsLocking then (if e.natAbs ≤ 8 ∧ 63 ≤ s.tim.good then tsLocked else tsLocking)
             else if 16 < e.natAbs ∧ 3 ≤ s.tim.bad then tsLocking else s.tim.base) ∧
          (s.tim.base = tsLocked → 16 < e.natAbs → 3 ≤ s.tim.bad → t.flag timStat TIM_STAT_LOCK_LOST = true)))

/-- Control of time (R385, R386, R388 to R392, R395, R397): the benchmark device, an acquisition, a slice step and the release of the trim are
asked for by writes to TIM_CTL, and refused while a channel runs or VC0 is enabled; the step takes the counter to TO; a released trim slews
toward 0; refusals are cleared; REFCLK_T lost and returned; a hold that lasts too long raises TIME; counted mode takes up slips. How far one
slew moves the trim is open within R386 (log entry 35). -/
def Obligations.TimeControl : Prop :=
  ∀ (s : State),
    (∀ v : Word64, s.takesWrites timCtl = true → getF v TIM_CTL_ACQUIRE = 0 → getF v TIM_CTL_REBASE_ARM = 0 → getF v TIM_CTL_RELEASE = 0 → s.timLost = false →
      (s.flag timCtl TIM_CTL_BENCHMARK = false → getF v TIM_CTL_BENCHMARK = 1 → Completes (.benchmarkWrite v) s fun t =>
        t.tim.base = tsBench ∧ t.fld timStat TIM_STAT_STATE = tsBench ∧ t.flag timCtl TIM_CTL_BENCHMARK = true ∧
          t.flag timCtl TIM_CTL_ACQUIRE = false) ∧
      (s.flag timCtl TIM_CTL_BENCHMARK = true → getF v TIM_CTL_BENCHMARK = 0 → s.tim.base = tsBench → Completes (.benchmarkWrite v) s fun t =>
        t.tim.base = tsLocking ∧ t.fld timStat TIM_STAT_STATE = tsLocking)) ∧
    (∀ v : Word64, s.takesWrites timCtl = true → s.mayRebase = false →
      (Completes (.acquireWrite v) s fun t => t.flag timStat TIM_STAT_REBASE_REFUSED = true ∧ OnlyRegs (fun off => off = timStat) s t) ∧
      (Completes (.rebaseArmWrite v) s fun t => t.flag timStat TIM_STAT_REBASE_REFUSED = true ∧ OnlyRegs (fun off => off = timStat) s t) ∧
      (Completes (.timReleaseWrite v) s fun t => t.flag timStat TIM_STAT_REBASE_REFUSED = true ∧ OnlyRegs (fun off => off = timStat) s t)) ∧
    (∀ v : Word64, s.takesWrites timCtl = true → s.mayRebase = true → getF v TIM_CTL_BENCHMARK = s.fld timCtl TIM_CTL_BENCHMARK →
      (getF v TIM_CTL_REBASE_ARM = 0 → getF v TIM_CTL_RELEASE = 0 → s.tim.base = tsFree → s.timLost = false →
        s.flag timCtl TIM_CTL_BENCHMARK = false → s.flag timCtl TIM_CTL_ACQUIRE = false → Completes (.acquireWrite v) s fun t =>
          t.tim.base = tsAcquiring ∧ t.flag timCtl TIM_CTL_ACQUIRE = true ∧ t.fld timCtl TIM_CTL_ACQ_LINK = getF v TIM_CTL_ACQ_LINK ∧
            t.tim.acq = none) ∧
      (getF v TIM_CTL_ACQUIRE = 0 → getF v TIM_CTL_RELEASE = 0 →
        (s.rebaseOk = true → Completes (.rebaseArmWrite v) s fun t =>
          t.flag timCtl TIM_CTL_REBASE_ARM = true ∧ OnlyRegs (fun off => off = timCtl) s t) ∧
        (s.rebaseOk = false → Completes (.rebaseArmWrite v) s fun t =>
          t.flag timStat TIM_STAT_REBASE_REFUSED = true ∧ OnlyRegs (fun off => off = timStat) s t)) ∧
      (getF v TIM_CTL_ACQUIRE = 0 → getF v TIM_CTL_REBASE_ARM = 0 → Completes (.timReleaseWrite v) s fun t =>
        (t.flag timCtl TIM_CTL_RELEASE = true ↔ s.flag timCtl TIM_CTL_BENCHMARK = true ∧ s.fld timTrim TIM_TRIM_TRIM ≠ 0) ∧
          t.rd timTrim = s.rd timTrim)) ∧
    (s.flag timCtl TIM_CTL_REBASE_ARM = true → (s.rd timRebaseAt).toNat ≤ s.now → Completes .rebaseStep s fun t =>
      t.now = ((s.rd timRebaseTo).toNat + (s.now - (s.rd timRebaseAt).toNat)) % 2 ^ 64 ∧ t.flag timCtl TIM_CTL_REBASE_ARM = false ∧
        t.rd timRebaseAt = ~~~0) ∧
    (s.flag timCtl TIM_CTL_RELEASE = true → s.flag timCtl TIM_CTL_BENCHMARK = true → s.timLost = false → s.tim.slewTick + 1000000 ≤ s.now →
      Completes .trimSlew s fun t =>
        let x := toSigned 32 (s.fld timTrim TIM_TRIM_TRIM)
        let y := toSigned 32 (t.fld timTrim TIM_TRIM_TRIM)
        0 ≤ x * y ∧ x.natAbs ≤ y.natAbs + 4294 ∧ (x ≠ 0 → y.natAbs < x.natAbs) ∧ (y = 0 → t.flag timCtl TIM_CTL_RELEASE = false) ∧
          t.tim.slewTick = s.now) ∧
    (∀ v : Word64, s.takesWrites timRefused = true → v &&& s.rd timRefused ≠ 0 →
      (s.mayRebase = true → Completes (.timRefusedClear v) s fun t =>
        (∀ l < 24, bit (t.fld timRefused TIM_REFUSED_LINKS) l = (bit (s.fld timRefused TIM_REFUSED_LINKS) l && !bit v.toNat l)) ∧
          OnlyRegs (fun off => off = timRefused) s t) ∧
      (s.mayRebase = false → Completes (.timRefusedClear v) s fun t =>
        t.flag timStat TIM_STAT_REBASE_REFUSED = true ∧ OnlyRegs (fun off => off = timStat) s t)) ∧
    (s.timLost = false → Completes .refclkTLoss s fun t =>
      t.timLost = true ∧ t.fld timStat TIM_STAT_STATE = tsHoldover ∧ t.tim.holdSince = some s.now ∧ t.tim.samples = [] ∧
        t.rd timTrim = s.rd timTrim ∧ t.flag timCtl TIM_CTL_ACQUIRE = false) ∧
    (∀ at_, s.timLost = true → s.tim.holdSince = some at_ → Completes .refclkTReturn s fun t =>
      t.timLost = false ∧
        (let late := at_ + s.holdTicks ≤ s.now
         (s.flag timCtl TIM_CTL_BENCHMARK = true → t.tim.base = tsBench) ∧
         (s.flag timCtl TIM_CTL_BENCHMARK = false → late → t.tim.base = tsFree ∧ t.rd timTrim = 0) ∧
         (s.flag timCtl TIM_CTL_BENCHMARK = false → ¬ late → t.tim.base = tsLocking)) ∧
        t.fld timStat TIM_STAT_STATE = t.tim.base) ∧
    (∀ at_, s.tim.holdSince = some at_ → s.tim.expired = false →
      ((s.timLost = true ∧ at_ + s.holdTicks ≤ s.now) ∨
        (s.timLost = false ∧ s.tim.base = tsHold ∧ s.anyRunning = true ∧ at_ + s.holdTicks < s.now)) → Completes .holdExpired s fun t =>
          t.flag timStat TIM_STAT_HOLD_EXPIRED = true ∧ t.flag safFault (bitF 12) = true ∧ t.tim.expired = true) ∧
    (∀ (n : Fin 8) (err : Int), s.running n = true → (s.chan n).applied.counted = true → Completes (.countedCompare n err) s fun t =>
      (fitsInt 16 err = true → t.fld (timCnt n) TIM_CNT_ERR = ofInt 16 err) ∧
        (let slip : Int := if err < 0 then -1 else if 8000 < err * s.arithMHz n then 1 else 0
         (t.chan n).grid0 = (s.chan n).grid0 + slip ∧
           t.fld (timCnt n) TIM_CNT_SLIPS = if slip = 0 then s.fld (timCnt n) TIM_CNT_SLIPS else bumped s (timCnt n) TIM_CNT_SLIPS))


/-! ### Safety (chapter 11) -/

/-- Raising a cause (R413, R414, R417, R445, R446): its bit and the alert are set; SAF_FIRST takes the first cause with its unit, detail and
tick, and keeps it; an armed device in its normal state enters the curtain, one not armed does so for a halt cause only. -/
def Obligations.RaisingACause : Prop :=
  ∀ (s : State) (code unit detail : Nat), 1 ≤ code → code ≤ 16 → unit < 256 →
    let t := s.raiseCause code unit detail none
    Raised t code unit ∧
    (s.flag safFirst SAF_FIRST_VALID = false →
      t.fld safFirst SAF_FIRST_CAUSE = code ∧ t.fld safFirst SAF_FIRST_UNIT = unit ∧ t.fld safFirst SAF_FIRST_DETAIL = detail % 2 ^ 32 ∧
        t.flag safFirst SAF_FIRST_VALID = true ∧ t.rd safFirstTick = s.rd timNow ∧
        t.fld safFirst SAF_FIRST_ORIGIN = s.fld netPlace NET_PLACE_DEVICE_ID) ∧
    (s.firstYields code = false → t.rd safFirst = s.rd safFirst ∧ t.rd safFirstTick = s.rd safFirstTick) ∧
    (s.fld safStat SAF_STAT_STATE = 0 → s.flag safCtl SAF_CTL_ARMED = true ∨ haltCode code = true →
      t.fld safStat SAF_STAT_STATE = 1 ∧ t.saf.entry = some s.now) ∧
    (s.flag safCtl SAF_CTL_ARMED = false → haltCode code = false →
      t.fld safStat SAF_STAT_STATE = s.fld safStat SAF_STAT_STATE ∧ t.saf.entry = s.saf.entry ∧ t.ch = s.ch) ∧
    t.mem = s.mem ∧ t.net = s.net ∧ t.lnk = s.lnk

/-- The curtain and the halt (R413, R415 to R419, R422, R446, R447): firmware raises only the causes of R446; a notice of another slice is
counted, one for an armed device in its normal state raises NOTICE and is recorded, another is a duplicate; STOP_US after entry every channel
stops; with none running VC0_EN is cleared; a halt cause takes the links down and memory into self-refresh; a lockstep mismatch halts. -/
def Obligations.CurtainAndHalt : Prop :=
  ∀ (s : State),
    (∀ v : Word64, s.takesWrites safRaise = true →
      (getF v SAF_RAISE_CAUSE = 7 ∨ getF v SAF_RAISE_CAUSE = 8 ∨ getF v SAF_RAISE_CAUSE = 14 ∨ getF v SAF_RAISE_CAUSE = 15 →
        Completes (.safRaiseWrite v) s fun t =>
          Raised t (getF v SAF_RAISE_CAUSE) (getF v SAF_RAISE_UNIT) ∧
            (s.flag safCtl SAF_CTL_ARMED = true → s.fld safStat SAF_STAT_STATE = 0 → t.fld safStat SAF_STAT_STATE = 1)) ∧
      (getF v SAF_RAISE_CAUSE ∉ [7, 8, 14, 15] → Completes (.safRaiseWrite v) s fun t => t = s)) ∧
    (∀ nt port tick rest, s.saf.inbox = (nt, port, tick) :: rest →
      let ours := nt.slice = s.fld netPlace NET_PLACE_SLICE_ID
      let acts := s.flag safCtl SAF_CTL_ARMED = true ∧ s.fld safStat SAF_STAT_STATE = 0
      (¬ ours → Completes .curtainNotice s fun t =>
        t.fld safStat SAF_STAT_FOREIGN = bumped s safStat SAF_STAT_FOREIGN ∧ t.saf.inbox = rest ∧
          ∀ off, off ≠ safStat → t.rd off = s.rd off) ∧
      (ours → acts → s.saf.noticed = false → nt.origin < 4096 → nt.cause < 256 → nt.unit < 256 → port < 32 →
        Completes .curtainNotice s fun t =>
          Raised t 13 0 ∧ t.fld safStat SAF_STAT_STATE = 1 ∧ t.saf.inbox = rest ∧ t.saf.noticed = true ∧
            t.fld safNotice SAF_NOTICE_ORIGIN = nt.origin ∧ t.fld safNotice SAF_NOTICE_CAUSE = nt.cause ∧
            t.fld safNotice SAF_NOTICE_UNIT = nt.unit ∧ t.fld safNotice SAF_NOTICE_LINK = port) ∧
      (ours → ¬ acts → Completes .curtainNotice s fun t =>
        t.fld safStat SAF_STAT_DUPLICATE = bumped s safStat SAF_STAT_DUPLICATE ∧ t.saf.inbox = rest ∧
          ∀ off, off ≠ safStat → t.rd off = s.rd off)) ∧
    (∀ at_, s.saf.entry = some at_ → at_ + s.stopTicks ≤ s.now → Completes .curtainStopTimeout s fun t =>
      t.anyRunning = false ∧ (∀ n : Fin 8, s.running n = true → t.fld (chStatus n) CH_STATUS_STATE = stIdle) ∧
        (∀ n : Fin 8, s.running n = false → t.chan n = s.chan n)) ∧
    (s.saf.entry ≠ none → s.saf.stopped = false → s.anyRunning = false → Completes .curtainChannelsStopped s fun t =>
      t.flag netFabCtl NET_FAB_CTL_VC0_EN = false ∧ t.saf.stopped = true ∧ t.ch = s.ch) ∧
    (s.saf.haltCause = true → s.saf.haltSteps = false →
      (s.saf.notices = [] ∨ s.saf.entry = none ∨ ∃ at_, s.saf.entry = some at_ ∧ at_ + 50000 ≤ s.now) → Completes .haltEnter s fun t =>
        t.saf.haltSteps = true ∧ t.mem.selfRefresh = true ∧ (∀ c < 128, t.fld (mcChStatus c) MC_CH_STATUS_STATE ≠ 1) ∧ (∀ l : Fin 24, t.lstate l = lsOff ∧ (t.link l).ring = []) ∧
          (s.anyRunning = false → s.flag netFabCtl NET_FAB_CTL_VC0_EN = false → t.fld safStat SAF_STAT_STATE = 2)) ∧
    (s.heldReset = false → Completes .lockstepMismatch s fun t =>
      Raised t 9 0 ∧ t.saf.haltCause = true ∧ (s.fld safStat SAF_STAT_STATE = 0 → t.fld safStat SAF_STAT_STATE = 1))

/-- The control cores (R422, R453, R454, R462): a kick is noted for its core; a core that does not kick is marked failed and its understudy
released; the understudy takes its role, its commands end in CORE_LOST and the core is recorded; two cores' equal posts within 10 µs write a
register once; posts that differ, or that find no pair, write nothing and raise CONTROL. -/
def Obligations.ControlCores : Prop :=
  ∀ (s : State) (c : Fin 5),
    (∀ v : Word64, s.heldReset = false →
      (∀ k : Fin 5, getF v SAF_KICK_CORE = k.val → Completes (.safKick v) s fun t =>
        t = { s with saf := { s.saf with kicks := s.saf.kicks.set k.val s.now } }) ∧
      (5 ≤ getF v SAF_KICK_CORE → Completes (.safKick v) s fun t => t = s)) ∧
    (s.fld (ctlCore c) CTL_CORE_STATE = 1 → s.saf.kicks[c] + 1000000 * max 1 (s.fld safCtl SAF_CTL_WDOG_MS) ≤ s.now →
      Completes (.watchdogExpiry c) s fun t =>
        t.fld (ctlCore c) CTL_CORE_STATE = 2 ∧ Raised t 8 c ∧ bit (t.fld safStat SAF_STAT_CORE_FAILED) c = true ∧
          ∀ u, (List.range 5).find? (fun c => decide (s.fld (ctlCore c) CTL_CORE_UNDERSTUDY = 1 ∧ s.fld (ctlCore c) CTL_CORE_STATE = 0)) = some u →
            t.fld (ctlCore u) CTL_CORE_STATE = 1) ∧
    (s.roleLost c = true → s.heldReset = false →
      (∀ u, (List.range 5).find? (fun c => decide (s.fld (ctlCore c) CTL_CORE_STATE = 1 ∧ s.fld (ctlCore c) CTL_CORE_UNDERSTUDY = 1)) = some u →
        Completes (.coreTakeover c) s fun t =>
          t.fld (ctlCore u) CTL_CORE_ROLE = s.fld (ctlCore c) CTL_CORE_ROLE ∧ t.flag (ctlCore u) CTL_CORE_UNDERSTUDY = false ∧
            ⟨7, c, 0, 0⟩ ∈ t.fw.retired ∧
            ∀ (m : Fin 16) k, s.mbState m = 2 → cmdOf (s.mbOp m) = some k → k.role = s.fld (ctlCore c) CTL_CORE_ROLE → k.op ≠ 0x0021 →
              k.op ≠ 0x0026 → Ended t m 5) ∧
      ((List.range 5).find? (fun c => decide (s.fld (ctlCore c) CTL_CORE_STATE = 1 ∧ s.fld (ctlCore c) CTL_CORE_UNDERSTUDY = 1)) = none →
        Completes (.coreTakeover c) s fun t => ⟨7, c, 0, 0⟩ ∈ t.fw.retired ∧ t.flag ctlHostAlert (bitF 9) = true)) ∧
    (∀ v : Word64, s.fld (ctlCore c) CTL_CORE_STATE = 1 →
      (s.saf.post = none → Completes (.ctlPostData c v) s fun t =>
        t.saf.post = some (c.val, s.saf.postAddr[c], v, s.now) ∧ t.flag ctlPostStat CTL_POST_STAT_PENDING = true ∧
          OnlyRegs (fun off => off = ctlPostStat) { s with saf := t.saf } t) ∧
      (∀ d off w at_, s.saf.post = some (d, off, w, at_) → s.now < at_ + 10000 →
        (∀ n : Fin 8, d ≠ c.val → off = s.saf.postAddr[c] → w = v → off = chSrSeed n → s.takesWrites off = true →
          Completes (.ctlPostData c v) s fun t =>
            t.rd off = v ∧ t.saf.post = none ∧ t.flag ctlPostStat CTL_POST_STAT_PENDING = false ∧
              t.fld ctlPostStat CTL_POST_STAT_COMMITS = (s.fld ctlPostStat CTL_POST_STAT_COMMITS + 1) % 2 ^ 32) ∧
        (d = c.val ∨ off ≠ s.saf.postAddr[c] ∨ w ≠ v → Completes (.ctlPostData c v) s fun t =>
          Raised t 8 c ∧ t.flag ctlPostStat CTL_POST_STAT_MISMATCH = true ∧ t.saf.post = none))) ∧
    (∀ d off w at_, s.saf.post = some (d, off, w, at_) → at_ + 10000 ≤ s.now → Completes .postPairTimeout s fun t =>
      Raised t 8 d ∧ t.flag ctlPostStat CTL_POST_STAT_SINGLE = true ∧ t.saf.post = none ∧
        t.flag ctlPostStat CTL_POST_STAT_PENDING = false)

/-- An intermission (R81, R155, R427 to R432, R474, R475): the self-tests pass or fail engines; once the counts have crossed and its accesses are granted the
capture writes every channel's block and the device record and goes to step 5, or fails, as on a word that cannot be read, a fault of its channel; the
copies clear the dirty bits, set DIRTY_VALID and go to step 7, or fail. -/
def Obligations.IntermissionSteps : Prop :=
  ∀ (s : State),
    (∀ (n : Fin 8) (f : BitVec 17), s.fld safInt SAF_INT_STEP = 2 →
      (f = 0 → Completes (.selfTestDone n f) s fun t =>
        n.val ∈ t.fw.int.tested ∧ (t.chan n).sram = (s.chan n).sram ∧ (t.chan n).sregs = (s.chan n).sregs ∧ t.mem = s.mem ∧
          ∀ off, off ≠ safInt → t.rd off = s.rd off) ∧
      (f ≠ 0 → Completes (.selfTestDone n f) s fun t =>
        Raised t 15 n ∧ t.fld safInt SAF_INT_BIST_FAIL = s.fld safInt SAF_INT_BIST_FAIL ||| f.toNat ∧ n.val ∈ t.fw.int.tested)) ∧
    (s.fld safInt SAF_INT_STEP = 3 → s.memUsable = true →
      let u := (fins 8).foldl State.landAll s
      let g := (u.arbAccesses u.captureArbs).1
      let w := (fins 8).foldl (fun s n => s.memWrite (s.snapBlock n) (s.snapRead n []).1 []) g
      u.fld safInt SAF_INT_STEP = 3 →
      ((fins 8).all u.mayCapture = false → Completes (.captureDone []) s fun t => Raised t 14 0 ∧ t.fld safInt SAF_INT_STEP = 0) ∧
      ((fins 8).all u.mayCapture = true → (fins 8).all u.countsCrossed = true → Granted u u.captureArbs →
        (Completes (.captureDone []) s fun t =>
          t.fld safInt SAF_INT_STEP = 5 ∧ t.mem = (w.memWrite w.devRecord w.recordBytes []).mem ∧ t.ch = g.ch) ∧
        ∀ (n : Fin 8) (x : ReadErr),
          ((∃ y ∈ (g.snapRead n [x]).2.1, y.2 = .bad) → Completes (.captureDone [(n, x)]) s fun t =>
            t.flag (chFault n) (bitF 6) = true ∧ t.flag safFault (bitF n.val) = true ∧ t.fld safInt SAF_INT_STEP = 0) ∧
          (.bad ∈ (g.snapRead n [x]).2.2 → Completes (.captureDone [(n, x)]) s fun t =>
            t.flag (chFault n) (bitF 11) = true ∧ t.flag safFault (bitF n.val) = true ∧ t.fld safInt SAF_INT_STEP = 0))) ∧
    (s.fw.int.copying = true → s.fw.int.sent = true → s.memUsable = true →
      (s.copyFlow.stalled = true → Completes (.copyEngineDone []) s fun t => Raised t 14 0 ∧ t.fw.int.copying = false) ∧
      (∀ errs, s.copyFlow.stalled = false → s.copyFlow.await = none → s.copyFlow.held = [] →
        Granted s (s.pageArbs s.dirtyPages 0 false ++ s.pageArbs s.dirtyPages s.ckpt true) →
        ((s.copyPages s.dirtyPages 0 s.ckpt errs).2 = none → s.fld safInt SAF_INT_STEP = 6 → Completes (.copyEngineDone errs) s fun t =>
          t.fld safInt SAF_INT_STEP = 7 ∧ t.flag safInt SAF_INT_DIRTY_VALID = true ∧ t.mem.dirty = [] ∧ t.fw.int.copying = false ∧
            t.mem.bytes = (s.copyPages s.dirtyPages 0 s.ckpt errs).1.mem.bytes) ∧
        (∀ c, (s.copyPages s.dirtyPages 0 s.ckpt errs).2 = some c → Completes (.copyEngineDone errs) s fun t =>
          Raised t 2 0 ∧ t.fw.int.copying = false)))

/-- The messages of firmware (R427, R431, R455, R467 to R469, R474, R478): each is taken once; the coordinator counts CAPTURED and DONE and,
with one from every device, goes on; COPY begins the copies; RESUME and HOLD commit the intermission; COPY_DONE is noted; STEP arms the slice
step of a restore; HOST is held for the host, which is alerted. -/
def Obligations.FirmwareMessages : Prop :=
  ∀ (s : State) (m : Msg),
    (Waits s msCaptured m → s.coordinates = true → s.fld safStat SAF_STAT_STATE = 0 → Completes .msgCaptured s fun t =>
      Took s t m ∧ t.fw.int.captured = noteSent s.fw.int.captured m.k m.src ∧
        t.fw.int.copySent = if s.allSent (noteSent s.fw.int.captured m.k m.src) m.k then m.k else s.fw.int.copySent) ∧
    (Waits s msCopy m → s.fld safInt SAF_INT_STEP = 5 → s.fw.int.k = m.k → s.flag netUnsCtl NET_UNS_CTL_INJECT_STOP = true →
      Completes (.msgCopy []) s fun t => Took s t m ∧ t.fld safInt SAF_INT_STEP = 6 ∧ t.fw.int.copying = true ∧ t.fw.int.sent = false) ∧
    (Waits s msDone m → s.coordinates = true → s.fld safStat SAF_STAT_STATE = 0 → bit m.flags 0 = false →
      (s.allSent (noteSent s.fw.int.done m.k m.src) m.k = false → Completes .msgDone s fun t =>
        Took s t m ∧ t.fw.int = { s.fw.int with done := noteSent s.fw.int.done m.k m.src }) ∧
      (s.allSent (noteSent s.fw.int.done m.k m.src) m.k = true → Completes .msgDone s fun t =>
        Took s t m ∧ t.fw.int = { s.fw.int with done := [], captured := [], doneTick := s.now, holdReq := false })) ∧
    (∀ errs, Waits s msResume m → s.fld safInt SAF_INT_STEP = 7 → s.fw.int.k = m.k → m.k < 65536 → Completes (.msgResume errs) s fun t =>
      Took s t m ∧ t.fw.int.committed = m.k ∧ t.fld safInt SAF_INT_COMMITTED = m.k ∧ t.fld safInt SAF_INT_STEP = 0 ∧
        t.fw.run = s.fw.run.map fun r => { r with t0 := leAt m.body 8 8 }) ∧
    (Waits s msHold m → s.fld safInt SAF_INT_STEP = 7 → s.fw.int.k = m.k → m.k < 65536 → Completes .msgHold s fun t =>
      Took s t m ∧ t.fw.int.committed = m.k ∧ t.fld safInt SAF_INT_COMMITTED = m.k ∧ t.fld safInt SAF_INT_STEP = 0 ∧ t.ch = s.ch ∧
        t.fw.run = s.fw.run.map fun r => { r with state := 6, going := false }) ∧
    (Waits s msCopyDone m → Completes .msgCopyDone s fun t =>
      Took s t m ∧ t.fw.int = { s.fw.int with copyDone := noteSent s.fw.int.copyDone m.k (leAt m.body 8 1) }) ∧
    (∀ errs, Waits s msStep m → bit m.flags 0 = true → s.fw.int.resumeAt = none → s.fw.run.map (·.state) = some 7 → Completes (.msgStep errs) s fun t =>
      Took s t m ∧ t.fw.int.resumeAt = some (leAt m.body 16 8) ∧ t.rd timRebaseAt = BitVec.ofNat 64 (leAt m.body 8 8) ∧
        t.rd timRebaseTo = BitVec.ofNat 64 (leAt m.body 16 8 - 2048000 + leAt m.body 8 8 % 512000)) ∧
    (Waits s msHost m → Completes .msgHost s fun t =>
      Took s t m ∧ t.flag ctlHostAlert (bitF 10) = true ∧
        t.fw.hostMsgs = (s.fw.hostMsgs ++ [(m.src, m.body)]).drop (s.fw.hostMsgs.length + 1 - 64))


/-! ### Mailboxes (chapter 12) -/

/-- The mailbox protocol (R457 to R464, R485, R525): a new SUBMIT value is accepted once no command is carried out: STATE 1, SEQ, ERROR and
PROGRESS 0, the result window zero, the command area copied; an opcode that is not known ends in UNKNOWN, one that mailbox 0 or the mode may not
carry out in NOT_ALLOWED; a command that needs the compute dies ends IDLE; words of control SRAM read on the way that cannot be corrected raise CONTROL (R179). A command whose conditions do not hold is refused by name, changing
nothing else (log entry 26 gives the order). An aborted acquisition is abandoned and an aborted message not yet sent is given up (log entry 47). -/
def Obligations.MailboxAcceptsAndRefuses : Prop :=
  ∀ (s : State) (m : Fin 16),
    let sub := s.fld (mbSubmit m) MB_SUBMIT_SEQ
    let area := kgets (fun _ => 0) s.fw.mbmem (0x4000 * m.val) 4096
    let op := leAt area 0 2
    (∀ errs : List SymErr, s.heldReset = false → (∃ e ∈ errs, (readWord 0 e).2 = .bad) → Completes (.mbPoll m errs) s fun t =>
      Raised t 8 ((s.roleCore 0).getD 0)) ∧
    (∀ errs : List SymErr, (∀ e ∈ errs, (readWord 0 e).2 ≠ .bad) → s.heldReset = false → s.fld ctlBoot CTL_BOOT_MODE = 0 →
      (s.roleCore 0).isSome = true → s.mbState m ≠ 1 → s.mbState m ≠ 2 →
      sub ≠ s.fw.mb[m].seen →
      let allowed := op ≠ 0x00F0 ∧ (m.val = 0 → op = 0x0001 ∨ op = 0x0030 ∨ op = 0x0040)
      (∀ c, cmdOf op = some c → allowed → Completes (.mbPoll m errs) s fun t =>
        t.mbState m = 1 ∧ t.fld (mbStatus m) MB_STATUS_ERROR = 0 ∧ t.fld (mbStatus m) MB_STATUS_SEQ = sub % 65536 ∧
          t.fld (mbStatus m) MB_STATUS_PROGRESS = 0 ∧ t.fw.mb[m] = ⟨sub, area, s.now, 0, 0⟩ ∧
          (∀ i < 0x2000, kget (fun _ => 0) t.fw.mbmem (0x4000 * m.val + 0x2000 + i) = 0) ∧
          kgets (fun _ => 0) t.fw.mbmem (0x4000 * m.val) 4096 = area ∧
          (c.standby = false → s.fld pwrState PWR_STATE_STATE = 1 → s.pwr.change = none →
            t.pwr.change = some (0, s.now, none) ∧ t.flag pwrState PWR_STATE_TRANSITION = true) ∧
          (c.standby = true ∨ s.fld pwrState PWR_STATE_STATE ≠ 1 ∨ s.pwr.change ≠ none → t.pwr = s.pwr ∧
            ∀ off, off ≠ mbStatus m → t.rd off = s.rd off)) ∧
      (cmdOf op = none → op ≠ 0x00F0 → Completes (.mbPoll m errs) s fun t => Ended t m 1) ∧
      (op = 0x00F0 ∨ (cmdOf op ≠ none ∧ ¬ allowed) → Completes (.mbPoll m errs) s fun t => Ended t m 7)) ∧
    (∀ errs : List SymErr, (∀ e ∈ errs, (readWord 0 e).2 ≠ .bad) → s.mbState m = 1 ∨ s.mbState m = 2 ∨ sub = s.fw.mb[m].seen → Completes (.mbPoll m errs) s fun t => t = s) ∧
    (∀ (v : Word64) (c : Cmd), s.heldReset = false → cmdOf (s.mbOp m) = some c → c.abort = true → s.mbState m = 2 → getF v MB_ABORT_SEQ = s.fw.mb[m].seen →
      Completes (.mbAbort m v) s fun t =>
        (c.op = 0x0013 → s.tim.base = tsAcquiring → t.tim.base = tsFree ∧ t.flag timCtl TIM_CTL_ACQUIRE = false) ∧
          (c.op = 0x0015 → t.fw.out = s.fw.out.filter fun o => decide (o.mb ≠ some m.val ∨ o.at_ = 1))) ∧
    (∀ i c, (i, c) ∈ mailboxRows s m → Accepted s m c → refusal s m c ≠ 0 →
      Completes i s fun t => Ended t m (refusal s m c) ∧ OnlyStatus s t m)

/-- Ending a command from outside (R461, R464, R466, R469, R478): an abortable command that MB_ABORT names ends in ABORTED; another write to
MB_ABORT does nothing; waits that run out end in TIMEOUT, SET_PORTS with the survey table. -/
def Obligations.MailboxAbortAndTimeouts : Prop :=
  ∀ (s : State) (m : Fin 16),
    (∀ v : Word64, s.heldReset = false →
      (∀ c, cmdOf (s.mbOp m) = some c → c.abort = true → s.mbState m = 1 ∨ s.mbState m = 2 → getF v MB_ABORT_SEQ = s.fw.mb[m].seen →
        Completes (.mbAbort m v) s fun t => Ended t m 6) ∧
      ((∀ c, cmdOf (s.mbOp m) = some c → c.abort = false) ∨ (s.mbState m ≠ 1 ∧ s.mbState m ≠ 2) ∨ getF v MB_ABORT_SEQ ≠ s.fw.mb[m].seen →
        Completes (.mbAbort m v) s fun t => t = s)) ∧
    (s.heldReset = false → s.fwRuns = true → s.mbState m = 2 →
      let waited (n : Nat) : Prop := s.fw.mb[m].since + n ≤ s.now
      (s.mbOp m = 0x0011 → waited 1000000000 → s.fw.mb[m].aux = 0 → Completes (.commandWaitTimeout m) s fun t =>
        Ended t m 0 ∧ Window t m s.surveyTable) ∧
      (s.mbOp m = 0x0016 → waited (1000000 * s.arg m 0 4) → Completes (.commandWaitTimeout m) s fun t => Ended t m 0xA ∧ OnlyStatus s t m) ∧
      (s.mbOp m = 0x0013 → s.arg m 0 1 = 2 → waited 100000000 → Completes (.commandWaitTimeout m) s fun t =>
        Ended t m 0xA ∧ Window t m (s.regBytes timStat)) ∧
      (s.mbOp m = 0x0026 → s.fw.mb[m].phase < 9 → waited 60000000000 → Completes (.commandWaitTimeout m) s fun t =>
        Ended t m 0xA ∧ t.fw.run = none))


/-- IDENTIFY, SET_PLACE, SET_PORTS, GET_SURVEY, and a write to NET_PLACE (R31, R35, R360, R362, R365, R464, R466, R485): a command that may start gives its result, ends
or goes on as its row says. SET_PORTS that changes nothing ends with the survey table once every enabled link is UP; one that changes the map of one
link that is OFF writes it. A write to NET_PLACE that would lock a placement that R35 refuses only sets PLACE_ERR (log entry 47 for the CARRIER strap). -/
def Obligations.PlacementCommands : Prop :=
  ∀ (s : State) (m : Fin 16),
    (Ready s m cIdentify → Completes (.identify m) s fun t => Ended t m 0 ∧ Window t m s.identity) ∧
    (s.heldReset = false → s.fld ctlBoot CTL_BOOT_MODE = 2 → m.val = 0 → s.mbOp m = 0x0001 → s.mbState m = 1 →
      (leAt s.fw.mb[m].cmd 2 2 = 0 ∧ leAt s.fw.mb[m].cmd 8 8 = 0 ∧ leAt s.fw.mb[m].cmd 4 4 = 0 → Completes (.identify m) s fun t =>
        Ended t m 0 ∧ Window t m s.identity) ∧
      (leAt s.fw.mb[m].cmd 4 4 ≠ 0 → Completes (.identify m) s fun t => Ended t m 3)) ∧
    (Ready s m cSetPlace →
      let v := BitVec.ofNat 64 (s.arg m 0 8);
      (s.flag netPlace NET_PLACE_LOCK = false → getF v NET_PLACE_LOCK = 0 ∨ s.badPlace v = false → Completes (.setPlace m) s fun t =>
        Ended t m 0 ∧ placeTaken v (t.rd netPlace) = true ∧ Window t m (t.regBytes netPlace)) ∧
      (s.flag netPlace NET_PLACE_LOCK = false → getF v NET_PLACE_LOCK = 1 → s.badPlace v = true → Completes (.setPlace m) s fun t =>
        Ended t m 0xF ∧ t.flag netPlace NET_PLACE_PLACE_ERR = true ∧ Window t m (t.regBytes netPlace)) ∧
      (s.flag netPlace NET_PLACE_LOCK = true → placeTaken v (s.rd netPlace) = false → Completes (.setPlace m) s fun t =>
        Ended t m 0xF ∧ t.rd netPlace = s.rd netPlace ∧ Window t m (s.regBytes netPlace))) ∧
    (let up := ∀ l : Fin 24, s.flag (lnkCtl l) LNK_CTL_EN = true → s.fld (netPortMap l) NET_PORT_MAP_ROLE ≠ 0 → s.lstate l = lsUp;
      (Ready s m cSetPorts →
        (s.portMoves m = [] → up → Completes (.setPorts m) s fun t => Ended t m 0 ∧ Window t m s.surveyTable) ∧
        (s.portMoves m = [] → ¬ up → Completes (.setPorts m) s fun t => t.mbState m = 2) ∧
        (∀ l : Fin 24, (∀ r ∈ s.fw.retired, r.kind = 6 → r.index < 10) → s.portMoves m = [l.val] → s.enArg m l = false → s.flag (lnkCtl l) LNK_CTL_EN = false → s.lstate l = lsOff →
          Completes (.setPorts m) s fun t =>
            (t.rd (netPortMap l) ^^^ s.portArg m l) &&& accMask (fun f => decide (f.acc = .rw)) RegKind.netPortMap.fields = 0 ∧
              t.flag (lnkCtl l) LNK_CTL_EN = false ∧
              t.fld ctlPostStat CTL_POST_STAT_COMMITS = (s.fld ctlPostStat CTL_POST_STAT_COMMITS + 1) % 2 ^ 32 ∧
              (up → Ended t m 0 ∧ Window t m t.surveyTable) ∧ (¬ up → t.mbState m = 2))) ∧
      (Runs s m cSetPorts →
        (up → Completes (.setPorts m) s fun t => Ended t m 0 ∧ Window t m t.surveyTable) ∧
        (¬ up → Completes (.setPorts m) s fun t => t = s))) ∧
    (Ready s m cGetSurvey → Completes (.getSurvey m) s fun t => Ended t m 0 ∧ Window t m s.surveyTable) ∧
    (∀ v : Word64, s.takesWrites netPlace = true →
      (s.flag netPlace NET_PLACE_LOCK = false → getF v NET_PLACE_LOCK = 1 → s.badPlace v = true →
        Completes (.netPlaceWrite v) s fun t => t.rd netPlace = setF (s.rd netPlace) NET_PLACE_PLACE_ERR 1 ∧
          OnlyRegs (fun off => off = netPlace) s t) ∧
      (s.flag netPlace NET_PLACE_LOCK = false → getF v NET_PLACE_LOCK = 1 → s.badPlace v = false →
        Completes (.netPlaceWrite v) s fun t => placeTaken v (t.rd netPlace) = true ∧ t.flag netPlace NET_PLACE_PLACE_ERR = false ∧
          t.flag netPlace NET_PLACE_LOCK = true ∧ OnlyRegs (fun off => off = netPlace) s t) ∧
      (s.flag netPlace NET_PLACE_LOCK = false → getF v NET_PLACE_LOCK = 0 →
        Completes (.netPlaceWrite v) s fun t => placeTaken v (t.rd netPlace) = true ∧ OnlyRegs (fun off => off = netPlace) s t))

/-- TIME and ROUTES (R289, R385 to R390, R464, R466): the operations of TIME set and clear BENCHMARK, begin an acquisition, release the trim and
clear refused links; what R389 forbids ends in REFUSED_BY_DEVICE; those of ROUTES stop and start injection and replace the route table, or end
in NOT_DRAINED. -/
def Obligations.TimeAndRouteCommands : Prop :=
  ∀ (s : State) (m : Fin 16),
    (Ready s m cTime →
      (s.arg m 0 1 = 0 → Completes (.timeSetBenchmark m) s fun t =>
        Ended t m 0 ∧ t.flag timCtl TIM_CTL_BENCHMARK = true ∧ Window t m (t.regBytes timStat) ∧
          (s.flag timCtl TIM_CTL_BENCHMARK = false → t.tim.base = tsBench ∧ t.flag timCtl TIM_CTL_ACQUIRE = false)) ∧
      (s.arg m 0 1 = 1 → Completes (.timeClearBenchmark m) s fun t =>
        Ended t m 0 ∧ t.flag timCtl TIM_CTL_BENCHMARK = false ∧ Window t m (t.regBytes timStat) ∧
          (s.flag timCtl TIM_CTL_BENCHMARK = true → s.tim.base = tsBench → t.tim.base = tsLocking)) ∧
      (s.arg m 0 1 = 2 → s.mayRebase = true → s.tim.base = tsFree → s.timLost = false → s.flag timCtl TIM_CTL_BENCHMARK = false →
        s.flag timCtl TIM_CTL_ACQUIRE = false → Completes (.timeAcquire m) s fun t =>
          t.mbState m = 2 ∧ t.tim.base = tsAcquiring ∧ t.flag timCtl TIM_CTL_ACQUIRE = true ∧ t.fld timCtl TIM_CTL_ACQ_LINK = s.arg m 1 1) ∧
      (s.arg m 0 1 = 3 → s.mayRebase = true → Completes (.timeRelease m) s fun t =>
        Ended t m 0 ∧ Window t m (t.regBytes timStat) ∧
          (t.flag timCtl TIM_CTL_RELEASE = true ↔ s.flag timCtl TIM_CTL_BENCHMARK = true ∧ s.fld timTrim TIM_TRIM_TRIM ≠ 0)) ∧
      (s.arg m 0 1 = 4 → s.mayRebase = true → Completes (.timeClearRefused m) s fun t =>
        Ended t m 0 ∧ Window t m (t.regBytes timStat) ∧
          ∀ l : Fin 24, bit (t.fld timRefused TIM_REFUSED_LINKS) l = (bit (s.fld timRefused TIM_REFUSED_LINKS) l && !bit (s.arg m 4 4) l)) ∧
      (∀ i op, (op, i) ∈ [(2, Instr.timeAcquire m), (3, .timeRelease m), (4, .timeClearRefused m)] → s.arg m 0 1 = op → s.mayRebase = false →
        Completes i s fun t => Ended t m 0xF ∧ Window t m (t.regBytes timStat) ∧ t.tim = s.tim ∧
          t.rd timRefused = s.rd timRefused ∧ t.fld timCtl TIM_CTL_ACQUIRE = s.fld timCtl TIM_CTL_ACQUIRE)) ∧
    (Runs s m cTime → s.arg m 0 1 = 2 →
      (s.flag timCtl TIM_CTL_ACQUIRE = false → Completes (.timeAcquire m) s fun t => Ended t m 0 ∧ Window t m (s.regBytes timStat)) ∧
      (s.flag timCtl TIM_CTL_ACQUIRE = true → Completes (.timeAcquire m) s fun t => t = s)) ∧
    (Ready s m cRoutes →
      (s.arg m 0 1 = 0 → Completes (.routesStop m) s fun t =>
        Ended t m 0 ∧ t.flag netUnsCtl NET_UNS_CTL_INJECT_STOP = true ∧ t.flag netUnsStat NET_UNS_STAT_DRAINED = t.drained ∧
          Window t m (t.regBytes netUnsStat)) ∧
      (s.arg m 0 1 = 2 → QuietPort32 s → Completes (.routesStart m) s fun t =>
        Ended t m 0 ∧ t.flag netUnsCtl NET_UNS_CTL_INJECT_STOP = false ∧ Window t m (t.regBytes netUnsStat)) ∧
      (∀ errs, s.arg m 0 1 = 1 → s.flag netUnsStat NET_UNS_STAT_DRAINED = false → Completes (.routesWrite m errs) s fun t =>
        Ended t m 0xC ∧ Window t m (s.regBytes netUnsStat) ∧ ∀ d : Fin 4096, t.rd (netRoute d) = s.rd (netRoute d)) ∧
      (∀ errs, s.arg m 0 1 = 1 → s.flag netUnsStat NET_UNS_STAT_DRAINED = true →
        let r := (started s m cRoutes).fwRead (s.arg m 8 8) 32768 errs
        r.1.drained = true → Completes (.routesWrite m errs) s fun t =>
          Ended t m 0 ∧ t.flag netUnsCtl NET_UNS_CTL_TABLE_OPEN = false ∧ Window t m (t.regBytes netUnsStat) ∧
            ∀ d : Fin 4096, t.fld (netRoute d) NET_ROUTE_DIR = leAt r.2 (8 * d) 8 % 8 ∧
              t.fld (netRoute d) NET_ROUTE_FENCE = leAt r.2 (8 * d) 8 / 8 % 2))

/-- Messages, inputs, the curtain and holds (R208, R415, R464, R467 to R469, R474 to R476): MSG_SEND puts a HOST message behind those that wait
and ends when it is acknowledged or given up; MSG_RECV takes the oldest message held; INPUT_DONE counts and writes the count at the input region;
CURTAIN raises HOST and ends in the curtain state; HOLD_AT_INT asks the coordinator; RELEASE resets faulted channels and clears VC0_EN, RATE_EN
and ARMED. -/
def Obligations.MessageAndRunCommands : Prop :=
  ∀ (s : State) (m : Fin 16),
    (Ready s m cMsgSend → s.flag netUnsCtl NET_UNS_CTL_INJECT_STOP = true → Completes (.msgSend m) s fun t =>
      t.mbState m = 2 ∧ ∃ o, t.fw.out = s.fw.out ++ [o] ∧ o.dest = s.arg m 0 2 ∧ o.mb = some m.val ∧ o.at_ = 0 ∧ leAt o.data 0 2 = msHost ∧
        leAt o.data 12 4 = s.arg m 2 2 ∧ o.data.drop 16 = slice s.fw.mb[m].cmd 24 (s.arg m 2 2)) ∧
    (Ready s m cMsgSend → s.flag netUnsCtl NET_UNS_CTL_INJECT_STOP = false → QuietPort32 s → Completes (.msgSend m) s fun t =>
      t.mbState m = 2 ∧ ∃ o, t.fw.out = [o] ∧ o.dest = s.arg m 0 2 ∧ o.mb = some m.val ∧ o.at_ = 1 ∧ o.tries = 1 ∧
        o.data.drop 16 = slice s.fw.mb[m].cmd 24 (s.arg m 2 2)) ∧
    (Runs s m cMsgSend →
      (∀ o, s.fw.out.find? (fun o => decide (o.mb = some m.val ∧ 2 ≤ o.at_)) = some o → Completes (.msgSend m) s fun t =>
        Ended t m (if o.at_ = 2 then 0 else 0xD) ∧ t.fw.out = s.fw.out.filter fun x => decide (x.mb ≠ some m.val)) ∧
      (s.fw.out.find? (fun o => decide (o.mb = some m.val ∧ 2 ≤ o.at_)) = none → Completes (.msgSend m) s fun t => t = s)) ∧
    (Ready s m cMsgRecv ∨ Runs s m cMsgRecv →
      (∀ src b rest, s.fw.hostMsgs = (src, b) :: rest → Completes (.msgRecv m) s fun t =>
        Ended t m 0 ∧ t.fw.hostMsgs = rest ∧ Window t m (leBytes 2 src ++ leBytes 2 b.length ++ leBytes 4 0 ++ b)) ∧
      (s.fw.hostMsgs = [] → Completes (.msgRecv m) s fun t => t.mbState m = 2)) ∧
    (Ready s m cInputDone ∨ Runs s m cInputDone →
      (∀ errs p a, s.fw.prog = some p → p.inputs[s.arg m 0 2]? = some a → s.mem.hostq.any (fun q => q.write && !q.bar0) = false →
        Completes (.inputDone m errs) s fun t =>
          let k := (s.fw.int.inputs + 1) % 2 ^ 32
          Ended t m 0 ∧ t.fw.int.inputs = k ∧ Window t m (leBytes 4 k) ∧ t.mem = (s.memWrite a.1 (leBytes 8 k) (s.errsAt a.1 8 errs)).mem) ∧
      (∀ errs, s.mem.hostq.any (fun q => q.write && !q.bar0) = true → Completes (.inputDone m errs) s fun t => t.mbState m = 2 ∧ t.mem = s.mem)) ∧
    (let quiet (t : State) : Prop := t.fld safStat SAF_STAT_STATE ≠ 0 ∧ t.anyRunning = false ∧ t.flag netFabCtl NET_FAB_CTL_VC0_EN = false ∧
        ∀ n : Fin 8, ∀ x ∈ (t.chan n).streams.toList, x.busy = false;
      (Ready s m cCurtain → Completes (.curtain m) s fun t =>
        Raised t 14 0 ∧ (s.fld safStat SAF_STAT_STATE = 0 → t.fld safStat SAF_STAT_STATE = 1) ∧ (quiet t → Ended t m 0) ∧
          (¬ quiet t → t.mbState m = 2)) ∧
      (Runs s m cCurtain → (quiet s → Completes (.curtain m) s fun t => Ended t m 0 ∧ OnlyStatus s t m) ∧
        (¬ quiet s → Completes (.curtain m) s fun t => t = s))) ∧
    (Ready s m cHoldAtInt →
      (s.coordinates = true → Completes (.holdAtInt m) s fun t => Ended t m 0 ∧ t.fw.int = { s.fw.int with holdReq := true }) ∧
      (s.coordinates = false → Completes (.holdAtInt m) s fun t => Ended t m 0xE ∧ t.fw.int = s.fw.int)) ∧
    (Ready s m cRelease → Completes (.release m) s fun t =>
      Ended t m 0 ∧ t.flag netFabCtl NET_FAB_CTL_VC0_EN = false ∧ t.flag mcHostwin MC_HOSTWIN_RATE_EN = false ∧
        t.flag safCtl SAF_CTL_ARMED = false ∧ t.fw.run = none ∧
        (s.flag safCtl SAF_CTL_ARMED = true → s.saf.haltSteps = false → s.fld safStat SAF_STAT_STATE = 1 →
          t.fld safStat SAF_STAT_STATE = 0 ∧ t.saf.entry = none) ∧
        (s.fld safStat SAF_STAT_STATE = 2 → t.fld safStat SAF_STAT_STATE = 2) ∧
        (∀ off ∈ [safFault, safFirst, safFirstTick], t.rd off = s.rd off) ∧
        (s.pwr.gated = false → ∀ n : Fin 8, s.fld (chStatus n) CH_STATUS_STATE = stFault →
          t.fld (chStatus n) CH_STATUS_STATE = stIdle ∧ t.rd (chFault n) = 0))

/-- LOAD, START and RESTORE (R166, R434 to R436, R464, R470 to R473, R477, R478): LOAD ends in the number of the first check that fails, or applies
the image and sets ARMED; START refuses a device that is not loaded, idle, and in time, waits for the clocks, and sets RUN with S63 the start
tick; RESTORE makes the checks of LOAD and looks for the index of the checkpoint, and its steps follow in order, those not asked for passed over.
What the failed units of the last run are is log entry 24. -/
def Obligations.LoadStartRestore : Prop :=
  ∀ (s : State) (m : Fin 16),
    (∀ errs, Ready s m cLoad →
      let u := started s m cLoad
      let a := u.loadArgs m
      let r := u.fwRead a.image a.bytes errs
      let d := r.1.readMap a errs
      let v := d.1.retireUnits errs
      let k := v.failedCheck r.2 a
      Completes (.load m errs) s fun t =>
        if k = 0 then
          Ended t m 0 ∧ t.flag safCtl SAF_CTL_ARMED = true ∧ t.fw.prog = some (progOf r.2 a d.2 0) ∧ t.fw.run = none
        else Ended t m (0x0100 + k) ∧ Window t m (v.loadResult r.2 a k) ∧ t.fw.prog = s.fw.prog) ∧
    (Ready s m cStart →
      let ok := s.fw.prog ≠ none ∧ (∀ n ∈ s.codedChans, s.fld (chStatus n) CH_STATUS_STATE = stIdle) ∧
        s.flag netFabCtl NET_FAB_CTL_VC0_EN = true
      let inTime := s.fld timStat TIM_STAT_STATE = 1 ∨ s.fld timStat TIM_STAT_STATE = 4;
      (¬ ok → Completes (.start m) s fun t => Ended t m 9 ∧ t.ch = s.ch) ∧
      (ok → ¬ inTime → Completes (.start m) s fun t => Ended t m 0xB ∧ t.ch = s.ch) ∧
      (ok → inTime → (∃ n ∈ s.codedChans, s.flag pwrArith (PWR_ARITH_LOCKED n) = false) → Completes (.start m) s fun t =>
        t.mbState m = 2 ∧ t.ch = s.ch ∧ ∃ r, t.fw.run = some r ∧ r.mb = m.val ∧ r.t0 = s.arg m 0 8 ∧ r.going = false) ∧
      (∀ n : Fin 8, ok → inTime → s.codedChans = [n.val] → s.flag pwrArith (PWR_ARITH_LOCKED n) = true → (s.applyList [1, 2]).startOk n = true →
        (s.chan n).flight = [] → Completes (.start m) s fun t =>
          t.mbState m = 2 ∧ t.running n = true ∧ (t.chan n).s 63 = BitVec.ofNat 64 (s.arg m 0 8) ∧
            t.fld (chStatus n) CH_STATUS_PC = s.fld (chCtl n) CH_CTL_START ∧ t.fw.run.map (·.going) = some true)) ∧
    (Runs s m cStart → s.fw.run = none → Completes (.start m) s fun t => t = s) ∧
    (∀ errs, Ready s m cRestore →
      let u := started s m cRestore
      let a := u.loadArgs m
      let r := u.fwRead a.image a.bytes errs
      let v := r.1.retireUnits errs
      let k := v.failedCheck r.2 a
      let at_ := a.record + (if s.restoreFlag m 1 then a.ckpt * 2 ^ 21 else 0)
      let x := v.memRead at_ 8 (v.errsAt at_ 8 errs)
      Completes (.restore m errs) s fun t =>
        if k ≠ 0 then Ended t m (0x0100 + k) ∧ t.fw.run = none
        else if s.restoreFlag m 0 = true ∨ (x.2.2 = [] ∧ leNat x.2.1 = s.restoreK m) then t.mbState m = 2 ∧ t.fw.mb[m].phase = 1
        else Ended t m 0x0201 ∧ t.fw.run = none) ∧
    (∀ errs, Runs s m cRestore →
      let goesTo (p q : Nat) : Prop := s.fw.mb[m].phase = p → Completes (.restore m errs) s fun t =>
        t = { s with fw := t.fw } ∧ t.fw.mb[m] = { s.fw.mb[m] with phase := q, since := s.now };
      (s.restoreFlag m 3 = false → goesTo 1 3) ∧ (s.restoreFlag m 0 = false → s.restoreFlag m 1 = false → goesTo 3 4) ∧
      (s.restoreFlag m 2 = false → goesTo 4 6) ∧ (s.restoreFlag m 4 = false → goesTo 6 7) ∧
      (s.restoreFlag m 4 = true → s.tookCopy m 1 = true → goesTo 6 7))


/-- RESET, SET_POWER and the reports (R464, R479, R483, R524 to R526, R538, R539): RESET ends DONE and its reset follows 100 µs later; SET_POWER begins
a change and ends when the state is reached; the change takes its time, drains the stream engines toward STANDBY, and gates or restores the
compute dies; GET_LEDGER and GET_RETIRED give the ledger and the list. -/
def Obligations.ResetPowerAndReports : Prop :=
  ∀ (s : State) (m : Fin 16),
    (Ready s m cReset → ∀ i kind, (i, kind) ∈ [(Instr.resetSoft m, 0), (.resetChn m, 1), (.resetLnk m, 2)] → s.arg m 0 1 = kind →
      (kind ≠ 1 ∨ s.pwr.gated = false → Completes i s fun t =>
        Ended t m 0 ∧ t.fw.resetAt = s.fw.resetAt ++ [(kind, s.arg m 1 1, s.now + 100000)] ∧ t.ch = s.ch ∧ t.lnk = s.lnk) ∧
      (kind = 1 → s.pwr.gated = true → Completes i s fun t => Ended t m 4 ∧ t.fw.resetAt = s.fw.resetAt)) ∧
    (let p := s.arg m 0 1;
      (Ready s m cSetPower ∨ Runs s m cSetPower →
        (s.pwr.change = none → s.fld pwrState PWR_STATE_STATE = p → Completes (.setPower m) s fun t => Ended t m 0 ∧ Window t m [BitVec.ofNat 8 p]) ∧
        (s.pwr.change = none → s.fld pwrState PWR_STATE_STATE ≠ p → Completes (.setPower m) s fun t =>
          t.mbState m = 2 ∧ t.pwr.change = some (p, s.now, some m.val) ∧ t.flag pwrState PWR_STATE_TRANSITION = true ∧
            t.fld pwrState PWR_STATE_STATE = s.fld pwrState PWR_STATE_STATE) ∧
        (s.pwr.change ≠ none → Completes (.setPower m) s fun t => t.mbState m = 2 ∧ t.pwr = s.pwr))) ∧
    (∀ p at_ mb, s.pwr.change = some (p, at_, mb) → p ≤ 2 →
      let was := s.fld pwrState PWR_STATE_STATE
      let busy := ∃ n : Fin 8, ∃ x ∈ (s.chan n).streams.toList, x.busy = true
      (s.now < at_ + powerTicks was p ∨ (p = 2 ∧ busy) → Completes .powerTransitionDone s fun t => t = s) ∧
      (at_ + powerTicks was p ≤ s.now → (p = 2 → ¬ busy) → Completes .powerTransitionDone s fun t =>
        t.fld pwrState PWR_STATE_STATE = p ∧ t.flag pwrState PWR_STATE_TRANSITION = false ∧ t.pwr.change = none ∧
          (p = 2 → t.mem.selfRefresh = true ∧ t.pwr.gated = true) ∧
          (was = 2 → p ≠ 2 → t.mem.selfRefresh = false ∧ t.pwr.gated = false ∧ ∀ n : Fin 8, t.chan n = Chan.reset) ∧
          (was ≠ 2 → p ≠ 2 → t.ch = s.ch ∧ t.mem = s.mem) ∧
          ∀ k : Fin 16, mb = some k.val → s.mbState k = 2 → s.mbOp k = 0x0031 → Ended t k 0 ∧ Window t k [BitVec.ofNat 8 p])) ∧
    (Ready s m cGetLedger → Completes (.getLedger m) s fun t => Ended t m 0 ∧ Window t m s.ledgerBytes ∧ t.free = s.free + 48) ∧
    (Ready s m cGetRetired → Completes (.getRetired m) s fun t => Ended t m 0 ∧
      Window t m (leBytes 4 s.fw.retired.length ++ leBytes 4 0 ++ (s.fw.retired.take 1023).flatMap Retired.bytes))

/-- Boot, update and keys (R453, R464, R481 to R489): the boot ROM checks the image in flash and starts firmware, or serves recovery with the
reason; firmware enables the links of the map and goes to MODE 0; UPDATE and RECOVER write an image that passes the check and no other; UPDATE
raises the least security version when asked; OWNER_KEY writes key slot 1 once; GET_CERT and ATTEST give the certificate and the signed report. -/
def Obligations.BootUpdateAndKeys : Prop :=
  ∀ (s : State) (m : Fin 16),
    (s.heldReset = false → s.fld ctlBoot CTL_BOOT_MODE = 1 → Completes .bootImageVerified s fun t =>
      let b := s.flashImage
      t.fld ctlBoot CTL_BOOT_BOOTS = bumped s ctlBoot CTL_BOOT_BOOTS ∧ t.fw.flash = s.fw.flash ∧
        if s.fwCheck b = 0 then
          t.fld ctlBoot CTL_BOOT_MODE = 3 ∧ (∀ k : Fin 16, t.fld (mbStatus k) MB_STATUS_MODE = 3) ∧
            t.rd ctlFwVersion = BitVec.ofNat 64 (leAt b 0x08 8) ∧ t.fw.svn = leAt b 0x10 4 ∧ t.fw.meas = shake256 (b.take 0x800) 64 ∧
            ((∀ c < 5, s.isRetired 7 c = false) → (∀ c < 4, t.roleCore c = some c) ∧ t.fld (ctlCore 4) CTL_CORE_UNDERSTUDY = 1 ∧
              t.fld (ctlCore 4) CTL_CORE_STATE = 0)
        else t.fld ctlBoot CTL_BOOT_MODE = 2 ∧ t.fld ctlBoot CTL_BOOT_BOOT_ERR = s.fwCheck b % 256 ∧
          ∀ k : Fin 16, t.fld (mbStatus k) MB_STATUS_MODE = 2) ∧
    (s.heldReset = false → s.fld ctlBoot CTL_BOOT_MODE = 3 → s.flag mcStatus MC_STATUS_INIT_DONE = true → Completes .fwInitComplete s fun t =>
      t.fld ctlBoot CTL_BOOT_MODE = 0 ∧ ∀ l : Fin 24, t.fld (netPortMap l) NET_PORT_MAP_ROLE ≠ 0 → t.flag (lnkCtl l) LNK_CTL_EN = true) ∧
    (∀ (ok : Bool) errs, Ready s m cUpdate →
      let r := (started s m cUpdate).fwRead (s.arg m 0 8) (s.arg m 8 8) errs
      let c := s.fwCheck r.2
      Completes (.update m ok errs) s fun t =>
        if c ≠ 0 then Ended t m c ∧ t.fw.flash = s.fw.flash ∧ t.fw.svnMin = s.fw.svnMin
        else if ok = true then
          Ended t m 0 ∧ t.fw.flash = ksets (fun _ => 0xFF) [] 0 r.2 ∧
            t.fw.svnMin = if bit (s.arg m 16 1) 0 then max s.fw.svnMin (min 64 (leAt r.2 0x10 4)) else s.fw.svnMin
        else Ended t m 0x0305 ∧ t.fw.svnMin = s.fw.svnMin) ∧
    (∀ (ok : Bool) errs, s.heldReset = false → s.fld ctlBoot CTL_BOOT_MODE = 2 → s.mbOp 0 = 0x00F0 → s.mbState 0 = 1 ∨ s.mbState 0 = 2 →
      leAt s.fw.mb[0].cmd 2 2 = 0 → leAt s.fw.mb[0].cmd 8 8 = 0 → leAt s.fw.mb[0].cmd 4 4 = 16 →
      let a := s.arg 0 0 8
      let n := s.arg 0 8 8
      (inMem a n = false → Completes (.recover ok errs) s fun t => Ended t 0 3 ∧ t.fw.flash = s.fw.flash) ∧
      (inMem a n = true → s.memUsable = false → Completes (.recover ok errs) s fun t => t.mbState 0 = 2 ∧ t.fw = s.fw) ∧
      (inMem a n = true → s.memUsable = true → Completes (.recover ok errs) s fun t =>
        let b := ((s.setFld (mbStatus 0) MB_STATUS_STATE 2).fwRead a n errs).2
        if s.fwCheck b ≠ 0 then Ended t 0 (s.fwCheck b) ∧ t.fw.flash = s.fw.flash
        else if ok = true then Ended t 0 0 ∧ t.fw.flash = ksets (fun _ => 0xFF) [] 0 b ∧ t.fld ctlBoot CTL_BOOT_MODE = 1
        else Ended t 0 0x0305 ∧ t.fld ctlBoot CTL_BOOT_MODE = 2)) ∧
    (Ready s m cOwnerKey → Completes (.ownerKey m) s fun t =>
      Ended t m 0 ∧ s.fw.slot1 = none ∧ t.fw.slot1 = some (slice s.fw.mb[m].cmd 16 32)) ∧
    (Ready s m cGetCert → Completes (.getCert m) s fun t => Ended t m 0 ∧ Window t m s.certificate) ∧
    (Ready s m cAttest → Completes (.attest m) s fun t =>
      let r := s.report (slice s.fw.mb[m].cmd 16 32)
      Ended t m 0 ∧ Window t m (r ++ slice (mldsaSign identityKey ctxAttest r) 0 3309))


/-- The resets of the device (R14, R15, R121, R293, R336, R508, R522, R523, R527, R559, R560, R578): each returns the
fields that it clears to their reset values and leaves the others, POR keeping flash, fuses and what no reset clears; HOT and SOFT keep memory, which enters self-refresh, and the
channels' memories, and go on from boot; each is counted; while POR or MOD is held a weaker one is absorbed. The pins of a MOD are a free value
(log entry 45). -/
def Obligations.DeviceResets : Prop :=
  ∀ (s : State),
    (Completes .por s fun t =>
      t.pwr = { PwrSt.reset with por := true } ∧ t.mem = State.reset.mem ∧ t.net = State.reset.net ∧ t.lnk = State.reset.lnk ∧
        (∀ n : Fin 8, t.chan n = Chan.reset ∧ t.fld (chStatus n) CH_STATUS_STATE = stInit) ∧
        t.fw.flash = s.fw.flash ∧ t.fw.retired = s.fw.retired ∧ t.fw.ledgerFlash = s.fw.ledgerFlash ∧ t.fw.slot1 = s.fw.slot1 ∧
        t.fw.svnMin = s.fw.svnMin ∧ t.fld brdJtag BRD_JTAG_DEBUG_LOCK = s.fld brdJtag BRD_JTAG_DEBUG_LOCK ∧
        t.fld brdStrap ⟨0, 4⟩ = s.fld brdStrap ⟨0, 4⟩ ∧
        ∀ off k i j, locate off = some (k, i, j) → (∀ n : Fin 8, off ≠ chStatus n) → off ∉ [netRoute 0, netUnsStat, brdStrap, brdI3c, brdPin] →
          t.rd off = resetWord .por k.fields (regReset off) (s.rd off)) ∧
    (s.heldReset = false → Completes .modReset s fun t =>
      t.pwr.mod = true ∧ t.mem = State.reset.mem ∧ t.net = State.reset.net ∧ t.lnk = State.reset.lnk ∧
        (∀ n : Fin 8, t.chan n = Chan.reset ∧ t.fld (chStatus n) CH_STATUS_STATE = stInit) ∧
        t.fw.flash = s.fw.flash ∧ t.fw.slot1 = s.fw.slot1 ∧ t.fw.svnMin = s.fw.svnMin ∧
        t.fld pwrReset PWR_RESET_LAST = 1 ∧ t.fld pwrReset PWR_RESET_MODS = bumped s pwrReset PWR_RESET_MODS ∧
        (t.flag brdPin BRD_PIN_RESET_IN = true ∨ t.flag brdPin BRD_PIN_PERST_IN = true) ∧
        ∀ off k i j, locate off = some (k, i, j) → (∀ n : Fin 8, off ≠ chStatus n) → off ∉ [netRoute 0, netUnsStat, brdPin, pwrReset] →
          t.rd off = resetWord .mod k.fields (regReset off) (s.rd off)) ∧
    (∀ straps : BitVec 4, s.pwr.mod = true → s.pwr.por = false → Completes (.modResetRelease straps) s fun t =>
      t.pwr.mod = false ∧ t.flag brdPin BRD_PIN_RESET_IN = false ∧ t.flag brdPin BRD_PIN_PERST_IN = false ∧ t.fld brdStrap ⟨0, 4⟩ = straps.toNat ∧
        t.fld brdI3c BRD_I3C_STATIC_ADDR = 0x58 + (if bit straps.toNat 2 then straps.toNat % 4 else 0)) ∧
    (∀ i r last cnt, (i, r, last, cnt) ∈ [(Instr.hotReset, Rst.hot, 2, PWR_RESET_HOTS), (.flr, .soft, 3, PWR_RESET_SOFTS)] →
      (s.heldReset = true → Completes i s fun t => t = s) ∧
      (s.heldReset = false → s.fld pwrState PWR_STATE_STATE ≠ 2 → Completes i s fun t =>
        t.mem.bytes = s.mem.bytes ∧ t.mem.selfRefresh = true ∧ t.mem.hostq = [] ∧ t.fw = s.fw.reboot ∧
          t.fld pwrReset PWR_RESET_LAST = last ∧ t.fld pwrReset cnt = bumped s pwrReset cnt ∧ t.host.d3 = false ∧
          t.fld safStat SAF_STAT_STATE = (if s.fld safStat SAF_STAT_STATE = 2 then 2 else 0) ∧
          (∀ n : Fin 8, t.chan n = (s.chan n).keepMem ∧
            t.fld (chStatus n) CH_STATUS_STATE = (if s.fld (chStatus n) CH_STATUS_STATE = stInit then stInit else stIdle)) ∧
          (∀ l : Fin 24, t.link l = { LinkSt.reset with source := (s.link l).source }) ∧
          t.rd (netRoute (s.fld netPlace NET_PLACE_DEVICE_ID)) = 6 ∧
          ∀ off k a b, locate off = some (k, a, b) → (0x01000000 ≤ off ∧ off < 0x01800000) ∨ (0x03000000 ≤ off ∧ off < 0x05000000) →
            (∀ n : Fin 8, off ≠ chStatus n) → off ≠ netRoute (s.fld netPlace NET_PLACE_DEVICE_ID) → off ≠ netUnsStat →
            t.rd off = resetWord r k.fields (regReset off) (s.rd off))) ∧
    (s.heldReset = true → Completes .modReset s fun t => t = s) ∧
    (∀ p : Bool, s.heldReset = false → Completes (.resetGlitch p) s fun t =>
      t.fld brdPin BRD_PIN_GLITCHES = bumped s brdPin BRD_PIN_GLITCHES ∧ OnlyRegs (fun off => off = brdPin) s t)

/-- Resets of a channel and of a link, and the host link (R122, R125, R327, R329, R330, R336, R496, R497, R501, R502, R506 to R508, R510, R512
to R514): CHN returns a channel's registers and
its banks' arbiters to reset, keeps its memories, and withdraws what it asks of memory; LNK flushes the ring and trains a link that is on afresh; misplaced
and AtomicOp requests are refused, counted and logged; an error logged alerts the host by its vector, sent or pending; BAR2 takes an offered
size (log entry 25); the host link's rate and width are shown, and its going down is a HOT reset; firmware raises only the alerts of R514. -/
def Obligations.UnitResetsAndHostLink : Prop :=
  ∀ (s : State),
    (∀ n : Fin 8, s.heldReset = false → s.pwr.gated = false → Completes (.channelReset n) s fun t =>
      t.chan n = { (s.chan n).keepMem with portClosed := true } ∧ (∀ k, k ≠ n → t.chan k = s.chan k) ∧
        t.fld (chStatus n) CH_STATUS_STATE = (if s.fld (chStatus n) CH_STATUS_STATE = stInit then stInit else stIdle) ∧
        (∀ b : Fin 64, t.arb (.bank n b) = Arb.reset) ∧
        (∀ c : Fin 128, let k : Fin 10 := n.castLE (by decide)
          (s.arb (.mem c)).reqs[k].masked = false → (t.arb (.mem c)).reqs[k].asking = false ∧ (t.arb (.mem c)).holder ≠ some n.val) ∧
        (∀ off k i j, locate off = some (k, i, j) → i = n.val → off ≠ chStatus n → (∀ c, off ≠ arbStatOf (.mem c)) →
          t.rd off = resetWord .chn k.fields (regReset off) (s.rd off)) ∧
        (∀ off, inBlock n off = false → (∀ c, off ≠ arbStatOf (.mem c)) → t.rd off = s.rd off) ∧ t.mem = s.mem ∧ t.net = s.net ∧ t.lnk = s.lnk) ∧
    (∀ l : Fin 24, s.heldReset = false → Completes (.linkReset l) s fun t =>
      (t.link l).ring = [] ∧ t.flag (lnkEvent l) LNK_EVENT_FLUSH = true ∧ t.fld (netPortHop l) NET_PORT_HOP_DELAY = 0x3FF ∧
        t.flag (lnkStatus l) LNK_STATUS_HOLD = true ∧ (t.link l).grace.isSome = true ∧ (t.link l).held = false ∧
        (s.lstate l = lsOff → t.lstate l = lsOff) ∧ (lsInit ≤ s.lstate l → t.flag (lnkEvent l) LNK_EVENT_DOWN = true) ∧
        (s.lstate l ≠ lsOff → t.lstate l = lsTraining ∧ (t.link l).cmds = [⟨10, leBytes 1 LNK_EVENT_DOWN.lo⟩])) ∧
    (∀ w : Bool, s.hostUp = true → Completes (.bar0BadAccess w) s fun t =>
      t.fld ctlPcieStat CTL_PCIE_STAT_BAD_ACCESS = bumped s ctlPcieStat CTL_PCIE_STAT_BAD_ACCESS ∧ t.host.aer = s.host.aer ||| 2 ^ 8 ∧
        t.flag ctlHostAlert (bitF (if w then 25 else 24)) = true ∧ (w = false → t.host.cpl = some (1, []))) ∧
    (s.hostUp = true → Completes .atomicopRequest s fun t =>
      t.host.aer = s.host.aer ||| 2 ^ 8 ∧ t.flag ctlHostAlert (bitF 24) = true ∧ t.host.cpl = some (1, []) ∧ t.mem = s.mem) ∧
    (∀ e : AerErr, s.heldReset = false → Completes (.aerErrorLogged e) s fun t =>
      let b := if aerBit e < 5 then 24 else 25
      t.host.aer = s.host.aer ||| 2 ^ aerBit e ∧ t.flag ctlHostAlert (bitF b) = true ∧
        (s.flag ctlHostAlert (bitF b) = true → t.host.msixSent = s.host.msixSent) ∧
        (s.flag ctlHostAlert (bitF b) = false → s.host.msixEnable = true → s.host.busMaster = true →
          (s.vectorMasked 3 = true → t.flag msixPba (bitF 3) = true ∧ t.host.msixSent = s.host.msixSent) ∧
          (s.vectorMasked 3 = false → t.host.msixSent = s.host.msixSent ++ [3]))) ∧
    (∀ v : Fin 4, s.hostUp = true → Completes (.msixUnmask v) s fun t =>
      t.flag (msixTable (2 * v + 1)) (bitF 32) = false ∧
        (s.flag msixPba (bitF v) = true → s.host.msixEnable = true → s.host.busMaster = true → s.host.msixMask = false →
          t.flag msixPba (bitF v) = false ∧ t.host.msixSent = s.host.msixSent ++ [v.val]) ∧
        (s.flag msixPba (bitF v) = false → t.host = s.host)) ∧
    (∀ code, (10 ≤ code → code ≤ 20 → s.heldReset = false → Completes (.bar2Resize code) s fun t =>
        t = { s with host := { s.host with bar2 := code - 10 } }) ∧
      (code < 10 ∨ 20 < code → Completes (.bar2Resize code) s fun t => t = s)) ∧
    (s.heldReset = false → Completes .d3hotEntry s fun t => t = { s with host := { s.host with d3 := true } }) ∧
    (s.heldReset = false → Completes .d0Return s fun t => t = { s with host := { s.host with d3 := false } }) ∧
    (∀ (speed : Fin 8) (width : Nat), s.heldReset = false →
      (speed ≠ 0 → Completes (.hostLinkChange speed width) s fun t =>
        t.fld ctlPcieStat CTL_PCIE_STAT_SPEED = speed.val ∧ t.fld ctlPcieStat CTL_PCIE_STAT_WIDTH = width % 32 ∧
          (t.flag ctlPcieStat CTL_PCIE_STAT_FLIT = true ↔ 6 ≤ speed.val) ∧
          (t.flag ctlPcieStat CTL_PCIE_STAT_BELOW_SERVICE = true ↔ speed.val < 5 ∨ width ≠ 16) ∧
          (s.fld ctlPcieStat CTL_PCIE_STAT_SPEED ≠ speed.val ∨ s.fld ctlPcieStat CTL_PCIE_STAT_WIDTH ≠ width % 32 →
            t.flag ctlHostAlert (bitF 26) = true)) ∧
      (speed = 0 → s.fld ctlPcieStat CTL_PCIE_STAT_SPEED ≠ 0 → Completes (.hostLinkChange speed width) s fun t =>
        t.fld pwrReset PWR_RESET_LAST = 2 ∧ t.fld pwrReset PWR_RESET_HOTS = bumped s pwrReset PWR_RESET_HOTS ∧
          t.fld ctlPcieStat CTL_PCIE_STAT_SPEED = 0)) ∧
    (∀ v : Word64, (Completes (.ctlHostRaise v true) s fun t => t = s) ∧
      (s.heldReset = false →
        Completes (.ctlHostRaise v false) s fun t => t.rd ctlHostAlert = s.rd ctlHostAlert ||| (v &&& 0x07071F01#64)))

/-- A write to a register whose block gives it no behaviour of its own (R8, R11, R13, R500, R501, R510): bit by bit, RW fields take the value, RO
and WO fields keep theirs, W1C bits written 1 are cleared unless hardware set them in the cycle of the write, and a write of four bytes reaches
its half only; a misplaced one of the host is refused and counted; the command area of a mailbox takes bytes; in D3hot the host's write does
nothing. That a cycle of a register is a tick, and that each write takes one, is the model's choice (log entry 67). -/
def Obligations.RegisterWriteAccess : Prop :=
  ∀ (s : State) (off : BitVec 28) (size4 : Bool) (value : Word64) (host : Bool), s.heldReset = false → s.pwr.gated = false → s.mem.hostq = [] →
    let n := if size4 then 4 else 8
    (s.host.d3 = true → Completes (.registerWrite off size4 value true) s fun t => t = s) ∧
    ((host = true → s.host.d3 = false) →
    (∀ k i j, off.toNat % n = 0 → locate (off.toNat / 8 * 8) = some (k, i, j) → plainKind k = true →
      (0x100000 ≤ off.toNat → off.toNat < 0x140000 → 0x1000 ≤ off.toNat % 0x4000) →
      Completes (.registerWrite off size4 value host) s fun t =>
        let reg := off.toNat / 8 * 8
        let lo := 8 * (off.toNat % 8)
        OnlyRegs (fun o => o = reg) s t ∧ t.before = t.regs ∧ ∀ f ∈ k.fields, ∀ b, f.lo ≤ b → b < f.lo + f.w →
          (t.rd reg).getLsbD b =
            if b < lo ∨ lo + 8 * n ≤ b then (s.rd reg).getLsbD b
            else match f.acc with
              | .rw => value.getLsbD (b - lo)
              | .w1c => (s.rd reg).getLsbD b && !(value.getLsbD (b - lo) && (s.beforeRd reg).getLsbD b)
              | .w1s => (s.rd reg).getLsbD b || value.getLsbD (b - lo)
              | .ro | .wo | .rwl => (s.rd reg).getLsbD b) ∧
    (off.toNat % n ≠ 0 → (0x100000 ≤ off.toNat → off.toNat < 0x140000 → 0x1000 < off.toNat % 0x4000 + n) → s.host.d3 = false →
      Completes (.registerWrite off size4 value true) s fun t =>
        t.fld ctlPcieStat CTL_PCIE_STAT_BAD_ACCESS = bumped s ctlPcieStat CTL_PCIE_STAT_BAD_ACCESS ∧ t.flag ctlHostAlert (bitF 25) = true ∧
          ∀ o, o ∉ [ctlPcieStat, ctlHostAlert, msixPba] → t.rd o = s.rd o) ∧
    (∀ m : Fin 16, 0x100000 + 0x4000 * m.val ≤ off.toNat → off.toNat + n ≤ 0x101000 + 0x4000 * m.val →
      Completes (.registerWrite off size4 value host) s fun t =>
        t = { s with fw := t.fw } ∧ kgets (fun _ => 0) t.fw.mbmem (off.toNat - 0x100000) n = leBytes n value.toNat))


/-! ### Power, clocks, heat and ageing (chapter 14) -/

/-- Supplies and clocks (R393, R515, R517, R519 to R522, R528, R530 to R532, R542 to R545, R553, R562): the samples of VIN are shown and the fourth
beyond a level crosses it; a dip is alerted, logged when it ends, and expires as SUPPLY after 2 ms; POR follows a crossing by 200 µs; overpower, a rail
out of range and a failed droop monitor are SUPPLY; the rails come up at the ledger's voltages once VIN
has been in range for 10 ms; a STEP that may not change is kept; lost references raise
CLOCK or begin holdover. -/
def Obligations.SuppliesAndClocks : Prop :=
  ∀ (s : State),
    (∀ vin iin pin, (s.pwr.por = true → Completes (.vinSample vin iin pin) s fun t =>
        t = { s with pwr := { s.pwr with okRun := if 5900 ≤ vin ∧ vin ≤ 7800 then s.pwr.okRun + 1 else 0 } }) ∧
      (s.pwr.por = false → Completes (.vinSample vin iin pin) s fun t =>
        t.fld pwrVin PWR_VIN_VIN = min 65535 vin ∧ t.fld pwrVin PWR_VIN_IIN = min 65535 iin ∧ t.fld pwrVin PWR_VIN_PIN = min 65535 pin ∧
          t.pwr.warnRun = (if vin < 5800 then s.pwr.warnRun + 1 else 0) ∧ t.pwr.okRun = (if 5900 ≤ vin then s.pwr.okRun + 1 else 0) ∧
          t.pwr.resetRun = (if vin < 5000 then s.pwr.resetRun + 1 else 0) ∧ t.pwr.ovRun = (if 8000 < vin then s.pwr.ovRun + 1 else 0) ∧
          (vin < 5800 → 3 ≤ s.pwr.warnRun → s.flag pwrVin PWR_VIN_BELOW_WARN = false →
            t.flag pwrVin PWR_VIN_BELOW_WARN = true ∧ t.flag pwrVin PWR_VIN_HOLDUP = true ∧ t.flag pwrSupplyEvt PWR_SUPPLY_EVT_DIP = true ∧
              t.flag ctlHostAlert (bitF 16) = true ∧ t.pwr.dip = some s.pwr.onTicks) ∧
          (5900 ≤ vin → 3 ≤ s.pwr.okRun → s.flag pwrVin PWR_VIN_BELOW_WARN = true →
            t.flag pwrVin PWR_VIN_BELOW_WARN = false ∧ t.flag pwrVin PWR_VIN_HOLDUP = false ∧ t.pwr.dip = none ∧
              (s.holdupOut = false → s.flag pwrVin PWR_VIN_HOLDUP = true → s.pwr.porAt = none →
                t.fld pwrSupplyEvt PWR_SUPPLY_EVT_DIPS = bumped s pwrSupplyEvt PWR_SUPPLY_EVT_DIPS ∧
                  t.fld pwrDipLog PWR_DIP_LOG_MIN_V = min s.pwr.low vin % 2 ^ 16 ∧
                  t.fld pwrDipLog PWR_DIP_LOG_DURATION = (s.pwr.onTicks - s.pwr.dip.getD s.pwr.onTicks) / 1000 % 2 ^ 20)) ∧
          (vin < 5000 → s.pwr.resetRun = 3 →
            t.flag pwrSupplyEvt PWR_SUPPLY_EVT_BELOW_RESET = true ∧ (s.pwr.mod = false → Raised t 11 0) ∧
              t.pwr.porAt = some (s.pwr.porAt.getD (s.pwr.onTicks + 200000))) ∧
          (8000 < vin → s.pwr.ovRun = 3 →
            t.flag pwrSupplyEvt PWR_SUPPLY_EVT_OVERVOLT = true ∧ (s.pwr.mod = false → Raised t 11 0) ∧
              t.pwr.porAt = some (s.pwr.porAt.getD (s.pwr.onTicks + 200000))))) ∧
    (s.holdupOut = true → Completes .holdupExpired s fun t =>
      t.flag pwrVin PWR_VIN_HOLDUP = false ∧ t.flag pwrSupplyEvt PWR_SUPPLY_EVT_HOLDUP_EXPIRED = true ∧ (s.pwr.mod = false → Raised t 11 0)) ∧
    (s.holdupOut = false → Completes .holdupExpired s fun t => t = s) ∧
    (∀ at_, s.pwr.porAt = some at_ →
      (at_ ≤ s.pwr.onTicks → Completes .porAfterCrossing s fun t => t.pwr = { PwrSt.reset with por := true } ∧ t.mem = State.reset.mem) ∧
      (s.pwr.onTicks < at_ → Completes .porAfterCrossing s fun t => t = s)) ∧
    (∀ pin, (s.pwr.por = false → 2000 < pin → Completes (.overpower pin) s fun t =>
        t.flag pwrSupplyEvt PWR_SUPPLY_EVT_OVERPOWER = true ∧ (s.pwr.mod = false → Raised t 11 0) ∧ t.fld pwrVin PWR_VIN_PIN = min 65535 pin) ∧
      (pin ≤ 2000 → Completes (.overpower pin) s fun t => t = s)) ∧
    (∀ (r : Fin 20) (meas : BitVec 10), s.pwr.por = false → s.pwr.gated = false ∨ 10 ≤ r.val →
      let set := s.fld (pwrRail r) PWR_RAIL_SET
      let inside := 97 * set ≤ 100 * meas.toNat ∧ 100 * meas.toNat ≤ 103 * set
      (inside → Completes (.railFault r meas) s fun t => OnlyRegs (fun off => off = pwrRail r) s t ∧
        t.fld (pwrRail r) PWR_RAIL_MEAS = meas.toNat ∧ t.fld (pwrRail r) PWR_RAIL_MIN = min meas.toNat (s.fld (pwrRail r) PWR_RAIL_MIN) ∧
        t.fld (pwrRail r) PWR_RAIL_OUT = s.fld (pwrRail r) PWR_RAIL_OUT) ∧
      (¬ inside → r.val ≠ 11 → Completes (.railFault r meas) s fun t => t.flag (pwrRail r) PWR_RAIL_OUT = true ∧
        t.flag pwrSupplyEvt PWR_SUPPLY_EVT_RAIL_FAULT = true ∧ t.fld pwrSupplyEvt PWR_SUPPLY_EVT_RAIL = r.val ∧
        (s.pwr.mod = false → Raised t 11 1)) ∧
      (¬ inside → r.val = 11 → Completes (.railFault r meas) s fun t => t.pwr = { PwrSt.reset with por := true } ∧ t.mem = State.reset.mem)) ∧
    (let ready := s.pwr.por = true ∧ s.fld pwrClk PWR_CLK_LOST % 8 = 0 ∧ 10000 ≤ s.pwr.okRun;
      (ready → Completes .powerUp s fun t =>
        t.pwr = { s.pwr with por := false, hours0 := s.fw.ledgerFlash.hours, okRun := 0 } ∧ t.fw = s.fw ∧ ∀ r < 12,
          let v := kget (fun _ => 0) s.fw.ledgerFlash.rails r
          t.fld (pwrRail r) PWR_RAIL_SET = if v = 0 then s.fld (pwrRail r) PWR_RAIL_SET else v % 2 ^ 10) ∧
      (¬ ready → Completes .powerUp s fun t => t = s)) ∧
    (∀ v : Word64, s.heldReset = false → Completes (.arithStepWrite v) s fun t => ∀ j : Fin 8,
      let old := s.fld pwrArith (PWR_ARITH_STEP j)
      let new := getF v (PWR_ARITH_STEP j)
      (new = old → t.fld pwrArith (PWR_ARITH_STEP j) = old ∧ t.flag pwrArith (PWR_ARITH_LOCKED j) = s.flag pwrArith (PWR_ARITH_LOCKED j)) ∧
      (new ≠ old → s.running j = true ∨ new < s.fld pwrArith PWR_ARITH_TOP_STEP →
        t.fld pwrArith (PWR_ARITH_STEP j) = old ∧ t.flag pwrArith PWR_ARITH_STEP_REFUSED = true) ∧
      (new ≠ old → s.running j = false → s.fld pwrArith PWR_ARITH_TOP_STEP ≤ new →
        t.fld pwrArith (PWR_ARITH_STEP j) = new ∧ t.flag pwrArith (PWR_ARITH_LOCKED j) = false)) ∧
    (∀ n : Fin 8, s.heldReset = false → s.pwr.gated = false → Completes (.arithPllLocked n) s fun t =>
      t.flag pwrArith (PWR_ARITH_LOCKED n) = true ∧ ∀ off, off ≠ pwrArith → off ≠ timCnt n → t.rd off = s.rd off) ∧
    (∀ r : Fin 6, s.heldReset = false → Completes (.ctrlDroopStretch r) s fun t =>
      t.fld pwrClk PWR_CLK_CTRL_STRETCH = bumped s pwrClk PWR_CLK_CTRL_STRETCH ∧ OnlyRegs (fun off => off = pwrClk) s t) ∧
    (∀ n : Fin 8, s.heldReset = false → (Completes (.netDroop n false) s fun t =>
        t.fld pwrClk PWR_CLK_NET_BOOST = bumped s pwrClk PWR_CLK_NET_BOOST ∧ OnlyRegs (fun off => off = pwrClk) s t) ∧
      Completes (.netDroop n true) s fun t => t.fld pwrClk PWR_CLK_NET_BOOST = bumped s pwrClk PWR_CLK_NET_BOOST ∧
        t.flag pwrSupplyEvt PWR_SUPPLY_EVT_NET_DROOP_FAIL = true ∧ Raised t 11 1) ∧
    (∀ w : Fin 4, (s.pwr.por = true → Completes (.refclkLoss w) s fun t => t = s) ∧
      (s.pwr.por = false → s.pwr.mod = true → Completes (.refclkLoss w) s fun t => t.flag pwrClk (bitF w) = true ∧ OnlyRegs (fun off => off = pwrClk) s t) ∧
      (s.heldReset = false → Completes (.refclkLoss w) s fun t => t.flag pwrClk (bitF w) = true ∧ t.flag pwrClk (bitF (4 + w)) = true ∧
      (w.val < 2 → Raised t 10 w) ∧ (w = 2 → s.timLost = false → t.timLost = true ∧ t.fld timStat TIM_STAT_STATE = tsHoldover) ∧
      (w = 3 → OnlyRegs (fun off => off = pwrClk) s t))) ∧
    (∀ w : Fin 4, Completes (.refclkReturn w) s fun t => t.flag pwrClk (bitF w) = false ∧
      (w ≠ 2 → OnlyRegs (fun off => off = pwrClk) s t) ∧ (s.heldReset = true → OnlyRegs (fun off => off = pwrClk) s t) ∧
      (w = 2 → s.heldReset = false → s.timLost = true → t.timLost = false))

/-- Heat and ageing (R533, R535 to R539, R548 to R552): a group at its warning limit warns the host, at its curtain limit raises HOST, at its trip point
raises THERMAL; a resurvey notes each site's failure voltage, top step and margins; a rail steps 5 mV toward what it asks, up on any rail and down only
on a channel's that does not run, once in 10 µs; the ledger goes to flash. Which die a tripping optical engine stands on is a free value. -/
def Obligations.HeatAndAgeing : Prop :=
  ∀ (s : State),
    (∀ (g : Fin 7) (c : Int), s.heldReset = false →
      let lim := s.heatLimits g
      ((lim.1 : Int) ≤ c → c < lim.2 → Completes (.thermalWarn g c) s fun t =>
        t.flag pwrThermStat PWR_THERM_STAT_WARN = true ∧ t.fld pwrThermStat PWR_THERM_STAT_GROUP = g.val ∧ t.flag ctlHostAlert (bitF 17) = true ∧
          kget (fun _ => 0) t.pwr.temps g = c) ∧
      (c < lim.1 → Completes (.thermalWarn g c) s fun t => kget (fun _ => 0) t.pwr.temps g = c ∧
        t.fld pwrThermStat PWR_THERM_STAT_WARN = s.fld pwrThermStat PWR_THERM_STAT_WARN ∧
        ∀ off, off ∉ [pwrThermStat, brdPin] → t.rd off = s.rd off) ∧
      ((lim.2 : Int) ≤ c → c < tripPoint g → Completes (.thermalCurtain g c) s fun t =>
        t.flag pwrThermStat PWR_THERM_STAT_CURTAIN = true ∧ t.fld pwrThermStat PWR_THERM_STAT_GROUP = g.val ∧ Raised t 14 0) ∧
      (tripPoint g ≤ c → Completes (.thermalTrip g c) s fun t =>
        t.flag pwrThermStat PWR_THERM_STAT_TRIP = true ∧ t.fld pwrThermStat PWR_THERM_STAT_GROUP = g.val ∧ Raised t 12 g ∧
          t.saf.haltCause = true ∧ (s.fld safStat SAF_STAT_STATE = 0 → t.fld safStat SAF_STAT_STATE ≠ 0))) ∧
    (∀ vfail : List (List Nat), s.heldReset = false → Completes (.resurvey vfail) s fun t =>
      t.fld pwrResurvey PWR_RESURVEY_COUNT = (s.fld pwrResurvey PWR_RESURVEY_COUNT + 1) % 2 ^ 16 ∧
        t.fw.ledger.surveys = s.fw.ledger.surveys + 1 ∧ t.fw.ledgerFlash = s.fw.ledgerFlash ∧ ∀ k : Fin 14,
          let v := nth [] vfail k
          let use := nth vMax v (if k.val < 8 then s.fld pwrArith (PWR_ARITH_STEP k) else 0)
          let top := if k.val < 8 then topStep s.survey3.2.1 v else 0
          t.fld (pwrSite k) PWR_SITE_V_FAIL = use % 2 ^ 10 ∧ t.fld (pwrSite k) PWR_SITE_TOP = top ∧
            t.fld (pwrSite k) PWR_SITE_V_FAIL_TOP = nth vMax v top % 2 ^ 10 ∧
            (t.flag (pwrSite k) PWR_SITE_BELOW_GUARD = true ↔ (s.railMv (siteRail k) : Int) - use < s.survey3.1) ∧
            (t.flag (pwrSite k) PWR_SITE_CRITICAL = true ↔ vMax < use + s.survey3.2.2)) ∧
    (∀ r : Fin 20,
      let set := s.fld (pwrRail r) PWR_RAIL_SET
      let goal := kget (fun _ => 0) s.pwr.goal r
      s.heldReset = false → goal ≠ 0 → goal < 2 ^ 10 → (∀ e ∈ s.pwr.railTick, e.1 = r.val → e.2 + 10000 ≤ s.now) →
        (set < goal → Completes (.railVoltageStep r true) s fun t => t.fld (pwrRail r) PWR_RAIL_SET = set + 1 ∧ (r.val, s.now) ∈ t.pwr.railTick ∧
          (goal = set + 1 → kget (fun _ => 0) t.pwr.goal r = 0) ∧ ∀ k < 14, siteRail k = r.val → t.fld (pwrSite k) PWR_SITE_V_OP = t.railMv r % 2 ^ 10) ∧
        (goal < set → r.val < 8 → s.running r = false → Completes (.railVoltageStep r false) s fun t =>
          t.fld (pwrRail r) PWR_RAIL_SET = set - 1 ∧ (r.val, s.now) ∈ t.pwr.railTick) ∧
        (goal ≤ set → Completes (.railVoltageStep r true) s fun t => t = s) ∧
        (set ≤ goal ∨ 8 ≤ r.val ∨ s.running r = true → Completes (.railVoltageStep r false) s fun t => t = s)) ∧
    (∀ (r : Fin 20) (up : Bool), kget (fun _ => 0) s.pwr.goal r = 0 → Completes (.railVoltageStep r up) s fun t => t = s) ∧
    (s.fld ctlBoot CTL_BOOT_MODE = 0 ∨ s.fld ctlBoot CTL_BOOT_MODE = 3 → Completes .ledgerWrite s fun t =>
      t.fw.ledgerFlash = t.fw.ledger ∧ t.fw.ledger.gen = s.fw.ledger.gen + 1 ∧ t.fw.ledger.hours = s.hours ∧
        t.fw.ledger.records = s.fw.ledger.records ++ [(s.hours, (List.range 14).map fun k => s.fld (pwrSite k) PWR_SITE_V_FAIL_TOP)] ∧
        (∀ r < 12, kget (fun _ => 0) t.fw.ledger.rails r = s.fld (pwrRail r) PWR_RAIL_SET) ∧ t = { s with fw := t.fw }) ∧
    (s.fld ctlBoot CTL_BOOT_MODE ≠ 0 → s.fld ctlBoot CTL_BOOT_MODE ≠ 3 → Completes .ledgerWrite s fun t => t = s)


/-! ### Management interfaces (chapter 15) -/

/-- The I3C target (R565 to R569): outside POR and MOD it answers; a READ selects a register, a WRITE reaches PWR_CAP and PWR_THERM_CTL while WRITE_EN is 1,
a malformed or forbidden transfer has its status and is counted; the next read gives the status and the value; the common command codes do
what R565 gives; an in-band interrupt carries the vectors that rose. GETSTATUS gives free values (its bytes are the standard's). -/
def Obligations.I3cTarget : Prop :=
  ∀ (s : State), s.heldReset = false →
    (∀ b : List Byte,
      let off := leAt b 1 4
      (b.length = 5 → leAt b 0 1 = 1 → off % 8 = 0 → Completes (.i3cPrivateSelect b) s fun t =>
        t = { s with brd := { s.brd with sel := some off, status := 0 } }) ∧
      (b.length ≠ 5 ∨ leAt b 0 1 ≠ 1 ∨ off % 8 ≠ 0 → Completes (.i3cPrivateSelect b) s fun t =>
        t = { s with brd := { s.brd with sel := none, status := 2 } }) ∧
      (b.length = 13 → leAt b 0 1 = 2 → off = pwrCap ∨ off = pwrThermCtl → s.flag brdI3c BRD_I3C_WRITE_EN = true →
        Completes (.i3cPrivateWrite b) s fun t => t.brd = { s.brd with status := 0 } ∧
          ∀ k i j, locate off = some (k, i, j) → t.rd off = writeWord k.fields false (s.beforeRd off) (s.rd off) (BitVec.ofNat 64 (leAt b 5 8)) (~~~0)) ∧
      (b.length = 13 → leAt b 0 1 = 2 → off % 8 = 0 → (off ≠ pwrCap ∧ off ≠ pwrThermCtl) ∨ s.flag brdI3c BRD_I3C_WRITE_EN = false →
        Completes (.i3cPrivateWrite b) s fun t => t.brd = { s.brd with status := 1 } ∧
          t.fld brdI3c BRD_I3C_NOT_ALLOWED = bumped s brdI3c BRD_I3C_NOT_ALLOWED ∧ ∀ o, o ≠ brdI3c → t.rd o = s.rd o) ∧
      (b.length ≠ 13 ∨ leAt b 0 1 ≠ 2 ∨ off % 8 ≠ 0 → Completes (.i3cPrivateWrite b) s fun t =>
        t = { s with brd := { s.brd with status := 2 } })) ∧
    (∀ busy : Bool,
      let answers (st v : Nat) : Prop := Completes (.i3cPrivateRead busy) s fun t =>
        t.brd = { s.brd with status := 0, reply := leBytes 1 st ++ leBytes 8 v } ∧
          t.fld brdI3c BRD_I3C_PROTO_ERR = (if st = 2 then bumped s brdI3c BRD_I3C_PROTO_ERR else s.fld brdI3c BRD_I3C_PROTO_ERR) ∧
          ∀ o, o ≠ brdI3c → t.rd o = s.rd o
      (∀ off, s.brd.status = 0 → s.brd.sel = some off →
        (i3cReads off = false → answers 1 0) ∧ (i3cReads off = true → busy = true → answers 3 0) ∧
          (i3cReads off = true → busy = false → answers 0 (if s.pwr.gated = true ∧ onComputeDie off = true then 0 else (s.rd off).toNat))) ∧
      (s.brd.status = 1 → answers 1 0) ∧ (s.brd.status = 2 ∨ (s.brd.status = 0 ∧ s.brd.sel = none) → answers 2 0)) ∧
    (∀ ev : Byte, (Completes (.enec ev) s fun t =>
        (t.flag brdI3c BRD_I3C_IBI_EN = true ↔ bit ev.toNat 0 = true ∨ s.flag brdI3c BRD_I3C_IBI_EN = true) ∧
          OnlyRegs (fun off => off = brdI3c) s t) ∧
      Completes (.disec ev) s fun t =>
        (t.flag brdI3c BRD_I3C_IBI_EN = true ↔ bit ev.toNat 0 = false ∧ s.flag brdI3c BRD_I3C_IBI_EN = true) ∧
          OnlyRegs (fun off => off = brdI3c) s t) ∧
    (∀ a b : BitVec 7,
      let took (i : Instr) (x : BitVec 7) : Prop := Completes i s fun t => t.fld brdI3c BRD_I3C_DYN_ADDR = x.toNat ∧
        t.flag brdI3c BRD_I3C_DYN_VALID = true ∧ OnlyRegs (fun off => off = brdI3c) s t
      (s.flag brdI3c BRD_I3C_DYN_VALID = false → took (.entdaa a) a) ∧
      (s.flag brdI3c BRD_I3C_DYN_VALID = false → a.toNat = s.fld brdI3c BRD_I3C_STATIC_ADDR → took (.setdasa a b) b) ∧
      (s.flag brdI3c BRD_I3C_DYN_VALID = true → Completes (.entdaa a) s fun t => t = s) ∧
      (s.flag brdI3c BRD_I3C_DYN_VALID = true ∨ a.toNat ≠ s.fld brdI3c BRD_I3C_STATIC_ADDR → Completes (.setdasa a b) s fun t => t = s)) ∧
    (Completes .rstdaa s fun t => t.flag brdI3c BRD_I3C_DYN_VALID = false ∧ t.fld brdI3c BRD_I3C_DYN_ADDR = 0 ∧
      OnlyRegs (fun off => off = brdI3c) s t) ∧
    (∀ i b, (i, b) ∈ [(Instr.getpid, beBytes 6 (0x2E71 * 2 ^ 33 + 2 ^ 32 + Config.serial % 2 ^ 32)), (.getbcr, [0x06#8]), (.getdcr, [0x00#8]),
        (.getmwl, beBytes 2 13), (.getmrl, beBytes 2 9)] → Completes i s fun t => t = { s with brd := { s.brd with reply := b } }) ∧
    (Completes .getstatus s fun t => t.brd.reply.length = 2 ∧ t = { s with brd := { s.brd with reply := t.brd.reply }, free := s.free + 2 }) ∧
    (s.ibi ≠ 0 → s.flag brdI3c BRD_I3C_IBI_EN = true → Completes (.ibiRetry true) s fun t =>
      t = { s with ibi := 0, brd := { s.brd with reply := leBytes 1 s.ibi } }) ∧
    (Completes (.ibiRetry false) s fun t => t = s)

/-- The test access port (R570, R571, R578): outside POR an instruction is shown in IR and selects what shifts out; EXTEST, CLAMP, HIGHZ are refused while
ARMED, DTMCS and DMI while ARMED or DEBUG_LOCK is 1: a refused one acts as BYPASS and is counted; HIGHZ releases every output; a reset of the port
selects IDCODE. A scan of DMI shifts out what the operation before gave, and reads or writes the debug module, by which a core halts, resumes, and
shows its registers. What the boundary-scan register holds is a free value (log entry 55); the debug module's layout is PRESUMED (log entry 76). -/
def Obligations.TestAccessPort : Prop :=
  ∀ (s : State), s.pwr.por = false →
    (let armed := s.flag safCtl SAF_CTL_ARMED = true
      let locked := s.flag brdJtag BRD_JTAG_DEBUG_LOCK = true
      let runs (i : Instr) (code : Nat) (P : State → Prop) : Prop := Completes i s fun t =>
        t.fld brdJtag BRD_JTAG_IR = code ∧ t.flag brdJtag BRD_JTAG_TAP_RESET = false ∧
          t.fld brdJtag BRD_JTAG_REFUSED = s.fld brdJtag BRD_JTAG_REFUSED ∧ (∀ off, off ∉ [brdJtag, brdPin] → t.rd off = s.rd off) ∧ P t
      let refused (i : Instr) : Prop := Completes i s fun t =>
        t.brd.shift = [0] ∧ t.brd.drive = none ∧
          t.fld brdJtag BRD_JTAG_REFUSED = bumped s brdJtag BRD_JTAG_REFUSED ∧ ∀ off, off ∉ [brdJtag, brdPin] → t.rd off = s.rd off
      let drives (t : State) (d : Nat) : Prop := t.brd.drive = some d ∧ t.fld brdPin BRD_PIN_ALERT_OUT = b2n (bit d 0) ∧
        t.fld brdPin BRD_PIN_THERMTRIP_OUT = b2n (bit d 1) ∧ t.fld brdPin BRD_PIN_PWR_OK_OUT = b2n (bit d 2) ∧
        t.fld brdPin BRD_PIN_HALT_OUT = b2n (bit d 3);
      (¬ armed → runs .extest 0x00 (fun t => ∃ d, drives t d)) ∧ (¬ armed → runs .clamp 0x03 (fun t => t.brd.shift = [0] ∧ ∃ d, drives t d)) ∧
      (¬ armed → runs .highz 0x04 (fun t => t.brd.shift = [0] ∧ drives t 0)) ∧
      (armed → ∀ i ∈ [Instr.extest, .clamp, .highz], refused i) ∧
      runs .idcode 0x01 (fun t => t.brd.drive = none ∧
        t.brd.shift = leBytes 4 (s.fld ctlChipId CTL_CHIP_ID_STEPPING / 16 * 2 ^ 28 + 0xA3019CF)) ∧
      runs .samplePreload 0x02 (fun t => t.brd.drive = none) ∧
      (¬ armed → ¬ locked → runs .dtmcs 0x10 (fun t => t.brd.shift = leBytes 4 dtmcsValue ∧ t.brd.drive = none)) ∧
      (∀ a d o, ¬ armed → ¬ locked → runs (.dmi a d o) 0x11 fun t => t.brd.shift = s.dmiShift a ∧ t.brd.drive = none ∧
        (o = 0 ∨ o = 3 → t.brd.dbg = s.brd.dbg ∧ t.fw = s.fw) ∧
        (o = 1 → t.brd.dbg = { s.brd.dbg with last := s.dmRead a } ∧ t.fw = s.fw)) ∧
      (∀ c : Fin 5, ¬ armed → ¬ locked →
        (s.fld (ctlCore c) CTL_CORE_STATE = 1 →
          runs (.dmi 0x10 (BitVec.ofNat 32 (2 ^ 31 + 2 ^ 16 * c + 1)) 2) 0x11 (fun t => t.fw.cores[c].halted = true) ∧
          runs (.dmi 0x10 (BitVec.ofNat 32 (2 ^ 30 + 2 ^ 16 * c + 1)) 2) 0x11 (fun t =>
            t.fw.cores[c].halted = (s.fw.cores[c].halted && s.fw.cores[c].step) ∧ t.fw.cores[c].resumeAck = s.fw.cores[c].halted)) ∧
        (s.brd.dbg.active = true → s.brd.dbg.cmdErr = 0 → s.brd.dbg.hart = c.val → s.fw.cores[c].halted = true →
          runs (.dmi 0x17 0x00320301 2) 0x11 (fun t =>
            t.brd.dbg.data = #v[(s.csr c .misa).setWidth 32, (s.csr c .misa >>> 32).setWidth 32] ∧ t.fw = s.fw))) ∧
      (∀ a d o, armed ∨ locked → ∀ i ∈ [Instr.dtmcs, .dmi a d o], refused i) ∧
      (∀ c : BitVec 8, c.toNat ∉ [0x00, 0x01, 0x02, 0x03, 0x04, 0x10, 0x11] → runs (.bypass c) c.toNat
        (fun t => t.brd.shift = [0] ∧ t.brd.drive = none)) ∧
      (∀ c : BitVec 8, Completes (.bypass c) s fun t => t.brd.shift = [0] ∧ t.brd.drive = none ∧
        t.fld brdJtag BRD_JTAG_REFUSED = s.fld brdJtag BRD_JTAG_REFUSED)) ∧
    (Completes .tapReset s fun t => t.fld brdJtag BRD_JTAG_IR = 0x01 ∧ t.flag brdJtag BRD_JTAG_TAP_RESET = true ∧ t.brd.drive = none ∧
      t.brd.shift = s.idcode ∧
      t.fld brdJtag BRD_JTAG_REFUSED = s.fld brdJtag BRD_JTAG_REFUSED)


/-! ### The machine -/

/-- A step takes the command at the front of the queue and is exec on the rest. On an empty queue one tick passes (the model's choice, log entry 1):
TIM_NOW and the count of power-on time are one higher, a new cycle of every register begins, and where neither firmware nor the host has work, no count
crosses, no read of channel SRAM waits and no slot ends, nothing else changes but what the links show of time; in POR nothing changes, and in MOD time
stands at 0. -/
def Obligations.StepRunsFront : Prop :=
  ∀ (s : State),
    (∀ (c : Instr) (rest : List Instr), s.pending = c :: rest → step s = exec c { s with pending := rest }) ∧
    (s.pending = [] →
      (s.pwr.por = true → step s = .next s) ∧
      (s.pwr.por = false → s.pwr.mod = true → step s = .next { s with pwr := { s.pwr with onTicks := s.pwr.onTicks + 1 } }) ∧
      (s.heldReset = false → s.fw.resetAt = [] → s.mem.hostq = [] → s.fwRuns = false →
        ∃ t, step s = .next t ∧ t.rd timNow = s.rd timNow + 1 ∧ t.pwr.onTicks = s.pwr.onTicks + 1 ∧
          (s.flag mcHostwin MC_HOSTWIN_RATE_EN = false → 7 * (s.now + 1) / 8 = s.slotNow →
            (∀ n : Fin 8, (s.chan n).held = none ∧ (∀ x ∈ (s.chan n).streams.toList, x.up = [] ∧ x.down = []) ∧
              (∀ q < 24, ((s.chan n).stream q).desc = none) ∧ ∀ q : Fin 8, ∀ d ∈ (s.chan n).txq[q], d.n ≤ d.data.length) →
            (∀ off, off ≠ timNow → (∀ l : Fin 24, off ≠ lnkStatus l ∧ off ≠ lnkSeq l) → t.rd off = s.rd off ∧ t.beforeRd off = s.rd off) ∧
              (∀ l : Fin 24, t.fld (lnkSeq l) LNK_SEQ_TX_FLOOR = t.floorOf l % 2 ^ 12 ∧
                ∀ g, (s.link l).grace = some g → t.fld (lnkStatus l) LNK_STATUS_GRACE_LEFT = (g - t.now + 999) / 1000 % 2 ^ 17) ∧
              t = { s with regs := t.regs, before := t.before, pwr := { s.pwr with onTicks := s.pwr.onTicks + 1 } })))

/-- The state after reset (R10, R121, R293, R375, R484): every register holds its reset value, but every channel is in INIT, the device's own route ends
here and the routes are drained, and PWR_OK_N is driven; memories hold nothing, queues are empty; and it meets the invariant. -/
def Obligations.ResetState : Prop :=
  let s := State.reset
  (∀ off, (∀ n : Fin 8, off ≠ chStatus n) → off ∉ [netRoute 0, netUnsStat, brdPin] → s.rd off = regReset off) ∧
    (∀ n : Fin 8, s.fld (chStatus n) CH_STATUS_STATE = stInit ∧ s.chan n = Chan.reset) ∧ s.rd (netRoute 0) = 6 ∧
    s.flag netUnsStat NET_UNS_STAT_DRAINED = s.drained ∧ s.now = 0 ∧ s.fld ctlBoot CTL_BOOT_MODE = 1 ∧
    (∀ l : Fin 24, s.lstate l = lsOff) ∧ s.before = s.regs ∧ s.mem.bytes = [] ∧ s.pending = [] ∧ s.heldReset = false ∧ s.Inv

/-- Every step keeps the canonical form of registers, device memory, mailbox memory and the channels' memories, on which reading what was written
rests; takes exactly the front command from the queue; and ends in a next state. -/
def Obligations.InvariantKept : Prop :=
  ∀ (s : State), s.Inv → ∃ t, step s = .next t ∧ t.Inv ∧ t.pending = s.pending.tail

/-- What no step changes (R9, R34, R483, R486, R488): key slot 1 once it is written, the least security version downward, and a placement once LOCK
is set, which only POR and MOD clear: a write to it then, of LOCK too, changes nothing and is counted. -/
def Obligations.FusesAndPlacementHold : Prop :=
  ∀ (s t : State),
    (step s = .next t → Fuses s t ∧ (s.flag netPlace NET_PLACE_LOCK = true → t.heldReset = true ∨ t.rd netPlace = s.rd netPlace)) ∧
    (∀ v : Word64, s.heldReset = false → s.flag netPlace NET_PLACE_LOCK = true → Completes (.netPlaceWrite v) s fun t =>
      t.rd netPlace = s.rd netPlace ∧
        t.fld safLockViolCount SAF_LOCK_VIOL_COUNT_COUNT = bumped s safLockViolCount SAF_LOCK_VIOL_COUNT_COUNT ∧
        OnlyRegs (fun off => off = safLockViolCount) s t)
end

