-- ==== Sys2Proof/Laws/Maps.lean ====
section
/-!
SUPPORT. Laws of sparse maps and of bit fields: what a key holds after a write, the canonical form, a field after a write of a field.
-/

namespace Sys2Proof.Machine

variable {α : Type}

/-! ### Sparse maps -/

theorem kget_kcons_same [DecidableEq α] (d : Nat → α) (k : Nat) (v : α) (m : KMap α) (h : kget d m k = d k) :
    kget d (kcons d k v m) k = v := by
  unfold kcons
  split
  · rename_i hv; rw [h, hv]
  · simp [kget]

theorem kget_kcons_other [DecidableEq α] (d : Nat → α) (k k' : Nat) (v : α) (m : KMap α) (h : k' ≠ k) :
    kget d (kcons d k v m) k' = kget d m k' := by
  unfold kcons
  split
  · rfl
  · simp [kget, Ne.symm h]

/-- Keys above a bound are absent below it. -/
theorem kget_below [DecidableEq α] (d : Nat → α) (m : KMap α) : ∀ lo k, kwfFrom d lo m = true → k < lo → kget d m k = d k := by
  induction m with
  | nil => intros; rfl
  | cons e m ih =>
    intro lo k h hk
    simp only [kwfFrom, Bool.and_eq_true, decide_eq_true_eq] at h
    have hne : e.1 ≠ k := by omega
    simp only [kget, hne, if_false]
    exact ih (e.1 + 1) k h.2 (by omega)

theorem kget_kdel_same (d : Nat → α) (k : Nat) (m : KMap α) : kget d (kdel k m) k = d k := by
  induction m with
  | nil => rfl
  | cons e m ih =>
    unfold kdel at ih ⊢
    by_cases h : e.1 = k
    · simpa [List.filter_cons, h] using ih
    · simpa [List.filter_cons, h, kget] using ih

theorem kget_kdel_other (d : Nat → α) (k k' : Nat) (m : KMap α) (h : k' ≠ k) : kget d (kdel k m) k' = kget d m k' := by
  induction m with
  | nil => rfl
  | cons e m ih =>
    unfold kdel at ih ⊢
    by_cases he : e.1 = k
    · have : e.1 ≠ k' := fun x => h (x.symm.trans he)
      simpa [List.filter_cons, he, kget, Ne.symm h] using ih
    · simp only [List.filter_cons, he, ne_eq, not_false_eq_true, decide_true, if_true, kget]
      rw [ih]

/-- A key holds what was written to it. -/
theorem kget_kset_same [DecidableEq α] (d : Nat → α) (m : KMap α) (k : Nat) (v : α) : kget d (kset d m k v) k = v := by
  induction m with
  | nil => exact kget_kcons_same d k v [] rfl
  | cons e m ih =>
    simp only [kset]
    split
    · exact kget_kcons_same _ _ _ _ (kget_kdel_same d k _)
    · split
      · exact kget_kcons_same _ _ _ _ (kget_kdel_same d k _)
      · rename_i hne
        simp only [kget, Ne.symm hne, if_false]
        exact ih

/-- A write leaves every other key alone. -/
theorem kget_kset_other [DecidableEq α] (d : Nat → α) (m : KMap α) (k k' : Nat) (v : α) (h : k' ≠ k) :
    kget d (kset d m k v) k' = kget d m k' := by
  induction m with
  | nil => exact kget_kcons_other d k k' v [] h
  | cons e m ih =>
    simp only [kset]
    split
    · rw [kget_kcons_other d k k' v _ h, kget_kdel_other d k k' _ h]
    · split
      · rename_i heq
        rw [kget_kcons_other d k k' v _ h, kget_kdel_other d k k' m h]
        simp only [kget, ← heq, Ne.symm h, if_false]
      · simp only [kget, ih]

theorem kwfFrom_mono [DecidableEq α] (d : Nat → α) (m : KMap α) (lo lo' : Nat) (h : kwfFrom d lo m = true) (hl : lo' ≤ lo) :
    kwfFrom d lo' m = true := by
  cases m with
  | nil => rfl
  | cons e m =>
    simp only [kwfFrom, Bool.and_eq_true, decide_eq_true_eq] at h ⊢
    exact ⟨⟨by omega, h.1.2⟩, h.2⟩

theorem kwfFrom_kcons [DecidableEq α] (d : Nat → α) (k : Nat) (v : α) (m : KMap α) (lo : Nat) (h : kwfFrom d (k + 1) m = true)
    (hl : lo ≤ k) : kwfFrom d lo (kcons d k v m) = true := by
  unfold kcons
  split
  · exact kwfFrom_mono d m _ _ h (by omega)
  · rename_i hv
    simp [kwfFrom, hl, hv, h]

theorem kwfFrom_filter [DecidableEq α] (d : Nat → α) (p : Nat × α → Bool) (m : KMap α) :
    ∀ lo, kwfFrom d lo m = true → kwfFrom d lo (m.filter p) = true := by
  induction m with
  | nil => intro _ _; rfl
  | cons e m ih =>
    intro lo h
    simp only [kwfFrom, Bool.and_eq_true, decide_eq_true_eq] at h
    simp only [List.filter_cons]
    split
    · simp only [kwfFrom, Bool.and_eq_true, decide_eq_true_eq]
      exact ⟨h.1, ih _ h.2⟩
    · exact kwfFrom_mono d _ _ _ (ih _ h.2) (by omega)

theorem kwfFrom_kset [DecidableEq α] (d : Nat → α) (m : KMap α) (k : Nat) (v : α) :
    ∀ lo, kwfFrom d lo m = true → lo ≤ k → kwfFrom d lo (kset d m k v) = true := by
  induction m with
  | nil => intro lo _ hl; exact kwfFrom_kcons d k v [] lo rfl hl
  | cons e m ih =>
    intro lo h hl
    simp only [kwfFrom, Bool.and_eq_true, decide_eq_true_eq] at h
    simp only [kset]
    split
    · rename_i hlt
      apply kwfFrom_kcons d k v _ lo _ hl
      apply kwfFrom_filter
      simp only [kwfFrom, Bool.and_eq_true, decide_eq_true_eq]
      exact ⟨⟨by omega, h.1.2⟩, h.2⟩
    · split
      · rename_i heq
        subst heq
        exact kwfFrom_kcons d e.1 v _ lo (kwfFrom_filter d _ m _ h.2) hl
      · rename_i hn hne
        simp only [kwfFrom, Bool.and_eq_true, decide_eq_true_eq]
        exact ⟨⟨h.1.1, h.1.2⟩, ih _ h.2 (by omega)⟩

/-- A write keeps the canonical form. -/
theorem kwf_kset [DecidableEq α] (d : Nat → α) (m : KMap α) (k : Nat) (v : α) (h : kwf d m = true) : kwf d (kset d m k v) = true :=
  kwfFrom_kset d m k v 0 h (Nat.zero_le _)

/-- Writes of consecutive keys keep the canonical form. -/
theorem kwf_ksets [DecidableEq α] (d : Nat → α) (vs : List α) : ∀ (m : KMap α) (k : Nat), kwf d m = true → kwf d (ksets d m k vs) = true := by
  induction vs with
  | nil => intro m k h; exact h
  | cons v vs ih => intro m k h; exact ih _ _ (kwf_kset d m k v h)

/-- Forgetting keys keeps the canonical form. -/
theorem kwf_kfilter [DecidableEq α] (d : Nat → α) (p : Nat → Bool) (m : KMap α) (h : kwf d m = true) : kwf d (kfilter p m) = true :=
  kwfFrom_filter d _ m 0 h

@[simp] theorem kwf_nil [DecidableEq α] (d : Nat → α) : kwf d ([] : KMap α) = true := rfl

/-! ### Bit fields -/

/-- A number split at a field, with the field replaced, is below 2^64. -/
theorem setF_toNat (v : Word64) (f : Fld) (x : Nat) (h : f.lo + f.w ≤ 64) :
    (setF v f x).toNat = v.toNat / 2 ^ (f.lo + f.w) * 2 ^ (f.lo + f.w) + x % 2 ^ f.w * 2 ^ f.lo + v.toNat % 2 ^ f.lo := by
  unfold setF
  rw [BitVec.toNat_ofNat]
  apply Nat.mod_eq_of_lt
  have hv : v.toNat < 2 ^ 64 := v.isLt
  have hA : (2 : Nat) ^ 64 = 2 ^ (64 - (f.lo + f.w)) * 2 ^ (f.lo + f.w) := by rw [← Nat.pow_add]; congr 1; omega
  have hB : (2 : Nat) ^ (f.lo + f.w) = 2 ^ f.w * 2 ^ f.lo := by rw [← Nat.pow_add]; congr 1; omega
  have h1 : v.toNat / 2 ^ (f.lo + f.w) < 2 ^ (64 - (f.lo + f.w)) := by
    apply Nat.div_lt_of_lt_mul
    rw [Nat.mul_comm, ← hA]; exact hv
  have h2 : x % 2 ^ f.w < 2 ^ f.w := Nat.mod_lt _ (Nat.two_pow_pos _)
  have h3 : v.toNat % 2 ^ f.lo < 2 ^ f.lo := Nat.mod_lt _ (Nat.two_pow_pos _)
  have h4 : x % 2 ^ f.w * 2 ^ f.lo + v.toNat % 2 ^ f.lo < 2 ^ (f.lo + f.w) := by
    rw [hB]
    calc x % 2 ^ f.w * 2 ^ f.lo + v.toNat % 2 ^ f.lo < x % 2 ^ f.w * 2 ^ f.lo + 2 ^ f.lo := by omega
      _ = (x % 2 ^ f.w + 1) * 2 ^ f.lo := by ring
      _ ≤ 2 ^ f.w * 2 ^ f.lo := Nat.mul_le_mul_right _ (by omega)
  rw [hA]
  calc v.toNat / 2 ^ (f.lo + f.w) * 2 ^ (f.lo + f.w) + x % 2 ^ f.w * 2 ^ f.lo + v.toNat % 2 ^ f.lo
      < v.toNat / 2 ^ (f.lo + f.w) * 2 ^ (f.lo + f.w) + 2 ^ (f.lo + f.w) := by omega
    _ = (v.toNat / 2 ^ (f.lo + f.w) + 1) * 2 ^ (f.lo + f.w) := by ring
    _ ≤ 2 ^ (64 - (f.lo + f.w)) * 2 ^ (f.lo + f.w) := Nat.mul_le_mul_right _ (by omega)

/-- A field reads what was written to it. -/
theorem getF_setF_same (v : Word64) (f : Fld) (x : Nat) (h : f.lo + f.w ≤ 64) : getF (setF v f x) f = x % 2 ^ f.w := by
  unfold getF
  rw [setF_toNat v f x h]
  have hB : (2 : Nat) ^ (f.lo + f.w) = 2 ^ f.w * 2 ^ f.lo := by rw [← Nat.pow_add]; congr 1; omega
  have h3 : v.toNat % 2 ^ f.lo < 2 ^ f.lo := Nat.mod_lt _ (Nat.two_pow_pos _)
  have e : v.toNat / 2 ^ (f.lo + f.w) * 2 ^ (f.lo + f.w) + x % 2 ^ f.w * 2 ^ f.lo + v.toNat % 2 ^ f.lo =
      2 ^ f.lo * (v.toNat / 2 ^ (f.lo + f.w) * 2 ^ f.w + x % 2 ^ f.w) + v.toNat % 2 ^ f.lo := by rw [hB]; ring
  rw [e, Nat.mul_add_div (Nat.two_pow_pos _), Nat.div_eq_of_lt h3, Nat.add_zero, Nat.add_comm, Nat.add_mul_mod_self_right, Nat.mod_mod]

/-- A field is untouched by a write to a field apart from it. -/
theorem getF_setF_other (v : Word64) (f g : Fld) (x : Nat) (h : f.lo + f.w ≤ 64) (hd : f.lo + f.w ≤ g.lo ∨ g.lo + g.w ≤ f.lo) :
    getF (setF v f x) g = getF v g := by
  unfold getF
  rw [setF_toNat v f x h]
  have hB : (2 : Nat) ^ (f.lo + f.w) = 2 ^ f.w * 2 ^ f.lo := by rw [← Nat.pow_add]; congr 1; omega
  have h2 : x % 2 ^ f.w < 2 ^ f.w := Nat.mod_lt _ (Nat.two_pow_pos _)
  have h3 : v.toNat % 2 ^ f.lo < 2 ^ f.lo := Nat.mod_lt _ (Nat.two_pow_pos _)
  rcases hd with hd | hd
  · have h4 : x % 2 ^ f.w * 2 ^ f.lo + v.toNat % 2 ^ f.lo < 2 ^ (f.lo + f.w) := by
      rw [hB]
      calc x % 2 ^ f.w * 2 ^ f.lo + v.toNat % 2 ^ f.lo < x % 2 ^ f.w * 2 ^ f.lo + 2 ^ f.lo := by omega
        _ = (x % 2 ^ f.w + 1) * 2 ^ f.lo := by ring
        _ ≤ 2 ^ f.w * 2 ^ f.lo := Nat.mul_le_mul_right _ (by omega)
    have e : (2 : Nat) ^ g.lo = 2 ^ (f.lo + f.w) * 2 ^ (g.lo - (f.lo + f.w)) := by rw [← Nat.pow_add]; congr 1; omega
    rw [e, ← Nat.div_div_eq_div_mul, ← Nat.div_div_eq_div_mul]
    congr 2
    rw [show v.toNat / 2 ^ (f.lo + f.w) * 2 ^ (f.lo + f.w) + x % 2 ^ f.w * 2 ^ f.lo + v.toNat % 2 ^ f.lo =
      2 ^ (f.lo + f.w) * (v.toNat / 2 ^ (f.lo + f.w)) + (x % 2 ^ f.w * 2 ^ f.lo + v.toNat % 2 ^ f.lo) by ring]
    rw [Nat.mul_add_div (Nat.two_pow_pos _), Nat.div_eq_of_lt h4, Nat.add_zero]
  · have e : (2 : Nat) ^ f.lo = 2 ^ (g.lo + g.w) * 2 ^ (f.lo - (g.lo + g.w)) := by rw [← Nat.pow_add]; congr 1; omega
    have key (n : Nat) : n / 2 ^ g.lo % 2 ^ g.w = n % 2 ^ (g.lo + g.w) / 2 ^ g.lo := by
      rw [Nat.pow_add, Nat.mod_mul_right_div_self]
    rw [key, key]
    congr 1
    rw [show v.toNat / 2 ^ (f.lo + f.w) * 2 ^ (f.lo + f.w) + x % 2 ^ f.w * 2 ^ f.lo + v.toNat % 2 ^ f.lo =
      v.toNat % 2 ^ f.lo + (v.toNat / 2 ^ (f.lo + f.w) * 2 ^ f.w + x % 2 ^ f.w) * 2 ^ f.lo by rw [hB]; ring]
    rw [e, Nat.mul_comm (2 ^ (g.lo + g.w)), ← Nat.mul_assoc, Nat.add_mul_mod_self_right]
    rw [Nat.mul_comm (2 ^ (f.lo - (g.lo + g.w))), Nat.mod_mul_right_mod]

end Sys2Proof.Machine
end

