-- ==== Sys2Proof/Laws/State.lean ====
section
/-!
SUPPORT. What each update of the state leaves alone, one lemma for each field, and what reading a register or a channel gives after it.
-/

namespace Sys2Proof.Machine

/-! ### wr -/

@[simp] theorem State.wr_before (s : State) (o : Nat) (v : Word64) : (s.wr o v).before = s.before := rfl
@[simp] theorem State.wr_pending (s : State) (o : Nat) (v : Word64) : (s.wr o v).pending = s.pending := rfl
@[simp] theorem State.wr_free (s : State) (o : Nat) (v : Word64) : (s.wr o v).free = s.free := rfl
@[simp] theorem State.wr_ch (s : State) (o : Nat) (v : Word64) : (s.wr o v).ch = s.ch := rfl
@[simp] theorem State.wr_mem (s : State) (o : Nat) (v : Word64) : (s.wr o v).mem = s.mem := rfl
@[simp] theorem State.wr_arbs (s : State) (o : Nat) (v : Word64) : (s.wr o v).arbs = s.arbs := rfl
@[simp] theorem State.wr_net (s : State) (o : Nat) (v : Word64) : (s.wr o v).net = s.net := rfl
@[simp] theorem State.wr_lnk (s : State) (o : Nat) (v : Word64) : (s.wr o v).lnk = s.lnk := rfl
@[simp] theorem State.wr_tim (s : State) (o : Nat) (v : Word64) : (s.wr o v).tim = s.tim := rfl
@[simp] theorem State.wr_saf (s : State) (o : Nat) (v : Word64) : (s.wr o v).saf = s.saf := rfl
@[simp] theorem State.wr_fw (s : State) (o : Nat) (v : Word64) : (s.wr o v).fw = s.fw := rfl
@[simp] theorem State.wr_host (s : State) (o : Nat) (v : Word64) : (s.wr o v).host = s.host := rfl
@[simp] theorem State.wr_pwr (s : State) (o : Nat) (v : Word64) : (s.wr o v).pwr = s.pwr := rfl
@[simp] theorem State.wr_brd (s : State) (o : Nat) (v : Word64) : (s.wr o v).brd = s.brd := rfl
@[simp] theorem State.wr_signals (s : State) (o : Nat) (v : Word64) : (s.wr o v).signals = s.signals := rfl
@[simp] theorem State.wr_ibi (s : State) (o : Nat) (v : Word64) : (s.wr o v).ibi = s.ibi := rfl
@[simp] theorem State.wr_chan (s : State) (o : Nat) (v : Word64) (k : Fin 8) : (s.wr o v).chan k = s.chan k := rfl
@[simp] theorem State.wr_link (s : State) (o : Nat) (v : Word64) (k : Fin 24) : (s.wr o v).link k = s.link k := rfl

/-! ### setFld -/

@[simp] theorem State.setFld_before (s : State) (o : Nat) (f : Fld) (x : Nat) : (s.setFld o f x).before = s.before := rfl
@[simp] theorem State.setFld_pending (s : State) (o : Nat) (f : Fld) (x : Nat) : (s.setFld o f x).pending = s.pending := rfl
@[simp] theorem State.setFld_free (s : State) (o : Nat) (f : Fld) (x : Nat) : (s.setFld o f x).free = s.free := rfl
@[simp] theorem State.setFld_ch (s : State) (o : Nat) (f : Fld) (x : Nat) : (s.setFld o f x).ch = s.ch := rfl
@[simp] theorem State.setFld_mem (s : State) (o : Nat) (f : Fld) (x : Nat) : (s.setFld o f x).mem = s.mem := rfl
@[simp] theorem State.setFld_arbs (s : State) (o : Nat) (f : Fld) (x : Nat) : (s.setFld o f x).arbs = s.arbs := rfl
@[simp] theorem State.setFld_net (s : State) (o : Nat) (f : Fld) (x : Nat) : (s.setFld o f x).net = s.net := rfl
@[simp] theorem State.setFld_lnk (s : State) (o : Nat) (f : Fld) (x : Nat) : (s.setFld o f x).lnk = s.lnk := rfl
@[simp] theorem State.setFld_tim (s : State) (o : Nat) (f : Fld) (x : Nat) : (s.setFld o f x).tim = s.tim := rfl
@[simp] theorem State.setFld_saf (s : State) (o : Nat) (f : Fld) (x : Nat) : (s.setFld o f x).saf = s.saf := rfl
@[simp] theorem State.setFld_fw (s : State) (o : Nat) (f : Fld) (x : Nat) : (s.setFld o f x).fw = s.fw := rfl
@[simp] theorem State.setFld_host (s : State) (o : Nat) (f : Fld) (x : Nat) : (s.setFld o f x).host = s.host := rfl
@[simp] theorem State.setFld_pwr (s : State) (o : Nat) (f : Fld) (x : Nat) : (s.setFld o f x).pwr = s.pwr := rfl
@[simp] theorem State.setFld_brd (s : State) (o : Nat) (f : Fld) (x : Nat) : (s.setFld o f x).brd = s.brd := rfl
@[simp] theorem State.setFld_signals (s : State) (o : Nat) (f : Fld) (x : Nat) : (s.setFld o f x).signals = s.signals := rfl
@[simp] theorem State.setFld_ibi (s : State) (o : Nat) (f : Fld) (x : Nat) : (s.setFld o f x).ibi = s.ibi := rfl
@[simp] theorem State.setFld_chan (s : State) (o : Nat) (f : Fld) (x : Nat) (k : Fin 8) : (s.setFld o f x).chan k = s.chan k := rfl
@[simp] theorem State.setFld_link (s : State) (o : Nat) (f : Fld) (x : Nat) (k : Fin 24) : (s.setFld o f x).link k = s.link k := rfl

/-! ### keepSet -/

@[simp] theorem State.keepSet_regs (s : State) (o : Nat) (m : Word64) : (s.keepSet o m).regs = s.regs := rfl
@[simp] theorem State.keepSet_pending (s : State) (o : Nat) (m : Word64) : (s.keepSet o m).pending = s.pending := rfl
@[simp] theorem State.keepSet_free (s : State) (o : Nat) (m : Word64) : (s.keepSet o m).free = s.free := rfl
@[simp] theorem State.keepSet_ch (s : State) (o : Nat) (m : Word64) : (s.keepSet o m).ch = s.ch := rfl
@[simp] theorem State.keepSet_mem (s : State) (o : Nat) (m : Word64) : (s.keepSet o m).mem = s.mem := rfl
@[simp] theorem State.keepSet_arbs (s : State) (o : Nat) (m : Word64) : (s.keepSet o m).arbs = s.arbs := rfl
@[simp] theorem State.keepSet_net (s : State) (o : Nat) (m : Word64) : (s.keepSet o m).net = s.net := rfl
@[simp] theorem State.keepSet_lnk (s : State) (o : Nat) (m : Word64) : (s.keepSet o m).lnk = s.lnk := rfl
@[simp] theorem State.keepSet_tim (s : State) (o : Nat) (m : Word64) : (s.keepSet o m).tim = s.tim := rfl
@[simp] theorem State.keepSet_saf (s : State) (o : Nat) (m : Word64) : (s.keepSet o m).saf = s.saf := rfl
@[simp] theorem State.keepSet_fw (s : State) (o : Nat) (m : Word64) : (s.keepSet o m).fw = s.fw := rfl
@[simp] theorem State.keepSet_host (s : State) (o : Nat) (m : Word64) : (s.keepSet o m).host = s.host := rfl
@[simp] theorem State.keepSet_pwr (s : State) (o : Nat) (m : Word64) : (s.keepSet o m).pwr = s.pwr := rfl
@[simp] theorem State.keepSet_brd (s : State) (o : Nat) (m : Word64) : (s.keepSet o m).brd = s.brd := rfl
@[simp] theorem State.keepSet_signals (s : State) (o : Nat) (m : Word64) : (s.keepSet o m).signals = s.signals := rfl
@[simp] theorem State.keepSet_ibi (s : State) (o : Nat) (m : Word64) : (s.keepSet o m).ibi = s.ibi := rfl
@[simp] theorem State.keepSet_rd (s : State) (o : Nat) (m : Word64) (r : Nat) : (s.keepSet o m).rd r = s.rd r := rfl
@[simp] theorem State.keepSet_fld (s : State) (o : Nat) (m : Word64) (r : Nat) (g : Fld) : (s.keepSet o m).fld r g = s.fld r g := rfl
@[simp] theorem State.keepSet_flag (s : State) (o : Nat) (m : Word64) (r : Nat) (g : Fld) : (s.keepSet o m).flag r g = s.flag r g := rfl
@[simp] theorem State.keepSet_chan (s : State) (o : Nat) (m : Word64) (k : Fin 8) : (s.keepSet o m).chan k = s.chan k := rfl
@[simp] theorem State.keepSet_link (s : State) (o : Nat) (m : Word64) (k : Fin 24) : (s.keepSet o m).link k = s.link k := rfl

/-! ### orBits -/

@[simp] theorem State.orBits_pending (s : State) (o : Nat) (m : Word64) : (s.orBits o m).pending = s.pending := rfl
@[simp] theorem State.orBits_free (s : State) (o : Nat) (m : Word64) : (s.orBits o m).free = s.free := rfl
@[simp] theorem State.orBits_ch (s : State) (o : Nat) (m : Word64) : (s.orBits o m).ch = s.ch := rfl
@[simp] theorem State.orBits_mem (s : State) (o : Nat) (m : Word64) : (s.orBits o m).mem = s.mem := rfl
@[simp] theorem State.orBits_arbs (s : State) (o : Nat) (m : Word64) : (s.orBits o m).arbs = s.arbs := rfl
@[simp] theorem State.orBits_net (s : State) (o : Nat) (m : Word64) : (s.orBits o m).net = s.net := rfl
@[simp] theorem State.orBits_lnk (s : State) (o : Nat) (m : Word64) : (s.orBits o m).lnk = s.lnk := rfl
@[simp] theorem State.orBits_tim (s : State) (o : Nat) (m : Word64) : (s.orBits o m).tim = s.tim := rfl
@[simp] theorem State.orBits_saf (s : State) (o : Nat) (m : Word64) : (s.orBits o m).saf = s.saf := rfl
@[simp] theorem State.orBits_fw (s : State) (o : Nat) (m : Word64) : (s.orBits o m).fw = s.fw := rfl
@[simp] theorem State.orBits_host (s : State) (o : Nat) (m : Word64) : (s.orBits o m).host = s.host := rfl
@[simp] theorem State.orBits_pwr (s : State) (o : Nat) (m : Word64) : (s.orBits o m).pwr = s.pwr := rfl
@[simp] theorem State.orBits_brd (s : State) (o : Nat) (m : Word64) : (s.orBits o m).brd = s.brd := rfl
@[simp] theorem State.orBits_signals (s : State) (o : Nat) (m : Word64) : (s.orBits o m).signals = s.signals := rfl
@[simp] theorem State.orBits_ibi (s : State) (o : Nat) (m : Word64) : (s.orBits o m).ibi = s.ibi := rfl
@[simp] theorem State.orBits_chan (s : State) (o : Nat) (m : Word64) (k : Fin 8) : (s.orBits o m).chan k = s.chan k := rfl
@[simp] theorem State.orBits_link (s : State) (o : Nat) (m : Word64) (k : Fin 24) : (s.orBits o m).link k = s.link k := rfl

/-! ### setFlag -/

@[simp] theorem State.setFlag_pending (s : State) (o : Nat) (f : Fld) : (s.setFlag o f).pending = s.pending := rfl
@[simp] theorem State.setFlag_free (s : State) (o : Nat) (f : Fld) : (s.setFlag o f).free = s.free := rfl
@[simp] theorem State.setFlag_ch (s : State) (o : Nat) (f : Fld) : (s.setFlag o f).ch = s.ch := rfl
@[simp] theorem State.setFlag_mem (s : State) (o : Nat) (f : Fld) : (s.setFlag o f).mem = s.mem := rfl
@[simp] theorem State.setFlag_arbs (s : State) (o : Nat) (f : Fld) : (s.setFlag o f).arbs = s.arbs := rfl
@[simp] theorem State.setFlag_net (s : State) (o : Nat) (f : Fld) : (s.setFlag o f).net = s.net := rfl
@[simp] theorem State.setFlag_lnk (s : State) (o : Nat) (f : Fld) : (s.setFlag o f).lnk = s.lnk := rfl
@[simp] theorem State.setFlag_tim (s : State) (o : Nat) (f : Fld) : (s.setFlag o f).tim = s.tim := rfl
@[simp] theorem State.setFlag_saf (s : State) (o : Nat) (f : Fld) : (s.setFlag o f).saf = s.saf := rfl
@[simp] theorem State.setFlag_fw (s : State) (o : Nat) (f : Fld) : (s.setFlag o f).fw = s.fw := rfl
@[simp] theorem State.setFlag_host (s : State) (o : Nat) (f : Fld) : (s.setFlag o f).host = s.host := rfl
@[simp] theorem State.setFlag_pwr (s : State) (o : Nat) (f : Fld) : (s.setFlag o f).pwr = s.pwr := rfl
@[simp] theorem State.setFlag_brd (s : State) (o : Nat) (f : Fld) : (s.setFlag o f).brd = s.brd := rfl
@[simp] theorem State.setFlag_signals (s : State) (o : Nat) (f : Fld) : (s.setFlag o f).signals = s.signals := rfl
@[simp] theorem State.setFlag_ibi (s : State) (o : Nat) (f : Fld) : (s.setFlag o f).ibi = s.ibi := rfl
@[simp] theorem State.setFlag_chan (s : State) (o : Nat) (f : Fld) (k : Fin 8) : (s.setFlag o f).chan k = s.chan k := rfl
@[simp] theorem State.setFlag_link (s : State) (o : Nat) (f : Fld) (k : Fin 24) : (s.setFlag o f).link k = s.link k := rfl

/-! ### nextCycle -/

@[simp] theorem State.nextCycle_regs (s : State) : (s.nextCycle).regs = s.regs := rfl
@[simp] theorem State.nextCycle_pending (s : State) : (s.nextCycle).pending = s.pending := rfl
@[simp] theorem State.nextCycle_free (s : State) : (s.nextCycle).free = s.free := rfl
@[simp] theorem State.nextCycle_ch (s : State) : (s.nextCycle).ch = s.ch := rfl
@[simp] theorem State.nextCycle_mem (s : State) : (s.nextCycle).mem = s.mem := rfl
@[simp] theorem State.nextCycle_arbs (s : State) : (s.nextCycle).arbs = s.arbs := rfl
@[simp] theorem State.nextCycle_net (s : State) : (s.nextCycle).net = s.net := rfl
@[simp] theorem State.nextCycle_lnk (s : State) : (s.nextCycle).lnk = s.lnk := rfl
@[simp] theorem State.nextCycle_tim (s : State) : (s.nextCycle).tim = s.tim := rfl
@[simp] theorem State.nextCycle_saf (s : State) : (s.nextCycle).saf = s.saf := rfl
@[simp] theorem State.nextCycle_fw (s : State) : (s.nextCycle).fw = s.fw := rfl
@[simp] theorem State.nextCycle_host (s : State) : (s.nextCycle).host = s.host := rfl
@[simp] theorem State.nextCycle_pwr (s : State) : (s.nextCycle).pwr = s.pwr := rfl
@[simp] theorem State.nextCycle_brd (s : State) : (s.nextCycle).brd = s.brd := rfl
@[simp] theorem State.nextCycle_signals (s : State) : (s.nextCycle).signals = s.signals := rfl
@[simp] theorem State.nextCycle_ibi (s : State) : (s.nextCycle).ibi = s.ibi := rfl
@[simp] theorem State.nextCycle_rd (s : State) (r : Nat) : (s.nextCycle).rd r = s.rd r := rfl
@[simp] theorem State.nextCycle_fld (s : State) (r : Nat) (g : Fld) : (s.nextCycle).fld r g = s.fld r g := rfl
@[simp] theorem State.nextCycle_flag (s : State) (r : Nat) (g : Fld) : (s.nextCycle).flag r g = s.flag r g := rfl
@[simp] theorem State.nextCycle_chan (s : State) (k : Fin 8) : (s.nextCycle).chan k = s.chan k := rfl
@[simp] theorem State.nextCycle_link (s : State) (k : Fin 24) : (s.nextCycle).link k = s.link k := rfl

/-! ### addFld -/

@[simp] theorem State.addFld_before (s : State) (o : Nat) (f : Fld) (x : Nat) : (s.addFld o f x).before = s.before := rfl
@[simp] theorem State.addFld_pending (s : State) (o : Nat) (f : Fld) (x : Nat) : (s.addFld o f x).pending = s.pending := rfl
@[simp] theorem State.addFld_free (s : State) (o : Nat) (f : Fld) (x : Nat) : (s.addFld o f x).free = s.free := rfl
@[simp] theorem State.addFld_ch (s : State) (o : Nat) (f : Fld) (x : Nat) : (s.addFld o f x).ch = s.ch := rfl
@[simp] theorem State.addFld_mem (s : State) (o : Nat) (f : Fld) (x : Nat) : (s.addFld o f x).mem = s.mem := rfl
@[simp] theorem State.addFld_arbs (s : State) (o : Nat) (f : Fld) (x : Nat) : (s.addFld o f x).arbs = s.arbs := rfl
@[simp] theorem State.addFld_net (s : State) (o : Nat) (f : Fld) (x : Nat) : (s.addFld o f x).net = s.net := rfl
@[simp] theorem State.addFld_lnk (s : State) (o : Nat) (f : Fld) (x : Nat) : (s.addFld o f x).lnk = s.lnk := rfl
@[simp] theorem State.addFld_tim (s : State) (o : Nat) (f : Fld) (x : Nat) : (s.addFld o f x).tim = s.tim := rfl
@[simp] theorem State.addFld_saf (s : State) (o : Nat) (f : Fld) (x : Nat) : (s.addFld o f x).saf = s.saf := rfl
@[simp] theorem State.addFld_fw (s : State) (o : Nat) (f : Fld) (x : Nat) : (s.addFld o f x).fw = s.fw := rfl
@[simp] theorem State.addFld_host (s : State) (o : Nat) (f : Fld) (x : Nat) : (s.addFld o f x).host = s.host := rfl
@[simp] theorem State.addFld_pwr (s : State) (o : Nat) (f : Fld) (x : Nat) : (s.addFld o f x).pwr = s.pwr := rfl
@[simp] theorem State.addFld_brd (s : State) (o : Nat) (f : Fld) (x : Nat) : (s.addFld o f x).brd = s.brd := rfl
@[simp] theorem State.addFld_signals (s : State) (o : Nat) (f : Fld) (x : Nat) : (s.addFld o f x).signals = s.signals := rfl
@[simp] theorem State.addFld_ibi (s : State) (o : Nat) (f : Fld) (x : Nat) : (s.addFld o f x).ibi = s.ibi := rfl
@[simp] theorem State.addFld_chan (s : State) (o : Nat) (f : Fld) (x : Nat) (k : Fin 8) : (s.addFld o f x).chan k = s.chan k := rfl
@[simp] theorem State.addFld_link (s : State) (o : Nat) (f : Fld) (x : Nat) (k : Fin 24) : (s.addFld o f x).link k = s.link k := rfl

/-! ### bump -/

@[simp] theorem State.bump_before (s : State) (o : Nat) (f : Fld) : (s.bump o f).before = s.before := rfl
@[simp] theorem State.bump_pending (s : State) (o : Nat) (f : Fld) : (s.bump o f).pending = s.pending := rfl
@[simp] theorem State.bump_free (s : State) (o : Nat) (f : Fld) : (s.bump o f).free = s.free := rfl
@[simp] theorem State.bump_ch (s : State) (o : Nat) (f : Fld) : (s.bump o f).ch = s.ch := rfl
@[simp] theorem State.bump_mem (s : State) (o : Nat) (f : Fld) : (s.bump o f).mem = s.mem := rfl
@[simp] theorem State.bump_arbs (s : State) (o : Nat) (f : Fld) : (s.bump o f).arbs = s.arbs := rfl
@[simp] theorem State.bump_net (s : State) (o : Nat) (f : Fld) : (s.bump o f).net = s.net := rfl
@[simp] theorem State.bump_lnk (s : State) (o : Nat) (f : Fld) : (s.bump o f).lnk = s.lnk := rfl
@[simp] theorem State.bump_tim (s : State) (o : Nat) (f : Fld) : (s.bump o f).tim = s.tim := rfl
@[simp] theorem State.bump_saf (s : State) (o : Nat) (f : Fld) : (s.bump o f).saf = s.saf := rfl
@[simp] theorem State.bump_fw (s : State) (o : Nat) (f : Fld) : (s.bump o f).fw = s.fw := rfl
@[simp] theorem State.bump_host (s : State) (o : Nat) (f : Fld) : (s.bump o f).host = s.host := rfl
@[simp] theorem State.bump_pwr (s : State) (o : Nat) (f : Fld) : (s.bump o f).pwr = s.pwr := rfl
@[simp] theorem State.bump_brd (s : State) (o : Nat) (f : Fld) : (s.bump o f).brd = s.brd := rfl
@[simp] theorem State.bump_signals (s : State) (o : Nat) (f : Fld) : (s.bump o f).signals = s.signals := rfl
@[simp] theorem State.bump_ibi (s : State) (o : Nat) (f : Fld) : (s.bump o f).ibi = s.ibi := rfl
@[simp] theorem State.bump_chan (s : State) (o : Nat) (f : Fld) (k : Fin 8) : (s.bump o f).chan k = s.chan k := rfl
@[simp] theorem State.bump_link (s : State) (o : Nat) (f : Fld) (k : Fin 24) : (s.bump o f).link k = s.link k := rfl

/-! ### maxFld -/

@[simp] theorem State.maxFld_before (s : State) (o : Nat) (f : Fld) (x : Nat) : (s.maxFld o f x).before = s.before := rfl
@[simp] theorem State.maxFld_pending (s : State) (o : Nat) (f : Fld) (x : Nat) : (s.maxFld o f x).pending = s.pending := rfl
@[simp] theorem State.maxFld_free (s : State) (o : Nat) (f : Fld) (x : Nat) : (s.maxFld o f x).free = s.free := rfl
@[simp] theorem State.maxFld_ch (s : State) (o : Nat) (f : Fld) (x : Nat) : (s.maxFld o f x).ch = s.ch := rfl
@[simp] theorem State.maxFld_mem (s : State) (o : Nat) (f : Fld) (x : Nat) : (s.maxFld o f x).mem = s.mem := rfl
@[simp] theorem State.maxFld_arbs (s : State) (o : Nat) (f : Fld) (x : Nat) : (s.maxFld o f x).arbs = s.arbs := rfl
@[simp] theorem State.maxFld_net (s : State) (o : Nat) (f : Fld) (x : Nat) : (s.maxFld o f x).net = s.net := rfl
@[simp] theorem State.maxFld_lnk (s : State) (o : Nat) (f : Fld) (x : Nat) : (s.maxFld o f x).lnk = s.lnk := rfl
@[simp] theorem State.maxFld_tim (s : State) (o : Nat) (f : Fld) (x : Nat) : (s.maxFld o f x).tim = s.tim := rfl
@[simp] theorem State.maxFld_saf (s : State) (o : Nat) (f : Fld) (x : Nat) : (s.maxFld o f x).saf = s.saf := rfl
@[simp] theorem State.maxFld_fw (s : State) (o : Nat) (f : Fld) (x : Nat) : (s.maxFld o f x).fw = s.fw := rfl
@[simp] theorem State.maxFld_host (s : State) (o : Nat) (f : Fld) (x : Nat) : (s.maxFld o f x).host = s.host := rfl
@[simp] theorem State.maxFld_pwr (s : State) (o : Nat) (f : Fld) (x : Nat) : (s.maxFld o f x).pwr = s.pwr := rfl
@[simp] theorem State.maxFld_brd (s : State) (o : Nat) (f : Fld) (x : Nat) : (s.maxFld o f x).brd = s.brd := rfl
@[simp] theorem State.maxFld_signals (s : State) (o : Nat) (f : Fld) (x : Nat) : (s.maxFld o f x).signals = s.signals := rfl
@[simp] theorem State.maxFld_ibi (s : State) (o : Nat) (f : Fld) (x : Nat) : (s.maxFld o f x).ibi = s.ibi := rfl
@[simp] theorem State.maxFld_chan (s : State) (o : Nat) (f : Fld) (x : Nat) (k : Fin 8) : (s.maxFld o f x).chan k = s.chan k := rfl
@[simp] theorem State.maxFld_link (s : State) (o : Nat) (f : Fld) (x : Nat) (k : Fin 24) : (s.maxFld o f x).link k = s.link k := rfl

/-! ### take -/

@[simp] theorem State.take_regs (s : State) (x : Nat) : (s.take x).regs = s.regs := rfl
@[simp] theorem State.take_before (s : State) (x : Nat) : (s.take x).before = s.before := rfl
@[simp] theorem State.take_pending (s : State) (x : Nat) : (s.take x).pending = s.pending := rfl
@[simp] theorem State.take_ch (s : State) (x : Nat) : (s.take x).ch = s.ch := rfl
@[simp] theorem State.take_mem (s : State) (x : Nat) : (s.take x).mem = s.mem := rfl
@[simp] theorem State.take_arbs (s : State) (x : Nat) : (s.take x).arbs = s.arbs := rfl
@[simp] theorem State.take_net (s : State) (x : Nat) : (s.take x).net = s.net := rfl
@[simp] theorem State.take_lnk (s : State) (x : Nat) : (s.take x).lnk = s.lnk := rfl
@[simp] theorem State.take_tim (s : State) (x : Nat) : (s.take x).tim = s.tim := rfl
@[simp] theorem State.take_saf (s : State) (x : Nat) : (s.take x).saf = s.saf := rfl
@[simp] theorem State.take_fw (s : State) (x : Nat) : (s.take x).fw = s.fw := rfl
@[simp] theorem State.take_host (s : State) (x : Nat) : (s.take x).host = s.host := rfl
@[simp] theorem State.take_pwr (s : State) (x : Nat) : (s.take x).pwr = s.pwr := rfl
@[simp] theorem State.take_brd (s : State) (x : Nat) : (s.take x).brd = s.brd := rfl
@[simp] theorem State.take_signals (s : State) (x : Nat) : (s.take x).signals = s.signals := rfl
@[simp] theorem State.take_ibi (s : State) (x : Nat) : (s.take x).ibi = s.ibi := rfl
@[simp] theorem State.take_rd (s : State) (x : Nat) (r : Nat) : (s.take x).rd r = s.rd r := rfl
@[simp] theorem State.take_fld (s : State) (x : Nat) (r : Nat) (g : Fld) : (s.take x).fld r g = s.fld r g := rfl
@[simp] theorem State.take_flag (s : State) (x : Nat) (r : Nat) (g : Fld) : (s.take x).flag r g = s.flag r g := rfl
@[simp] theorem State.take_chan (s : State) (x : Nat) (k : Fin 8) : (s.take x).chan k = s.chan k := rfl
@[simp] theorem State.take_link (s : State) (x : Nat) (k : Fin 24) : (s.take x).link k = s.link k := rfl

/-! ### setChan -/

@[simp] theorem State.setChan_regs (s : State) (n : Fin 8) (c : Chan) : (s.setChan n c).regs = s.regs := rfl
@[simp] theorem State.setChan_before (s : State) (n : Fin 8) (c : Chan) : (s.setChan n c).before = s.before := rfl
@[simp] theorem State.setChan_pending (s : State) (n : Fin 8) (c : Chan) : (s.setChan n c).pending = s.pending := rfl
@[simp] theorem State.setChan_free (s : State) (n : Fin 8) (c : Chan) : (s.setChan n c).free = s.free := rfl
@[simp] theorem State.setChan_mem (s : State) (n : Fin 8) (c : Chan) : (s.setChan n c).mem = s.mem := rfl
@[simp] theorem State.setChan_arbs (s : State) (n : Fin 8) (c : Chan) : (s.setChan n c).arbs = s.arbs := rfl
@[simp] theorem State.setChan_net (s : State) (n : Fin 8) (c : Chan) : (s.setChan n c).net = s.net := rfl
@[simp] theorem State.setChan_lnk (s : State) (n : Fin 8) (c : Chan) : (s.setChan n c).lnk = s.lnk := rfl
@[simp] theorem State.setChan_tim (s : State) (n : Fin 8) (c : Chan) : (s.setChan n c).tim = s.tim := rfl
@[simp] theorem State.setChan_saf (s : State) (n : Fin 8) (c : Chan) : (s.setChan n c).saf = s.saf := rfl
@[simp] theorem State.setChan_fw (s : State) (n : Fin 8) (c : Chan) : (s.setChan n c).fw = s.fw := rfl
@[simp] theorem State.setChan_host (s : State) (n : Fin 8) (c : Chan) : (s.setChan n c).host = s.host := rfl
@[simp] theorem State.setChan_pwr (s : State) (n : Fin 8) (c : Chan) : (s.setChan n c).pwr = s.pwr := rfl
@[simp] theorem State.setChan_brd (s : State) (n : Fin 8) (c : Chan) : (s.setChan n c).brd = s.brd := rfl
@[simp] theorem State.setChan_signals (s : State) (n : Fin 8) (c : Chan) : (s.setChan n c).signals = s.signals := rfl
@[simp] theorem State.setChan_ibi (s : State) (n : Fin 8) (c : Chan) : (s.setChan n c).ibi = s.ibi := rfl
@[simp] theorem State.setChan_rd (s : State) (n : Fin 8) (c : Chan) (r : Nat) : (s.setChan n c).rd r = s.rd r := rfl
@[simp] theorem State.setChan_fld (s : State) (n : Fin 8) (c : Chan) (r : Nat) (g : Fld) : (s.setChan n c).fld r g = s.fld r g := rfl
@[simp] theorem State.setChan_flag (s : State) (n : Fin 8) (c : Chan) (r : Nat) (g : Fld) : (s.setChan n c).flag r g = s.flag r g := rfl
@[simp] theorem State.setChan_link (s : State) (n : Fin 8) (c : Chan) (k : Fin 24) : (s.setChan n c).link k = s.link k := rfl

/-! ### setNet -/

@[simp] theorem State.setNet_regs (s : State) (x : NetSt) : (s.setNet x).regs = s.regs := rfl
@[simp] theorem State.setNet_before (s : State) (x : NetSt) : (s.setNet x).before = s.before := rfl
@[simp] theorem State.setNet_pending (s : State) (x : NetSt) : (s.setNet x).pending = s.pending := rfl
@[simp] theorem State.setNet_free (s : State) (x : NetSt) : (s.setNet x).free = s.free := rfl
@[simp] theorem State.setNet_ch (s : State) (x : NetSt) : (s.setNet x).ch = s.ch := rfl
@[simp] theorem State.setNet_mem (s : State) (x : NetSt) : (s.setNet x).mem = s.mem := rfl
@[simp] theorem State.setNet_arbs (s : State) (x : NetSt) : (s.setNet x).arbs = s.arbs := rfl
@[simp] theorem State.setNet_lnk (s : State) (x : NetSt) : (s.setNet x).lnk = s.lnk := rfl
@[simp] theorem State.setNet_tim (s : State) (x : NetSt) : (s.setNet x).tim = s.tim := rfl
@[simp] theorem State.setNet_saf (s : State) (x : NetSt) : (s.setNet x).saf = s.saf := rfl
@[simp] theorem State.setNet_fw (s : State) (x : NetSt) : (s.setNet x).fw = s.fw := rfl
@[simp] theorem State.setNet_host (s : State) (x : NetSt) : (s.setNet x).host = s.host := rfl
@[simp] theorem State.setNet_pwr (s : State) (x : NetSt) : (s.setNet x).pwr = s.pwr := rfl
@[simp] theorem State.setNet_brd (s : State) (x : NetSt) : (s.setNet x).brd = s.brd := rfl
@[simp] theorem State.setNet_signals (s : State) (x : NetSt) : (s.setNet x).signals = s.signals := rfl
@[simp] theorem State.setNet_ibi (s : State) (x : NetSt) : (s.setNet x).ibi = s.ibi := rfl
@[simp] theorem State.setNet_rd (s : State) (x : NetSt) (r : Nat) : (s.setNet x).rd r = s.rd r := rfl
@[simp] theorem State.setNet_fld (s : State) (x : NetSt) (r : Nat) (g : Fld) : (s.setNet x).fld r g = s.fld r g := rfl
@[simp] theorem State.setNet_flag (s : State) (x : NetSt) (r : Nat) (g : Fld) : (s.setNet x).flag r g = s.flag r g := rfl
@[simp] theorem State.setNet_chan (s : State) (x : NetSt) (k : Fin 8) : (s.setNet x).chan k = s.chan k := rfl
@[simp] theorem State.setNet_link (s : State) (x : NetSt) (k : Fin 24) : (s.setNet x).link k = s.link k := rfl

/-! ### setLink -/

@[simp] theorem State.setLink_regs (s : State) (l : Fin 24) (x : LinkSt) : (s.setLink l x).regs = s.regs := rfl
@[simp] theorem State.setLink_before (s : State) (l : Fin 24) (x : LinkSt) : (s.setLink l x).before = s.before := rfl
@[simp] theorem State.setLink_pending (s : State) (l : Fin 24) (x : LinkSt) : (s.setLink l x).pending = s.pending := rfl
@[simp] theorem State.setLink_free (s : State) (l : Fin 24) (x : LinkSt) : (s.setLink l x).free = s.free := rfl
@[simp] theorem State.setLink_ch (s : State) (l : Fin 24) (x : LinkSt) : (s.setLink l x).ch = s.ch := rfl
@[simp] theorem State.setLink_mem (s : State) (l : Fin 24) (x : LinkSt) : (s.setLink l x).mem = s.mem := rfl
@[simp] theorem State.setLink_arbs (s : State) (l : Fin 24) (x : LinkSt) : (s.setLink l x).arbs = s.arbs := rfl
@[simp] theorem State.setLink_net (s : State) (l : Fin 24) (x : LinkSt) : (s.setLink l x).net = s.net := rfl
@[simp] theorem State.setLink_tim (s : State) (l : Fin 24) (x : LinkSt) : (s.setLink l x).tim = s.tim := rfl
@[simp] theorem State.setLink_saf (s : State) (l : Fin 24) (x : LinkSt) : (s.setLink l x).saf = s.saf := rfl
@[simp] theorem State.setLink_fw (s : State) (l : Fin 24) (x : LinkSt) : (s.setLink l x).fw = s.fw := rfl
@[simp] theorem State.setLink_host (s : State) (l : Fin 24) (x : LinkSt) : (s.setLink l x).host = s.host := rfl
@[simp] theorem State.setLink_pwr (s : State) (l : Fin 24) (x : LinkSt) : (s.setLink l x).pwr = s.pwr := rfl
@[simp] theorem State.setLink_brd (s : State) (l : Fin 24) (x : LinkSt) : (s.setLink l x).brd = s.brd := rfl
@[simp] theorem State.setLink_signals (s : State) (l : Fin 24) (x : LinkSt) : (s.setLink l x).signals = s.signals := rfl
@[simp] theorem State.setLink_ibi (s : State) (l : Fin 24) (x : LinkSt) : (s.setLink l x).ibi = s.ibi := rfl
@[simp] theorem State.setLink_rd (s : State) (l : Fin 24) (x : LinkSt) (r : Nat) : (s.setLink l x).rd r = s.rd r := rfl
@[simp] theorem State.setLink_fld (s : State) (l : Fin 24) (x : LinkSt) (r : Nat) (g : Fld) : (s.setLink l x).fld r g = s.fld r g := rfl
@[simp] theorem State.setLink_flag (s : State) (l : Fin 24) (x : LinkSt) (r : Nat) (g : Fld) : (s.setLink l x).flag r g = s.flag r g := rfl
@[simp] theorem State.setLink_chan (s : State) (l : Fin 24) (x : LinkSt) (k : Fin 8) : (s.setLink l x).chan k = s.chan k := rfl

/-! ### modLink -/

@[simp] theorem State.modLink_regs (s : State) (l : Fin 24) (f : LinkSt → LinkSt) : (s.modLink l f).regs = s.regs := rfl
@[simp] theorem State.modLink_before (s : State) (l : Fin 24) (f : LinkSt → LinkSt) : (s.modLink l f).before = s.before := rfl
@[simp] theorem State.modLink_pending (s : State) (l : Fin 24) (f : LinkSt → LinkSt) : (s.modLink l f).pending = s.pending := rfl
@[simp] theorem State.modLink_free (s : State) (l : Fin 24) (f : LinkSt → LinkSt) : (s.modLink l f).free = s.free := rfl
@[simp] theorem State.modLink_ch (s : State) (l : Fin 24) (f : LinkSt → LinkSt) : (s.modLink l f).ch = s.ch := rfl
@[simp] theorem State.modLink_mem (s : State) (l : Fin 24) (f : LinkSt → LinkSt) : (s.modLink l f).mem = s.mem := rfl
@[simp] theorem State.modLink_arbs (s : State) (l : Fin 24) (f : LinkSt → LinkSt) : (s.modLink l f).arbs = s.arbs := rfl
@[simp] theorem State.modLink_net (s : State) (l : Fin 24) (f : LinkSt → LinkSt) : (s.modLink l f).net = s.net := rfl
@[simp] theorem State.modLink_tim (s : State) (l : Fin 24) (f : LinkSt → LinkSt) : (s.modLink l f).tim = s.tim := rfl
@[simp] theorem State.modLink_saf (s : State) (l : Fin 24) (f : LinkSt → LinkSt) : (s.modLink l f).saf = s.saf := rfl
@[simp] theorem State.modLink_fw (s : State) (l : Fin 24) (f : LinkSt → LinkSt) : (s.modLink l f).fw = s.fw := rfl
@[simp] theorem State.modLink_host (s : State) (l : Fin 24) (f : LinkSt → LinkSt) : (s.modLink l f).host = s.host := rfl
@[simp] theorem State.modLink_pwr (s : State) (l : Fin 24) (f : LinkSt → LinkSt) : (s.modLink l f).pwr = s.pwr := rfl
@[simp] theorem State.modLink_brd (s : State) (l : Fin 24) (f : LinkSt → LinkSt) : (s.modLink l f).brd = s.brd := rfl
@[simp] theorem State.modLink_signals (s : State) (l : Fin 24) (f : LinkSt → LinkSt) : (s.modLink l f).signals = s.signals := rfl
@[simp] theorem State.modLink_ibi (s : State) (l : Fin 24) (f : LinkSt → LinkSt) : (s.modLink l f).ibi = s.ibi := rfl
@[simp] theorem State.modLink_rd (s : State) (l : Fin 24) (f : LinkSt → LinkSt) (r : Nat) : (s.modLink l f).rd r = s.rd r := rfl
@[simp] theorem State.modLink_fld (s : State) (l : Fin 24) (f : LinkSt → LinkSt) (r : Nat) (g : Fld) : (s.modLink l f).fld r g = s.fld r g := rfl
@[simp] theorem State.modLink_flag (s : State) (l : Fin 24) (f : LinkSt → LinkSt) (r : Nat) (g : Fld) : (s.modLink l f).flag r g = s.flag r g := rfl
@[simp] theorem State.modLink_chan (s : State) (l : Fin 24) (f : LinkSt → LinkSt) (k : Fin 8) : (s.modLink l f).chan k = s.chan k := rfl

/-! ### modTim -/

@[simp] theorem State.modTim_regs (s : State) (f : TimSt → TimSt) : (s.modTim f).regs = s.regs := rfl
@[simp] theorem State.modTim_before (s : State) (f : TimSt → TimSt) : (s.modTim f).before = s.before := rfl
@[simp] theorem State.modTim_pending (s : State) (f : TimSt → TimSt) : (s.modTim f).pending = s.pending := rfl
@[simp] theorem State.modTim_free (s : State) (f : TimSt → TimSt) : (s.modTim f).free = s.free := rfl
@[simp] theorem State.modTim_ch (s : State) (f : TimSt → TimSt) : (s.modTim f).ch = s.ch := rfl
@[simp] theorem State.modTim_mem (s : State) (f : TimSt → TimSt) : (s.modTim f).mem = s.mem := rfl
@[simp] theorem State.modTim_arbs (s : State) (f : TimSt → TimSt) : (s.modTim f).arbs = s.arbs := rfl
@[simp] theorem State.modTim_net (s : State) (f : TimSt → TimSt) : (s.modTim f).net = s.net := rfl
@[simp] theorem State.modTim_lnk (s : State) (f : TimSt → TimSt) : (s.modTim f).lnk = s.lnk := rfl
@[simp] theorem State.modTim_saf (s : State) (f : TimSt → TimSt) : (s.modTim f).saf = s.saf := rfl
@[simp] theorem State.modTim_fw (s : State) (f : TimSt → TimSt) : (s.modTim f).fw = s.fw := rfl
@[simp] theorem State.modTim_host (s : State) (f : TimSt → TimSt) : (s.modTim f).host = s.host := rfl
@[simp] theorem State.modTim_pwr (s : State) (f : TimSt → TimSt) : (s.modTim f).pwr = s.pwr := rfl
@[simp] theorem State.modTim_brd (s : State) (f : TimSt → TimSt) : (s.modTim f).brd = s.brd := rfl
@[simp] theorem State.modTim_signals (s : State) (f : TimSt → TimSt) : (s.modTim f).signals = s.signals := rfl
@[simp] theorem State.modTim_ibi (s : State) (f : TimSt → TimSt) : (s.modTim f).ibi = s.ibi := rfl
@[simp] theorem State.modTim_rd (s : State) (f : TimSt → TimSt) (r : Nat) : (s.modTim f).rd r = s.rd r := rfl
@[simp] theorem State.modTim_fld (s : State) (f : TimSt → TimSt) (r : Nat) (g : Fld) : (s.modTim f).fld r g = s.fld r g := rfl
@[simp] theorem State.modTim_flag (s : State) (f : TimSt → TimSt) (r : Nat) (g : Fld) : (s.modTim f).flag r g = s.flag r g := rfl
@[simp] theorem State.modTim_chan (s : State) (f : TimSt → TimSt) (k : Fin 8) : (s.modTim f).chan k = s.chan k := rfl
@[simp] theorem State.modTim_link (s : State) (f : TimSt → TimSt) (k : Fin 24) : (s.modTim f).link k = s.link k := rfl

/-! ### modPwr -/

@[simp] theorem State.modPwr_regs (s : State) (f : PwrSt → PwrSt) : (s.modPwr f).regs = s.regs := rfl
@[simp] theorem State.modPwr_before (s : State) (f : PwrSt → PwrSt) : (s.modPwr f).before = s.before := rfl
@[simp] theorem State.modPwr_pending (s : State) (f : PwrSt → PwrSt) : (s.modPwr f).pending = s.pending := rfl
@[simp] theorem State.modPwr_free (s : State) (f : PwrSt → PwrSt) : (s.modPwr f).free = s.free := rfl
@[simp] theorem State.modPwr_ch (s : State) (f : PwrSt → PwrSt) : (s.modPwr f).ch = s.ch := rfl
@[simp] theorem State.modPwr_mem (s : State) (f : PwrSt → PwrSt) : (s.modPwr f).mem = s.mem := rfl
@[simp] theorem State.modPwr_arbs (s : State) (f : PwrSt → PwrSt) : (s.modPwr f).arbs = s.arbs := rfl
@[simp] theorem State.modPwr_net (s : State) (f : PwrSt → PwrSt) : (s.modPwr f).net = s.net := rfl
@[simp] theorem State.modPwr_lnk (s : State) (f : PwrSt → PwrSt) : (s.modPwr f).lnk = s.lnk := rfl
@[simp] theorem State.modPwr_tim (s : State) (f : PwrSt → PwrSt) : (s.modPwr f).tim = s.tim := rfl
@[simp] theorem State.modPwr_saf (s : State) (f : PwrSt → PwrSt) : (s.modPwr f).saf = s.saf := rfl
@[simp] theorem State.modPwr_fw (s : State) (f : PwrSt → PwrSt) : (s.modPwr f).fw = s.fw := rfl
@[simp] theorem State.modPwr_host (s : State) (f : PwrSt → PwrSt) : (s.modPwr f).host = s.host := rfl
@[simp] theorem State.modPwr_brd (s : State) (f : PwrSt → PwrSt) : (s.modPwr f).brd = s.brd := rfl
@[simp] theorem State.modPwr_signals (s : State) (f : PwrSt → PwrSt) : (s.modPwr f).signals = s.signals := rfl
@[simp] theorem State.modPwr_ibi (s : State) (f : PwrSt → PwrSt) : (s.modPwr f).ibi = s.ibi := rfl
@[simp] theorem State.modPwr_rd (s : State) (f : PwrSt → PwrSt) (r : Nat) : (s.modPwr f).rd r = s.rd r := rfl
@[simp] theorem State.modPwr_fld (s : State) (f : PwrSt → PwrSt) (r : Nat) (g : Fld) : (s.modPwr f).fld r g = s.fld r g := rfl
@[simp] theorem State.modPwr_flag (s : State) (f : PwrSt → PwrSt) (r : Nat) (g : Fld) : (s.modPwr f).flag r g = s.flag r g := rfl
@[simp] theorem State.modPwr_chan (s : State) (f : PwrSt → PwrSt) (k : Fin 8) : (s.modPwr f).chan k = s.chan k := rfl
@[simp] theorem State.modPwr_link (s : State) (f : PwrSt → PwrSt) (k : Fin 24) : (s.modPwr f).link k = s.link k := rfl

/-! ### modDebug -/

@[simp] theorem State.modDebug_regs (s : State) (f : DebugSt → DebugSt) : (s.modDebug f).regs = s.regs := rfl
@[simp] theorem State.modDebug_before (s : State) (f : DebugSt → DebugSt) : (s.modDebug f).before = s.before := rfl
@[simp] theorem State.modDebug_pending (s : State) (f : DebugSt → DebugSt) : (s.modDebug f).pending = s.pending := rfl
@[simp] theorem State.modDebug_free (s : State) (f : DebugSt → DebugSt) : (s.modDebug f).free = s.free := rfl
@[simp] theorem State.modDebug_ch (s : State) (f : DebugSt → DebugSt) : (s.modDebug f).ch = s.ch := rfl
@[simp] theorem State.modDebug_mem (s : State) (f : DebugSt → DebugSt) : (s.modDebug f).mem = s.mem := rfl
@[simp] theorem State.modDebug_arbs (s : State) (f : DebugSt → DebugSt) : (s.modDebug f).arbs = s.arbs := rfl
@[simp] theorem State.modDebug_net (s : State) (f : DebugSt → DebugSt) : (s.modDebug f).net = s.net := rfl
@[simp] theorem State.modDebug_lnk (s : State) (f : DebugSt → DebugSt) : (s.modDebug f).lnk = s.lnk := rfl
@[simp] theorem State.modDebug_tim (s : State) (f : DebugSt → DebugSt) : (s.modDebug f).tim = s.tim := rfl
@[simp] theorem State.modDebug_saf (s : State) (f : DebugSt → DebugSt) : (s.modDebug f).saf = s.saf := rfl
@[simp] theorem State.modDebug_fw (s : State) (f : DebugSt → DebugSt) : (s.modDebug f).fw = s.fw := rfl
@[simp] theorem State.modDebug_host (s : State) (f : DebugSt → DebugSt) : (s.modDebug f).host = s.host := rfl
@[simp] theorem State.modDebug_pwr (s : State) (f : DebugSt → DebugSt) : (s.modDebug f).pwr = s.pwr := rfl
@[simp] theorem State.modDebug_signals (s : State) (f : DebugSt → DebugSt) : (s.modDebug f).signals = s.signals := rfl
@[simp] theorem State.modDebug_ibi (s : State) (f : DebugSt → DebugSt) : (s.modDebug f).ibi = s.ibi := rfl
@[simp] theorem State.modDebug_rd (s : State) (f : DebugSt → DebugSt) (r : Nat) : (s.modDebug f).rd r = s.rd r := rfl
@[simp] theorem State.modDebug_fld (s : State) (f : DebugSt → DebugSt) (r : Nat) (g : Fld) : (s.modDebug f).fld r g = s.fld r g := rfl
@[simp] theorem State.modDebug_flag (s : State) (f : DebugSt → DebugSt) (r : Nat) (g : Fld) : (s.modDebug f).flag r g = s.flag r g := rfl
@[simp] theorem State.modDebug_chan (s : State) (f : DebugSt → DebugSt) (k : Fin 8) : (s.modDebug f).chan k = s.chan k := rfl
@[simp] theorem State.modDebug_link (s : State) (f : DebugSt → DebugSt) (k : Fin 24) : (s.modDebug f).link k = s.link k := rfl

/-! ### modCore -/

@[simp] theorem State.modCore_regs (s : State) (c : Nat) (f : CoreSt → CoreSt) : (s.modCore c f).regs = s.regs := rfl
@[simp] theorem State.modCore_before (s : State) (c : Nat) (f : CoreSt → CoreSt) : (s.modCore c f).before = s.before := rfl
@[simp] theorem State.modCore_pending (s : State) (c : Nat) (f : CoreSt → CoreSt) : (s.modCore c f).pending = s.pending := rfl
@[simp] theorem State.modCore_free (s : State) (c : Nat) (f : CoreSt → CoreSt) : (s.modCore c f).free = s.free := rfl
@[simp] theorem State.modCore_ch (s : State) (c : Nat) (f : CoreSt → CoreSt) : (s.modCore c f).ch = s.ch := rfl
@[simp] theorem State.modCore_mem (s : State) (c : Nat) (f : CoreSt → CoreSt) : (s.modCore c f).mem = s.mem := rfl
@[simp] theorem State.modCore_arbs (s : State) (c : Nat) (f : CoreSt → CoreSt) : (s.modCore c f).arbs = s.arbs := rfl
@[simp] theorem State.modCore_net (s : State) (c : Nat) (f : CoreSt → CoreSt) : (s.modCore c f).net = s.net := rfl
@[simp] theorem State.modCore_lnk (s : State) (c : Nat) (f : CoreSt → CoreSt) : (s.modCore c f).lnk = s.lnk := rfl
@[simp] theorem State.modCore_tim (s : State) (c : Nat) (f : CoreSt → CoreSt) : (s.modCore c f).tim = s.tim := rfl
@[simp] theorem State.modCore_saf (s : State) (c : Nat) (f : CoreSt → CoreSt) : (s.modCore c f).saf = s.saf := rfl
@[simp] theorem State.modCore_host (s : State) (c : Nat) (f : CoreSt → CoreSt) : (s.modCore c f).host = s.host := rfl
@[simp] theorem State.modCore_pwr (s : State) (c : Nat) (f : CoreSt → CoreSt) : (s.modCore c f).pwr = s.pwr := rfl
@[simp] theorem State.modCore_brd (s : State) (c : Nat) (f : CoreSt → CoreSt) : (s.modCore c f).brd = s.brd := rfl
@[simp] theorem State.modCore_signals (s : State) (c : Nat) (f : CoreSt → CoreSt) : (s.modCore c f).signals = s.signals := rfl
@[simp] theorem State.modCore_ibi (s : State) (c : Nat) (f : CoreSt → CoreSt) : (s.modCore c f).ibi = s.ibi := rfl
@[simp] theorem State.modCore_rd (s : State) (c : Nat) (f : CoreSt → CoreSt) (r : Nat) : (s.modCore c f).rd r = s.rd r := rfl
@[simp] theorem State.modCore_fld (s : State) (c : Nat) (f : CoreSt → CoreSt) (r : Nat) (g : Fld) : (s.modCore c f).fld r g = s.fld r g := rfl
@[simp] theorem State.modCore_flag (s : State) (c : Nat) (f : CoreSt → CoreSt) (r : Nat) (g : Fld) : (s.modCore c f).flag r g = s.flag r g := rfl
@[simp] theorem State.modCore_chan (s : State) (c : Nat) (f : CoreSt → CoreSt) (k : Fin 8) : (s.modCore c f).chan k = s.chan k := rfl
@[simp] theorem State.modCore_link (s : State) (c : Nat) (f : CoreSt → CoreSt) (k : Fin 24) : (s.modCore c f).link k = s.link k := rfl

/-! ### modBrd -/

@[simp] theorem State.modBrd_regs (s : State) (f : BrdSt → BrdSt) : (s.modBrd f).regs = s.regs := rfl
@[simp] theorem State.modBrd_before (s : State) (f : BrdSt → BrdSt) : (s.modBrd f).before = s.before := rfl
@[simp] theorem State.modBrd_pending (s : State) (f : BrdSt → BrdSt) : (s.modBrd f).pending = s.pending := rfl
@[simp] theorem State.modBrd_free (s : State) (f : BrdSt → BrdSt) : (s.modBrd f).free = s.free := rfl
@[simp] theorem State.modBrd_ch (s : State) (f : BrdSt → BrdSt) : (s.modBrd f).ch = s.ch := rfl
@[simp] theorem State.modBrd_mem (s : State) (f : BrdSt → BrdSt) : (s.modBrd f).mem = s.mem := rfl
@[simp] theorem State.modBrd_arbs (s : State) (f : BrdSt → BrdSt) : (s.modBrd f).arbs = s.arbs := rfl
@[simp] theorem State.modBrd_net (s : State) (f : BrdSt → BrdSt) : (s.modBrd f).net = s.net := rfl
@[simp] theorem State.modBrd_lnk (s : State) (f : BrdSt → BrdSt) : (s.modBrd f).lnk = s.lnk := rfl
@[simp] theorem State.modBrd_tim (s : State) (f : BrdSt → BrdSt) : (s.modBrd f).tim = s.tim := rfl
@[simp] theorem State.modBrd_saf (s : State) (f : BrdSt → BrdSt) : (s.modBrd f).saf = s.saf := rfl
@[simp] theorem State.modBrd_fw (s : State) (f : BrdSt → BrdSt) : (s.modBrd f).fw = s.fw := rfl
@[simp] theorem State.modBrd_host (s : State) (f : BrdSt → BrdSt) : (s.modBrd f).host = s.host := rfl
@[simp] theorem State.modBrd_pwr (s : State) (f : BrdSt → BrdSt) : (s.modBrd f).pwr = s.pwr := rfl
@[simp] theorem State.modBrd_signals (s : State) (f : BrdSt → BrdSt) : (s.modBrd f).signals = s.signals := rfl
@[simp] theorem State.modBrd_ibi (s : State) (f : BrdSt → BrdSt) : (s.modBrd f).ibi = s.ibi := rfl
@[simp] theorem State.modBrd_rd (s : State) (f : BrdSt → BrdSt) (r : Nat) : (s.modBrd f).rd r = s.rd r := rfl
@[simp] theorem State.modBrd_fld (s : State) (f : BrdSt → BrdSt) (r : Nat) (g : Fld) : (s.modBrd f).fld r g = s.fld r g := rfl
@[simp] theorem State.modBrd_flag (s : State) (f : BrdSt → BrdSt) (r : Nat) (g : Fld) : (s.modBrd f).flag r g = s.flag r g := rfl
@[simp] theorem State.modBrd_chan (s : State) (f : BrdSt → BrdSt) (k : Fin 8) : (s.modBrd f).chan k = s.chan k := rfl
@[simp] theorem State.modBrd_link (s : State) (f : BrdSt → BrdSt) (k : Fin 24) : (s.modBrd f).link k = s.link k := rfl

/-! ### modInt -/

@[simp] theorem State.modInt_regs (s : State) (f : IntSt → IntSt) : (s.modInt f).regs = s.regs := rfl
@[simp] theorem State.modInt_before (s : State) (f : IntSt → IntSt) : (s.modInt f).before = s.before := rfl
@[simp] theorem State.modInt_pending (s : State) (f : IntSt → IntSt) : (s.modInt f).pending = s.pending := rfl
@[simp] theorem State.modInt_free (s : State) (f : IntSt → IntSt) : (s.modInt f).free = s.free := rfl
@[simp] theorem State.modInt_ch (s : State) (f : IntSt → IntSt) : (s.modInt f).ch = s.ch := rfl
@[simp] theorem State.modInt_mem (s : State) (f : IntSt → IntSt) : (s.modInt f).mem = s.mem := rfl
@[simp] theorem State.modInt_arbs (s : State) (f : IntSt → IntSt) : (s.modInt f).arbs = s.arbs := rfl
@[simp] theorem State.modInt_net (s : State) (f : IntSt → IntSt) : (s.modInt f).net = s.net := rfl
@[simp] theorem State.modInt_lnk (s : State) (f : IntSt → IntSt) : (s.modInt f).lnk = s.lnk := rfl
@[simp] theorem State.modInt_tim (s : State) (f : IntSt → IntSt) : (s.modInt f).tim = s.tim := rfl
@[simp] theorem State.modInt_saf (s : State) (f : IntSt → IntSt) : (s.modInt f).saf = s.saf := rfl
@[simp] theorem State.modInt_host (s : State) (f : IntSt → IntSt) : (s.modInt f).host = s.host := rfl
@[simp] theorem State.modInt_pwr (s : State) (f : IntSt → IntSt) : (s.modInt f).pwr = s.pwr := rfl
@[simp] theorem State.modInt_brd (s : State) (f : IntSt → IntSt) : (s.modInt f).brd = s.brd := rfl
@[simp] theorem State.modInt_signals (s : State) (f : IntSt → IntSt) : (s.modInt f).signals = s.signals := rfl
@[simp] theorem State.modInt_ibi (s : State) (f : IntSt → IntSt) : (s.modInt f).ibi = s.ibi := rfl
@[simp] theorem State.modInt_rd (s : State) (f : IntSt → IntSt) (r : Nat) : (s.modInt f).rd r = s.rd r := rfl
@[simp] theorem State.modInt_fld (s : State) (f : IntSt → IntSt) (r : Nat) (g : Fld) : (s.modInt f).fld r g = s.fld r g := rfl
@[simp] theorem State.modInt_flag (s : State) (f : IntSt → IntSt) (r : Nat) (g : Fld) : (s.modInt f).flag r g = s.flag r g := rfl
@[simp] theorem State.modInt_chan (s : State) (f : IntSt → IntSt) (k : Fin 8) : (s.modInt f).chan k = s.chan k := rfl
@[simp] theorem State.modInt_link (s : State) (f : IntSt → IntSt) (k : Fin 24) : (s.modInt f).link k = s.link k := rfl

/-! ### modRun -/

@[simp] theorem State.modRun_regs (s : State) (f : Run → Run) : (s.modRun f).regs = s.regs := rfl
@[simp] theorem State.modRun_before (s : State) (f : Run → Run) : (s.modRun f).before = s.before := rfl
@[simp] theorem State.modRun_pending (s : State) (f : Run → Run) : (s.modRun f).pending = s.pending := rfl
@[simp] theorem State.modRun_free (s : State) (f : Run → Run) : (s.modRun f).free = s.free := rfl
@[simp] theorem State.modRun_ch (s : State) (f : Run → Run) : (s.modRun f).ch = s.ch := rfl
@[simp] theorem State.modRun_mem (s : State) (f : Run → Run) : (s.modRun f).mem = s.mem := rfl
@[simp] theorem State.modRun_arbs (s : State) (f : Run → Run) : (s.modRun f).arbs = s.arbs := rfl
@[simp] theorem State.modRun_net (s : State) (f : Run → Run) : (s.modRun f).net = s.net := rfl
@[simp] theorem State.modRun_lnk (s : State) (f : Run → Run) : (s.modRun f).lnk = s.lnk := rfl
@[simp] theorem State.modRun_tim (s : State) (f : Run → Run) : (s.modRun f).tim = s.tim := rfl
@[simp] theorem State.modRun_saf (s : State) (f : Run → Run) : (s.modRun f).saf = s.saf := rfl
@[simp] theorem State.modRun_host (s : State) (f : Run → Run) : (s.modRun f).host = s.host := rfl
@[simp] theorem State.modRun_pwr (s : State) (f : Run → Run) : (s.modRun f).pwr = s.pwr := rfl
@[simp] theorem State.modRun_brd (s : State) (f : Run → Run) : (s.modRun f).brd = s.brd := rfl
@[simp] theorem State.modRun_signals (s : State) (f : Run → Run) : (s.modRun f).signals = s.signals := rfl
@[simp] theorem State.modRun_ibi (s : State) (f : Run → Run) : (s.modRun f).ibi = s.ibi := rfl
@[simp] theorem State.modRun_rd (s : State) (f : Run → Run) (r : Nat) : (s.modRun f).rd r = s.rd r := rfl
@[simp] theorem State.modRun_fld (s : State) (f : Run → Run) (r : Nat) (g : Fld) : (s.modRun f).fld r g = s.fld r g := rfl
@[simp] theorem State.modRun_flag (s : State) (f : Run → Run) (r : Nat) (g : Fld) : (s.modRun f).flag r g = s.flag r g := rfl
@[simp] theorem State.modRun_chan (s : State) (f : Run → Run) (k : Fin 8) : (s.modRun f).chan k = s.chan k := rfl
@[simp] theorem State.modRun_link (s : State) (f : Run → Run) (k : Fin 24) : (s.modRun f).link k = s.link k := rfl

/-! ### modMb -/

@[simp] theorem State.modMb_regs (s : State) (m : Fin 16) (f : MbSt → MbSt) : (s.modMb m f).regs = s.regs := rfl
@[simp] theorem State.modMb_before (s : State) (m : Fin 16) (f : MbSt → MbSt) : (s.modMb m f).before = s.before := rfl
@[simp] theorem State.modMb_pending (s : State) (m : Fin 16) (f : MbSt → MbSt) : (s.modMb m f).pending = s.pending := rfl
@[simp] theorem State.modMb_free (s : State) (m : Fin 16) (f : MbSt → MbSt) : (s.modMb m f).free = s.free := rfl
@[simp] theorem State.modMb_ch (s : State) (m : Fin 16) (f : MbSt → MbSt) : (s.modMb m f).ch = s.ch := rfl
@[simp] theorem State.modMb_mem (s : State) (m : Fin 16) (f : MbSt → MbSt) : (s.modMb m f).mem = s.mem := rfl
@[simp] theorem State.modMb_arbs (s : State) (m : Fin 16) (f : MbSt → MbSt) : (s.modMb m f).arbs = s.arbs := rfl
@[simp] theorem State.modMb_net (s : State) (m : Fin 16) (f : MbSt → MbSt) : (s.modMb m f).net = s.net := rfl
@[simp] theorem State.modMb_lnk (s : State) (m : Fin 16) (f : MbSt → MbSt) : (s.modMb m f).lnk = s.lnk := rfl
@[simp] theorem State.modMb_tim (s : State) (m : Fin 16) (f : MbSt → MbSt) : (s.modMb m f).tim = s.tim := rfl
@[simp] theorem State.modMb_saf (s : State) (m : Fin 16) (f : MbSt → MbSt) : (s.modMb m f).saf = s.saf := rfl
@[simp] theorem State.modMb_host (s : State) (m : Fin 16) (f : MbSt → MbSt) : (s.modMb m f).host = s.host := rfl
@[simp] theorem State.modMb_pwr (s : State) (m : Fin 16) (f : MbSt → MbSt) : (s.modMb m f).pwr = s.pwr := rfl
@[simp] theorem State.modMb_brd (s : State) (m : Fin 16) (f : MbSt → MbSt) : (s.modMb m f).brd = s.brd := rfl
@[simp] theorem State.modMb_signals (s : State) (m : Fin 16) (f : MbSt → MbSt) : (s.modMb m f).signals = s.signals := rfl
@[simp] theorem State.modMb_ibi (s : State) (m : Fin 16) (f : MbSt → MbSt) : (s.modMb m f).ibi = s.ibi := rfl
@[simp] theorem State.modMb_rd (s : State) (m : Fin 16) (f : MbSt → MbSt) (r : Nat) : (s.modMb m f).rd r = s.rd r := rfl
@[simp] theorem State.modMb_fld (s : State) (m : Fin 16) (f : MbSt → MbSt) (r : Nat) (g : Fld) : (s.modMb m f).fld r g = s.fld r g := rfl
@[simp] theorem State.modMb_flag (s : State) (m : Fin 16) (f : MbSt → MbSt) (r : Nat) (g : Fld) : (s.modMb m f).flag r g = s.flag r g := rfl
@[simp] theorem State.modMb_chan (s : State) (m : Fin 16) (f : MbSt → MbSt) (k : Fin 8) : (s.modMb m f).chan k = s.chan k := rfl
@[simp] theorem State.modMb_link (s : State) (m : Fin 16) (f : MbSt → MbSt) (k : Fin 24) : (s.modMb m f).link k = s.link k := rfl

/-! ### complete -/

@[simp] theorem State.complete_regs (s : State) (st : Nat) (d : List Byte) : (s.complete st d).regs = s.regs := rfl
@[simp] theorem State.complete_before (s : State) (st : Nat) (d : List Byte) : (s.complete st d).before = s.before := rfl
@[simp] theorem State.complete_pending (s : State) (st : Nat) (d : List Byte) : (s.complete st d).pending = s.pending := rfl
@[simp] theorem State.complete_free (s : State) (st : Nat) (d : List Byte) : (s.complete st d).free = s.free := rfl
@[simp] theorem State.complete_ch (s : State) (st : Nat) (d : List Byte) : (s.complete st d).ch = s.ch := rfl
@[simp] theorem State.complete_mem (s : State) (st : Nat) (d : List Byte) : (s.complete st d).mem = s.mem := rfl
@[simp] theorem State.complete_arbs (s : State) (st : Nat) (d : List Byte) : (s.complete st d).arbs = s.arbs := rfl
@[simp] theorem State.complete_net (s : State) (st : Nat) (d : List Byte) : (s.complete st d).net = s.net := rfl
@[simp] theorem State.complete_lnk (s : State) (st : Nat) (d : List Byte) : (s.complete st d).lnk = s.lnk := rfl
@[simp] theorem State.complete_tim (s : State) (st : Nat) (d : List Byte) : (s.complete st d).tim = s.tim := rfl
@[simp] theorem State.complete_saf (s : State) (st : Nat) (d : List Byte) : (s.complete st d).saf = s.saf := rfl
@[simp] theorem State.complete_fw (s : State) (st : Nat) (d : List Byte) : (s.complete st d).fw = s.fw := rfl
@[simp] theorem State.complete_pwr (s : State) (st : Nat) (d : List Byte) : (s.complete st d).pwr = s.pwr := rfl
@[simp] theorem State.complete_brd (s : State) (st : Nat) (d : List Byte) : (s.complete st d).brd = s.brd := rfl
@[simp] theorem State.complete_signals (s : State) (st : Nat) (d : List Byte) : (s.complete st d).signals = s.signals := rfl
@[simp] theorem State.complete_ibi (s : State) (st : Nat) (d : List Byte) : (s.complete st d).ibi = s.ibi := rfl
@[simp] theorem State.complete_rd (s : State) (st : Nat) (d : List Byte) (r : Nat) : (s.complete st d).rd r = s.rd r := rfl
@[simp] theorem State.complete_fld (s : State) (st : Nat) (d : List Byte) (r : Nat) (g : Fld) : (s.complete st d).fld r g = s.fld r g := rfl
@[simp] theorem State.complete_flag (s : State) (st : Nat) (d : List Byte) (r : Nat) (g : Fld) : (s.complete st d).flag r g = s.flag r g := rfl
@[simp] theorem State.complete_chan (s : State) (st : Nat) (d : List Byte) (k : Fin 8) : (s.complete st d).chan k = s.chan k := rfl
@[simp] theorem State.complete_link (s : State) (st : Nat) (d : List Byte) (k : Fin 24) : (s.complete st d).link k = s.link k := rfl

end Sys2Proof.Machine
end

