-- ==== Sys2Proof/Laws/Regs.lean ====
section
/-!
SUPPORT. Reading a register or a field after writing one, and what keeps the registers in canonical form.
-/

namespace Sys2Proof.Machine

theorem State.rd_wr_same (s : State) (o : Nat) (v : Word64) : (s.wr o v).rd o = v := kget_kset_same regReset s.regs o v

theorem State.rd_wr_other (s : State) (o r : Nat) (v : Word64) (hne : r ≠ o) : (s.wr o v).rd r = s.rd r :=
  kget_kset_other regReset s.regs o r v hne

theorem State.rd_setFld_same (s : State) (o : Nat) (f : Fld) (x : Nat) : (s.setFld o f x).rd o = setF (s.rd o) f x :=
  State.rd_wr_same s _ _

theorem State.rd_setFld_other (s : State) (o r : Nat) (f : Fld) (x : Nat) (hne : r ≠ o) : (s.setFld o f x).rd r = s.rd r :=
  State.rd_wr_other s o r _ hne

theorem State.fld_setFld_same (s : State) (o : Nat) (f : Fld) (x : Nat) (hf : f.lo + f.w ≤ 64) :
    (s.setFld o f x).fld o f = x % 2 ^ f.w := by
  unfold State.fld
  rw [State.rd_setFld_same, getF_setF_same _ _ _ hf]

theorem State.fld_setFld_field (s : State) (o : Nat) (f g : Fld) (x : Nat) (hf : f.lo + f.w ≤ 64)
    (hd : f.lo + f.w ≤ g.lo ∨ g.lo + g.w ≤ f.lo) : (s.setFld o f x).fld o g = s.fld o g := by
  unfold State.fld
  rw [State.rd_setFld_same, getF_setF_other _ _ _ _ hf hd]

theorem State.fld_setFld_other (s : State) (o r : Nat) (f g : Fld) (x : Nat) (hne : r ≠ o) : (s.setFld o f x).fld r g = s.fld r g := by
  unfold State.fld
  rw [State.rd_setFld_other s o r f x hne]

/-- A write keeps the registers in canonical form. -/
theorem State.wr_wf (s : State) (o : Nat) (v : Word64) (h : kwf regReset s.regs = true) : kwf regReset (s.wr o v).regs = true :=
  kwf_kset _ _ _ _ h

end Sys2Proof.Machine
end

