-- ==== Sys2Proof/Laws/Issue.lean ====
section
/-!
SUPPORT. A bundle of one slot on a channel that takes it at once: what arriving, reaching issue and issuing come to.
-/

namespace Sys2Proof.Machine

@[simp] theorem State.setChan_chan_same (s : State) (n : Fin 8) (c : Chan) : (s.setChan n c).chan n = c := by
  simp [State.setChan, State.chan]

theorem State.setChan_chan_other (s : State) (n m : Fin 8) (c : Chan) (h : m ≠ n) : (s.setChan n c).chan m = s.chan m := by
  have : n.val ≠ m.val := fun e => h (Fin.ext e.symm)
  simp [State.setChan, State.chan, this]

@[simp] theorem State.setChan_running (s : State) (n : Fin 8) (c : Chan) (k : Nat) : (s.setChan n c).running k = s.running k := rfl

@[simp] theorem State.showHold_chan (s : State) (n m : Fin 8) (a b : Bool) : (s.showHold n a b).chan m = s.chan m := rfl

/-- Nothing lands where nothing in flight is due. -/
theorem State.landDue_none (s : State) (n : Fin 8) (k : Nat) (h : ∀ g ∈ (s.chan n).flight, k < g.due) : s.landDue n k = s := by
  unfold State.landDue
  generalize hf : (s.chan n).flight = fl at h
  cases fl with
  | nil => simp [State.landTo]
  | cons g r =>
    have : ¬ g.due ≤ k := by have := h g (by simp); omega
    simp only [List.length_cons, Nat.mul_add, Nat.mul_one, State.landTo, hf, this, if_false]

/-- A slot that is alone reaches issue as a bundle of its own, which issues as a whole or raises its faults. -/
theorem State.slotIssue_alone (u : Issue) (o : Op) (s : State) (h : Alone u s) (hc : (oneSlot o).cue? = none)
    (hw : (oneSlot o).waits = []) :
    s.slotIssue u o =
      ((s.setChan u.ch { s.chan u.ch with asm := [], asmHdr := 0, asmErrs := [] }).showHold u.ch false false).issueNow u.ch (oneSlot o) := by
  obtain ⟨hr, hh, ha, he, hd, hm, hu, hf⟩ := h
  unfold State.slotIssue
  simp only [hr, hh, ha, hm, hd, he, hu]
  change State.reach _ u.ch (oneSlot o) = _
  unfold State.reach
  rw [State.landDue_none _ _ _ (by simpa using hf)]
  have hn : (oneSlot o).errs = [] := rfl
  simp [hr, hc, State.tryIssue, hw, State.fetch, hn]

/-- The state from which a slot that is alone issues. -/
def State.atIssue (s : State) (n : Fin 8) : State :=
  (s.setChan n { s.chan n with asm := [], asmHdr := 0, asmErrs := [] }).showHold n false false

@[simp] theorem State.atIssue_chan (s : State) (n : Fin 8) : (s.atIssue n).chan n = { s.chan n with asm := [], asmHdr := 0, asmErrs := [] } := by
  simp [State.atIssue]

@[simp] theorem State.atIssue_free (s : State) (n : Fin 8) : (s.atIssue n).free = s.free := rfl

theorem State.atIssue_rd (s : State) (n : Fin 8) (r : Nat) (h : r ≠ chStatus n) : (s.atIssue n).rd r = s.rd r := by
  unfold State.atIssue State.showHold
  rw [State.rd_setFld_other _ _ _ _ _ h, State.rd_setFld_other _ _ _ _ _ h]
  rfl

theorem State.atIssue_fld (s : State) (n : Fin 8) (r : Nat) (g : Fld) (h : r ≠ chStatus n) : (s.atIssue n).fld r g = s.fld r g := by
  unfold State.fld; rw [State.atIssue_rd s n r h]

theorem State.showHold_status (s : State) (n : Fin 8) (a b : Bool) (g : Fld)
    (hc : CH_STATUS_HOLD_CUE.lo + CH_STATUS_HOLD_CUE.w ≤ g.lo ∨ g.lo + g.w ≤ CH_STATUS_HOLD_CUE.lo)
    (hq : CH_STATUS_HOLD_Q.lo + CH_STATUS_HOLD_Q.w ≤ g.lo ∨ g.lo + g.w ≤ CH_STATUS_HOLD_Q.lo) :
    (s.showHold n a b).fld (chStatus n) g = s.fld (chStatus n) g := by
  unfold State.showHold
  rw [State.fld_setFld_field _ _ _ _ _ (by decide) hq, State.fld_setFld_field _ _ _ _ _ (by decide) hc]

theorem State.atIssue_status (s : State) (n : Fin 8) (g : Fld)
    (hc : CH_STATUS_HOLD_CUE.lo + CH_STATUS_HOLD_CUE.w ≤ g.lo ∨ g.lo + g.w ≤ CH_STATUS_HOLD_CUE.lo)
    (hq : CH_STATUS_HOLD_Q.lo + CH_STATUS_HOLD_Q.w ≤ g.lo ∨ g.lo + g.w ≤ CH_STATUS_HOLD_Q.lo) :
    (s.atIssue n).fld (chStatus n) g = s.fld (chStatus n) g := by
  unfold State.atIssue
  exact (State.showHold_status _ n _ _ g hc hq).trans rfl

theorem State.atIssue_running (s : State) (n : Fin 8) : (s.atIssue n).running n = s.running n := by
  unfold State.running
  rw [State.atIssue_status s n CH_STATUS_STATE (by decide) (by decide)]

/-- What an assembled bundle leaves in its channel is no matter to hazards. -/
theorem State.setChan_showHold_opHazard (s : State) (n : Fin 8) (o : Op) :
    (((s.setChan n { s.chan n with asm := [], asmHdr := 0, asmErrs := [] }).showHold n false false).chan n).opHazard o = (s.chan n).opHazard o := by
  rw [State.showHold_chan, State.setChan_chan_same]
  rfl

/-- A bundle of one slot that raises no fault and ends no run issues, and the program counter moves on. -/
theorem State.issueNow_one (s : State) (n : Fin 8) (o : Op) (hf : s.bundleFaults n (oneSlot o) = []) (hz : (s.chan n).opHazard o = none)
    (hr : (s.issueSlot n o [] []).running n = true) (he : (oneSlot o).ends? = none) :
    s.issueNow n (oneSlot o) = (s.issueSlot n o [] []).advance n := by
  have hn : (oneSlot o).errs = [] := rfl
  have ho : (oneSlot o).ops = [o] := rfl
  have hs : (oneSlot o).sramErrs = [] := rfl
  have hh : s.issueHazard n (oneSlot o) = none := by
    unfold State.issueHazard
    split <;> simp [ho, hz]
  unfold State.issueNow
  simp [Chan.readRegs, State.readPatched, hn, hf, hh, State.unpatch, State.issueAll, ho, hs, hr, he]

/-- The faults of a bundle of one operation that uses no queue, no network and no channel SRAM: those of its encoding. -/
theorem State.bundleFaults_plain (s : State) (n : Fin 8) (o : Op) (hl : Bundle.legal (s.chan n) (oneSlot o) = true)
    (hq : ∀ q, (oneSlot o).taken q = 0) (ht : Op.touches (s.chan n) o = []) (hs : ∀ f, o ≠ .qstart f ∧ o ≠ .qwait f)
    (hn : ∀ f, o ≠ .nsend f ∧ o ≠ .nrecv f) :
    s.bundleFaults n (oneSlot o) = [] := by
  have ho : (oneSlot o).ops = [o] := rfl
  unfold State.bundleFaults
  simp only [hl, ho, Bool.not_true, hq, Nat.not_lt_zero, decide_false, List.any_cons, List.any_nil, Bool.or_false, List.flatMap_cons, ht,
    List.flatMap_nil, List.append_nil]
  cases o <;> simp_all

/-! ### Results in flight -/

theorem mem_insertFlight (b : Bool) (f : Flight) : ∀ l : List Flight, f ∈ insertFlight b f l
  | [] => by simp [insertFlight]
  | g :: l => by
    unfold insertFlight
    have := mem_insertFlight b f l
    split <;> [skip; split] <;> simp [*]

theorem mem_insertFlight_old (b : Bool) (f g : Flight) : ∀ l : List Flight, g ∈ l → g ∈ insertFlight b f l
  | [], h => by simp at h
  | e :: l, h => by
    unfold insertFlight
    have := mem_insertFlight_old b f g l
    split <;> [skip; split] <;> simp at h ⊢ <;> tauto

@[simp] theorem State.schedule_rd (s : State) (n : Fin 8) (f : Flight) (r : Nat) : (s.schedule n f).rd r = s.rd r := rfl

@[simp] theorem State.schedule_running (s : State) (n : Fin 8) (f : Flight) (k : Nat) : (s.schedule n f).running k = s.running k := rfl

@[simp] theorem State.schedule_regs (s : State) (n : Fin 8) (f : Flight) : (s.schedule n f).regs = s.regs := rfl

theorem State.schedule_mem (s : State) (n : Fin 8) (f : Flight) : f ∈ ((s.schedule n f).chan n).flight := by
  unfold State.schedule
  rw [State.take_chan, State.setChan_chan_same]
  exact mem_insertFlight _ _ _

theorem State.schedule_mem_old (s : State) (n : Fin 8) (f g : Flight) (h : g ∈ (s.chan n).flight) :
    g ∈ ((s.schedule n f).chan n).flight := by
  unfold State.schedule
  rw [State.take_chan, State.setChan_chan_same]
  exact mem_insertFlight_old _ _ _ _ h

@[simp] theorem State.schedule_cycle (s : State) (n : Fin 8) (f : Flight) : ((s.schedule n f).chan n).cycle = (s.chan n).cycle := by
  unfold State.schedule
  rw [State.take_chan, State.setChan_chan_same]

@[simp] theorem State.after_rd (s : State) (n : Fin 8) (a k o : Nat) (e : Ev) (r : Nat) : (s.after n a k o e).rd r = s.rd r := rfl

@[simp] theorem State.after_running (s : State) (n : Fin 8) (a k o : Nat) (e : Ev) (r : Nat) :
    (s.after n a k o e).running r = s.running r := rfl

@[simp] theorem State.after_cycle (s : State) (n : Fin 8) (a k o : Nat) (e : Ev) : ((s.after n a k o e).chan n).cycle = (s.chan n).cycle :=
  State.schedule_cycle _ _ _

theorem State.after_lands (s : State) (n : Fin 8) (a k o : Nat) (e : Ev) : Lands (s.after n a k o e) n ((s.chan n).cycle + k) e :=
  ⟨_, State.schedule_mem _ _ _, rfl, rfl⟩

theorem State.after_keeps (s : State) (n : Fin 8) (a k o : Nat) (e : Ev) (d : Nat) (x : Ev) (h : Lands s n d x) :
    Lands (s.after n a k o e) n d x := by
  obtain ⟨g, hg, h1⟩ := h
  exact ⟨g, State.schedule_mem_old _ _ _ _ hg, h1⟩

theorem State.advance_lands (s : State) (n : Fin 8) (d : Nat) (x : Ev) (h : Lands s n d x) : Lands (s.advance n) n d x := by
  obtain ⟨g, hg, h1⟩ := h
  refine ⟨g, ?_, h1⟩
  unfold State.advance
  rw [State.setFld_chan, State.setChan_chan_same]
  exact hg

theorem State.advance_rd (s : State) (n : Fin 8) (r : Nat) (h : r ≠ chStatus n) : (s.advance n).rd r = s.rd r := by
  unfold State.advance
  rw [State.rd_setFld_other _ _ _ _ _ h]
  rfl

/-- The program counter after a bundle outside a branch's shadow (R84). -/
theorem State.advance_pc (s : State) (n : Fin 8) (ht : (s.chan n).target = none) :
    (s.advance n).fld (chStatus n) CH_STATUS_PC = (s.fld (chStatus n) CH_STATUS_PC + 1) % 32768 := by
  unfold State.advance
  simp only [ht]
  exact (State.fld_setFld_same _ _ _ _ (by decide)).trans (Nat.mod_mod _ _)

theorem State.addFlags_rd (s : State) (n : Nat) (f : AFlags) :
    (s.addFlags n f).rd (chArithFlags n) = s.rd (chArithFlags n) ||| f.setWidth 64 := State.rd_wr_same s _ _

theorem State.addFlags_rd_other (s : State) (n : Nat) (f : AFlags) (r : Nat) (h : r ≠ chArithFlags n) : (s.addFlags n f).rd r = s.rd r :=
  State.rd_wr_other _ _ _ _ h

@[simp] theorem State.addFlags_chan (s : State) (n : Nat) (f : AFlags) (m : Fin 8) : (s.addFlags n f).chan m = s.chan m := rfl

theorem chStatus_ne_chArithFlags (n m : Fin 8) : chArithFlags m ≠ chStatus n := by
  unfold chStatus chArithFlags; omega

/-! ### Vector operations -/

theorem State.vecResult_running (s : State) (n : Fin 8) (slot lat r : Nat) (l : List Lane) :
    (s.vecResult n slot lat r l).running n = s.running n := by
  unfold State.vecResult State.afterV State.running State.fld
  rw [State.after_rd, State.addFlags_rd_other _ _ _ _ (chStatus_ne_chArithFlags n n).symm]

theorem State.vecResult_out (s : State) (n : Fin 8) (slot lat r : Nat) (l : List Lane) :
    VecOut s (s.vecResult n slot lat r l) n lat r l := by
  unfold State.vecResult State.afterV
  refine ⟨?_, ?_⟩
  · have := State.after_lands (s.addFlags n (laneFlags l)) n slot lat (ordWrite slot) (.vreg r (l.map (·.1)))
    simpa using this
  · rw [State.after_rd, State.addFlags_rd]

/-- A vector operation alone in its bundle, whose effect leaves the channel running, issues and the program counter moves on. -/
theorem State.slotIssue_vec (u : Issue) (o : VOp) (f : VecF) (s : State) (h : Alone u s) (hl : vecLegal o f = true)
    (hz : (s.chan u.ch).opHazard (.vec o f) = none)
    (hr : ((s.atIssue u.ch).issueVec u.ch o f).running u.ch = true) :
    s.slotIssue u (.vec o f) = ((s.atIssue u.ch).issueVec u.ch o f).advance u.ch := by
  rw [State.slotIssue_alone u _ s h rfl rfl]
  refine State.issueNow_one _ _ _ ?_ (by rw [State.setChan_showHold_opHazard]; exact hz) hr rfl
  apply State.bundleFaults_plain
  · simp only [oneSlot, Bundle.legal, List.all_cons, List.all_nil, Op.legal, hl, List.any_cons, List.any_nil, Op.isBranch, Bool.and_true, Bool.or_false,
      Bool.and_false, Bool.not_false, decide_true, Bool.true_and]
    have : ([Op.vec o f].filter Op.isFma).length ≤ 1 := List.length_filter_le _ _
    exact decide_eq_true this
  · intro q; rfl
  · rfl
  · intro f; simp
  · intro f; simp

theorem VecOut.advance {s t : State} {n : Fin 8} {lat d : Nat} {l : List Lane} (h : VecOut s t n lat d l) :
    VecOut s (t.advance n) n lat d l :=
  ⟨State.advance_lands _ _ _ _ h.1, by rw [State.advance_rd _ _ _ (chStatus_ne_chArithFlags n n)]; exact h.2⟩

theorem VecOut.atIssue {s t : State} {n : Fin 8} {lat d : Nat} {l : List Lane} (h : VecOut (s.atIssue n) t n lat d l) :
    VecOut s t n lat d l := by
  refine ⟨by simpa using h.1, ?_⟩
  rw [h.2, State.atIssue_rd _ _ _ (chStatus_ne_chArithFlags n n)]

/-- A lane-wise operation of the vector unit, alone in its bundle. -/
theorem State.slotIssue_lanes (u : Issue) (o : VOp) (f : VecF) (s : State) (h : Alone u s) (hl : vecLegal o f = true)
    (hz : (s.chan u.ch).opHazard (.vec o f) = none) (lat d slot k : Nat) (l : List Lane)
    (he : (s.atIssue u.ch).issueVec u.ch o f = ((s.atIssue u.ch).vecResult u.ch slot lat d l).take k) :
    VecOut s (s.slotIssue u (.vec o f)) u.ch lat d l := by
  have ho := State.vecResult_out (s.atIssue u.ch) u.ch slot lat d l
  rw [State.slotIssue_vec u o f s h hl hz]
  · rw [he]; exact VecOut.advance ⟨VecOut.atIssue ho |>.1, (VecOut.atIssue ho).2⟩
  · rw [he]
    have := State.vecResult_running (s.atIssue u.ch) u.ch slot lat d l
    rw [State.atIssue_running, h.1] at this
    exact this

end Sys2Proof.Machine
end

