-- ==== Sys2Proof/Laws/Memory.lean ====
section
/-!
SUPPORT. The canonical form of memories: every operation on device memory, on a channel's memories and on the mailbox memory keeps it, and the state
after reset has it. With it, what no operation of `Ops` and of device memory touches: the queue of commands, the owner's key slot, and the least
security version downward.
-/

namespace Sys2Proof.Machine

/-! ### Device memory -/

theorem Memory.wf_reset : Memory.wf State.reset.mem.bytes = true := rfl

theorem Memory.wf_ksets (m : KMap Byte) (k : Nat) (b : List Byte) (h : Memory.wf m = true) : Memory.wf (ksets memDefault m k b) = true :=
  kwf_ksets _ b m k h

/-- Storing bytes in a sector keeps the canonical form. -/
theorem MemSt.store_wf (m : MemSt) (c sec i : Nat) (b : List Byte) (h : Memory.wf m.bytes = true) : Memory.wf (m.store c sec i b).bytes = true := by
  unfold MemSt.store
  split
  · exact Memory.wf_ksets _ _ _ h
  · exact Memory.wf_ksets _ _ _ h

@[simp] theorem MemSt.setPoison_bytes (m : MemSt) (c sec : Nat) (p : Bool) : (m.setPoison c sec p).bytes = m.bytes := rfl
@[simp] theorem MemSt.countCorr_bytes (m : MemSt) (c sec pin : Nat) : (m.countCorr c sec pin).bytes = m.bytes := rfl

/-- What reading a sector leaves: the bytes of memory as they were. -/
theorem State.readSector_bytes (s : State) (c sec : Nat) (e : SymErr) : (s.readSector c sec e).1.mem.bytes = s.mem.bytes := by
  unfold State.readSector
  dsimp only
  split <;> rfl

/-- Copying a sector keeps the canonical form. -/
theorem State.copySector_wf (s : State) (a b : Nat × Nat) (e : SymErr) (h : Memory.wf s.mem.bytes = true) :
    Memory.wf (s.copySector a b e).mem.bytes = true := by
  have hb := State.readSector_bytes s a.1 a.2 e
  unfold State.copySector
  split
  · rename_i t d hr
    rw [hr] at hb
    exact MemSt.store_wf _ _ _ _ _ (by rw [hb]; exact h)
  · rename_i t hr
    rw [hr] at hb
    change Memory.wf t.mem.bytes = true
    rw [hb]; exact h

/-- Merging part of a sector keeps the canonical form. -/
theorem State.mergeSector_wf (s : State) (c sec i : Nat) (b : List Byte) (e : SymErr) (h : Memory.wf s.mem.bytes = true) :
    Memory.wf (s.mergeSector c sec i b e).mem.bytes = true := by
  have hb := State.readSector_bytes s c sec e
  unfold State.mergeSector
  split
  · rename_i t d hr
    rw [hr] at hb
    exact MemSt.store_wf _ _ _ _ _ (by rw [hb]; exact h)
  · rename_i t hr
    rw [hr] at hb
    exact MemSt.store_wf _ _ _ _ _ (by rw [hb]; exact h)

/-! ### Memories of a channel -/

theorem Chan.wf_reset : Chan.reset.Wf := ⟨rfl, rfl, rfl, rfl, rfl, rfl⟩

theorem Chan.setS_wf (c : Chan) (r : Nat) (v : Word64) (h : c.Wf) : (c.setS r v).Wf := by
  unfold Chan.setS
  split
  · exact h
  · exact { h with sregs := kwf_kset _ _ _ _ h.sregs }

theorem Chan.setV_wf (c : Chan) (r : Nat) (l : List (BitVec 32)) (h : c.Wf) : (c.setV r l).Wf :=
  { h with vregs := kwf_kset _ _ _ _ h.vregs }

theorem Chan.sramWrite_wf (map : Word64) (b : List Byte) : ∀ (c : Chan) (addr : Nat), c.Wf → (c.sramWrite map addr b).Wf := by
  induction b with
  | nil => intro c addr h; exact h
  | cons x b ih => intro c addr h; exact ih _ _ { h with sram := kwf_kset _ _ _ _ h.sram }

theorem Chan.setAccRow_wf (c : Chan) (e row : Nat) (l : List AccEnt) (h : c.Wf) : (c.setAccRow e row l).Wf :=
  { h with acc := kwf_ksets _ _ _ _ h.acc }

theorem Chan.zeroed_wf (c : Chan) : c.zeroed.Wf := ⟨rfl, rfl, rfl, rfl, rfl, rfl⟩

theorem Chan.keepMem_wf (c : Chan) (h : c.Wf) : c.keepMem.Wf := ⟨h.sregs, h.vregs, h.sram, h.active, h.standby, h.acc⟩

end Sys2Proof.Machine
end

