-- ==== Sys2Proof/WellFormed.lean ====
section
/-!
DEFINITION. Which terms of Instr are commands that the outside world can send: an error names a symbol, a sector, a word or a column that exists,
a flit, a packet and a register access have their sizes. The machine gives the other terms a next state all the same, and claims nothing of them.
-/

namespace Sys2Proof

/-- Errors of a codeword name its symbols 0 to 67 (R175). -/
def symErrWf (e : SymErr) : Bool := e.all fun x => decide (x.1 < 68)

/-- Errors by sector name one of the `n` sectors of an access. -/
def sectorErrsIn (n : Nat) (l : List (Nat × SymErr)) : Bool := l.all fun x => decide (x.1 < n) && symErrWf x.2

/-- Errors of a word name its symbols: 16 of data, 4 of check (R179). -/
def wordErrWf (e : SymErr) : Bool := e.all fun x => decide (x.1 < 20)

/-- Errors by word name one of the `n` words of a read. -/
def wordErrsIn (n : Nat) (o : EccObs) : Bool := o.all fun x => decide (x.1 < n) && wordErrWf x.2

/-- An error of a channel's read names a word that its memory has (R76, R81, R85, R108). -/
def ReadErr.wf (x : ReadErr) : Bool :=
  wordErrWf x.err && match x.src with
    | .fetch => decide (x.word < 8)
    | .sreg r => decide (r < 64 ∧ x.word = 0)
    | .vreg r => decide (r < 32 ∧ x.word < 512)
    | .sram => decide (x.word < 6291456)
    | .acc e row => decide (e < 16 ∧ row < 256 ∧ x.word < 212)

/-- The reads of an operation's bundle name words that exist. -/
def Issue.wf (i : Issue) : Bool := i.errs.all ReadErr.wf

/-- Flipped sums name the 128 columns of an engine, a block of a column and a stage (R69, R108). -/
def FlipObs.wf (o : FlipObs) : Bool :=
  (o.sums.all fun x => decide (x.col < 128 ∧ x.block < 8 ∧ x.stage < 3)) && o.tags.all fun x => decide (x.1 < 128)

/-- The same for an engine and TE16. -/
def TeObs.wf (o : TeObs) : Bool := o.te.wf && o.te16.wf

/-- The requesters of an arbiter: ten of a memory channel, five of a logical bank (R191). -/
def ArbId.has (a : ArbId) (k : Fin 10) : Bool :=
  match a with
  | .mem _ => true
  | .bank _ _ => decide (k.val < 5)

/-- A command that the outside world can send. -/
def Instr.wf (i : Instr) : Bool :=
  match i with
  | .loadw i _ => i.wf
  | .pass i _ => i.wf
  | .drain i _ => i.wf
  | .loadacc i _ => i.wf
  | .vadd i _ => i.wf
  | .vsub i _ => i.wf
  | .vmul i _ => i.wf
  | .vfma i _ => i.wf
  | .vdiv i _ => i.wf
  | .vsqrt i _ => i.wf
  | .vmax i _ => i.wf
  | .vmin i _ => i.wf
  | .vcmp i _ => i.wf
  | .vsel i _ => i.wf
  | .viadd i _ => i.wf
  | .visub i _ => i.wf
  | .viand i _ => i.wf
  | .vior i _ => i.wf
  | .vixor i _ => i.wf
  | .vishl i _ => i.wf
  | .vishr i _ => i.wf
  | .vcvt i _ => i.wf
  | .vunpk i _ => i.wf
  | .vwadd i _ => i.wf
  | .vwrnd i _ => i.wf
  | .vshuf i _ => i.wf
  | .vrsum i _ => i.wf
  | .vbcast i _ => i.wf
  | .vmovs i _ => i.wf
  | .xfill i _ => i.wf
  | .xreset i _ => i.wf
  | .xread i _ => i.wf
  | .recip i _ => i.wf
  | .rsqrt i _ => i.wf
  | .exp i _ => i.wf
  | .log i _ => i.wf
  | .tanh i _ => i.wf
  | .ldv i _ ecc => (i.withSram ecc).wf
  | .stv i _ => i.wf
  | .lds i _ ecc => (i.withSram ecc).wf
  | .sts i _ => i.wf
  | .qwait i _ => i.wf
  | .qrel i _ => i.wf
  | .qcommit i _ => i.wf
  | .qstart i _ => i.wf
  | .nsend i _ => i.wf
  | .nrecv i _ => i.wf
  | .cue i _ => i.wf
  | .cueset i _ => i.wf
  | .sadd i _ => i.wf
  | .saddi i _ => i.wf
  | .ssub i _ => i.wf
  | .smul i _ => i.wf
  | .sand i _ => i.wf
  | .sor i _ => i.wf
  | .sxor i _ => i.wf
  | .sshl i _ => i.wf
  | .sshr i _ => i.wf
  | .ssra i _ => i.wf
  | .slui i _ => i.wf
  | .scmplt i _ => i.wf
  | .br i _ => i.wf
  | .beqz i _ => i.wf
  | .bnez i _ => i.wf
  | .intermit i _ => i.wf
  | .halt i _ => i.wf
  | .signal i _ => i.wf
  | .weightTileLoaded _ _ => true
  | .accRowComplete _ _ obs => obs.wf
  | .drainRowWrite _ _ obs => obs.wf
  | .resultWriteback _ => true
  | .cueFire _ _ => true
  | .shadowTargetChange _ => true
  | .shadowCopyDone _ => true
  | .sramScrubRead _ _ _ errs => wordErrsIn 8 errs
  | .sramInitDone _ => true
  | .runStart _ _ => true
  | .runStop _ _ => true
  | .stopAtCueWrite _ _ => true
  | .unarmedWaitPoll _ => true
  | .flitDeparture _ _ => true
  | .rxqFlitArrive _ _ => true
  | .depositComplete _ _ => true
  | .rxWatchExpiry _ _ => true
  | .arbRequest a k _ => a.has k
  | .arbRound _ _ => true
  | .arbRelease _ _ => true
  | .arbMaskRise a k => a.has k
  | .arbMaskFall a k => a.has k
  | .starveDetect a k _ => a.has k
  | .arbPrioWrite _ _ => true
  | .arbCtlWrite _ _ => true
  | .streamBurstIssue _ _ => true
  | .burstComplete _ _ _ errs => sectorErrsIn 4 errs
  | .streamEntryWritten _ _ _ => true
  | .storeEntryWritten _ _ => true
  | .streamDescriptorDone _ _ => true
  | .countSync _ _ _ => true
  | .pinTest _ _ => true
  | .patrolScrubRead _ err => symErrWf err
  | .scrubSweepEnd _ => true
  | .remapDataWrite _ _ => true
  | .memInitDone failed => decide failed.Nodup
  | .lendWrite errs => sectorErrsIn 8 errs
  | .lendRead errs _ => sectorErrsIn 8 errs
  | .lendReplyDepart => true
  | .bar2Read off len errs => decide (1 ≤ len) && decide (off.toNat + len ≤ 2 ^ 40) && sectorErrsIn (len + 31) errs
  | .bar2Write off data _ errs => !data.isEmpty && decide (off.toNat + data.length ≤ 2 ^ 40) && sectorErrsIn (data.length + 31) errs
  | .hostwinBudgetRefill => true
  | .vc0CrossbarEnter _ => true
  | .vc0LinkArrive _ => true
  | .vc0WindowClose _ => true
  | .crossbarOutputSlot _ => true
  | .swapTickCopy => true
  | .bankSwap => true
  | .circuitEntryWrite _ _ _ => true
  | .unsPacketInject _ _ flits => decide (1 ≤ flits.length) && decide (flits.length ≤ 16) && flits.all fun f => decide (f.length = 232)
  | .unsPacketArrive _ _ => true
  | .unsPacketForward _ _ => true
  | .port32Deliver => true
  | .port33Write errs => sectorErrsIn 128 errs
  | .flaggedPacketRelease _ => true
  | .flagAckSend _ => true
  | .flagAckReceive _ => true
  | .flagFailReceive _ => true
  | .holdTimeout _ => true
  | .ackTimeout _ flow => decide (flow < 16384)
  | .netFlowClear _ => true
  | .routeEntryWrite _ _ => true
  | .tableOpenWrite _ => true
  | .telemWindowClose => true
  | .flitReceive _ bytes _ => decide (bytes.length = 256)
  | .replayTimeout _ => true
  | .lctlCredit _ => true
  | .lctlTimestamp _ => true
  | .lctlInit _ => true
  | .lctlReplace _ => true
  | .lctlLaneAck _ => true
  | .lctlLaneDone _ => true
  | .lctlWidthReq _ => true
  | .lctlWidthAck _ => true
  | .lctlWidthGo _ => true
  | .lctlRetrain _ => true
  | .laneParityWindow _ => true
  | .laneLossOfLock _ _ => true
  | .cmdRetry _ _ => true
  | .graceExpiry _ => true
  | .lnkEnWrite _ _ => true
  | .lnkRetrainWrite _ _ => true
  | .lnkWidthGoWrite _ _ => true
  | .detect _ _ => true
  | .equalise _ _ => true
  | .identifyLanes _ _ _ => true
  | .place _ _ => true
  | .align _ => true
  | .survey _ samples => decide (samples.length = 256) && samples.all fun x => decide (x.2 ≤ x.1)
  | .trainStepTimeout _ => true
  | .trainRetry _ => true
  | .eyeMonitor _ _ _ _ _ => true
  | .laserMonitor _ _ _ _ => true
  | .laserSourceWrite _ _ _ => true
  | .portMapWrite _ _ => true
  | .delayWrite _ _ => true
  | .dmaxWrite _ _ => true
  | .servoRun => true
  | .benchmarkWrite _ => true
  | .acquireWrite _ => true
  | .rebaseArmWrite _ => true
  | .rebaseStep => true
  | .timReleaseWrite _ => true
  | .trimSlew => true
  | .timRefusedClear _ => true
  | .refclkTLoss => true
  | .refclkTReturn => true
  | .holdExpired => true
  | .countedCompare _ _ => true
  | .safRaiseWrite _ => true
  | .curtainNotice => true
  | .curtainStopTimeout => true
  | .curtainChannelsStopped => true
  | .haltEnter => true
  | .safKick _ => true
  | .watchdogExpiry _ => true
  | .coreTakeover _ => true
  | .ctlPostData _ _ => true
  | .postPairTimeout => true
  | .lockstepMismatch => true
  | .selfTestDone _ _ => true
  | .captureDone errs => errs.all fun e => e.2.wf
  | .copyEngineDone errs => sectorErrsIn (2 ^ 35) errs
  | .msgCaptured => true
  | .msgCopy errs => sectorErrsIn (2 ^ 35) errs
  | .msgDone => true
  | .msgResume errs => sectorErrsIn (2 ^ 35) errs
  | .msgHold => true
  | .msgCopyDone => true
  | .msgStep errs => sectorErrsIn (2 ^ 35) errs
  | .msgHost => true
  | .mbPoll _ errs => errs.all wordErrWf
  | .mbAbort _ _ => true
  | .identify _ => true
  | .setPlace _ => true
  | .netPlaceWrite _ => true
  | .setPorts _ => true
  | .getSurvey _ => true
  | .timeSetBenchmark _ => true
  | .timeClearBenchmark _ => true
  | .timeAcquire _ => true
  | .timeRelease _ => true
  | .timeClearRefused _ => true
  | .routesStop _ => true
  | .routesWrite _ errs => sectorErrsIn (2 ^ 35) errs
  | .routesStart _ => true
  | .msgSend _ => true
  | .msgRecv _ => true
  | .load _ errs => sectorErrsIn (2 ^ 35) errs
  | .start _ => true
  | .inputDone _ errs => sectorErrsIn (2 ^ 35) errs
  | .curtain _ => true
  | .holdAtInt _ => true
  | .release _ => true
  | .restore _ errs => sectorErrsIn (2 ^ 35) errs
  | .resetSoft _ => true
  | .resetChn _ => true
  | .resetLnk _ => true
  | .setPower _ => true
  | .powerTransitionDone => true
  | .getLedger _ => true
  | .getRetired _ => true
  | .update _ _ errs => sectorErrsIn (2 ^ 35) errs
  | .attest _ => true
  | .getCert _ => true
  | .ownerKey _ => true
  | .recover _ errs => sectorErrsIn (2 ^ 35) errs
  | .bootImageVerified => true
  | .fwInitComplete => true
  | .por => true
  | .modReset => true
  | .modResetRelease _ => true
  | .hotReset => true
  | .flr => true
  | .channelReset _ => true
  | .linkReset _ => true
  | .bar0BadAccess _ => true
  | .atomicopRequest => true
  | .bar2Resize code => decide (10 ≤ code) && decide (code ≤ 20)
  | .msixUnmask _ => true
  | .d3hotEntry => true
  | .hostLinkChange _ width => decide (width ∈ [0, 1, 2, 4, 8, 16])
  | .ctlHostRaise _ _ => true
  | .vinSample _ _ _ => true
  | .holdupExpired => true
  | .porAfterCrossing => true
  | .overpower _ => true
  | .railFault _ _ => true
  | .powerUp => true
  | .arithStepWrite _ => true
  | .arithPllLocked _ => true
  | .ctrlDroopStretch _ => true
  | .netDroop _ _ => true
  | .refclkLoss _ => true
  | .thermalWarn _ _ => true
  | .thermalCurtain _ _ => true
  | .thermalTrip _ _ => true
  | .resurvey vfail => decide (vfail.length = 14) && vfail.all fun v => decide (1 ≤ v.length) && decide (v.length ≤ 8)
  | .railVoltageStep _ _ => true
  | .ledgerWrite => true
  | .i3cPrivateSelect _ => true
  | .i3cPrivateWrite _ => true
  | .i3cPrivateRead _ => true
  | .enec _ => true
  | .disec _ => true
  | .entdaa _ => true
  | .setdasa _ _ => true
  | .rstdaa => true
  | .getpid => true
  | .getbcr => true
  | .getdcr => true
  | .getstatus => true
  | .getmwl => true
  | .getmrl => true
  | .ibiRetry _ => true
  | .extest => true
  | .idcode => true
  | .samplePreload => true
  | .clamp => true
  | .highz => true
  | .dtmcs => true
  | .dmi _ _ _ => true
  | .bypass _ => true
  | .tapReset => true
  | .registerWrite off size4 value _ => if size4 then decide (off.toNat % 4 = 0) && decide (value.toNat < 2 ^ 32) else decide (off.toNat % 8 = 0)
  | .nop _ _ errs => errs.all ReadErr.wf
  | .refclkReturn _ => true
  | .selfRefreshExit => true
  | .commandWaitTimeout _ => true
  | .d0Return => true
  | .aerErrorLogged _ => true
  | .resetGlitch _ => true

end Sys2Proof
end

