-- ==== Sys2Proof/Tests/Slice0.lean ====
section
/-!
SUPPORT. Tests: an ill-formed term for every check of WellFormed; for every statement of the obligations a state and operands that meet the
hypotheses of its clauses (witness_…); and single steps whose results are worked out by hand from the manual.
-/

namespace Sys2Proof.Tests

set_option Elab.async false

open Sys2Proof Sys2Proof.Machine

/-! ### WellFormed -/

/-- A bundle of one slot on channel 0. -/
def u0 : Issue := ⟨0, 1, false, []⟩

/-- A bundle of one slot on channel 0 whose reads meet one error. -/
def uErr (src : ErrSrc) (word symbol : Nat) : Issue := ⟨0, 1, false, [⟨src, word, [(symbol, 1)]⟩]⟩

theorem test_wf_symbol : (Instr.patrolScrubRead 0 [(68, 1)]).wf = false := by decide
theorem test_wf_sector : (Instr.burstComplete 0 0 0 [(4, [])]).wf = false := by decide
theorem test_wf_lend_sector : (Instr.lendRead [(8, [])] true).wf = false := by decide
theorem test_wf_read_error : (∀ x ∈ [uErr .fetch 8 0, uErr (.sreg 64) 0 0, uErr (.sreg 0) 1 0, uErr (.vreg 32) 0 0, uErr (.vreg 0) 512 0,
    uErr .sram 6291456 0, uErr (.acc 16 0) 0 0, uErr (.acc 0 256) 0 0, uErr (.acc 0 0) 212 0, uErr .fetch 0 20], x.wf = false) ∧
    ∀ x ∈ [uErr .fetch 7 19, uErr (.sreg 63) 0 0, uErr (.vreg 31) 511 0, uErr .sram 6291455 0, uErr (.acc 15 255) 211 0], x.wf = true := by
  decide +kernel
theorem test_wf_column : (Instr.accRowComplete 0 0 ⟨⟨[⟨128, 0, 0, 1⟩], []⟩, ⟨[], []⟩⟩).wf = false ∧
    (Instr.accRowComplete 0 0 ⟨⟨[⟨0, 8, 0, 1⟩], []⟩, ⟨[], []⟩⟩).wf = false ∧ (Instr.accRowComplete 0 0 ⟨⟨[⟨0, 0, 3, 1⟩], []⟩, ⟨[], []⟩⟩).wf = false := by
  decide
theorem test_wf_column16 : (Instr.drainRowWrite 0 0 ⟨⟨[], []⟩, ⟨[], [(128, 1)]⟩⟩).wf = false := by decide
theorem test_wf_bundle : (Instr.nop 0 (BitVec.ofNat 512 1) [⟨.fetch, 8, []⟩]).wf = false := by decide
theorem test_wf_scrub_word : (Instr.sramScrubRead 0 0 0 [(8, [])]).wf = false ∧ (Instr.sramScrubRead 0 0 0 [(0, [(20, 1)])]).wf = false := by decide
theorem test_wf_submission : (Instr.mbPoll 0 [[(20, 1)]]).wf = false ∧ (Instr.captureDone [(0, ⟨.fetch, 8, []⟩)]).wf = false := by decide
theorem test_wf_requester : (Instr.arbRequest (.bank 0 0) 5 0).wf = false := by decide
theorem test_wf_mask : (Instr.arbMaskRise (.bank 0 0) 5).wf = false ∧ (Instr.arbMaskFall (.bank 0 0) 5).wf = false := by decide
theorem test_wf_starve : (Instr.starveDetect (.bank 0 0) 9 1).wf = false := by decide
theorem test_wf_failed : (Instr.memInitDone [3, 3]).wf = false := by decide
theorem test_wf_bar2_read : (Instr.bar2Read 0 0 []).wf = false ∧ (Instr.bar2Read (BitVec.ofNat 40 (2 ^ 40 - 1)) 2 []).wf = false := by decide
theorem test_wf_bar2_write : (Instr.bar2Write 0 [] false []).wf = false ∧ (Instr.bar2Write 0 [0] false [(32, [])]).wf = false := by decide
theorem test_wf_copy_sector : ∀ i ∈ [Instr.copyEngineDone [(2 ^ 35, [])], .msgCopy [(2 ^ 35, [])], .msgResume [(2 ^ 35, [])], .msgStep [(2 ^ 35, [])],
    .routesWrite 0 [(2 ^ 35, [])], .load 0 [(2 ^ 35, [])], .inputDone 0 [(2 ^ 35, [])], .restore 0 [(2 ^ 35, [])], .port33Write [(128, [])],
    .lendWrite [(8, [])]], i.wf = false := by decide +kernel
theorem test_wf_packet : (Instr.unsPacketInject 0 1 []).wf = false ∧ (Instr.unsPacketInject 0 1 [[0]]).wf = false := by decide
theorem test_wf_flow : (Instr.ackTimeout 0 16384).wf = false := by decide
theorem test_wf_flit : (Instr.flitReceive 0 [0] 0).wf = false := by decide
theorem test_wf_survey : (Instr.survey 0 [(5, 1)]).wf = false := by decide
theorem test_wf_resize : (Instr.bar2Resize 9).wf = false ∧ (Instr.bar2Resize 21).wf = false := by decide
theorem test_wf_width : (Instr.hostLinkChange 5 3).wf = false := by decide
theorem test_wf_resurvey : (Instr.resurvey []).wf = false := by decide
theorem test_wf_write : (Instr.registerWrite 4 false 0 false).wf = false ∧ (Instr.registerWrite 2 true 0 false).wf = false ∧
    (Instr.registerWrite 4 true (BitVec.ofNat 64 (2 ^ 32)) false).wf = false := by decide

/-- The table gives no row bits, so no word spells a command. -/
theorem test_decode_none : decodeTableWord 16 0x1234 = none := rfl

/-! ### States -/

/-- The state after reset with a field of a register set. -/
def st (off : Nat) (f : Fld) (x : Nat) : State := State.reset.setFld off f x

/-- Channel 0 runs. -/
def run0 : State := st (chStatus 0) CH_STATUS_STATE stRunning

/-- Channel 0 of a state, changed. -/
def on0 (s : State) (f : Chan → Chan) : State := s.setChan 0 (f (s.chan 0))

/-- A vector slot with VD 1, VA 2 and every other field zero. -/
def vf : VecF := ⟨0, 1, 2, 0, 0, 0, false, 0, false, 0, 0⟩

/-- An all-zero memory, queue, network and control slot. -/
def mf : MemF := ⟨0, 0, 0, 0, 0, 0⟩
def qf : QueF := ⟨0, 0, 0, 0, 0⟩
def nf : NetF := ⟨0, 0, 0, 0, 0, 0⟩
def cf : CtlF := ⟨0, 0, 0, 0⟩

theorem test_wf_own_read : (Instr.ldv u0 mf [(6291456, [])]).wf = false ∧ (Instr.lds u0 mf [(0, [(20, 1)])]).wf = false := by decide

/-! ### Operations of a channel -/

theorem witness_alone : Alone u0 run0 := by unfold Alone; decide +kernel

/-- An operation raises no fault of issue and meets no hazard on channel 0. -/
def issues0 (o : Op) : Bool := (run0.bundleFaults 0 (oneSlot o)).isEmpty && ((run0.chan 0).opHazard o).isNone

theorem issues_of {o : Op} (h : issues0 o = true) : Issues u0 o run0 := by
  simp only [issues0, Bool.and_eq_true, List.isEmpty_iff, Option.isNone_iff_eq_none] at h
  exact ⟨witness_alone, h.1, h.2⟩

/-- The test of `State.grants`, computed. -/
def grantsB (s : State) (x : Fin 10 × ArbId) : Bool :=
  decide (x.1.val < arbSize x.2 ∧ (s.arb x.2).holder = none ∧ (s.arb x.2).reqs[x.1].masked = false ∧ ∀ j : Fin 10, (s.arb x.2).reqs[j].asking = false) &&
    match x.2 with
    | .mem _ => s.memUsable
    | .bank _ _ => true

theorem granted_of {s : State} {l : List (Fin 10 × ArbId)} (h : l.all (grantsB s) = true) : Granted s l := by
  intro x hx
  have h := List.all_eq_true.mp h x hx
  simp only [grantsB, Bool.and_eq_true, decide_eq_true_eq] at h
  refine ⟨h.1.1, h.1.2.1, h.1.2.2.1, h.1.2.2.2, fun c hc => ?_⟩
  have h2 := h.2
  rw [hc] at h2
  exact h2

theorem witness_VectorFloatResults : vecLegal .vadd vf = true ∧ vecLegal .vsub vf = true ∧ vecLegal .vmul vf = true ∧ vecLegal .vfma vf = true ∧
    vecLegal .vdiv vf = true ∧ vecLegal .vsqrt vf = true ∧ (run0.chan 0).unitBusy (divUnit 0) = false ∧ (run0.chan 0).unitBusy (divUnit 1) = false ∧
    (⟨1, 2, 0⟩ : SfF).rsv = 0 := by decide +kernel

/-- A divide unit that takes its next operation at cycle 3. -/
def divBusy : State := on0 run0 fun c => { c with busyUntil := [(divUnit 0, (3, 0))] }

theorem witness_VectorFloatResults_busy : Alone u0 divBusy ∧ (divBusy.chan 0).unitBusy (divUnit 0) = true ∧ divBusy.rehearsing 0 = false := by
  unfold Alone; decide +kernel

theorem witness_VectorIntegerResults : (run0.chan 0).unitBusy (slotUnit 0) = false ∧ (run0.chan 0).unitBusy (slotUnit 1) = false ∧
    ∀ o ∈ [VOp.vmax, .vmin, .vcmp, .vsel, .viadd, .visub, .viand, .vior, .vixor, .vishl, .vishr], vecLegal o vf = true := by decide +kernel

theorem witness_VectorConversionResults : (∀ o ∈ [VOp.vcvt, .vunpk, .vwrnd], vecLegal o { vf with fmt := 2 } = true ∧
    vecLegal o { vf with fmt := 7, mx := true } = true) ∧ (∀ o ∈ [VOp.vwadd, .vshuf, .vrsum], vecLegal o vf = true) ∧
    vecLegal .vbcast { vf with va := 0 } = true ∧ vecLegal .vmovs { vf with vd := 0 } = true := by decide

theorem witness_ExpertSlots : vecLegal .xfill vf = true ∧ vecLegal .xreset { vf with vd := 0, va := 0 } = true ∧
    vecLegal .xread { vf with va := 0 } = true ∧ (run0.chan 0).unitBusy (slotUnit 0) = false := by decide +kernel

/-- EXPERTS 256 and, of expert 255, CAP 1: room, then, with FILL 1, deferral with POLICY 1 and budget, and a drop with POLICY 0. -/
def experts (fill policy : Nat) : State :=
  ((((run0.setFld (chXslotCtl 0) CH_XSLOT_CTL_EXPERTS 256).setFld (chXcap 0 255) CH_XCAP_CAP 1).setFld (chXcap 0 255) CH_XCAP_FILL fill).setFld
    (chXslotCtl 0) CH_XSLOT_CTL_POLICY policy).setFld (chXslotCtl 0) CH_XSLOT_CTL_DEFER_CAP 1

theorem witness_ExpertSlots_lanes : (255 : BitVec 32).toNat < (experts 0 0).fld (chXslotCtl 0) CH_XSLOT_CTL_EXPERTS ∧
    (experts 0 0).fld (chXslotCtl 0) CH_XSLOT_CTL_EXPERTS ≤ 256 ∧
    (experts 0 0).fld (chXcap 0 255) CH_XCAP_FILL < (experts 0 0).fld (chXcap 0 255) CH_XCAP_CAP ∧
    (experts 1 1).fld (chXcap 0 255) CH_XCAP_CAP ≤ (experts 1 1).fld (chXcap 0 255) CH_XCAP_FILL ∧
    (experts 1 1).fld (chXslotCtl 0) CH_XSLOT_CTL_POLICY = 1 ∧
    (experts 1 1).fld (chXslotStat 0) CH_XSLOT_STAT_DEFER_USED < (experts 1 1).fld (chXslotCtl 0) CH_XSLOT_CTL_DEFER_CAP ∧
    (experts 1 0).fld (chXslotCtl 0) CH_XSLOT_CTL_POLICY ≠ 1 ∧ (256 : BitVec 32) ≠ 0xFFFFFFFF ∧
    (experts 0 0).fld (chXslotCtl 0) CH_XSLOT_CTL_EXPERTS ≤ (256 : BitVec 32).toNat := by decide +kernel

/-- The five lanes' answers of R119 in one run: no token, beyond EXPERTS, a row, then deferred; dropped with POLICY 0. -/
theorem test_xfill : (((experts 0 1).xfill 0 [0xFFFFFFFF, 256, 255, 255, 255]).1 = [0xFFFFFFFF, 0xFFFFFFFF, 0, 0xFFFFFFFE, 0xFFFFFFFD]) ∧
    ((experts 0 0).xfill 0 [255, 255]).1 = [0, 0xFFFFFFFD] := by decide +kernel

theorem witness_MemoryAndQueueSlots : ∀ o ∈ [Op.ldv mf, .stv mf, .lds mf, .sts mf, .qrel qf, .qcommit { qf with q := 16 }, .qstart qf],
    Issues u0 o run0 := fun o h => issues_of (by revert o; decide +kernel)

/-- Bank 0 of channel 0 is held by the deposits. -/
def bank0Held : State := run0.setArb (.bank 0 0) { Arb.reset with holder := some 0 }

theorem witness_MemoryAndQueueSlots_reading : Granted run0 (bankArbs 1 0 0 32) ∧
    ∃ g ∈ granules 0 32, ∀ b : Fin 64, b.val = g % 64 → ∃ k, (bank0Held.arb (.bank 0 b)).holder = some k ∧ k ≠ 1 := by
  refine ⟨granted_of (by decide +kernel), 0, by decide, fun b hb => ⟨0, ?_, by decide⟩⟩
  have h : b = 0 := Fin.ext hb
  subst h
  decide +kernel

theorem witness_TensorEngineSchedule : (run0.shadowing 0).isNone = true ∧
    ∀ o ∈ [Op.loadw ⟨0, 0x81, 0, 0, 0, 0⟩, .pass ⟨0, 0x81, 0, 0, 0, 0, 1, 254, false, 0, 0⟩,
      .drain ⟨0, 0x81, 5, false, 0, false, 0, 0, 0, 255, 0, 0⟩, .drain ⟨1, 1, 11, false, 0, false, 0, 0, 0, 0, 255, 0⟩,
      .loadacc ⟨1, 3, 0, 0, 1, 254, 5, 0⟩], Issues u0 o run0 :=
  ⟨by decide +kernel, fun o h => issues_of (by revert o; decide +kernel)⟩

theorem witness_ScalarResults : ∀ o ∈ scalarOps, ctlLegal o cf = true := by decide

theorem witness_ControlFlow : ∀ o ∈ [Op.ctl .br { cf with imm := 0x7FFF }, .ctl .beqz cf, .ctl .bnez cf, .ctl .halt cf, .ctl .intermit cf,
    .ctl .signal { cf with imm := 0xFFFF }], Issues u0 o run0 := fun o h => issues_of (by revert o; decide +kernel)

/-- The 512 bits of a bundle (R85): FORMAT 1 and a control slot of opcode `op`. -/
def ctlBundle (op : Nat) : BitVec 512 := 1 ||| (BitVec.ofNat 512 op <<< 472)

/-- Opcode 0x03 of the control slot is SADD (R99). -/
theorem witness_ControlFlow_bundles : decodeBundle (ctlBundle 0x03) [] = oneSlot (.ctl .sadd cf) := by decide +kernel

/-- Fields of three slots of one bundle, written out from R90, R96 and R99: a LOADW of group 1, an LDV in memory slot 1, and a BR. -/
theorem test_bundle_fields : decodeBundle
      (1 ||| (BitVec.ofNat 512 (1 + 0x81 * 2 ^ 6 + 2 * 2 ^ 14 + 9 * 2 ^ 18 + 10 * 2 ^ 24) <<< 72) |||
        (BitVec.ofNat 512 (1 + 31 * 2 ^ 6 + 63 * 2 ^ 11 + 0x8001 * 2 ^ 23) <<< 312) ||| (BitVec.ofNat 512 (0x10 + 0x7FFF * 2 ^ 24) <<< 472)) [] =
    ⟨1, [.loadw ⟨1, 0x81, 2, 9, 10, 0⟩, .ldv ⟨1, 31, 63, 0, 0x8001, 0⟩, .ctl .br ⟨0, 0, 0, 0x7FFF⟩], false, []⟩ := by decide +kernel
theorem witness_ControlFlow_illegal : (decodeBundle (ctlBundle 0x1F) []).cue? = none ∧ (decodeBundle (ctlBundle 0x1F) []).waits = [] ∧
    (decodeBundle (ctlBundle 0x1F) []).legal (run0.chan 0) = false := by decide +kernel

/-- Cue 15 has fired in this cycle. -/
def cueFired : State := run0.setFld (chStatus 0) CH_STATUS_CUE_FIRED 0x8000

theorem witness_CueWaitAndNetworkSlots : Alone u0 cueFired ∧ run0.fired 0 15 = false ∧ run0.flag (chCtl 0) CH_CTL_STOP_AT_CUE = false ∧
    ctlLegal .cue { cf with imm := 15 } = true ∧ cueFired.fired 0 15 = true ∧
    (cueFired.chan 0).cycle ≤ kget (fun _ => 0) (cueFired.chan 0).firedAt 15 ∧ ctlLegal .cueset { cf with sd := 15 } = true ∧
    Op.legal (run0.chan 0) (.qwait { qf with q := 23 }) = true ∧ 0 ≤ run0.fld (chQCount 0 23) CH_Q_COUNT_AVAIL ∧
    run0.fld (chQCount 0 23) CH_Q_COUNT_AVAIL < (64 : BitVec 16).toNat ∧ (64 : BitVec 16).toNat ≤ run0.ringEntries 0 23 ∧
    (run0.chan 0).txq[7] = [] := by unfold Alone; decide +kernel

theorem witness_CueWaitAndNetworkSlots_net :
    (∀ o ∈ [Op.nsend { nf with qn := 7, nflM1 := 15 }, .nrecv { nf with nflM1 := 15 }], Issues u0 o run0) ∧
    Granted run0 ((List.range ((15 : BitVec 4).toNat + 1)).flatMap fun j => bankArbs 0 0 (0 + 256 * j) 232) :=
  ⟨fun o h => issues_of (by revert o; decide +kernel), granted_of (by decide +kernel)⟩

theorem witness_ChannelOperationFrame : (run0.chan 0).applied.rehearsal = false ∧ vecLegal .vadd vf = true ∧ VOp.vadd ≠ .xfill ∧
    VOp.vadd ≠ .xreset ∧ (run0.chan 0).opHazard (.vec .vadd vf) = none ∧ ctlLegal .slui cf = true := by decide +kernel

/-- A tensor-engine operation that has read these element bytes. -/
def job (op : JobOp) (buf : KMap (List Byte)) : Job := ⟨op, buf, [], [], [], 0, [], 0⟩

/-- An event in flight on channel 0, with a tensor-engine operation 1 of its own. -/
def flying (op : JobOp) (buf : KMap (List Byte)) (ev : Ev) : State :=
  on0 run0 fun c => { c with flight := [⟨0, 0, 0, 0, ev⟩], jobs := [(1, job op buf)], claimCycle := 1 }

def noTile : List (Nat × Tile) := [(3, tile0)]

/-- A pass of one FP16 row onto accumulator row 255, its first element a NaN. -/
def aPass : JobOp := .pass noTile 9 9 1 255 false 0 false none
def nanRow : KMap (List Byte) := [(0, [0xC0, 0x7F])]

theorem nanRow_nonfin (old : List AccEnt) (free : Nat) : (passRow (job aPass nanRow) tile0 9 9 0 false false 0 old free noObs.te).nonfin = true := by
  have h : (passCol (job aPass nanRow) tile0 9 9 0 false 0 0).nonfin = true := by decide +kernel
  simp only [passRow, List.any_map, List.any_eq_true, Function.comp]
  exact ⟨0, List.mem_range.mpr (by decide), h⟩

theorem witness_ResultsLand_registers : ∀ e ∈ [Ev.sreg 0 5, .sreg 63 5, .vreg 31 [], .cueWrite 15 0],
    let s := flying (.loadw 3 0 false) [] e
    (s.chan 0).applied.rehearsal = false ∧ (s.chan 0).flight = [⟨0, 0, 0, 0, e⟩] ∧ (s.chan 0).held = none ∧ 0 ≤ (s.chan 0).cycle := by
  decide +kernel

theorem witness_ResultsLand_engines :
    (∀ x ∈ [(JobOp.loadw 3 0 false, Ev.tileDone 1), (.loadacc 3 1 255 0, .rowDone 1 3 0), (aPass, .rowDone 1 3 0),
        (.drain 3 5 false 0 false 0 1 255 0 0 false, .drainWrite 1 0 0), (.drain 3 5 true 0 false 0 1 255 0 0 false, .drainWrite 1 0 9),
        (.drain 3 11 false 0 false 0 1 255 0 0 false, .drainWrite 1 0 2)],
      let s := flying x.1 nanRow x.2
      (s.chan 0).job? 1 = some (job x.1 nanRow) ∧ (job x.1 nanRow).undef.contains 3 = false ∧ (job x.1 nanRow).errs = [] ∧
        (s.chan 0).phys 3 = 3 ∧ (s.chan 0).claimCycle ≠ 0) ∧
    noTile.find? (fun x => decide (x.1 = 3)) = some (3, tile0) ∧
    (run0.setFld (chArithCtl 0) CH_ARITH_CTL_NONFIN_FAULT 1).flag (chArithCtl 0) CH_ARITH_CTL_NONFIN_FAULT = true := by decide +kernel

/-- Channel 0 idle, its SRAM initialised. -/
def idle0 : State := st (chStatus 0) CH_STATUS_STATE stIdle

/-- A CUE on cue 15, held; the same PC was polled before. -/
def cueHold : Hold := ⟨oneSlot (.ctl .cue { cf with imm := 15 }), 0, false, [], false⟩
def heldCue : State := on0 (run0.setFld (chCtl 0) CH_CTL_RUN 1) fun c => { c with held := some cueHold, lastPoll := some 0 }

theorem witness_ChannelStartStop : State.reset.takesWrites (chCtl 0) = true ∧ idle0.takesWrites (chCtl 0) = true ∧
    idle0.running 0 = false ∧ idle0.startOk 0 = true ∧ (idle0.chan 0).flight = [] ∧ State.reset.startOk 0 = false ∧ run0.running 0 = true ∧
    (∀ b < 2, getF (setF 0 CH_CTL_STOP_AT_CUE b) CH_CTL_STOP_AT_CUE = b) ∧
    (run0.setFld (chCtl 0) CH_CTL_RUN 1).fld (chCtl 0) CH_CTL_RUN = 1 ∧ (run0.chan 0).held = none ∧ heldCue.running 0 = true ∧
    (heldCue.chan 0).held = some cueHold ∧ heldCue.fld (chCtl 0) CH_CTL_RUN = 1 ∧ cueHold.bundle.cue? = some 15 ∧
    State.reset.fld (chCtl 0) CH_CTL_RUN = 0 := by decide +kernel

theorem witness_ChannelStartStop_cues :
    run0.fired 0 15 = false ∧ (run0.wr (chCue 0 15) 0).cueReached 0 ((run0.wr (chCue 0 15) 0).rd (chCue 0 15)).toNat 0 = true ∧
    (let s := heldCue.wr (chCue 0 15) 0
     s.fired 0 15 = false ∧ (s.chan 0).held = some cueHold ∧ ctlLegal .cue { cf with imm := 15 } = true ∧ (s.chan 0).flight = [] ∧
       s.cueReached 0 (s.rd (chCue 0 15)).toNat (s.cycleNow 0) = true) ∧
    (heldCue.chan 0).lastPoll = some (heldCue.fld (chStatus 0) CH_STATUS_PC) ∧
    (∃ q ∈ cueHold.bundle.cuesNamed, (heldCue.rd (chCue 0 q)).toNat = 2 ^ 64 - 1) := by decide +kernel

/-- A STOP_AT_CUE that starts a stopped channel in the same write clears itself (R127). -/
theorem test_stop_at_cue_start : (match execRunStart 0 (setF (setF 0 CH_CTL_RUN 1) CH_CTL_STOP_AT_CUE 1) idle0 with
    | .next t => t.running 0 && !t.flag (chCtl 0) CH_CTL_STOP_AT_CUE
    | _ => false) = true := by decide +kernel

/-- TE16 has copied since tick 0. -/
def shadowing : State :=
  on0 (((idle0.wr timNow 1000000).setFld (chShadow 0) CH_SHADOW_EN 1).setFld (chTeMap 0) CH_TE_MAP_SHADOW_AVAIL 1) fun c =>
    { c with shCopying := some 0 }

theorem witness_ChannelUpkeep :
    (idle0.wr timNow (BitVec.ofNat 64 (idle0.shadowPeriod 0))).now / idle0.shadowPeriod 0 % 16 ≠ idle0.fld (chShadow 0) CH_SHADOW_TARGET ∧
    (shadowing.chan 0).shCopying = some 0 ∧ shadowing.mayShadow 0 = true ∧ 64 * 1000 ≤ (shadowing.now - 0) * shadowing.arithMHz 0 ∧
    idle0.fld (chStatus 0) CH_STATUS_STATE ≠ stInit ∧ (7 : Nat) < 8 ∧ (readWord 0 [(19, 15)]).2 = .corrected ∧
    (readWord 0 [(0, 1), (1, 2)]).2 = .bad ∧ State.reset.fld (chStatus 0) CH_STATUS_STATE = stInit := by decide +kernel

theorem witness_ChannelUpkeep_scrub : ∀ b ∈ [(0 : Fin 66), 63, 65],
    Granted idle0 (((fins 64).filter fun l : Fin 64 => decide (physBank (idle0.bankMap 0) l.val = b.val)).map fun l : Fin 64 => (3, .bank 0 l)) :=
  fun b h => granted_of (by revert b; decide +kernel)

/-- A TXQ with a descriptor of two flits due in slot 0, their payloads there at once or too late, an RXQ with a flit and a descriptor posted at
tick 0, and a flit at the port. -/
def sending (ready : Nat) : TxDesc := ⟨5, 0, 2, 0, 0, 15, [(ready, [1]), (ready, [2])], 0, []⟩
def netPort (ready : Nat) : State :=
  let s := on0 run0 fun c => { c with
    txq := c.txq.set 7 [sending ready], rxq := c.rxq.set 7 [[9]], rxd := c.rxd.set 7 [⟨0, 2, 0, 0, false⟩] }
  (s.setNet { s.net with toChan := [(0, [(0, 7, ⟨5, 0, 0, [3]⟩)])] }).wr timNow 2000000

theorem witness_ChannelNetworkPort : (∀ t ∈ [0, 1], ((netPort t).chan 0).txq[7] = [sending t]) ∧
    ([] : List TxDesc).find? (fun e => decide (e.slot0 ≤ (netPort 0).slotNow ∧ e.slot0 < 0 + 0)) = none ∧ 0 ≤ (netPort 0).slotNow ∧
    (sending 0).data[0]? = some (0, [1]) ∧ 0 ≤ slotTick 0 ∧ slotTick 0 < 1 ∧ (netPort 1).fld (chFault 0) CH_FAULT_CUE_OVERRUN = 0 ∧
    (netPort 1).fld (chFault 0) CH_FAULT_SEND_LATE = 0 ∧ (sending 1).cue < 16 ∧
    (kl (netPort 0).net.toChan 0).find? (fun y => y.2.1 = 7) = some (0, 7, ⟨5, 0, 0, [3]⟩) ∧ 8 * 0 + 280 ≤ 7 * (netPort 0).now ∧
    ((netPort 0).chan 0).portClosed = false ∧ ((netPort 0).chan 0).rxq[7].length < 64 ∧ ((netPort 0).chan 0).rxq[7] = [[9]] ∧
    ((netPort 0).chan 0).rxd[7] = [⟨0, 2, 0, 0, false⟩] := by decide +kernel

theorem witness_ChannelNetworkPort_deposit : Granted (netPort 0) (bankArbs 0 0 (0 + 256 * 0) 232) := granted_of (by decide +kernel)

/-- The watch is on by default, and the descriptor posted at tick 0 has run out. -/
theorem witness_ChannelNetworkPort_watch : ((netPort 0).rxLimit 0).isSome = true ∧
    (((netPort 0).chan 0).rxd[7].find? fun e => !e.missed && decide (e.posted + ((netPort 0).rxLimit 0).getD 0 ≤ (netPort 0).now)) =
      some ⟨0, 2, 0, 0, false⟩ := by decide +kernel
/-! ### Arbiters, the fabric, memory -/

/-- Requesters 4 and 9 of the arbiter of memory channel 127 ask, the former for 3 cycles; 9 has a base priority of 1. -/
def contended : State :=
  let r : ArbReq := ⟨true, 0, some 3, false⟩
  let s := (st mcStatus MC_STATUS_INIT_DONE 1).setArb (.mem 127) { Arb.reset with reqs := (Arb.reset.reqs.set 4 r).set 9 { r with wait := some 0 } }
  ((s.setFld (arbPrioOf (.mem 127)) ⟨36, 3⟩ 7).setFld (arbPrioOf (.mem 127)) ⟨16, 3⟩ 6).setFld (arbCtlOf (.mem 127)) ARB_CTL_STARVE_THRESH 2

theorem witness_ArbiterChoice : contended.arbPick (.mem 127) (contended.arb (.mem 127)) = some (9, false) ∧
    contended.arbPick (.mem 127) { contended.arb (.mem 127) with since := 63 } = some (4, true) ∧
    ∃ j : Fin 10, (contended.arb (.mem 127)).reqs[j].asking = true ∧ (contended.arb (.mem 127)).reqs[j].masked = false := by decide +kernel

/-- Boost cannot lift a level above 7, and among equals the lower index is granted (R192). -/
theorem test_arb_level : (contended.setArb (.mem 127) { contended.arb (.mem 127) with
      reqs := (contended.arb (.mem 127)).reqs.set 4 ⟨true, 7, some 3, false⟩ } |> fun s => s.arbPick (.mem 127) (s.arb (.mem 127))) =
    some (4, false) := by decide +kernel

/-- A round `dt` cycles after the last picks the choice of `x`. -/
def pick (s : State) (a : ArbId) (dt : Nat) : Option (Fin 10 × Bool) :=
  s.arbPick a { s.arb a with reqs := (s.arb a).reqs.map fun r => { r with wait := r.wait.map (· + dt) } }

/-- Requester 4 asks for bank 63 of channel 7. -/
def bankAsked : State := run0.setArb (.bank 7 63) { Arb.reset with reqs := Arb.reset.reqs.set 4 ⟨true, 0, some 0, false⟩ }

theorem witness_ArbiterCommands : 4 < arbSize (.bank 7 63) ∧ (State.reset.arb (.bank 7 63)).reqs[4].masked = false ∧
    (State.reset.arb (.bank 7 63)).reqs[4].asking = false ∧ (State.reset.arb (.bank 7 63)).holder = none ∧
    (contended.arb (.mem 127)).holder = none ∧ contended.memUsable = true ∧ pick contended (.mem 127) 1 = some (9, false) ∧
    pick (contended.setArb (.mem 127) { contended.arb (.mem 127) with since := 63 }) (.mem 127) 0 = some (4, true) ∧
    bankAsked.arbFree (.bank 7 63) = true ∧ pick bankAsked (.bank 7 63) 0 = some (4, false) ∧ State.reset.memUsable = false ∧
    ((contended.setArb (.mem 127) { contended.arb (.mem 127) with reqs := Arb.reset.reqs.set 0 ⟨false, 0, none, true⟩ }).arb
      (.mem 127)).reqs[0].masked = true ∧ (contended.arb (.mem 127)).reqs[4].wait = some 3 ∧
    contended.fld (arbCtlOf (.mem 127)) ARB_CTL_STARVE_THRESH ≠ 0 ∧
    contended.fld (arbCtlOf (.mem 127)) ARB_CTL_STARVE_THRESH < 3 + 0 ∧ contended.takesWrites (arbPrioOf (.mem 127)) = true ∧
    contended.takesWrites (arbCtlOf (.bank 7 63)) = true := by decide +kernel

/-- VC0 is enabled; circuit 4095 of bank 0 goes is what an entry says. -/
def vc0 (e : Word64) : State := (st netFabCtl NET_FAB_CTL_VC0_EN 1).wr (netCircuit 0 4095) e

def aFlit : Vc0Flit := ⟨4095, 0, 0, [7]⟩

/-- A valid entry from input `i` to output `o`. -/
def entry (i o lend : Nat) : Word64 :=
  BitVec.ofNat 64 (256 * o + 4 * i + 2 * lend + 1)

theorem witness_LookupPasses : (vc0 (entry 33 24 0)).lookup 33 aFlit = .pass (entry 33 24 0) ∧
    (vc0 (entry 33 33 1)).lookup 33 aFlit = .pass (entry 33 33 1) := by decide +kernel

/-- Link 23 carries VC0, with DELAY 0 and DMAX 4. -/
def vc0Link (e : Word64) : State := ((vc0 e).setFld (netPortHop 23) NET_PORT_HOP_DMAX 4).setFld (netPortHop 23) NET_PORT_HOP_DELAY 0 |>.showHop 23

/-- A flit has reached link 23 at a time in sixteenths of a tick, which is now. -/
def arrivedAt (e : Word64) (t : Nat) : State :=
  ((vc0Link e).setLink 23 { LinkSt.reset with vc0In := [(t, aFlit)] }).wr timNow (BitVec.ofNat 64 (t / 16))

/-- Both ends of the window of R236: 136 ticks after the departure slot, and 20 ticks before slot H. -/
def windowEnds (s : State) : List Nat := [16 * 136, 16 * 8 * s.fld (netPortHop 23) NET_PORT_HOP_H / 7 - 16 * 20]

theorem witness_FabricCommands_window : ∀ t ∈ windowEnds (vc0Link 0), let s := arrivedAt (entry 23 24 0) t
    (s.link 23).vc0In = [(t, aFlit)] ∧ t ≤ 16 * s.now + 15 ∧ (kl s.net.hold 23).length < 2048 ∧ s.lookup 23 aFlit = .pass (entry 23 24 0) ∧
      16 * (8 * aFlit.slot + 7 * (136 + s.fld (netPortHop 23) NET_PORT_HOP_DELAY)) ≤ 7 * t ∧
      7 * (t + 16 * 20) ≤ 16 * 8 * (aFlit.slot + s.fld (netPortHop 23) NET_PORT_HOP_H) := by decide +kernel

theorem witness_FabricCommands :
    (let s := (vc0 (entry 33 24 0)).setNet { (vc0 0).net with enter := [(33, [aFlit])] }
     kl s.net.enter 33 = [aFlit] ∧ s.lookup 33 { aFlit with bank := s.fld netFabCtl NET_FAB_CTL_ACTIVE_BANK } = .pass (entry 33 24 0)) ∧
    (let s := (vc0 (entry 24 24 0)).wr timNow 40 |>.setNet { (vc0 0).net with enter := [(24, [aFlit])] }
     kl s.net.enter 24 = [aFlit] ∧ 8 * aFlit.slot + 280 ≤ 7 * s.now ∧ s.lookup 24 aFlit = .pass (entry 24 24 0)) ∧
    [(⟨20, 23, 0, aFlit⟩ : Vc0Due)].find? (fun d => decide (8 * d.due ≤ 7 * (3 + 20))) = some ⟨20, 23, 0, aFlit⟩ ∧
    [(⟨20, 23, 0, aFlit⟩ : Vc0Due)].find? (fun d => decide (8 * d.due ≤ 7 * (2 + 20))) = none ∧
    (let s := (st netFabCtl NET_FAB_CTL_SWAP_EN 1).setNet { NetSt.reset with swapCopy := [5] }
     s.net.swapCopy = [5] ∧ s.flag netFabCtl NET_FAB_CTL_SWAP_EN = true ∧ s.now ≤ 5) ∧
    (let s := (st netFabCtl NET_FAB_CTL_SWAP_EN 1).wr netSwapTick 0
     (s.rd netSwapTick).toNat ≠ 2 ^ 64 - 1 ∧ (s.rd netSwapTick).toNat ≤ s.now ∧ s.flag netFabCtl NET_FAB_CTL_ARM = false ∧
       (s.setFlag netFabCtl NET_FAB_CTL_ARM).flag netFabCtl NET_FAB_CTL_ARM = true) ∧
    ((0 : Fin 2).val = (vc0 0).fld netFabCtl NET_FAB_CTL_ACTIVE_BANK ∧ (vc0 0).flag netFabCtl NET_FAB_CTL_VC0_EN = true) ∧
    ((0 : Fin 2).val = State.reset.fld netFabCtl NET_FAB_CTL_ACTIVE_BANK ∧ State.reset.flag netFabCtl NET_FAB_CTL_VC0_EN = false) ∧
    State.reset.takesWrites (netCircuit 1 4095) = true := by decide +kernel

theorem witness_SingleSymbolCorrected : (67 : Nat) < 68 ∧ (15 : BitVec 4) ≠ 0 ∧ State.reset.mem.poisoned 127 (2 ^ 28 - 1) = false ∧ (19 : Nat) < 20 ∧
    (63 : Nat) < 64 := by decide +kernel

/-- A symbol in error at either end of a codeword is found and corrected, in memory and in a check sector (R175, R177). -/
theorem test_symbol_ends : decodeSyn (syndrome false [(0, 1)]) = .corrected 0 1 ∧ decodeSyn (syndrome false [(67, 15)]) = .corrected 67 15 ∧
    decodeCheck [(0, 1)] = .corrected 0 1 ∧ decodeCheck [(63, 15)] = .corrected 63 15 := by decide +kernel

/-- A symbol in error at either end of a word of an SRAM is corrected (R179). -/
theorem test_word_ends : readWord 0xF00F [(0, 3)] = (0xF00F, .corrected) ∧ readWord 0xF00F [(19, 8)] = (0xF00F, .corrected) := by decide +kernel

theorem witness_MemoryMapAndWrites : (0xEBFFFFFFFF : Nat) < 0xEC00000000 ∧ State.reset.mem.remap = [] ∧
    ((0x1F : Nat) / 2 ^ 14 = 0 / 2 ^ 14 ∧ chanOf 0x1F = chanOf 0) ∧ (31 : Nat) * 32 / 32 = (31 * 32 + [(1 : Byte)].length - 1) / 32 ∧
    State.reset.memPlace 0x60 = State.reset.memPlace 0x60 ∧ (0xEBFFFFF000 : Nat) % 4096 = 0 ∧ (0xEBFFE00000 : Nat) % 2 ^ 21 = 0 ∧
    (List.replicate 32 (0 : Byte)).length = 32 ∧ State.reset.mem.poisoned 127 0 = false := by decide +kernel

/-- Granule 129 lies on channel 128 xor 1 modulo 128, that is 0 xor 1 xor 1 (R174). -/
theorem test_map : chanOf (129 * 128) = 0 ∧ chanOf (128 * 128) = 1 ∧ chanOf (127 * 128) = 127 := by decide

/-- Memory is initialised. -/
def memOn : State := st mcStatus MC_STATUS_INIT_DONE 1

/-- Engine `q` of channel 0 is as given. -/
def engine (s : State) (q : Fin 24) (x : Stream) : State := on0 s fun c => { c with streams := c.streams.set q x }

/-- A descriptor of two entries at the last 64 bytes of memory but one. -/
def lastEntries : Stream := { Stream.idle with busy := true, addr := 0xEBFFFFFF80, entries := 2, rowEntries := 2 }

/-- The sector of its first entry is poisoned. -/
def poisonedAt (s : State) (a : Nat) : State :=
  { s with mem := { s.mem with poison := [((s.memMap a).1 * 2 ^ 28 + (s.memMap a).2, true)] } }

theorem witness_StreamCommands :
    (∀ q ∈ [(15 : Fin 24), 0], let s := engine memOn q lastEntries
     ((s.chan 0).stream q).busy = true ∧ ((s.chan 0).stream q).desc = none ∧ s.streamRoom 0 q ≠ 0 ∧ ((s.chan 0).stream q).redo = [] ∧
       sumNat ((s.chan 0).streams.toList.map fun y => y.bursts.length) < 256 ∧ entryOk (lastEntries.entryAddr 0) = true ∧
       entryOk (lastEntries.entryAddr 1) = true ∧ entryOk (lastEntries.entryAddr 2) = true ∧
       entryOk ({ lastEntries with addr := 0xEC00000000 }.entryAddr 0) = false ∧
       (∀ sec ∈ sectorsOf (lastEntries.entryAddr 1).toNat 64, s.mem.poisoned (s.memMap sec).1 (s.memMap sec).2 = false) ∧
       (let a := (lastEntries.entryAddr 0).toNat
        ∃ sec ∈ sectorsOf a 64, (poisonedAt s a).mem.poisoned (s.memMap sec).1 (s.memMap sec).2 = true)) ∧
    ({ lastEntries with redo := [(0, 2)] } : Stream).redo = (0, 2) :: [] ∧
    ({ lastEntries with bursts := [(0, 2), (1, 1)] } : Stream).bursts[1]? = some (1, 1) ∧
    ({ lastEntries with bursts := [(1, 1)] } : Stream).bursts[0]? = some (1, 1) ∧
    ([((0 : Nat), [(5 : Byte)])].filter fun e => decide (e.2 ≠ []))[0]? = some (0, [5]) ∧
    (0, []) ∈ ({ Stream.idle with landed := [(0, [])] } : Stream).landed ∧
    ({ lastEntries with counted := 2 } : Stream).counted = lastEntries.entries ∧ (memOn.chan 0).held = none ∧
    (([(7, 0)] : List (Nat × Nat)).filter fun y => decide (y.2 * State.reset.arithMHz 0 + 2000 ≤ 4 * State.reset.arithMHz 0)).getLast? = some (7, 0) ∧
    (([(7, 0)] : List (Nat × Nat)).filter fun y => decide (y.2 + 2 ≤ 2)).getLast? = some (7, 0) := by decide +kernel

theorem witness_StreamCommands_granted :
    (∀ q ∈ [(15 : Fin 24), 16, 23], let s := engine memOn q lastEntries
      Granted s (bankArbs 1 0 (s.ringAddr 0 q 1) 64 ++ s.memArbs 0 [(lastEntries.entryAddr 1).toNat])) ∧
    Granted (engine memOn 15 lastEntries) (memOn.memArbs 0 [(lastEntries.entryAddr 0).toNat]) :=
  ⟨fun q h => granted_of (by revert q; decide +kernel), granted_of (by decide +kernel)⟩

/-- Channel 127 is READY and is scrubbed, from a sector. -/
def scrubbing (at_ : Nat) : State :=
  let s := (memOn.setFld (mcChStatus 127) MC_CH_STATUS_STATE 1).setFld mcScrubCtl MC_SCRUB_CTL_EN 1
  { s with mem := { s.mem with scrubPos := [(127, at_)] } }

theorem witness_MemoryUpkeep : maskList 16 (0x8000 : BitVec 16).toNat = [15] ∧ memOn.memUsable = true ∧
    (∀ at_ ∈ [checkBase - 1, checkBase, 2 ^ 28 - 1], let s := scrubbing at_
     s.flag mcScrubCtl MC_SCRUB_CTL_EN = true ∧ s.memUsable = true ∧ s.fld (mcChStatus 127) MC_CH_STATUS_STATE = 1 ∧
       kget (fun _ => 0) s.mem.scrubPos 127 = at_ ∧
       (s.readSector 127 at_ [(67, 1)]).2 = some (s.mem.sector 127 at_) ∧ (s.readSector 127 at_ [(0, 1), (1, 1)]).2 = none) ∧
    (State.reset.takesWrites (mcRemapData 127) = true ∧
      State.reset.anyRunning = false ∧ State.reset.fld (mcRemapSel 0) MC_REMAP_SEL_PAGE < 3776 ∧ getF 0 MC_REMAP_DATA_TO_PAGE < 3840 ∧
      State.reset.flag (mcChStatus (getF 0 MC_REMAP_DATA_TO_CHAN)) MC_CH_STATUS_RETIRED = false) ∧ run0.anyRunning = true ∧
    State.reset.flag mcStatus MC_STATUS_INIT_DONE = false ∧ State.reset.heldReset = false ∧
    (let s := { State.reset with mem := { State.reset.mem with selfRefresh := true } }
     s.mem.selfRefresh = true ∧ s.fld safStat SAF_STAT_STATE ≠ 2 ∧ s.fld pwrState PWR_STATE_STATE ≠ 2 ∧ s.saf.haltSteps = false ∧
       s.pwr.gated = false ∧ s.heldReset = false) := by decide +kernel

/-- A lending request of one word at address 0. -/
def lendReq (op : Byte) : LendReq := ⟨1, 0, op :: List.replicate 231 0⟩

/-- It waits for the lane of die 0, and replies in time and late wait for their slot. -/
def lending (op : Byte) : State :=
  memOn.setNet { memOn.net with lend := [lendReq op], lane := [(0, 1)], replies := [⟨1, 0, [1], true⟩] }

theorem witness_LendingAndHostAccess_lending :
    nextLend false (lending 1).net.lend = some (lendReq 1) ∧ (lendReq 1).bad = false ∧ inMem (lendReq 1).addr (8 * (lendReq 1).words) = true ∧
    (lending 1).memUsable = true ∧ (lending 1).net.laneFree 0 ((lending 1).net.lend.findIdx fun e => decide (e = lendReq 1)) = true ∧
    nextLend false (lending 0).net.lend = some (lendReq 0) ∧ (lendReq 0).bad = true ∧
    (let s : State := { lending 1 with mem := { (lending 1).mem with selfRefresh := true } }
     s.memUsable = false) ∧
    nextLend true (lending 2).net.lend = some (lendReq 2) ∧ (lendReq 2).bad = false ∧
    (lending 2).net.laneFree 0 ((lending 2).net.lend.findIdx fun e => decide (e = lendReq 2)) = true ∧
    ((lending 2).memRead (lendReq 2).addr (8 * (lendReq 2).words) []).2.2 = [] ∧
    ((poisonedAt (lending 2) 0).memRead (lendReq 2).addr (8 * (lendReq 2).words) []).2.2 ≠ [] ∧
    (lending 1).net.replies.find? (fun r => decide (r.slot ≤ (lending 1).slotNow)) = some ⟨1, 0, [1], true⟩ ∧
    ([⟨1, 0, [1], false⟩] : List LendReply).find? (fun r => decide (r.slot ≤ (lending 1).slotNow)) = some ⟨1, 0, [1], false⟩ := by decide +kernel

theorem witness_LendingAndHostAccess_host :
    memOn.heldReset = false ∧ memOn.host.d3 = false ∧ memOn.mem.hostq = [] ∧ memOn.hostHeld = false ∧ memOn.inBar2 (2 ^ 36 - 1) 1 = true ∧
    memOn.memUsable = true ∧ inMem (memOn.hostAddr (2 ^ 36 - 1)) 1 = true ∧ memOn.net.lane = [] ∧
    (memOn.memRead (memOn.hostAddr (2 ^ 36 - 1)) 1 []).2.2 = [] ∧
    ((poisonedAt memOn (memOn.hostAddr (2 ^ 36 - 1))).memRead (memOn.hostAddr (2 ^ 36 - 1)) 1 []).2.2 ≠ [] ∧
    (let s := { memOn.setFld mcHostwin MC_HOSTWIN_BASE 1023 with host := { memOn.host with bar2 := 10 } }
     s.inBar2 0xEC00000000 1 = true ∧ inMem (s.hostAddr 0xEC00000000) 1 = false) ∧
    (memOn.setFld mcHostwin MC_HOSTWIN_RATE_EN 1).flag mcHostwin MC_HOSTWIN_RATE_EN = true := by decide +kernel

theorem witness_LendingAndHostAccess_granted :
    (∀ w ∈ [true, false], Granted (lending 1) ((lending 1).bridgeArbs (lendReq 1).addr (8 * (lendReq 1).words) w) ∧
      Granted memOn (memOn.bridgeArbs (memOn.hostAddr (2 ^ 36 - 1)) 1 w)) :=
  fun w h => ⟨granted_of (by revert w; decide +kernel), granted_of (by revert w; decide +kernel)⟩
/-! ### Unscheduled and management traffic -/

/-- A packet of type DATA with data after its header, which for port 33 begin with the address 0. -/
def pkt (cls dest src dport flag count inp : Nat) (data : List Byte) : Pkt :=
  ⟨cls, packFlits (mkHeader dest src cls dport 0 0 flag 0 0 count data.length) data, inp, decide (inp = 32)⟩

/-- A write of one sector of zeros at address 0, as port 33 takes it (R268). -/
def sector0 : List Byte := List.replicate 40 0

/-- A curtain notice of cause 1, by its magic number (R418). -/
def noticePkt : Pkt := pkt 2 0 5 0 0 0 23 ([0x55, 0x43, 0, 0, 0, 0, 1] ++ List.replicate 25 0)

/-- An answer to a flag (R282, R283): type 1 or 2, from device 5. -/
def answer (type : Nat) : Pkt := ⟨2, packFlits (mkHeader 0 5 2 0 0 0 0 0 type 0 0) [], 23, false⟩

/-- The tables are closed, injection is allowed, and packets of devices 5 and 4095 are let through. -/
def open0 : State :=
  (((State.reset.setFld netUnsCtl NET_UNS_CTL_TABLE_OPEN 0).setFld netUnsCtl NET_UNS_CTL_INJECT_STOP 0).wr (netRoute 5) 7).wr (netRoute 4095) 0

/-- Device 4095 lies in direction 0, by link 0, which is UP with credit. -/
def routed : State :=
  ((((open0.setFld (netPortMap 0) NET_PORT_MAP_ROLE 1).setFld (lnkStatus 0) LNK_STATUS_STATE
    3).setFld (lnkCredTx 0 1) LNK_CRED_TX_ADV_H 4).setFld (lnkCredTx 0 1) LNK_CRED_TX_ADV_D 1024).setFld netUnsCtl NET_UNS_CTL_SPREAD_EN 1

/-- The tests of `Admits`, computed. -/
def admits (s : State) (p : Pkt) : Bool :=
  !p.badHeader &&
    if p.cls = 3 then decide (p.inp < 24 ∨ (p.dest < 24 ∧ s.fld (netPortMap p.dest) NET_PORT_MAP_ROLE = 2))
    else decide (s.flag netUnsCtl NET_UNS_CTL_TABLE_OPEN = false ∧ s.flag (netRoute p.dest) NET_ROUTE_FENCE = false ∧
      s.flag (netRoute p.src) NET_ROUTE_FENCE = false ∧ s.fld (netRoute p.dest) NET_ROUTE_DIR ≠ 7 ∧
      (s.fld (netRoute p.dest) NET_ROUTE_DIR = 6 ↔ p.dest = s.fld netPlace NET_PLACE_DEVICE_ID) ∧
      (s.fld (netRoute p.dest) NET_ROUTE_DIR < 6 → s.turnOk p.inp (s.fld (netRoute p.dest) NET_ROUTE_DIR) = true))

theorem admits_iff (s : State) (p : Pkt) : Admits s p ↔ admits s p = true := by
  unfold Admits admits
  by_cases h : p.cls = 3 <;> simp only [h, if_true, if_false, Bool.and_eq_true, Bool.not_eq_true', decide_eq_true_eq]

theorem witness_PacketTests : Admits open0 (pkt 2 0 5 0 0 0 23 []) ∧ Admits routed (pkt 1 4095 0 0 0 0 32 []) ∧
    ¬ Admits open0 (pkt 2 0 5 0 0 7 23 []) ∧ ¬ Admits open0 (pkt 3 0 5 0 0 0 33 []) ∧
    Admits (st (netPortMap 23) NET_PORT_MAP_ROLE 2) (pkt 3 23 0 0 0 0 33 []) := by
  simp only [admits_iff]; decide +kernel

/-- A send flow of port 0 whose count of packets is at the last that an epoch may have. -/
def flowAt (n : Nat) : State :=
  routed.setSendFlow ((pkt 1 4095 0 0 0 0 32 []).sendKey 0) ⟨1, n, none, false, []⟩

theorem witness_PacketCommands_inject : QuietPort32 routed ∧ routed.flag netUnsCtl NET_UNS_CTL_INJECT_STOP = false ∧
    (∀ n ∈ [0, 65534], let s := flowAt n
     let p := pkt 1 4095 0 0 0 0 32 []
     p = ⟨1, p.flits, 32, true⟩ ∧ p.flits ≠ [] ∧ p.badHeader = false ∧ p.flag = false ∧ (s.sendFlow (p.sendKey 0)).stalled = false ∧
       (s.sendFlow (p.sendKey 0)).held = [] ∧ (s.sendFlow (p.sendKey 0)).count < 65535 ∧ Admits s (p.stamp 0 (s.sendFlow (p.sendKey 0)).epoch 0)) ∧
    (let s := flowAt 65535
     let p := pkt 1 4095 0 0 1 0 32 []
     p.flag = true ∧ p.badHeader = false ∧ (s.sendFlow (p.sendKey 0)).await = none ∧
       Admits s (p.stamp 1 (s.sendFlow (p.sendKey 0)).epoch (s.sendFlow (p.sendKey 0)).count)) ∧
    Admits (st (netPortMap 23) NET_PORT_MAP_ROLE 2) (pkt 3 23 0 0 0 0 33 []) := by
  unfold QuietPort32; simp only [admits_iff]; decide +kernel

/-- Memory is on, a packet has arrived on link 23 and one waits at port 32 to leave by link 0; one each is bound for the endpoints. -/
def moving (first : Pkt) : State :=
  let s := routed.setFld mcStatus MC_STATUS_INIT_DONE 1
  s.setNet { s.net with
    arrived := [(4 * 23 + 2, [pkt 2 0 5 0 0 0 23 []])]
    waiting := [(4 * 23 + 2, [pkt 2 0 5 0 0 0 23 []]), (4 * 32 + 1, [pkt 1 4095 0 0 0 0 32 []])]
    toEnd := [(0, [first]), (1, [pkt 2 0 5 1 0 0 23 sector0])], lane := [(1, 1)] }

theorem witness_PacketCommands : let s := moving (pkt 2 0 5 0 0 0 23 [])
    kl s.net.arrived (4 * 23 + 2) = [pkt 2 0 5 0 0 0 23 []] ∧ Admits s (pkt 2 0 5 0 0 0 23 []) ∧
    s.saf.notices = [] ∧ s.headPkt 23 2 = some (pkt 2 0 5 0 0 0 23 []) ∧ s.fld pwrState PWR_STATE_STATE ≠ 2 ∧
    s.isLocal (pkt 2 0 5 0 0 0 23 []) = true ∧ kget (fun _ => none) s.net.out (4 * 32 + 2) = none ∧ s.servedNext 32 2 23 = true ∧
    s.headPkt 32 1 = some (pkt 1 4095 0 0 0 0 32 []) ∧ s.isLocal (pkt 1 4095 0 0 0 0 32 []) = false ∧
    s.pickLink (pkt 1 4095 0 0 0 0 32 []) = some 0 ∧ kget (fun _ => none) s.net.out (4 * 0 + 1) = none ∧ s.servedNext 0 1 32 = true ∧
    kl s.net.toEnd 0 = [pkt 2 0 5 0 0 0 23 []] ∧ (pkt 2 0 5 0 0 0 23 []).type = 0 ∧ (pkt 2 0 5 0 0 0 23 []).flag = false ∧
    (pkt 2 0 5 0 0 0 23 []).isNotice = false ∧ (s.fld ctlRxring CTL_RXRING_HEAD + 1) % 64 ≠ s.fld ctlRxring CTL_RXRING_TAIL ∧
    kl (moving noticePkt).net.toEnd 0 = [noticePkt] ∧ noticePkt.type = 0 ∧ noticePkt.flag = false ∧ noticePkt.isNotice = true := by
  simp only [admits_iff]; decide +kernel

theorem witness_PacketCommands_port33 : let s := moving noticePkt
    let p := pkt 2 0 5 1 0 0 23 sector0
    kl s.net.toEnd 1 = [p] ∧ p.type = 0 ∧ p.flag = false ∧ p.body.length = p.length ∧ inMem (leAt p.body 0 8) (p.length - 8) = true ∧
      s.memUsable = true ∧ s.net.laneFree 1 0 = true := by decide +kernel

theorem witness_PacketCommands_granted : Granted (moving noticePkt) ((moving noticePkt).bridgeArbs (leAt (pkt 2 0 5 1 0 0 23 sector0).body 0 8)
    ((pkt 2 0 5 1 0 0 23 sector0).length - 8) true) := granted_of (by decide +kernel)

/-- A flagged packet held and one to be acknowledged at each endpoint; the send entry for port 0 of device 5 awaits; both answers have come. -/
def flagged (type : Nat) : State :=
  let s := (open0.setFld mcStatus MC_STATUS_INIT_DONE 1).wr timNow 0xFFFFFFFFFFFF
  let f (e : Nat) : Pkt := pkt 2 0 5 e 1 0 23 sector0
  s.setNet { s.net with
    store := [(0, [(f 0, 0)]), (1, [(f 1, 0)])], toAck := [(0, [f 0]), (1, [f 1])], flags := [(0, [answer type]), (1, [answer type])]
    sendF := [(flowKey 0 0 2 5, ⟨1, 0, some 0, false, []⟩), (flowKey 1 0 2 5, ⟨1, 0, some 0, false, []⟩)] }

theorem witness_FlagCommands : QuietPort32 (flagged 1) ∧ (flagged 1).flag netUnsCtl NET_UNS_CTL_INJECT_STOP = false ∧
    (∀ e ∈ [(0 : Nat), 1],
      (kl (flagged 1).net.store e).find? (fun x => decide (x.1.count ≤ (flagged 1).arrivedOf e x.1)) = some (pkt 2 0 5 e 1 0 23 sector0, 0) ∧
      kl (flagged 1).net.toAck e = [pkt 2 0 5 e 1 0 23 sector0] ∧
      (kl (flagged 1).net.flags e).find? (fun p => decide (p.type = 1)) = some (answer 1) ∧
      (kl (flagged 2).net.flags e).find? (fun p => decide (p.type = 2)) = some (answer 2) ∧
      (flagged 1).openFlags e (answer 1) = [flowKey e 0 2 5] ∧ ((flagged 1).sendFlow (flowKey e 0 2 5)).held = [] ∧
      (flagged 2).openFlags e (answer 2) = [flowKey e 0 2 5] ∧
      ((kl (flagged 1).net.store e).find? fun x => decide (x.2 + 1000 * max 1 ((flagged 1).fld netUnsCtl NET_UNS_CTL_HOLD_TIMEOUT) ≤
        (flagged 1).now)) = some (pkt 2 0 5 e 1 0 23 sector0, 0) ∧
      ((flagged 1).sendFlow (16384 * e + (4096 + 5) % 16384)).await = some 0 ∧
      ((flagged 1).sendFlow (16384 * e + (4096 + 5) % 16384)).stalled = false ∧
      0 + 1000 * max 1 ((flagged 1).fld netUnsCtl NET_UNS_CTL_ACK_TIMEOUT) ≤ (flagged 1).now) ∧
    ((flagged 1).fld ctlRxring CTL_RXRING_HEAD + 1) % 64 ≠ (flagged 1).fld ctlRxring CTL_RXRING_TAIL ∧
    (flagged 1).memUsable = true ∧ (pkt 2 0 5 1 1 0 23 sector0).body.length = (pkt 2 0 5 1 1 0 23 sector0).length ∧
    inMem (leAt (pkt 2 0 5 1 1 0 23 sector0).body 0 8) ((pkt 2 0 5 1 1 0 23 sector0).length - 8) = true := by
  unfold QuietPort32; decide +kernel

theorem witness_FlagCommands_granted : Granted (flagged 1) ((flagged 1).bridgeArbs (leAt (pkt 2 0 5 1 1 0 23 sector0).body 0 8)
    ((pkt 2 0 5 1 1 0 23 sector0).length - 8) true) := granted_of (by decide +kernel)

/-- A device whose clock shows a tick. -/
def atTick (t : Nat) : State := State.reset.wr timNow (BitVec.ofNat 64 t)

theorem witness_TableAndTelemetryCommands : State.reset.takesWrites netFlowClear = true ∧ State.reset.takesWrites (netRoute 4095) = true ∧
    State.reset.flag netUnsCtl NET_UNS_CTL_TABLE_OPEN = true ∧ open0.flag netUnsCtl NET_UNS_CTL_TABLE_OPEN = false ∧
    open0.takesWrites netUnsCtl = true ∧ getF (BitVec.ofNat 64 (2 ^ NET_UNS_CTL_TABLE_OPEN.lo)) NET_UNS_CTL_TABLE_OPEN = 1 ∧
    (State.reset.setFld netUnsCtl NET_UNS_CTL_TABLE_OPEN 0).drained = true ∧ open0.drained = false ∧ (pkt 1 4095 0 0 0 0 32 []).badHeader = false ∧
    (atTick (2 ^ 20)).net.winTick / 2 ^ State.reset.net.window < 2 ^ 20 / 2 ^ State.reset.net.window ∧
    (let s := (atTick (2 ^ 20 - 1)).setFld netTelemCtl NET_TELEM_CTL_WIN_LOG2 0
     s.now / 2 ^ s.net.window ≤ s.net.winTick / 2 ^ s.net.window ∧ s.net.window ≠ s.winLog2 ∧
       s.net.winTick / 2 ^ s.winLog2 < s.now / 2 ^ s.winLog2) := by
  decide +kernel

/-- Bits of the header bytes: a device number of 4,096 or more, a flag, and the epoch (R268, R269). -/
theorem test_header : (pkt 2 4095 5 1 1 3 23 []).dest = 4095 ∧ (pkt 2 4095 5 1 1 3 23 []).flag = true ∧ (pkt 2 4095 5 1 1 3 23 []).count = 3 ∧
    (pkt 2 4096 5 0 0 0 23 []).badHeader = true := by decide

/-! ### Links -/

/-- Link 23 is in a state of the link layer, enabled, with ROLE 1 and ten good lanes. -/
def linkIn (n : Nat) : State :=
  (((st (lnkStatus 23) LNK_STATUS_STATE n).setFld (lnkCtl 23) LNK_CTL_EN 1).setFld (netPortMap 23) NET_PORT_MAP_ROLE 1).setFld
    (lnkPhyStatus 23) LNK_PHY_STATUS_RX_GOOD 1023

def up23 : State := linkIn lsUp

/-- Link 23 of a state, changed. -/
def on23 (s : State) (f : LinkSt → LinkSt) : State := s.modLink 23 f

/-- Lane parity at eight lanes is right and both codewords are without error. -/
def codec (b : List Byte) : Bool :=
  decide (b.length = 256) && decide ((b.headD 0).toNat = lanePar 8 b) && decide (rsDecode (codeword 0 b) = some (codeword 0 b, false)) &&
    decide (rsDecode (codeword 1 b) = some (codeword 1 b, false)) && decide (mergeWords (b.headD 0) (codeword 0 b) (codeword 1 b) = b)

theorem codec_decodes (s : State) (b : List Byte) (h : codec b = true) (hs : s.lstate 23 ≠ lsOff) (hg : (s.link 23).goRx = none)
    (hw : s.fld (lnkStatus 23) LNK_STATUS_WIDTH = 0) : FlitDecodes s 23 b b := by
  simp only [codec, Bool.and_eq_true, decide_eq_true_eq] at h
  refine ⟨hs, hg, h.1.1.1.1, ?_, h.1.1.2, h.1.2, h.2.symm⟩
  show _ = lanePar (lanesOfCode (s.fld (lnkStatus 23) LNK_STATUS_WIDTH)) b
  rw [hw]; exact h.1.1.1.2

/-- A flit with a payload of zeros: header, zeros, and CRC with the parity of the two codewords. -/
def flit (hdr : Nat) (tail : List Byte) : List Byte := leBytes 8 hdr ++ List.replicate 232 0 ++ tail

/-- A VC0 flit, a packet of one flit on VC2, and a link-control flit of type 2, each with sequence number 0. -/
def vc0Flit : List Byte := flit 0x6C [0xF9, 0x72, 0xBD, 0xF7, 0x08, 0x61, 0xFB, 0x53, 0x33, 0xA9, 0xDC, 0x9C, 0xEA, 0xCF, 0xA0, 0x5F]
def vc2Flit : List Byte := flit 0x18000000002B4 [0x64, 0xED, 0xF2, 0xFF, 0xB4, 0xFD, 0xEF, 0xA1, 0x4C, 0x3B, 0x3A, 0x0C, 0x94, 0x6D, 0x9C, 0x24]
def lctlFlit : List Byte := flit 0x1000000466 [0x2B, 0xBD, 0xA4, 0xDA, 0x29, 0xB7, 0x48, 0x2A, 0x88, 0xD1, 0x7B, 0x49, 0xE8, 0xEA, 0xBA, 0xD3]

set_option maxRecDepth 100000 in
theorem codec_vc0 : codec vc0Flit = true ∧ crcGood vc0Flit = true := by decide +kernel
set_option maxRecDepth 100000 in
theorem codec_vc2 : codec vc2Flit = true ∧ crcGood vc2Flit = true := by decide +kernel
set_option maxRecDepth 100000 in
theorem codec_lctl : codec lctlFlit = true ∧ crcGood lctlFlit = true := by decide +kernel

theorem witness_LinkReceiver_fields : leAt vc0Flit 0 8 = 0x6C ∧ leAt vc2Flit 0 8 = 0x18000000002B4 ∧ leAt lctlFlit 0 8 = 0x1000000466 ∧
    up23.wellFormedFlit 23 vc0Flit = true ∧ (linkIn lsInit).wellFormedFlit 23 vc0Flit = false ∧
    up23.wellFormedFlit 23 vc2Flit = true ∧ up23.wellFormedFlit 23 lctlFlit = true ∧
    up23.hasRoom 23 2 = true ∧ kl (up23.link 23).part 2 = [] := by decide +kernel

/-- A flit of zeros: its codewords and lane parity are right, its CRC is not. -/
def zeroFlit : List Byte := List.replicate 256 0

/-- Four bytes of codeword 0 in error: beyond correction (R305). -/
def spoilt : List Byte := ((((zeroFlit.set 0 10).set 1 1).set 17 1).set 33 1).set 35 1

/-- With EXPECTED `e`. -/
def expecting (e : Nat) : State := up23.setFld (lnkSeq 23) LNK_SEQ_RX_EXPECTED e

theorem witness_LinkReceiver_up : ∀ e ∈ [0, 4095, 2561, 2560, 1536, 1535], (expecting e).lstate 23 ≠ lsOff ∧ ((expecting e).link 23).goRx = none ∧
    (expecting e).fld (lnkStatus 23) LNK_STATUS_WIDTH = 0 ∧ (expecting e).lstate 23 = lsUp ∧ (expecting e).fld (lnkSeq 23) LNK_SEQ_TX_ACKED = 0 ∧
    seqSub 0 ((expecting e).fld (lnkSeq 23) LNK_SEQ_RX_EXPECTED) = (4096 - e) % 4096 := by decide +kernel

set_option maxRecDepth 100000 in
theorem witness_LinkReceiver_bad : State.reset.lstate 23 = lsOff ∧ (linkIn lsTraining).lstate 23 ≠ lsOff ∧ codec zeroFlit = true ∧ crcGood zeroFlit = false ∧
    spoilt.length = 256 ∧ (spoilt.headD 0).toNat = lanePar 8 spoilt ∧ rsDecode (codeword 0 spoilt) = none := by decide +kernel

set_option maxRecDepth 100000 in
/-- CRC-32C of the nine digits "123456789" (R17). -/
theorem test_crc : crc32c [0x31, 0x32, 0x33, 0x34, 0x35, 0x36, 0x37, 0x38, 0x39] = 0xE3069283#32 := by decide +kernel

set_option maxRecDepth 100000 in
/-- Three bytes in error are corrected, four are not (R305). -/
theorem test_fec : rsDecode ((((List.replicate 128 0).set 0 7).set 64 1).set 127 255) = some (List.replicate 128 0, true) := by decide +kernel

/-- A VC0 flit for channel 0, for port 33 and for link 23, due in slot 0; one due in a control slot. -/
def dueAt (p due : Nat) : State := up23.setNet { up23.net with due := [(p, [⟨due, 24, entry 24 p 0, aFlit⟩])] }

theorem witness_LinkTransmitter :
    (∀ p ∈ [(24 : Nat), 31, 33, 23], kl (dueAt p 0).net.due p = [⟨0, 24, entry 24 p 0, aFlit⟩] ∧ 0 = (dueAt p 0).slotNow ∧
      kget (fun _ => 0) (dueAt p 0).net.slotNext p ≤ 0) ∧
    (dueAt 23 0).standby = false ∧
    (let s := (dueAt 23 63).wr timNow 72
     s.standby = false ∧ kl s.net.due 23 = [⟨63, 24, entry 24 23 0, aFlit⟩] ∧ 63 = s.slotNow ∧ isControl 63 = true) ∧ isControl 0 = false ∧
    (let s := dueAt 23 0
     (s.link 23).ring.length < 1024 ∧ s.lstate 23 = lsUp ∧ (s.link 23).txFree ≤ 0 ∧ (s.link 23).goTx = none ∧ (s.link 23).txWidth = 0 ∧
       (s.link 23).cmds = [] ∧ s.flag (lnkStatus 23) LNK_STATUS_REPLAYING = false ∧ s.windowOpen 23 = true) := by decide +kernel

/-- An entry of the replay ring that has been sent once, at tick 0. -/
def sentOnce : RingEnt := ⟨0, 0, [], some 5, 0, 1⟩

theorem witness_LinkTransmitter_ring : ((on23 (dueAt 23 0) fun x => { x with ring := List.replicate 1024 sentOnce }).link 23).ring.length = 1024 ∧
    (let s := (on23 up23 fun x => { x with ring := [sentOnce] }).wr timNow 0xFFFFFFFFFFFF
     (s.link 23).ring = [sentOnce] ∧ sentOnce.seq ≠ none ∧ s.lstate 23 = lsUp ∧ sentOnce.tick + s.effTimeout 23 ≤ s.now ∧
       sentOnce.sends < s.replayLimit 23 ∧ s.replayLimit 23 ≤ { sentOnce with sends := 255 }.sends) := by
  refine ⟨?_, ?_⟩ <;> decide +kernel

/-- Two flits due at channel 7 in slot 0, from input ports 24 and 25. -/
def dueTwice : State :=
  up23.setNet { up23.net with due := [(31, [⟨0, 24, entry 24 31 0, aFlit⟩, ⟨0, 25, entry 25 31 0, aFlit⟩])] }

theorem witness_LinkTransmitter_two : kl dueTwice.net.due 31 = [⟨0, 24, entry 24 31 0, aFlit⟩, ⟨0, 25, entry 25 31 0, aFlit⟩] ∧
    0 = dueTwice.slotNow ∧ kget (fun _ => 0) dueTwice.net.slotNext 31 ≤ 0 := by decide +kernel

/-- A packet of two flits leaves by the output of port 33, of which `sent` are gone. -/
def leaving (sent : Nat) : State :=
  State.reset.setNet { NetSt.reset with out := [(4 * 33 + 2, some ⟨⟨2, [[1], [2]], 23, false⟩, sent⟩)] }

theorem witness_LinkTransmitter_end : ∀ n ∈ [0, 1], (leaving n).standby = false ∧ kl (leaving n).net.due 33 = [] ∧
    kget (fun _ => 0) (leaving n).net.slotNext 33 ≤ (leaving n).slotNow ∧ (leaving n).endNext 33 = some ⟨⟨2, [[1], [2]], 23, false⟩, n⟩ := by
  decide +kernel
/-- A link-control flit of a kind received on link 23. -/
def lc (k : Nat) (body : List Byte) : LctlIn := ⟨k, body, 0, 0⟩

def got (s : State) (k : Nat) (body : List Byte) : State := on23 s fun x => { x with lctlIn := [lc k body] }

def vc0Up : State := up23.setFld (netPortHop 23) NET_PORT_HOP_VC0_OK 1

theorem witness_LinkControlFlits_kinds : ∀ k ∈ [1, 3, 4, 5, 6, 7, 8, 9, 10],
    ((got up23 k [0]).link 23).lctlIn.find? (fun x => decide (x.ctype = (lc k [0]).ctype)) = some (lc k [0]) := by decide +kernel

/-- Link-layer state held since the link went down, with two flits unacknowledged of which the peer has the first. -/
def heldInit : State :=
  (on23 (linkIn lsInit) fun x => { x with sentSeen := true, held := true, grace := some 1, oldPeer := (0, 0) }).setFld (lnkSeq 23) LNK_SEQ_TX_NEXT 2

theorem witness_LinkControlFlits_init : (linkIn lsInit).lstate 23 = lsInit ∧ up23.lstate 23 = lsUp ∧
    leAt [(1 : Byte)] 0 1 ≠ b2n (decide ((linkIn lsInit).fld (netPortMap 23) NET_PORT_MAP_ROLE = 2)) ∧
    leAt [(0 : Byte)] 0 1 = b2n (decide ((linkIn lsInit).fld (netPortMap 23) NET_PORT_MAP_ROLE = 2)) ∧
    ((linkIn lsInit).link 23).sentSeen = false ∧ (heldInit.link 23).sentSeen = true ∧ bit (leAt [(0 : Byte), 3] 1 1) 1 = true ∧
    bit (leAt [(0 : Byte), 3] 1 1) 0 = true ∧ (heldInit.link 23).held = true ∧ (heldInit.link 23).oldPeer = (0, 0) ∧
    (heldInit.link 23).grace = some 1 ∧ heldInit.now < 1 ∧
    seqSub 1 (heldInit.fld (lnkSeq 23) LNK_SEQ_TX_ACKED) ≤
      seqSub (heldInit.fld (lnkSeq 23) LNK_SEQ_TX_NEXT) (heldInit.fld (lnkSeq 23) LNK_SEQ_TX_ACKED) := by decide +kernel

/-- A flit of a kind is the first of its kind waiting. -/
def first23 (s : State) (k : Nat) (body : List Byte) : Bool :=
  decide ((s.link 23).lctlIn.find? (fun x => decide (x.ctype = k)) = some (lc k body))

def replacing : State := on23 up23 fun x => { x with replRx := some ⟨7, 7, 9, none⟩, replTx := some ⟨7, 9, 0⟩ }

def requesting : State := on23 up23 fun x => { x with reqOut := some (1, 0x0F) }

/-- In TRAINING, the port's own RETRAIN sent `n` times. -/
def retraining (n : Nat) : State := on23 (linkIn lsTraining) fun x => { x with pend := [⟨⟨10, []⟩, n, 0⟩] }

theorem witness_LinkControlFlits_initSeen : (let s := got (on23 (linkIn lsInit) fun x => { x with sentSeen := true }) 3 [0, 2]
     first23 s 3 [0, 2] = true ∧ s.lstate 23 = lsInit ∧ leAt [(0 : Byte), 2] 0 1 = b2n (decide (s.fld (netPortMap 23) NET_PORT_MAP_ROLE = 2)) ∧
     (s.link 23).sentSeen = true ∧ bit (leAt [(0 : Byte), 2] 1 1) 1 = true ∧ (s.link 23).held = false) ∧
    (let b : List Byte := [0, 3, 0, 0, 0, 0, 1, 0]
     let s := got heldInit 3 b
     first23 s 3 b = true ∧ s.lstate 23 = lsInit ∧ (s.link 23).oldPeer = (leAt b 2 2 % 4096, leAt b 4 1) ∧ leAt b 6 2 % 4096 = 1) := by
  decide +kernel

theorem witness_LinkControlFlits_lanes : (let s := got up23 4 [7, 9]
     first23 s 4 [7, 9] = true ∧ s.lstate 23 = lsUp ∧ (s.link 23).replTx = none) ∧
    (∀ e ∈ [(0, true), (1, false), (2047, false), (2048, true), (4095, (true : Bool))],
     let s := (got replacing 5 [7, 9, 0, 0]).setFld (lnkSeq 23) LNK_SEQ_RX_EXPECTED e.1
     first23 s 5 [7, 9, 0, 0] = true ∧ (s.link 23).replRx = some ⟨7, 7, 9, none⟩ ∧ leAt [(7 : Byte), 9, 0, 0] 0 1 = 7 ∧
     leAt [(7 : Byte), 9, 0, 0] 1 1 = 9 ∧ leAt [(7 : Byte), 9, 0, 0] 2 2 % 4096 = 0 ∧
     decide (2048 ≤ seqSub (s.fld (lnkSeq 23) LNK_SEQ_RX_EXPECTED) 0 ∨ s.fld (lnkSeq 23) LNK_SEQ_RX_EXPECTED = 0) = e.2) ∧
    (let s := got replacing 6 [7]
     first23 s 6 [7] = true ∧ (s.link 23).replTx = some ⟨7, 9, 0⟩ ∧ leAt [(7 : Byte)] 0 1 = 7 ∧ s.txLane 23 7 < 10) := by decide +kernel

theorem witness_LinkControlFlits : first23 (got up23 1 []) 1 [] = true ∧
    (first23 (got vc0Up 7 [1]) 7 [1] = true ∧ (got vc0Up 7 [1]).lstate 23 = lsUp ∧ (got vc0Up 7 [1]).vc0Ok 23 = true) ∧
    (let s := got up23 7 [1, 255, 3]
     first23 s 7 [1, 255, 3] = true ∧ s.lstate 23 = lsUp ∧ s.vc0Ok 23 = false ∧ (s.link 23).reqOut = none ∧ (s.link 23).replTx = none ∧
       (s.link 23).goTx = none ∧ (s.link 23).txWidth ≠ 1) ∧
    (let s := got (on23 up23 fun x => { x with replTx := some ⟨7, 9, 0⟩ }) 7 [1]
     first23 s 7 [1] = true ∧ s.vc0Ok 23 = false ∧ (s.link 23).reqOut = none ∧ (s.link 23).replTx ≠ none) ∧
    (∀ x ∈ [([(1 : Byte), 0, 0, 0, 0, 23], false), ([1, 0, 0, 1, 0, 0], true), ([1, 0, 0, 0, 0, 24], (true : Bool))],
      let s := got requesting 7 x.1
      first23 s 7 x.1 = true ∧ s.vc0Ok 23 = false ∧ (s.link 23).reqOut ≠ none ∧
        decide (s.fld netPlace NET_PLACE_DEVICE_ID < leAt x.1 3 2 ∨ (s.fld netPlace NET_PLACE_DEVICE_ID = leAt x.1 3 2 ∧ 23 < leAt x.1 5 1)) = x.2) ∧
    (let s := got requesting 8 [1]
     first23 s 8 [1] = true ∧ (s.link 23).reqOut = some (1, 0x0F) ∧ (s.link 23).goTx = none ∧ (s.link 23).txWidth ≠ 1) ∧
    (first23 (got vc0Up 9 [1, 3]) 9 [1, 3] = true ∧ (got vc0Up 9 [1, 3]).vc0Ok 23 = true) ∧
    (∀ c ∈ [(3 : Byte), 0, 2], first23 (got up23 9 [1, c]) 9 [1, c] = true ∧ (got up23 9 [1, c]).vc0Ok 23 = false ∧
      (got up23 9 [1, c]).fld (lnkStatus 23) LNK_STATUS_WIDTH ≠ 1) ∧
    (first23 (got up23 10 []) 10 [] = true ∧ lsInit ≤ (got up23 10 []).lstate 23) ∧
    (let s := got (retraining 2) 10 []
     first23 s 10 [] = true ∧ s.lstate 23 = lsTraining ∧ ∃ p ∈ (s.link 23).pend, p.cmd.ctype = 10 ∧ 1 < p.sends) ∧
    (let s := got (linkIn lsTraining) 10 []
     first23 s 10 [] = true ∧ s.lstate 23 = lsTraining ∧ ∀ p ∈ (s.link 23).pend, p.cmd.ctype ≠ 10) := by decide +kernel

/-- Lane 7 has had more parity errors than the threshold by the end of a window. -/
def failing7 : State :=
  ((on23 up23 fun x => { x with parity := [(7, 256)] }).setFld (lnkLaneCtl 23) LNK_LANE_CTL_PAR_THRESH 255).wr timNow (BitVec.ofNat 64 (2 ^ 20))

theorem witness_LinkLanesAndControl_lanes : (failing7.link 23).parWin < failing7.now / 2 ^ 20 ∧
    (∀ j < 8, (failing7.fld (lnkLaneCtl 23) LNK_LANE_CTL_PAR_THRESH ≠ 0 ∧ failing7.fld (lnkLaneCtl 23) LNK_LANE_CTL_PAR_THRESH <
      kget (fun _ => 0) (failing7.link 23).parity j) ↔ j = 7) ∧
    (∀ j < 8, kget (fun _ => 0) (up23.link 23).parity j ≤ up23.fld (lnkLaneCtl 23) LNK_LANE_CTL_PAR_THRESH) ∧
    failing7.lstate 23 = lsUp ∧ failing7.logicalOf 23 (failing7.rxLane 23 7) = some 7 ∧ (failing7.link 23).replRx = none ∧
    (failing7.link 23).mirror = none ∧ failing7.rxLane 23 7 < 10 ∧
    bit (failing7.fld (lnkLaneCtl 23) LNK_LANE_CTL_RX_FAILED) (failing7.rxLane 23 7) = false ∧
    failing7.flag (lnkCtl 23) LNK_CTL_NARROW_FIRST = false ∧ failing7.freeLane 23 = some 8 ∧ up23.logicalOf 23 9 = none := by decide +kernel

/-- With the lanes of a mask failed. -/
def lanesFailed (s : State) (m : Nat) : State := s.setFld (lnkLaneCtl 23) LNK_LANE_CTL_RX_FAILED m

/-- Lanes that stay good when lane 7 goes. -/
def goodBut7 (s : State) : Nat := ((List.range 10).filter fun i => decide (i ≠ 7) && rxFit s 23 i).length

theorem witness_LinkLanesAndControl_loss :
    (∀ x ∈ [(lanesFailed vc0Up 0x300, true, 7), (lanesFailed up23 0x300, false, 7), (lanesFailed up23 0x370, false, 4), (lanesFailed up23 0x378, false, 3),
        (lanesFailed up23 0x37C, false, 2), (lanesFailed up23 0x37E, false, (1 : Nat))],
      x.1.lstate 23 = lsUp ∧ x.1.logicalOf 23 7 = some 7 ∧ (x.1.link 23).replRx = none ∧ (x.1.link 23).mirror = none ∧ x.1.freeLane 23 = none ∧
        x.1.vc0Ok 23 = x.2.1 ∧ goodBut7 x.1 = x.2.2) ∧
    (linkIn lsInit).lstate 23 = lsInit ∧ (linkIn lsInit).logicalOf 23 7 ≠ none := by decide +kernel

/-- A command that was sent `n` times, the last at tick 0, and now is 1 us later. -/
def unanswered (state n : Nat) : State := (on23 (linkIn state) fun x => { x with pend := [⟨⟨4, []⟩, n, 0⟩] }).wr timNow 1000

theorem witness_LinkLanesAndControl :
    (∀ x ∈ [(lsUp, 15), (lsInit, 16), (lsTraining, (16 : Nat))], let s := unanswered x.1 x.2
     (s.link 23).mirror = none ∧ (s.link 23).pend.find? (fun p => decide (p.tick + 1000 ≤ s.now)) = some ⟨⟨4, []⟩, x.2, 0⟩ ∧ s.lstate 23 = x.1) ∧
    (let s := on23 up23 fun x => { x with mirror := some 9, pend := [⟨⟨6, []⟩, 1, 0⟩] }
     (s.link 23).mirror = some 9 ∧ bit (512 : BitVec 10).toNat 9 = true ∧ (s.link 23).failing = [] ∧ ∀ p ∈ (s.link 23).pend, s.now < p.tick + 1000) ∧
    (∀ g ∈ [0, 1], let s := on23 (linkIn lsTraining) fun x => { x with grace := some g, held := true }
     (s.link 23).grace = some g ∧ decide (s.now < g) = decide (g = 1) ∧ s.lstate 23 ≠ lsUp) ∧
    up23.takesWrites (lnkCtl 23) = true ∧ State.reset.takesWrites (lnkCtl 23) = true ∧
    getF 1 LNK_CTL_RETRAIN = 0 ∧ getF 1 LNK_CTL_WIDTH_GO = 0 ∧ State.reset.flag (lnkCtl 23) LNK_CTL_EN = false ∧ getF 1 LNK_CTL_EN = 1 ∧
    (st (netPortMap 23) NET_PORT_MAP_ROLE 3).mapConflict 23 = true ∧ State.reset.mapConflict 23 = false ∧
    State.reset.fld (netPortMap 23) NET_PORT_MAP_ROLE = 0 ∧ (st (netPortMap 23) NET_PORT_MAP_ROLE 2).mapConflict 23 = false ∧
    State.reset.fld safStat SAF_STAT_STATE ≠ 2 ∧ up23.flag (lnkCtl 23) LNK_CTL_EN = true ∧ getF 0 LNK_CTL_EN = 0 ∧ lsInit ≤ up23.lstate 23 ∧
    up23.fld (netPortHop 23) NET_PORT_HOP_DELAY = 0x3FF ∧
    (let v := setF 1 LNK_CTL_WIDTH_REQ 3; getF v LNK_CTL_EN = 1 ∧ getF v LNK_CTL_RETRAIN = 0 ∧ getF v LNK_CTL_WIDTH_REQ ≠ 0) ∧
    (let s := (up23.setFld (netPortHop 23) NET_PORT_HOP_DMAX 440).setFld (netPortHop 23) NET_PORT_HOP_DELAY 440
     s.lstate 23 = lsUp ∧ s.fld (netPortHop 23) NET_PORT_HOP_DELAY ≤ s.fld (netPortHop 23) NET_PORT_HOP_DMAX ∧
       s.fld (netPortHop 23) NET_PORT_HOP_DMAX ≤ 440) := by decide +kernel

/-- Lane 2 unfit: logical lane 2 goes to lane 8 (R356). -/
theorem witness_LanePlacement : placeLanes (fun q => decide (q ≠ 2 ∧ q < 10)) (fun q => decide (q ≠ 2 ∧ q < 10)) [0, 1, 2, 3, 4, 5, 6, 7] =
    some [0, 1, 8, 3, 4, 5, 6, 7] := by decide

/-- Link 23 trains at a step, with the lanes of a mask locked and good. -/
def atStep23 (k locked : Nat) : State :=
  on23 (((linkIn lsTraining).setFld (lnkPhyStatus 23) LNK_PHY_STATUS_STEP k).setFld (lnkPhyStatus 23) LNK_PHY_STATUS_RX_GOOD locked) fun x =>
    { x with locked := locked }

theorem witness_LinkTraining : (∀ k ∈ [1, 2, 3, 4, 5, 6], (atStep23 k 1023).atStep 23 k = true) ∧
    (1 : BitVec 10).toNat - ((1 : BitVec 10).toNat &&& (atStep23 1 0).fld (lnkLaneCtl 23) LNK_LANE_CTL_RX_FAILED) ≠ 0 ∧
    (0 : BitVec 10).toNat - 0 = 0 ∧ (1023 : BitVec 10).toNat &&& ((atStep23 2 1023).link 23).locked = ((atStep23 2 1023).link 23).locked ∧
    ((atStep23 3 1023).link 23).locked < 1024 ∧
    (∀ g ∈ [(1023, 10, true), (0x0FF, 8, true), (0x00F, 4, false), (0x003, 2, false), (0x001, 1, false)], let s := atStep23 4 g.1
      ((List.range 10).filter (rxFit s 23)).length = g.2.1 ∧
      (placeLanes (rxFit s 23) (fun k => rxFit s 23 k && !s.flag (lnkMargin 23 k) LNK_MARGIN_LOW) ((List.range 8).map (s.rxLane 23))).isSome =
        g.2.2) ∧
    (atStep23 5 0).isPool 23 = false ∧ (atStep23 5 0).fld (lnkStatus 23) LNK_STATUS_WIDTH = 0 ∧
    ((atStep23 5 0).setFld (lnkStatus 23) LNK_STATUS_WIDTH 1).fld (lnkStatus 23) LNK_STATUS_WIDTH ≠ 0 ∧
    (List.replicate 256 ((16 : Nat), (0 : Nat))).length = 256 ∧
    (∀ x ∈ [(1, 2000000), (2, 20000000), (3, 1000000), (6, (1000000 : Nat))], let s := (atStep23 x.1 0).wr timNow (BitVec.ofNat 64 (x.2 + 1))
     s.fld (lnkPhyStatus 23) LNK_PHY_STATUS_STEP = x.1 ∧ s.lstate 23 = lsTraining ∧ (s.link 23).restart = none ∧
       (s.link 23).stepTick + (if x.1 = 1 then 2000000 else if x.1 = 2 then 20000000 else 1000000) < s.now) ∧
    (let s := on23 (atStep23 1 0) fun x => { x with restart := some 0 }
     (s.link 23).restart = some 0 ∧ s.lstate 23 = lsTraining ∧ 0 ≤ s.now) := by decide +kernel

theorem witness_LinkMonitorsAndWrites : up23.lstate 23 ≠ lsOff ∧ up23.flag (lnkMargin 23 9) LNK_MARGIN_UNDERSTUDY = false ∧ up23.logicalOf 23 9 = none ∧ (linkIn lsInit).lstate 23 ≠ lsUp ∧
    up23.fld (lnkMarginCtl 23) LNK_MARGIN_CTL_V_FLOOR ≤ (1023 : BitVec 10).toNat ∧
    up23.fld (lnkMarginCtl 23) LNK_MARGIN_CTL_H_FLOOR ≤ (1023 : BitVec 10).toNat ∧
    bit ((on23 up23 fun x => { x with lit := 512 }).link 23).lit 9 = true ∧
    State.reset.laserTaken 23 9 2 = false ∧ (st (lnkLaser 15 8) LNK_LASER_SOURCE 2).laserTaken 23 9 2 = true ∧
    (∀ k < 4, getF (setF 0 LNK_LASER_SOURCE k) LNK_LASER_SOURCE = k) ∧ State.reset.takesWrites (lnkLaser 15 9) = true ∧
    up23.takesWrites (netPortMap 23) = true ∧ up23.takesWrites (netPortHop 23) = true ∧ State.reset.lstate 23 = lsOff ∧ up23.lstate 23 ≠ lsOff ∧
    up23.fld (lnkStatus 23) LNK_STATUS_WIDTH = 0 ∧ up23.fld (netPortMap 23) NET_PORT_MAP_ROLE = 1 ∧
    State.reset.fld (netPortMap 23) NET_PORT_MAP_ROLE ≠ 1 ∧ getF 0 NET_PORT_HOP_DELAY ≠ 0x3FF := by decide +kernel

/-! ### Time -/

/-- The body of a time-stamp control flit. -/
def stampBody (t1 t3 t4 : Nat) : List Byte := leBytes 8 t1 ++ leBytes 8 t3 ++ leBytes 8 t4

/-- Link 23 is UP with DELAY `d`, its stamp 0 has been sent, and a time-stamp flit arrived at a tick; the servo accepts it from a jump limit of
one tick up. -/
def stamped (base d tick t1 t4 : Nat) : State :=
  let s := on23 ((up23.setFld (netPortHop 23) NET_PORT_HOP_DELAY d).setFld timServo TIM_SERVO_MASK 0x800000) fun x =>
    { x with lctlIn := [⟨2, stampBody t1 0 t4, tick, 0⟩], sentStamps := [0] }
  ((s.setFld timServo TIM_SERVO_DELAY_TOL 8).setFld timServo TIM_SERVO_JUMP_THRESH 8).modTim fun x => { x with base := base }

/-- The offset and the delay of a stamp, in sixteenths of a tick. -/
def thetaOf (t1 t2 t3 t4 : Nat) : Int := (((t2 : Int) - t1) - ((t4 : Int) - t3)).tdiv 2
def delayOf (t1 t2 t3 t4 : Nat) : Int := (((t2 : Int) - t1) + ((t4 : Int) - t3)).tdiv 2 - 480

theorem witness_TimeServoAndSamples_stamp :
    (∀ base ∈ [tsFree, tsAcquiring, tsLocking, tsLocked, tsHold], let s := stamped base 0 30 0 480
      ((s.link 23).lctlIn.find? fun x => decide (x.ctype = 2)) = some ⟨2, stampBody 0 0 480, 30, 0⟩ ∧ s.lstate 23 = lsUp ∧ s.timLost = false ∧
        s.tim.base = base ∧ 0 ∈ (s.link 23).sentStamps ∧ bit (s.fld timServo TIM_SERVO_MASK) 23 = true ∧
        s.fld (netPortMap 23) NET_PORT_MAP_ROLE = 1 ∧ s.fld (lnkStatus 23) LNK_STATUS_WIDTH = 0 ∧ s.fld (netPortHop 23) NET_PORT_HOP_DELAY ≠ 0x3FF ∧
        s.fld timServo TIM_SERVO_DELAY_TOL = 8 ∧ bit (s.fld timRefused TIM_REFUSED_LINKS) 23 = false) ∧
    leAt (stampBody 1 2 3) 0 8 = 1 ∧ leAt (stampBody 1 2 3) 8 8 = 2 ∧ leAt (stampBody 1 2 3) 16 8 = 3 ∧
    thetaOf 0 480 0 480 = 0 ∧ delayOf 0 480 0 480 = 0 ∧ delayOf 0 0 0 0 = -480 ∧ (delayOf 0 0 0 0).natAbs > 16 * 8 ∧
    thetaOf 0 960 0 0 = 480 ∧ delayOf 0 960 0 0 = 0 ∧ (stamped tsLocked 0 60 0 0).fld timServo TIM_SERVO_JUMP_THRESH < 30 := by decide +kernel

theorem witness_TimeServoAndSamples_acquire :
    (let s := (stamped tsAcquiring 0 30 0 480).setFld timCtl TIM_CTL_ACQ_LINK 23
     s.tim.base = tsAcquiring ∧ s.fld timCtl TIM_CTL_ACQ_LINK = 23 ∧ s.tim.acq = none) ∧
    (let s := ((stamped tsAcquiring 0 30 0 480).setFld timCtl TIM_CTL_ACQ_LINK 23).modTim fun x => { x with acq := some (0, 0) }
     s.tim.acq = some (0, 0) ∧ (-(thetaOf 0 480 0 480) + 64) % 128 ≠ 0 ∧ (480 : Nat) ≠ 0) := by decide +kernel

/-- The servo's first run is due, with a sample of link 23. -/
def servoDue (base : Nat) (xs : List (Nat × Nat × Int)) : State :=
  (State.reset.wr timNow 2048).modTim fun x => { x with base := base, samples := xs }

theorem witness_TimeServoAndSamples_servo :
    (∀ base ∈ [tsLocking, tsLocked, tsHold], ∀ xs ∈ [[], [(0, 23, 0)], [(0, 23, (0 : Int)), (3270, 23, 17)]], let s := servoDue base xs
      2048 ≤ s.now ∧ s.tim.lastRun ≤ (s.now - 2048) / 4096 ∧ s.timLost = false ∧ tsLocking ≤ s.tim.base ∧
      (((List.range 24).filterMap (lastSample (s.tim.samples.filter fun x => decide (x.1 / 10 < 16 * (4096 * 0 + 2048) / 10)))) = [] ↔ xs = []) ∧
      fitsInt 32 (toSigned 32 (s.fld timTrim TIM_TRIM_INTEG) + ((17 : Int) * 2 ^ 16).tdiv (2 ^ 4)) = true) ∧
    (let s := (servoDue tsLocked [(0, 23, 17)]).setFld timStat TIM_STAT_REFCLK_LOST 1
     s.timLost = true ∧ 2048 ≤ s.now ∧ s.tim.lastRun ≤ 0) := by decide +kernel

/-- A run with an offset of 17 sixteenths on the fourth bad run unlocks (R383). -/
theorem test_servo_unlocks : (let s := (servoDue tsLocked [(0, 23, 17)]).modTim fun x => { x with bad := 3 }
    (s.servoDue.tim.base, s.servoDue.flag timStat TIM_STAT_LOCK_LOST)) = (tsLocking, true) := by decide +kernel

theorem witness_TimeControl : State.reset.takesWrites timCtl = true ∧ State.reset.takesWrites timRefused = true ∧
    (let s := State.reset
     s.timLost = false ∧ s.mayRebase = true ∧ s.flag timCtl TIM_CTL_BENCHMARK = false ∧ s.tim.base = tsFree ∧ s.flag timCtl TIM_CTL_ACQUIRE = false ∧
       s.rebaseOk = false ∧ getF (0 : Word64) TIM_CTL_BENCHMARK = s.fld timCtl TIM_CTL_BENCHMARK) ∧
    (let v : Word64 := setF 0 TIM_CTL_BENCHMARK 1
     getF v TIM_CTL_BENCHMARK = 1 ∧ getF v TIM_CTL_ACQUIRE = 0 ∧ getF v TIM_CTL_REBASE_ARM = 0 ∧ getF v TIM_CTL_RELEASE = 0) ∧
    (let s := (st timCtl TIM_CTL_BENCHMARK 1).modTim fun x => { x with base := tsBench }
     s.flag timCtl TIM_CTL_BENCHMARK = true ∧ s.tim.base = tsBench ∧ s.timLost = false) ∧
    run0.mayRebase = false ∧
    (let s := (State.reset.wr timRebaseAt (2048 + 4096 * 300)).wr timRebaseTo (2048 + 4096 * 300 + 512000)
     s.rebaseOk = true ∧ s.mayRebase = true) ∧
    (let s := (st timCtl TIM_CTL_REBASE_ARM 1).wr timRebaseAt 0
     s.flag timCtl TIM_CTL_REBASE_ARM = true ∧ (s.rd timRebaseAt).toNat ≤ s.now) ∧
    (let s := ((st timCtl TIM_CTL_RELEASE 1).setFld timCtl TIM_CTL_BENCHMARK 1).wr timNow 1000000
     s.flag timCtl TIM_CTL_RELEASE = true ∧ s.flag timCtl TIM_CTL_BENCHMARK = true ∧ s.timLost = false ∧ s.tim.slewTick + 1000000 ≤ s.now) ∧
    (let s := st timRefused TIM_REFUSED_LINKS 0x800001
     (1 : Word64) &&& s.rd timRefused ≠ 0 ∧ s.mayRebase = true ∧ (s.setFld (chStatus 0) CH_STATUS_STATE stRunning).mayRebase = false) ∧
    (let s := ((st timStat TIM_STAT_REFCLK_LOST 1).wr timNow 20000000).modTim fun x => { x with holdSince := some 0, base := tsLocked }
     s.timLost = true ∧ s.tim.holdSince = some 0 ∧ s.tim.expired = false ∧ 0 + s.holdTicks ≤ s.now ∧
       ¬ 19999999 + s.holdTicks ≤ s.now ∧ s.flag timCtl TIM_CTL_BENCHMARK = false) ∧
    (let s := (run0.wr timNow 20000000).modTim fun x => { x with holdSince := some 0, base := tsHold }
     s.timLost = false ∧ s.tim.base = tsHold ∧ s.anyRunning = true ∧ 0 + s.holdTicks < s.now) ∧
    (let s := on0 run0 fun c => { c with applied := { c.applied with counted := true } }
     s.running 0 = true ∧ (s.chan 0).applied.counted = true) ∧ fitsInt 16 (-32768) = true ∧ fitsInt 16 32767 = true := by decide +kernel

/-! ### Safety -/

/-- An armed device. -/
def armed0 : State := st safCtl SAF_CTL_ARMED 1

/-- Cause 1 at unit 0 is in SAF_FIRST already. -/
def firstHeld : State := (armed0.setFld safFirst SAF_FIRST_VALID 1).setFld safFirst SAF_FIRST_CAUSE 1

theorem witness_RaisingACause : armed0.flag safFirst SAF_FIRST_VALID = false ∧ armed0.fld safStat SAF_STAT_STATE = 0 ∧
    armed0.flag safCtl SAF_CTL_ARMED = true ∧ haltCode 9 = true ∧ haltCode 12 = true ∧ haltCode 8 = false ∧ haltCode 13 = false ∧
    State.reset.flag safCtl SAF_CTL_ARMED = false ∧ firstHeld.firstYields 2 = false ∧ 1 ≤ (1 : Nat) ∧ (16 : Nat) ≤ 16 ∧ (255 : Nat) < 256 := by
  decide +kernel

/-- With a notice of the slice, or of another, at the head of the inbox. -/
def noticed (s : State) (slice : Nat) : State := { s with saf := { s.saf with inbox := [(⟨slice, 4095, 255, 255, 0, 0⟩, 31, 0)] } }

/-- In the curtain since tick 0. -/
def inCurtain (s : State) : State := { s.setFld safStat SAF_STAT_STATE 1 with saf := { s.saf with entry := some 0 } }

theorem witness_CurtainAndHalt :
    (∀ c ∈ [7, 8, 14, 15], getF (setF 0 SAF_RAISE_CAUSE c) SAF_RAISE_CAUSE = c) ∧ getF (0 : Word64) SAF_RAISE_CAUSE ∉ [7, 8, 14, 15] ∧
    (∀ k < 2, (noticed armed0 k).saf.inbox = [(⟨k, 4095, 255, 255, 0, 0⟩, 31, 0)]) ∧ armed0.fld netPlace NET_PLACE_SLICE_ID = 0 ∧
    armed0.takesWrites safRaise = true ∧ armed0.saf.noticed = false ∧ armed0.fld safStat SAF_STAT_STATE = 0 ∧ (inCurtain armed0).fld safStat SAF_STAT_STATE = 1 ∧
    (let s := (inCurtain run0).wr timNow 150000
     s.saf.entry = some 0 ∧ 0 + s.stopTicks ≤ s.now ∧ s.running 0 = true ∧ s.running 1 = false) ∧
    (let s := inCurtain armed0
     s.saf.entry ≠ none ∧ s.saf.stopped = false ∧ s.anyRunning = false) ∧
    (let s := { armed0 with saf := { armed0.saf with haltCause := true, notices := [(23, ⟨0, 0, 1, 0, 0, 0⟩)], entry := some 0 } }.wr timNow 50000
     s.saf.haltCause = true ∧ s.saf.haltSteps = false ∧ s.saf.entry = some 0 ∧ 0 + 50000 ≤ s.now ∧ s.anyRunning = false ∧
       s.flag netFabCtl NET_FAB_CTL_VC0_EN = false) ∧ armed0.saf.notices = [] ∧ armed0.saf.entry = none ∧ armed0.heldReset = false := by
  decide +kernel

/-- Cores 0 to 3 serve their roles, core 4 is the understudy. -/
def cores (s : State) (under : Nat) : State :=
  let s := (List.range 4).foldl (fun s c => s.wr (ctlCore c) (setF (setF 0 CTL_CORE_STATE 1) CTL_CORE_ROLE c)) s
  s.wr (ctlCore 4) (setF (setF 0 CTL_CORE_STATE under) CTL_CORE_UNDERSTUDY 1)

/-- A post of core 1 to the seed of channel 7 waits, and core 3 has the same address. -/
def posted (c : Nat) (v : Word64) : State :=
  let s := cores State.reset 0
  { s with saf := { s.saf with post := some (c, chSrSeed 7, v, 0), postAddr := Vector.replicate 5 (chSrSeed 7) } }

theorem witness_ControlCores :
    (∀ k ∈ [0, 4, 5, 7], getF (setF 0 SAF_KICK_CORE k) SAF_KICK_CORE = k) ∧ State.reset.heldReset = false ∧
    (let s := (cores State.reset 0).wr timNow 0xFFFFFFFFFF
     s.fld (ctlCore 3) CTL_CORE_STATE = 1 ∧ s.saf.kicks[(3 : Fin 5)] + 1000000 * max 1 (s.fld safCtl SAF_CTL_WDOG_MS) ≤ s.now ∧
       (List.range 5).find? (fun c => decide (s.fld (ctlCore c) CTL_CORE_UNDERSTUDY = 1 ∧ s.fld (ctlCore c) CTL_CORE_STATE = 0)) = some 4) ∧
    (∀ u ∈ [0, 1], let s := (cores State.reset u).setFld (ctlCore 2) CTL_CORE_STATE 2
     s.roleLost 2 = true ∧ s.heldReset = false ∧
       (List.range 5).find? (fun c => decide (s.fld (ctlCore c) CTL_CORE_STATE = 1 ∧ s.fld (ctlCore c) CTL_CORE_UNDERSTUDY = 1)) =
         if u = 1 then some 4 else none) ∧
    (let s := cores State.reset 0
     s.fld (ctlCore 3) CTL_CORE_STATE = 1 ∧ s.saf.post = none) ∧
    (∀ x ∈ [(1, 0), (1, 5), (3, (0 : Word64))], let s := posted x.1 x.2
     s.saf.post = some (x.1, chSrSeed 7, x.2, 0) ∧ s.now < 0 + 10000 ∧ s.saf.postAddr[(3 : Fin 5)] = chSrSeed 7 ∧ s.takesWrites (chSrSeed 7) = true ∧
       s.fld (ctlCore 3) CTL_CORE_STATE = 1) ∧
    (let s := (posted 1 0).wr timNow 10000
     s.saf.post = some (1, chSrSeed 7, 0, 0) ∧ 0 + 10000 ≤ s.now) := by decide +kernel

/-- A step of an intermission. -/
def inStep (k : Nat) : State := memOn.setFld safInt SAF_INT_STEP k

/-- With its copies under way, sent to the buddy, page 0 of one protected page dirty. -/
def copying : State :=
  { ((inStep 6).setFld safRegion SAF_REGION_PROT 1).setFld safRegion SAF_REGION_CKPT_BASE 1 with fw := { memOn.fw with int := { memOn.fw.int with copying := true, sent := true } }, mem := { memOn.mem with dirty := [(0, true)] } }

/-- An access of a memory channel, or one of a bank by one of its five requesters, is granted where no arbiter is in use and memory is usable. -/
theorem granted_quiet {s : State} {l : List (Fin 10 × ArbId)} (ha : s.arbs = []) (hm : s.memUsable = true)
    (h : ∀ x ∈ l, x.1.val < arbSize x.2) : Granted s l := by
  intro x hx
  have e : s.arb x.2 = Arb.reset := by simp [State.arb, ha, kget]
  refine ⟨h x hx, ?_, ?_, ?_, fun _ _ => hm⟩ <;> rw [e] <;> simp [Arb.reset]

theorem memArbs_size (s : State) (k : Fin 10) (l : List Nat) : ∀ x ∈ s.memArbs k l, x.1.val < arbSize x.2 := by
  intro x hx
  obtain ⟨a, -, rfl⟩ := List.mem_map.mp hx
  exact k.isLt

theorem pageArbs_size (s : State) (pages : List Nat) (base : Nat) (w : Bool) : ∀ x ∈ s.pageArbs pages base w, x.1.val < arbSize x.2 := by
  intro x hx
  obtain ⟨p, -, hx⟩ := List.mem_flatMap.mp hx
  exact memArbs_size s 8 _ x hx

theorem bankArbs_size (k : Fin 10) (hk : k.val < 5) (n : Fin 8) (a len : Nat) : ∀ x ∈ bankArbs k n a len, x.1.val < arbSize x.2 := by
  intro x hx
  obtain ⟨g, -, rfl⟩ := List.mem_map.mp hx
  exact hk

theorem witness_IntermissionSteps_test : (inStep 2).fld safInt SAF_INT_STEP = 2 := by decide +kernel

/-- The channels once what was in flight has landed. -/
def landed (s : State) : State := (fins 8).foldl State.landAll s

/-- A store queue of channel 0 is running. -/
def storing : State := on0 (inStep 3) fun c => { c with streams := c.streams.set 23 { Stream.idle with busy := true } }

theorem witness_IntermissionSteps_capture : (∀ s ∈ [inStep 3, storing], s.fld safInt SAF_INT_STEP = 3 ∧ s.memUsable = true ∧
    (landed s).fld safInt SAF_INT_STEP = 3) ∧ (fins 8).all (landed (inStep 3)).mayCapture = true ∧
    (fins 8).all (landed (inStep 3)).countsCrossed = true ∧ (fins 8).all (landed storing).mayCapture = false := by decide +kernel

theorem captureArbs_size (s : State) (x : Fin 10 × ArbId) (h : x ∈ s.captureArbs) : x.1.val < arbSize x.2 := by
  simp only [State.captureArbs, List.mem_flatMap, List.mem_append] at h
  exact h.elim fun n hn => hn.2.elim (bankArbs_size 2 (by decide) n _ _ x) (memArbs_size s 9 _ x)

theorem witness_IntermissionSteps_granted : Granted (landed (inStep 3)) (landed (inStep 3)).captureArbs :=
  granted_quiet (by decide +kernel) (by decide +kernel) (captureArbs_size _)

/-- Two symbols in error. -/
def twoSymbols : SymErr := [(0, 1), (1, 2)]

theorem twoSymbols_bad (w : Word64) : (readWord w twoSymbols).2 = .bad := by
  have h : decodeOver ((List.range 20).map wordCol) (synSum syn0 (twoSymbols.map fun x => (wordCol (x.1 % 20), x.2.toNat))) = .uncorrectable := by
    decide +kernel
  simp only [readWord, h]

/-- They are found in the first word of a run of bytes. -/
theorem readWords_bad (b : List Byte) (k : Nat) (h : 8 * k < b.length) : (readWords 0 b [(k, twoSymbols)]).2 = [(k, .bad)] := by
  have h1 : k * 8 < 0 + b.length ∧ 0 < k * 8 + 8 := ⟨by omega, by omega⟩
  simp only [readWords, List.foldl_cons, List.foldl_nil, h1, and_self, if_true, twoSymbols_bad, List.nil_append]

theorem sramRead_length (c : Chan) (map : Word64) (a len : Nat) : (c.sramRead map a len).length = len := by simp [Chan.sramRead]

/-- An uncorrectable word of SRAM, and one of a register file, as the snapshot engine meets it (R81). -/
theorem witness_IntermissionSteps_sram (s : State) (n : Fin 8) : (0, .bad) ∈ (s.snapRead n [⟨.sram, 0, twoSymbols⟩]).2.1 := by
  rw [State.snapRead]
  generalize hb : (s.chan n).sramRead (s.bankMap n) 0 0x3000000 = b
  generalize hl : List.filterMap _ _ = l
  have hl : l = [(0, twoSymbols)] := by rw [← hl]; rfl
  have h : (readWords 0 b l).2 = [(0, .bad)] := by rw [hl, readWords_bad b 0 (by rw [← hb, sramRead_length]; exact Nat.succ_pos _)]
  generalize readWords 0 b l = x at h ⊢
  generalize readWords 0 _ _ = y
  obtain ⟨x1, x2⟩ := x
  obtain ⟨y1, y2⟩ := y
  change (0, WordOut.bad) ∈ x2
  rw [show x2 = [(0, .bad)] from h]
  exact List.mem_singleton.mpr rfl

theorem witness_IntermissionSteps_registers (s : State) (n : Fin 8) : .bad ∈ (s.snapRead n [⟨.vreg 0, 0, twoSymbols⟩]).2.2 := by
  rw [State.snapRead]
  generalize readWords 0 ((s.chan n).sramRead (s.bankMap n) 0 0x3000000) _ = x
  generalize hr : (List.range 32).flatMap _ ++ List.flatMap _ (List.range 64) = r
  generalize hl : List.filterMap _ _ = l
  have hl : l = [(0, twoSymbols)] := by rw [← hl]; rfl
  have h : (readWords 0 r l).2 = [(0, .bad)] := by
    rw [hl, readWords_bad r 0 (by
      rw [← hr, List.length_append, List.length_flatMap (l := List.range 64)]
      exact Nat.lt_of_lt_of_le (by simp only [leBytes, List.length_cons]; decide) (Nat.le_add_left _ _))]
  generalize readWords 0 r l = y at h ⊢
  obtain ⟨x1, x2⟩ := x
  obtain ⟨y1, y2⟩ := y
  change WordOut.bad ∈ y2.map (·.2)
  rw [show y2 = [(0, .bad)] from h]
  exact List.mem_singleton.mpr rfl

theorem witness_IntermissionSteps_copies : copying.fw.int.copying = true ∧ copying.fw.int.sent = true ∧ copying.memUsable = true ∧
    copying.copyFlow.stalled = false ∧ copying.copyFlow.await = none ∧ copying.copyFlow.held = [] ∧ copying.fld safInt SAF_INT_STEP = 6 ∧
    copying.dirtyPages = [0] ∧
    (copying.setSendFlow (flowKey 1 1 1 (copying.fld safInt SAF_INT_BUDDY)) { copying.copyFlow with stalled := true }).copyFlow.stalled = true := by
  decide +kernel

theorem witness_IntermissionSteps_pages :
    Granted copying (copying.pageArbs copying.dirtyPages 0 false ++ copying.pageArbs copying.dirtyPages copying.ckpt true) :=
  granted_quiet (by decide +kernel) (by decide +kernel) fun x hx =>
    (List.mem_append.mp hx).elim (pageArbs_size _ _ _ _ x) (pageArbs_size _ _ _ _ x)

/-- Sector 0 of the page is poisoned. -/
def lostPage : State := { copying with mem := { copying.mem with poison := [(0, true)] } }

/-- A read of whose first sector nothing can be told names a memory channel. -/
theorem memRead_lost (s : State) (a len : Nat) (x : Nat) (l : List Nat) (hl : sectorsOf a len = x :: l)
    (h : (s.readSector (s.memMap x).1 (s.memMap x).2 []).2 = none) : (s.memRead a len []).2.2 ≠ [] := by
  have step : ∀ (m : List (Nat × Nat)) (acc : State × List Byte × List Nat), acc.2.2 ≠ [] →
      (m.foldl (fun (acc : State × List Byte × List Nat) y =>
        match acc.1.readSector (acc.1.memMap y.1).1 (acc.1.memMap y.1).2 (errOf [] y.2) with
        | (t, some d) => (t, acc.2.1 ++ d, acc.2.2)
        | (t, none) => (t, acc.2.1 ++ List.replicate 32 0, acc.2.2 ++ [(acc.1.memMap y.1).1])) acc).2.2 ≠ [] := by
    intro m
    induction m with
    | nil => exact fun acc h => h
    | cons y m ih =>
      intro acc h
      rw [List.foldl_cons]
      apply ih
      cases hy : acc.1.readSector (acc.1.memMap y.1).1 (acc.1.memMap y.1).2 (errOf [] y.2) with
      | mk t o => cases o <;> simp [h]
  rw [State.memRead, hl, List.zipIdx_cons, List.foldl_cons]
  refine step _ _ ?_
  cases hy : s.readSector (s.memMap x).1 (s.memMap x).2 (errOf [] 0) with
  | mk t o =>
    have h0 : o = none := by rw [← h, ← show errOf [] 0 = [] from rfl, hy]
    rw [h0] at hy
    simp only [hy, List.nil_append, ne_eq, List.cons_ne_nil, not_false_eq_true]

theorem sectorsOf_cons (a len : Nat) (h : 0 < len) : ∃ l, sectorsOf a len = a / 32 * 32 :: l := by
  simp only [sectorsOf, Nat.ne_of_gt h, if_false, List.range_succ_eq_map, List.map_cons, Nat.add_zero]
  exact ⟨_, rfl⟩

theorem copyBlocks_one (s : State) (w p a b : Nat) : s.copyBlocks w [p] a b [] =
    match s.memRead (a + p * w) w [] with
    | (t, d, []) => (t.memStore (b + p * w) d [], none)
    | (t, _, c :: _) => (t, some c) := by
  have h : s.errsAt (a + p * w) w [] = [] := by simp [State.errsAt]
  rw [State.copyBlocks, List.foldl_cons, List.foldl_nil]
  dsimp only
  generalize s.errsAt (a + p * w) w [] = e at h ⊢
  subst h
  generalize s.memRead (a + p * w) w [] = x
  obtain ⟨t, d, _ | ⟨c, l⟩⟩ := x <;> rfl

theorem witness_IntermissionSteps_lost : lostPage.dirtyPages = [0] ∧ ∃ c, (lostPage.copyPages lostPage.dirtyPages 0 lostPage.ckpt []).2 = some c := by
  have h0 : lostPage.dirtyPages = [0] := by decide +kernel
  refine ⟨h0, ?_⟩
  rw [h0, State.copyPages, copyBlocks_one]
  obtain ⟨l, hl⟩ := sectorsOf_cons (0 + 0 * 2 ^ 21) (2 ^ 21) (by decide)
  have h := memRead_lost lostPage _ _ _ l hl (by decide +kernel)
  generalize lostPage.memRead (0 + 0 * 2 ^ 21) (2 ^ 21) [] = r at h ⊢
  obtain ⟨t, d, _ | ⟨c, bad⟩⟩ := r
  · exact absurd rfl h
  · exact ⟨c, rfl⟩

/-- A firmware message at the tail of the receive ring: source 5, MSG `msg`, flags, MSG_SEQ 9, slice 0, and a body. -/
def message (s : State) (msg flags : Nat) (body : List Byte) : State :=
  let d := leBytes 2 msg ++ leBytes 2 flags ++ leBytes 4 9 ++ leBytes 4 0 ++ leBytes 4 body.length ++ body
  let b := leBytes 2 0 ++ leBytes 2 5 ++ leBytes 6 0 ++ leBytes 2 d.length ++ leBytes 4 0 ++ d
  ({ s with fw := { s.fw with csram := ksets (fun _ => 0) [] 0x600000 b } }.setFld ctlRxring CTL_RXRING_HEAD 1).setFld ctlBoot CTL_BOOT_MODE 0

/-- What the message reads as. -/
def theMsg (msg flags : Nat) (body : List Byte) : Msg := ⟨5, msg, flags, 9, 0, body⟩

/-- With a program of these devices, of logical index `i`. -/
def withProg (s : State) (i : Nat) (map : List Nat) : State :=
  { s with fw := { s.fw with prog := some ⟨[0], [], [], false, 0, 0, map, i, 0, [(0, 64)], []⟩ } }

/-- With a run in a state. -/
def withRun (s : State) (n : Nat) : State := { s with fw := { s.fw with run := some ⟨0, 0, 0, 0, 0, [], [], 0, true, n⟩ } }

theorem witness_FirmwareMessages_waits :
    ∀ k ∈ [msCaptured, msCopy, msDone, msResume, msHold, msCopyDone, msStep, msHost], ∀ f ∈ [0, 1],
      let s := message State.reset k f (leBytes 8 0 ++ leBytes 8 77 ++ leBytes 8 78)
      Waits s k (theMsg k f (leBytes 8 0 ++ leBytes 8 77 ++ leBytes 8 78)) := by unfold Waits; decide +kernel

theorem witness_FirmwareMessages :
    (theMsg msDone 0 (leBytes 8 65535)).k = 65535 ∧
    (∀ map ∈ [[0, 5], [5]], let s := withProg (message State.reset msDone 0 (leBytes 8 0)) 0 map
     s.coordinates = true ∧ s.fld safStat SAF_STAT_STATE = 0 ∧ s.allSent (noteSent s.fw.int.done 0 5) 0 = decide (map = [5])) ∧
    (let s := (message State.reset msCopy 0 (leBytes 8 0)).setFld safInt SAF_INT_STEP 5
     s.fld safInt SAF_INT_STEP = 5 ∧ s.fw.int.k = 0 ∧ s.flag netUnsCtl NET_UNS_CTL_INJECT_STOP = true) ∧
    (let s := (message State.reset msResume 0 (leBytes 8 0)).setFld safInt SAF_INT_STEP 7
     s.fld safInt SAF_INT_STEP = 7 ∧ s.fw.int.k = 0) ∧
    (let s := withRun (message State.reset msStep 1 (leBytes 8 0)) 7
     s.fw.int.resumeAt = none ∧ s.fw.run.map (·.state) = some 7) := by decide +kernel

/-! ### Mailboxes -/

/-- Firmware serves commands: MODE 0, and every role has its core. -/
def serving (s : State) : State := (cores s 0).setFld ctlBoot CTL_BOOT_MODE 0

/-- A command area with a command. -/
def area (op len : Nat) (args : List Byte) : List Byte := leBytes 4 op ++ leBytes 4 len ++ leBytes 8 0 ++ args

/-- Mailbox 0 has accepted a command, or runs it. -/
def mailed (s : State) (st op len : Nat) (args : List Byte) : State :=
  ((serving s).modMb 0 fun x => { x with cmd := area op len args }).setFld (mbStatus 0) MB_STATUS_STATE st

/-- A command stands in the area of mailbox `m`, with a new SUBMIT value. -/
def submitted (m : Fin 16) (op : Nat) : State :=
  let s := (serving memOn).setFld (mbSubmit m) MB_SUBMIT_SEQ 1
  { s with fw := { s.fw with mbmem := ksets (fun _ => 0) [] (0x4000 * m.val) (area op 0 []) } }

theorem witness_MailboxAcceptsAndRefuses_poll :
    (∀ x ∈ [((0 : Fin 16), 0x0001), (0, 0x0030), (0, 0x0040), (0, 0x0024), (0, 0x0002), (0, 0x00F0), (15, 0x0002), (15, 0x0020), (15, 0x00F0)],
     let s := submitted x.1 x.2
     s.heldReset = false ∧ s.fld ctlBoot CTL_BOOT_MODE = 0 ∧ (s.roleCore 0).isSome = true ∧ s.mbState x.1 = 0 ∧
       s.fld (mbSubmit x.1) MB_SUBMIT_SEQ ≠ s.fw.mb[x.1].seen ∧ leAt (kgets (fun _ => 0) s.fw.mbmem (0x4000 * x.1.val) 4096) 0 2 = x.2) ∧
    (∀ op ∈ [0x0001, 0x0020, 0x0024, 0x0030, 0x0040], (cmdOf op).isSome = true) ∧ cmdOf 0x0002 = none ∧ cmdOf 0x0024 = some cHoldAtInt ∧
    (readWord 0 twoSymbols).2 = .bad ∧ (readWord 0 [(19, 1)]).2 ≠ .bad ∧
    (∀ p ∈ [1, 2], let s := (serving memOn).setFld pwrState PWR_STATE_STATE p
     s.fld pwrState PWR_STATE_STATE = p ∧ s.pwr.change = none) ∧ cLoad.standby = false ∧ cIdentify.standby = true ∧
    (serving memOn).fld (mbSubmit 0) MB_SUBMIT_SEQ = (serving memOn).fw.mb[(0 : Fin 16)].seen := by decide +kernel

theorem witness_MailboxAbortAndTimeouts : (serving memOn).heldReset = false ∧
    (∀ x ∈ [(0x0013, cTime), (0x0015, cMsgSend), (0x0011, cSetPorts), (0x0016, cMsgRecv), (0x0024, cHoldAtInt)], ∀ st ∈ [1, 2],
      let s := mailed memOn st x.1 0 []
      cmdOf (s.mbOp 0) = some x.2 ∧ x.2.abort = true ∧ s.mbState 0 = st ∧ getF (0 : Word64) MB_ABORT_SEQ = s.fw.mb[(0 : Fin 16)].seen ∧
        getF (1 : Word64) MB_ABORT_SEQ ≠ s.fw.mb[(0 : Fin 16)].seen) ∧
    cIdentify.abort = false ∧ cmdOf ((mailed memOn 1 1 0 []).mbOp 0) = some cIdentify ∧
    (∀ x ∈ [(0x0011, 1000000000, []), (0x0016, 1000000 * 7, leBytes 4 7), (0x0013, 100000000, leBytes 1 2), (0x0026, 60000000000, ([] : List Byte))],
      let s := ((mailed memOn 2 x.1 x.2.2.length x.2.2).wr timNow (BitVec.ofNat 64 x.2.1)).modMb 0 fun b => { b with phase := 8 }
      s.heldReset = false ∧ s.fwRuns = true ∧ s.mbState 0 = 2 ∧ s.mbOp 0 = x.1 ∧ s.fw.mb[(0 : Fin 16)].since + x.2.1 ≤ s.now ∧
        s.fw.mb[(0 : Fin 16)].aux = 0 ∧ s.fw.mb[(0 : Fin 16)].phase < 9) ∧
    (mailed memOn 2 0x0016 4 (leBytes 4 7)).arg 0 0 4 = 7 ∧ (mailed memOn 2 0x0013 1 (leBytes 1 2)).arg 0 0 1 = 2 := by decide +kernel

/-- Arguments of LOAD: an empty image at 0x6000_0000, a device map there of one device, three regions of 195 pages. -/
def loadBytes : List Byte :=
  leBytes 8 0x60000000 ++ leBytes 8 0 ++ leBytes 8 0 ++ leBytes 8 0x60000000 ++ leBytes 4 195 ++ leBytes 4 200 ++ leBytes 4 400 ++ leBytes 4 0

/-- The commands, each with arguments within its ranges. -/
def readyArgs : List (Cmd × List Byte) :=
  [(cIdentify, []), (cSetPlace, leBytes 8 0), (cSetPorts, List.replicate 196 0), (cGetSurvey, []), (cTime, leBytes 8 0), (cTime, leBytes 8 1),
    (cTime, leBytes 8 (2 + 256 * 23)), (cTime, leBytes 8 3), (cTime, leBytes 8 (4 + 2 ^ 32 * 0x800000)), (cRoutes, leBytes 16 0), (cRoutes, leBytes 16 2),
    (cRoutes, leBytes 16 1), (cMsgSend, leBytes 8 4095), (cMsgRecv, leBytes 4 1), (cMsgRecv, leBytes 4 60000), (cLoad, loadBytes)] ++
  [(cStart, leBytes 24 512000000), (cInputDone, leBytes 8 0), (cCurtain, []), (cHoldAtInt, []), (cRelease, []), (cRestore, loadBytes ++ leBytes 28 0),
    (cReset, leBytes 8 0), (cReset, leBytes 8 (1 + 256 * 7)), (cReset, leBytes 8 (2 + 256 * 23)), (cSetPower, leBytes 8 2), (cSetPower, leBytes 8 0),
    (cGetLedger, []), (cGetRetired, []), (cUpdate, leBytes 24 0), (cAttest, List.replicate 32 0), (cGetCert, []), (cOwnerKey, List.replicate 32 7)]

/-- Mailbox 0 has accepted a command that may start. -/
def ready (x : Cmd × List Byte) : State :=
  let s := withProg (mailed memOn 1 x.1.op x.2.length x.2) 0 [0]
  if x.1.armed = 2 then s.setFld safCtl SAF_CTL_ARMED 1 else s

theorem witness_Ready : ∀ x ∈ readyArgs, Ready (ready x) 0 x.1 := by unfold Ready; decide +kernel

theorem witness_Accepted : Accepted (ready (cIdentify, [])) 0 cIdentify ∧
    (∀ x ∈ [(cSetPlace, leBytes 7 0), (cLoad, []), (cStart, []), (cUpdate, leBytes 24 (2 ^ 136))],
      Accepted (ready x) 0 x.1 ∧ refusal (ready x) 0 x.1 = 3) ∧
    (let s := (ready (cRelease, [])).setFld (chStatus 0) CH_STATUS_STATE stRunning
     Accepted s 0 cRelease ∧ refusal s 0 cRelease = 8) ∧
    (let s := (ready (cCurtain, [])).setFld safCtl SAF_CTL_ARMED 0
     Accepted s 0 cCurtain ∧ refusal s 0 cCurtain = 9) ∧
    (let s := (ready (cLoad, loadBytes)).setFld mcStatus MC_STATUS_INIT_DONE 0
     Accepted s 0 cLoad ∧ refusal s 0 cLoad = 2) := by unfold Accepted; decide +kernel

/-- Mailbox 0 runs a command. -/
def running (x : Cmd × List Byte) : State := withProg (mailed memOn 2 x.1.op x.2.length x.2) 0 [0]

theorem witness_Runs : ∀ x ∈ [(cSetPorts, []), (cTime, leBytes 8 2), (cMsgSend, []), (cMsgRecv, []), (cInputDone, leBytes 8 0), (cCurtain, []),
    (cStart, []), (cRestore, leBytes 76 0), (cSetPower, [2])], Runs (running x) 0 x.1 := by unfold Runs; decide +kernel

/-- NET_PLACE with LOCK, and a coordinate X of 1 in a slice of 1 × 1 × 1. -/
def goodPlace : Word64 := setF 0 NET_PLACE_LOCK 1
def wrongPlace : Word64 := setF goodPlace NET_PLACE_X 1

theorem witness_PlacementCommands : memOn.takesWrites netPlace = true ∧
    (let s := (mailed memOn 1 1 0 []).setFld ctlBoot CTL_BOOT_MODE 2
     s.heldReset = false ∧ s.fld ctlBoot CTL_BOOT_MODE = 2 ∧ s.mbOp 0 = 1 ∧ s.mbState 0 = 1 ∧ leAt s.fw.mb[(0 : Fin 16)].cmd 2 2 = 0 ∧
       leAt s.fw.mb[(0 : Fin 16)].cmd 8 8 = 0 ∧ leAt s.fw.mb[(0 : Fin 16)].cmd 4 4 = 0) ∧
    leAt (area 1 8 []) 4 4 ≠ 0 ∧ getF goodPlace NET_PLACE_LOCK = 1 ∧ memOn.badPlace goodPlace = false ∧ memOn.badPlace wrongPlace = true ∧
    getF (0 : Word64) NET_PLACE_LOCK = 0 ∧ memOn.flag netPlace NET_PLACE_LOCK = false ∧
    BitVec.ofNat 64 ((ready (cSetPlace, leBytes 8 goodPlace.toNat)).arg 0 0 8) = goodPlace ∧
    BitVec.ofNat 64 ((ready (cSetPlace, leBytes 8 wrongPlace.toNat)).arg 0 0 8) = wrongPlace ∧
    (let s := (ready (cSetPlace, leBytes 8 wrongPlace.toNat)).setFld netPlace NET_PLACE_LOCK 1
     s.flag netPlace NET_PLACE_LOCK = true ∧ placeTaken wrongPlace (s.rd netPlace) = false) := by decide +kernel

theorem witness_SetPorts :
    (let s := ready (cSetPorts, List.replicate 196 0)
     s.portMoves 0 = [] ∧ (∀ l : Fin 24, s.flag (lnkCtl l) LNK_CTL_EN = false)) ∧
    (let s := (ready (cSetPorts, List.replicate 195 0 ++ [0])).setFld (lnkCtl 23) LNK_CTL_EN 1
     let s := s.modMb 0 fun x => { x with cmd := x.cmd.set 210 0x80 }
     let s := s.setFld (netPortMap 23) NET_PORT_MAP_ROLE 1
     s.portMoves 0 = [23] ∧ s.enArg 0 23 = true ∧ s.lstate 23 ≠ lsUp) ∧
    (let s := ready (cSetPorts, List.replicate 184 0 ++ leBytes 12 (setF 0 NET_PORT_MAP_ROLE 3).toNat)
     s.portMoves 0 = [23] ∧ s.enArg 0 23 = false ∧ s.flag (lnkCtl 23) LNK_CTL_EN = false ∧ s.lstate 23 = lsOff ∧ s.fw.retired = []) ∧
    (let s := (running (cSetPorts, [])).setFld (lnkCtl 23) LNK_CTL_EN 1 |>.setFld (netPortMap 23) NET_PORT_MAP_ROLE 1
     s.flag (lnkCtl 23) LNK_CTL_EN = true ∧ s.fld (netPortMap 23) NET_PORT_MAP_ROLE ≠ 0 ∧ s.lstate 23 ≠ lsUp) := by decide +kernel

theorem witness_TimeAndRouteCommands :
    (let s := ready (cTime, leBytes 8 2)
     s.arg 0 0 1 = 2 ∧ s.mayRebase = true ∧ s.tim.base = tsFree ∧ s.timLost = false ∧ s.flag timCtl TIM_CTL_BENCHMARK = false ∧
       s.flag timCtl TIM_CTL_ACQUIRE = false ∧ (s.setFld netFabCtl NET_FAB_CTL_VC0_EN 1).mayRebase = false ∧
       (s.setFld timCtl TIM_CTL_ACQUIRE 1).flag timCtl TIM_CTL_ACQUIRE = true) ∧
    (let s := ready (cRoutes, leBytes 16 1)
     s.arg 0 0 1 = 1 ∧ s.flag netUnsStat NET_UNS_STAT_DRAINED = true ∧
       (s.setFld netUnsStat NET_UNS_STAT_DRAINED 0).flag netUnsStat NET_UNS_STAT_DRAINED = false ∧
       ((started s 0 cRoutes).fwRead (s.arg 0 8 8) 32768 []).1.drained = true) ∧
    (let s := ready (cRoutes, leBytes 16 2)
     s.saf.notices = [] ∧ s.fw.out = [] ∧ s.fld ctlTxring CTL_TXRING_TAIL = s.fld ctlTxring CTL_TXRING_HEAD) := by decide +kernel

/-- With a message of mailbox 0 in the send queue. -/
def outMsg (s : State) (at_ : Nat) : State := { s with fw := { s.fw with out := [⟨5, [], 1, some 0, at_⟩] } }

theorem witness_MessageAndRunCommands :
    (let s := ready (cMsgSend, leBytes 8 4095)
     s.flag netUnsCtl NET_UNS_CTL_INJECT_STOP = true ∧ s.fw.out = [] ∧
       (s.setFld netUnsCtl NET_UNS_CTL_INJECT_STOP 0).flag netUnsCtl NET_UNS_CTL_INJECT_STOP = false) ∧
    QuietPort32 ((ready (cMsgSend, leBytes 8 4095)).setFld netUnsCtl NET_UNS_CTL_INJECT_STOP 0) ∧
    (∀ a ∈ [2, 3], (outMsg (running (cMsgSend, [])) a).fw.out.find? (fun o => decide (o.mb = some 0 ∧ 2 ≤ o.at_)) = some ⟨5, [], 1, some 0, a⟩) ∧
    (outMsg (running (cMsgSend, [])) 1).fw.out.find? (fun o => decide (o.mb = some 0 ∧ 2 ≤ o.at_)) = none ∧
    (let s := running (cMsgRecv, [])
     s.fw.hostMsgs = [] ∧ { s with fw := { s.fw with hostMsgs := [(5, [1]), (6, [])] } }.fw.hostMsgs = (5, [1]) :: [(6, [])]) ∧
    (let s := running (cInputDone, leBytes 8 0)
     s.fw.prog.isSome = true ∧ (s.fw.prog.map fun p => p.inputs[s.arg 0 0 2]?) = some (some (0, 64)) ∧
       s.mem.hostq.any (fun q => q.write && !q.bar0) = false ∧
       ([⟨false, true, 0, 1, [0], false, [], false⟩] : List HostReq).any (fun q => q.write && !q.bar0) = true) ∧
    (let s := ((running (cCurtain, [])).setFld safStat SAF_STAT_STATE 1)
     s.fld safStat SAF_STAT_STATE ≠ 0 ∧ s.anyRunning = false ∧ s.flag netFabCtl NET_FAB_CTL_VC0_EN = false ∧
       (∀ n : Fin 8, ∀ x ∈ (s.chan n).streams.toList, x.busy = false)) ∧ (running (cCurtain, [])).fld safStat SAF_STAT_STATE = 0 ∧
    (ready (cHoldAtInt, [])).coordinates = true ∧ (withProg (ready (cHoldAtInt, [])) 1 [5, 0]).coordinates = false ∧
    (let s := ((ready (cRelease, [])).setFld safCtl SAF_CTL_ARMED 1).setFld safStat SAF_STAT_STATE 1
     s.flag safCtl SAF_CTL_ARMED = true ∧ s.saf.haltSteps = false ∧ s.fld safStat SAF_STAT_STATE = 1 ∧ s.pwr.gated = false ∧
       (s.setFld safStat SAF_STAT_STATE 2).fld safStat SAF_STAT_STATE = 2 ∧
       (s.setFld (chStatus 0) CH_STATUS_STATE stFault).fld (chStatus 0) CH_STATUS_STATE = stFault) := by unfold QuietPort32; decide +kernel

/-- START may go on: channel 0 has code and is idle, VC0 is enabled, and the device is in time. -/
def mayStart : State :=
  (((ready (cStart, leBytes 24 512000000)).setFld (chStatus 0) CH_STATUS_STATE stIdle).setFld netFabCtl NET_FAB_CTL_VC0_EN 1).setFld
    timStat TIM_STAT_STATE 4

theorem witness_LoadStartRestore :
    (let s := mayStart
     s.fw.prog ≠ none ∧ (∀ n ∈ s.codedChans, s.fld (chStatus n) CH_STATUS_STATE = stIdle) ∧ s.flag netFabCtl NET_FAB_CTL_VC0_EN = true ∧
       s.fld timStat TIM_STAT_STATE = 4 ∧ (s.setFld timStat TIM_STAT_STATE 2).fld timStat TIM_STAT_STATE = 2 ∧ s.codedChans = [0] ∧
       (s.setFld pwrArith (PWR_ARITH_LOCKED 0) 1).flag pwrArith (PWR_ARITH_LOCKED 0) = true ∧
       (s.setFld pwrArith (PWR_ARITH_LOCKED 0) 0).flag pwrArith (PWR_ARITH_LOCKED 0) = false ∧
       ((s.setFld pwrArith (PWR_ARITH_LOCKED 0) 1).applyList [1, 2]).startOk 0 = true ∧ (s.chan 0).flight = []) ∧
    (ready (cStart, leBytes 24 512000000)).flag netFabCtl NET_FAB_CTL_VC0_EN = false ∧
    (running (cStart, [])).fw.run = none ∧
    (∀ p ∈ [1, 3, 4, 6], let s := (running (cRestore, leBytes 76 0)).modMb 0 fun x => { x with phase := p }
     s.fw.mb[(0 : Fin 16)].phase = p ∧ (∀ i < 5, s.restoreFlag 0 i = false)) ∧
    (let s := running (cRestore, leBytes 76 (2 ^ (56 * 8 + 4)))
     let s := { s with fw := { s.fw with int := { s.fw.int with copyDone := [1] } } }
     s.restoreFlag 0 4 = true ∧ s.tookCopy 0 1 = true) := by decide +kernel

/-- A change of power state under way since tick 0, which mailbox 0 asked for. -/
def changing (was to_ : Nat) : State :=
  let s := (mailed memOn 2 0x0031 8 (leBytes 8 to_)).setFld pwrState PWR_STATE_STATE was
  { s with pwr := { s.pwr with change := some (to_, 0, some 0) } }

theorem witness_ResetPowerAndReports :
    (∀ x ∈ [(Instr.resetSoft 0, 0, 0), (.resetChn 0, 1, 7), (.resetLnk 0, 2, 23)], let s := ready (cReset, leBytes 8 (x.2.1 + 256 * x.2.2))
     (x.1, x.2.1) ∈ [(Instr.resetSoft 0, 0), (.resetChn 0, 1), (.resetLnk 0, 2)] ∧ s.arg 0 0 1 = x.2.1 ∧ s.pwr.gated = false ∧
       { s with pwr := { s.pwr with gated := true } }.pwr.gated = true) ∧
    (∀ p ∈ [0, 2], let s := ready (cSetPower, leBytes 8 p)
     s.pwr.change = none ∧ s.fld pwrState PWR_STATE_STATE = 0 ∧ s.arg 0 0 1 = p) ∧
    (running (cSetPower, [2])).pwr.change = none ∧ (changing 0 2).pwr.change = some (2, 0, some 0) ∧ (changing 0 2).pwr.change ≠ none ∧
    (∀ x ∈ [(0, 2), (2, 0), (0, 1)], ((changing x.1 x.2).wr timNow (BitVec.ofNat 64 (powerTicks x.1 x.2 - 1))).now < 0 + powerTicks x.1 x.2) ∧
    (∀ x ∈ [(0, 2), (2, 0), (2, 1), (0, 1)], let s := (changing x.1 x.2).wr timNow (BitVec.ofNat 64 (powerTicks x.1 x.2))
     s.pwr.change = some (x.2, 0, some 0) ∧ s.fld pwrState PWR_STATE_STATE = x.1 ∧ 0 + powerTicks x.1 x.2 ≤ s.now ∧ s.mbState 0 = 2 ∧
       s.mbOp 0 = 0x0031) ∧
    ((fins 8).all fun n => ((changing 0 2).chan n).streams.toList.all fun x => !x.busy) = true ∧
    (∃ n : Fin 8, ∃ x ∈ ((engine (changing 0 2) 23 lastEntries).chan n).streams.toList, x.busy = true) ∧ 0x0031 = cSetPower.op :=
  ⟨by decide +kernel, by decide +kernel, by decide +kernel, by decide +kernel, by decide +kernel, by decide +kernel, by decide +kernel, by decide +kernel,
    ⟨0, lastEntries, by decide +kernel, rfl⟩, rfl⟩

/-! ### Boot, resets and the host -/

theorem witness_BootUpdateAndKeys :
    State.reset.heldReset = false ∧ State.reset.fld ctlBoot CTL_BOOT_MODE = 1 ∧ (∀ c < 5, State.reset.isRetired 7 c = false) ∧
    (let s := memOn.setFld ctlBoot CTL_BOOT_MODE 3
     s.heldReset = false ∧ s.fld ctlBoot CTL_BOOT_MODE = 3 ∧ s.flag mcStatus MC_STATUS_INIT_DONE = true) ∧
    State.reset.fwCheck [] = 0x0301 ∧
    (∀ x ∈ [(memOn, 1, 0x8000), (memOn, 2, 2 ^ 64 - 1), (State.reset, 1, (0x8000 : Nat))],
      let s := (mailed x.1 x.2.1 0x00F0 16 (leBytes 8 0 ++ leBytes 8 x.2.2)).setFld ctlBoot CTL_BOOT_MODE 2
      s.heldReset = false ∧ s.fld ctlBoot CTL_BOOT_MODE = 2 ∧ s.mbOp 0 = 0x00F0 ∧ s.mbState 0 = x.2.1 ∧ leAt s.fw.mb[(0 : Fin 16)].cmd 2 2 = 0 ∧
        leAt s.fw.mb[(0 : Fin 16)].cmd 8 8 = 0 ∧ leAt s.fw.mb[(0 : Fin 16)].cmd 4 4 = 16 ∧ inMem (s.arg 0 0 8) (s.arg 0 8 8) = decide (x.2.2 = 0x8000)) ∧
    memOn.memUsable = true ∧ State.reset.memUsable = false := by decide +kernel

/-- SHAKE256 of nothing (FIPS 202's published example value begins so). -/
theorem test_shake256 : shake256 [] 4 = [0x46, 0xB9, 0xDD, 0x2B] := by decide +kernel

/-- In MOD, and in POR. -/
def inMod : State := { State.reset with pwr := { State.reset.pwr with mod := true } }
def inPor : State := { State.reset with pwr := { State.reset.pwr with por := true } }

theorem witness_DeviceResets : State.reset.heldReset = false ∧ inMod.pwr.mod = true ∧ inMod.pwr.por = false ∧ inMod.heldReset = true ∧
    inPor.heldReset = true ∧ State.reset.fld pwrState PWR_STATE_STATE ≠ 2 ∧
    (∀ off ∈ [chCtl 0, netFabCtl, lnkCtl 23, ctlChipId, timNow, pwrVin], (locate off).isSome = true ∧ (∀ n : Fin 8, off ≠ chStatus n) ∧
      off ∉ [netRoute 0, netUnsStat, brdStrap, brdI3c, brdPin, pwrReset]) ∧
    0x01000000 ≤ chCtl 0 ∧ chCtl 0 < 0x01800000 ∧ 0x03000000 ≤ netFabCtl ∧ lnkCtl 23 < 0x05000000 ∧ State.reset.pwr.mod = false := by decide +kernel

/-- A vector can be sent at once. -/
def msixOn : State := { State.reset with host := { State.reset.host with msixEnable := true, busMaster := true } }

theorem witness_UnitResetsAndHostLink : State.reset.heldReset = false ∧ State.reset.pwr.gated = false ∧ State.reset.lstate 23 = lsOff ∧
    up23.lstate 23 ≠ lsOff ∧ lsInit ≤ up23.lstate 23 ∧ State.reset.hostUp = true ∧
    (State.reset.arb (.mem 127)).reqs[((7 : Fin 8).castLE (by decide) : Fin 10)].masked = false ∧
    msixOn.host.msixEnable = true ∧ msixOn.host.busMaster = true ∧ msixOn.flag ctlHostAlert (bitF 24) = false ∧
    (st ctlHostAlert (bitF 25) 1).flag ctlHostAlert (bitF 25) = true ∧
    (let u := msixOn.setFld (msixTable 7) (bitF 32) 0
     u.vectorMasked 3 = false) ∧ (msixOn.setFld (msixTable 7) (bitF 32) 1).vectorMasked 3 = true ∧
    (msixOn.setFld msixPba (bitF 3) 1).flag msixPba (bitF 3) = true ∧ msixOn.flag msixPba (bitF 0) = false ∧ msixOn.host.msixMask = false ∧
    (st ctlPcieStat CTL_PCIE_STAT_SPEED 6).fld ctlPcieStat CTL_PCIE_STAT_SPEED ≠ 0 ∧ inBlock 7 (chStatus 0) = false ∧
    (locate (chSrSeed 7)).map (fun x => x.2.1) = some 7 ∧ chSrSeed 7 ≠ chStatus 7 ∧
    (∀ c, chSrSeed 7 ≠ arbStatOf (.mem c)) := by decide +kernel

theorem witness_RegisterWriteAccess : State.reset.heldReset = false ∧ State.reset.pwr.gated = false ∧ State.reset.mem.hostq = [] ∧
    State.reset.host.d3 = false ∧
    (let s : State := { State.reset with host := { State.reset.host with d3 := true } }
     s.heldReset = false ∧ s.pwr.gated = false ∧ s.mem.hostq = [] ∧ s.host.d3 = true) ∧
    (∀ k ∈ [chSrSeed 7, pwrResurvey, lnkEvent 23, pwrThermCtl, netTelemCtl], k % 8 = 0 ∧ ((locate k).map fun x => plainKind x.1) = some true) ∧
    (0x0100_0002 : Nat) % 4 ≠ 0 ∧ 0x100000 + 0x4000 * 15 ≤ (0x13CFF8 : Nat) ∧ (0x13CFF8 : Nat) + 8 ≤ 0x101000 + 0x4000 * 15 ∧
    (0x1000 : Nat) < 0x100FFE % 0x4000 + 4 ∧ (0x100FFE : Nat) % 4 ≠ 0 := by decide +kernel

/-- The state after reset with a change of what VIN, the supplies and the rails hold. -/
def dipping (f : PwrSt → PwrSt) : State := State.reset.modPwr f

/-- In hold-up since power-on tick 0. -/
def holding (f : PwrSt → PwrSt) : State :=
  ((st pwrVin PWR_VIN_BELOW_WARN 1).setFld pwrVin PWR_VIN_HOLDUP 1).modPwr fun p => f { p with dip := some 0 }

theorem witness_SuppliesAndClocks :
    inPor.pwr.por = true ∧ State.reset.pwr.por = false ∧ State.reset.pwr.mod = false ∧
    ((dipping fun p => { p with warnRun := 3 }).pwr.warnRun = 3 ∧ State.reset.flag pwrVin PWR_VIN_BELOW_WARN = false) ∧
    (let s := holding fun p => { p with okRun := 3 }
     s.pwr.okRun = 3 ∧ s.flag pwrVin PWR_VIN_BELOW_WARN = true ∧ s.holdupOut = false ∧ s.flag pwrVin PWR_VIN_HOLDUP = true ∧ s.pwr.porAt = none) ∧
    (holding fun p => { p with onTicks := 2000000 }).holdupOut = true ∧ (holding fun p => { p with onTicks := 1999999 }).holdupOut = false ∧
    (dipping fun p => { p with resetRun := 3, ovRun := 3 }).pwr.resetRun = 3 ∧ (dipping fun p => { p with ovRun := 3 }).pwr.ovRun = 3 ∧
    (∀ t ∈ [199999, 200000], (dipping fun p => { p with porAt := some 200000, onTicks := t }).pwr.porAt = some 200000 ∧
      (dipping fun p => { p with porAt := some 200000, onTicks := t }).pwr.onTicks = t) ∧
    State.reset.pwr.gated = false ∧
    (let set := State.reset.fld (pwrRail 11) PWR_RAIL_SET
     97 * set ≤ 100 * (BitVec.ofNat 10 set).toNat ∧ 100 * (BitVec.ofNat 10 set).toNat ≤ 103 * set ∧ ¬ 97 * set ≤ 100 * (0 : BitVec 10).toNat) ∧
    (let s := inPor.modPwr fun p => { p with okRun := 10000 }
     s.pwr.por = true ∧ s.fld pwrClk PWR_CLK_LOST % 8 = 0 ∧ 10000 ≤ s.pwr.okRun) ∧
    ¬ (10000 ≤ (inPor.modPwr fun p => { p with okRun := 9999 }).pwr.okRun) ∧
    getF (setF (State.reset.rd pwrArith) (PWR_ARITH_STEP 7) 6) (PWR_ARITH_STEP 7) = 6 ∧ State.reset.fld pwrArith (PWR_ARITH_STEP 7) = 7 ∧
    State.reset.fld pwrArith PWR_ARITH_TOP_STEP = 7 ∧ (st pwrArith PWR_ARITH_TOP_STEP 6).fld pwrArith PWR_ARITH_TOP_STEP = 6 ∧
    State.reset.running 7 = false ∧ (st (chStatus 7) CH_STATUS_STATE stRunning).running 7 = true ∧
    State.reset.heldReset = false ∧ inMod.pwr.mod = true ∧ inMod.pwr.por = false ∧
    State.reset.timLost = false ∧ (st timStat TIM_STAT_REFCLK_LOST 1).timLost = true ∧ (st timStat TIM_STAT_REFCLK_LOST 1).heldReset = false ∧
    inPor.heldReset = true := by decide +kernel

/-- Rail `r` at 200 asks for `goal`; it stepped at tick 0, and a tick is `t`. -/
def asking (r goal t : Nat) : State :=
  ((State.reset.modPwr fun p => { p with goal := [(r, goal)], railTick := [(r, 0)] }).setFld (pwrRail r) PWR_RAIL_SET 200).wr timNow (BitVec.ofNat 64 t)

theorem witness_HeatAndAgeing : State.reset.heldReset = false ∧
    (∀ g : Fin 7, let l := State.reset.heatLimits g; l.1 < l.2 ∧ (l.2 : Int) < tripPoint g) ∧
    (∀ x ∈ [(5, 1023), (5, 201), (5, 10), (7, 1), (19, 600), (19, 10), (8, 10), (5, (200 : Nat))], let s := asking x.1 x.2 10000
     s.heldReset = false ∧ kget (fun _ => 0) s.pwr.goal x.1 = x.2 ∧ x.2 ≠ 0 ∧ x.2 < 2 ^ 10 ∧ s.fld (pwrRail x.1) PWR_RAIL_SET = 200 ∧
       (∀ e ∈ s.pwr.railTick, e.1 = x.1 → e.2 + 10000 ≤ s.now) ∧ s.running 5 = false) ∧
    ((asking 0 10 10000).setFld (chStatus 0) CH_STATUS_STATE stRunning).running 0 = true ∧
    kget (fun _ => 0) State.reset.pwr.goal 0 = 0 ∧ (serving memOn).fld ctlBoot CTL_BOOT_MODE = 0 ∧
    (st ctlBoot CTL_BOOT_MODE 3).fld ctlBoot CTL_BOOT_MODE = 3 ∧ State.reset.fld ctlBoot CTL_BOOT_MODE = 1 := by decide +kernel

theorem witness_I3cTarget : State.reset.heldReset = false ∧
    (∀ x ∈ [(1, 0, 5), (2, pwrCap, 13), (2, pwrThermCtl, 13), (2, 0x09001000, (13 : Nat))], let b := leBytes 1 x.1 ++ leBytes (x.2.2 - 1) x.2.1
     b.length = x.2.2 ∧ leAt b 0 1 = x.1 ∧ leAt b 1 4 = x.2.1 ∧ x.2.1 % 8 = 0) ∧
    (st brdI3c BRD_I3C_WRITE_EN 1).flag brdI3c BRD_I3C_WRITE_EN = true ∧ (st brdI3c BRD_I3C_WRITE_EN 0).flag brdI3c BRD_I3C_WRITE_EN = false ∧
    State.reset.brd.status = 0 ∧ (∀ x ∈ [1, 2], { State.reset.brd with status := x }.status = x) ∧ onComputeDie (chCtl 7) = true ∧
    inMod.heldReset = true ∧ (State.reset.modPwr fun p => { p with gated := true }).pwr.gated = true ∧ { State.reset.brd with sel := some 0x10, status := 0 }.sel = some 0x10 ∧ i3cReads 0x10 = false ∧
    i3cReads 8 = true ∧ i3cReads 0x09000FF8 = true ∧ i3cReads 0x09001000 = false ∧ State.reset.pwr.gated = false ∧ State.reset.brd.sel = none ∧
    State.reset.flag brdI3c BRD_I3C_DYN_VALID = false ∧ (st brdI3c BRD_I3C_DYN_VALID 1).flag brdI3c BRD_I3C_DYN_VALID = true ∧
    (BitVec.ofNat 7 (State.reset.fld brdI3c BRD_I3C_STATIC_ADDR)).toNat = State.reset.fld brdI3c BRD_I3C_STATIC_ADDR ∧
    (let s := { st brdI3c BRD_I3C_IBI_EN 1 with ibi := 8 }
     s.ibi ≠ 0 ∧ s.flag brdI3c BRD_I3C_IBI_EN = true) := by decide +kernel

/-- Core `c` runs, and the debug module is active, selects it and has it halted or not. -/
def debugged (c : Fin 5) (halt : Bool) : State :=
  let s := st (ctlCore c) CTL_CORE_STATE 1
  { s with brd := { s.brd with dbg := { s.brd.dbg with active := true, hart := c } },
           fw := { s.fw with cores := s.fw.cores.set c { s.fw.cores[c] with halted := halt } } }

theorem witness_TestAccessPort : State.reset.pwr.por = false ∧ armed0.pwr.por = false ∧ armed0.flag safCtl SAF_CTL_ARMED = true ∧
    State.reset.flag safCtl SAF_CTL_ARMED = false ∧ State.reset.flag brdJtag BRD_JTAG_DEBUG_LOCK = false ∧
    (st brdJtag BRD_JTAG_DEBUG_LOCK 1).flag brdJtag BRD_JTAG_DEBUG_LOCK = true ∧
    (∀ c ∈ [0x05, 0x0F, 0x12, 0xFF], c ∉ [0x00, 0x01, 0x02, 0x03, 0x04, 0x10, 0x11]) ∧
    (∀ c : Fin 5, ∀ h : Bool, let s := debugged c h
      s.flag safCtl SAF_CTL_ARMED = false ∧ s.flag brdJtag BRD_JTAG_DEBUG_LOCK = false ∧ s.fld (ctlCore c) CTL_CORE_STATE = 1 ∧
        s.brd.dbg.active = true ∧ s.brd.dbg.cmdErr = 0 ∧ s.brd.dbg.hart = c.val ∧ s.fw.cores[c].halted = h) := by decide +kernel

/-! ### The machine -/

/-- A command waits. -/
def queued (l : List Instr) : State := { State.reset with pending := l }

theorem witness_StepRunsFront : (queued [.flr, .por]).pending = .flr :: [.por] ∧ State.reset.pending = [] ∧ inPor.pwr.por = true ∧
    inPor.pending = [] ∧ inMod.pwr.por = false ∧ inMod.pwr.mod = true ∧ State.reset.heldReset = false ∧ State.reset.fw.resetAt = [] ∧
    State.reset.mem.hostq = [] ∧ State.reset.fwRuns = false ∧ State.reset.flag mcHostwin MC_HOSTWIN_RATE_EN = false ∧
    7 * (State.reset.now + 1) / 8 = State.reset.slotNow ∧ (∀ n : Fin 8, (State.reset.chan n).held = none ∧
      (∀ x ∈ (State.reset.chan n).streams.toList, x.up = [] ∧ x.down = []) ∧ (∀ q < 24, ((State.reset.chan n).stream q).desc = none) ∧
      ∀ q : Fin 8, ∀ d ∈ (State.reset.chan n).txq[q], d.n ≤ d.data.length) := by decide +kernel

/-- A step with a command in front is that command. -/
theorem test_step_front : step (queued [.d3hotEntry]) = .next { State.reset with host := { State.reset.host with d3 := true } } := rfl

theorem witness_InvariantKept : State.reset.Inv := by
  refine ⟨by decide +kernel, by decide +kernel, by decide +kernel, fun n => ?_⟩
  have h : State.reset.chan n = Chan.reset := by revert n; decide +kernel
  rw [h]
  exact ⟨by decide +kernel, by decide +kernel, by decide +kernel, by decide +kernel, by decide +kernel, by decide +kernel⟩

theorem witness_FusesAndPlacementHold :
    (let s := { st netPlace NET_PLACE_LOCK 1 with fw := { State.reset.fw with slot1 := some [], svnMin := 3 }, pending := [.flr] }
     s.heldReset = false ∧ s.flag netPlace NET_PLACE_LOCK = true ∧ s.fw.slot1 ≠ none ∧ (match step s with | .next _ => true | _ => false) = true) := by decide +kernel

end Sys2Proof.Tests
end

section
/-!
What a state keeps (R9, R34, R483): the part of it that only a few commands touch, and that an update of anything else leaves.
-/

namespace Sys2Proof.Machine

/-- What a state carries of the commands that wait, the fuses (R483) and the placement (R34). -/
structure Kept where
  pending : List Instr
  slot1 : Option (List Byte)
  svnMin : Nat
  place : Word64

def State.kept (s : State) : Kept := ⟨s.pending, s.fw.slot1, s.fw.svnMin, s.rd netPlace⟩

theorem State.kept_eq {s t : State} (hp : t.pending = s.pending) (h1 : t.fw.slot1 = s.fw.slot1) (hm : t.fw.svnMin = s.fw.svnMin)
    (hr : t.regs = s.regs) : t.kept = s.kept := by
  simp only [State.kept, State.rd, hp, h1, hm, hr]

@[simp] theorem State.kept_ite (c : Prop) [Decidable c] (s t : State) : (if c then s else t).kept = if c then s.kept else t.kept :=
  apply_ite State.kept c s t

/-- An update of the state that leaves the registers, and of the others what `kept` shows, keeps it. -/
@[simp] theorem State.kept_update (s : State) (before : KMap Word64) (pending : List Instr) (free : Nat) (ch : Vector Chan 8) (mem : MemSt)
    (arbs : KMap Arb) (net : NetSt) (lnk : Vector LinkSt 24) (tim : TimSt) (saf : SafSt) (fw : FwSt) (host : HostSt) (pwr : PwrSt) (brd : BrdSt)
    (signals : List (Nat × Nat)) (ibi : Nat) (hp : pending = s.pending) (h1 : fw.slot1 = s.fw.slot1) (hm : fw.svnMin = s.fw.svnMin) :
    State.kept ⟨s.regs, before, pending, free, ch, mem, arbs, net, lnk, tim, saf, fw, host, pwr, brd, signals, ibi⟩ = s.kept :=
  State.kept_eq (s := s) hp h1 hm rfl

theorem kept_of_fst {α : Type} {p : State × α} {t : State} {a : α} {k : Kept} (hp : p.1.kept = k) (h : p = (t, a)) : t.kept = k := by
  rw [← hp, h]

@[simp] theorem State.foldl_kept {α : Type} (f : State → α → State) (l : List α) (h : ∀ s x, (f s x).kept = s.kept) (s : State) :
    (l.foldl f s).kept = s.kept := by
  induction l generalizing s with
  | nil => rfl
  | cons x l ih => rw [List.foldl_cons, ih, h]

theorem State.foldl_fst_kept {α β : Type} (f : State × β → α → State × β) (l : List α) (h : ∀ p x, (f p x).1.kept = p.1.kept) (p : State × β) :
    (l.foldl f p).1.kept = p.1.kept := by
  induction l generalizing p with
  | nil => rfl
  | cons x l ih => rw [List.foldl_cons, ih, h]

@[simp] theorem State.wr_kept (s : State) (off : Nat) (v : Word64) (h : off ≠ netPlace) : (s.wr off v).kept = s.kept := by
  simp only [State.kept, State.wr_pending, State.wr_fw, State.rd_wr_other _ _ _ _ h.symm]

end Sys2Proof.Machine
end

section
/-!
No register but NET_PLACE stands at the offset of NET_PLACE.
-/

namespace Sys2Proof.Machine

@[simp] theorem hostRegs_ne_netPlace :
    ctlChipId ≠ netPlace ∧ (∀ i, mbSubmit i ≠ netPlace) ∧ (∀ i, mbStatus i ≠ netPlace) ∧ (∀ i, mbAbort i ≠ netPlace) ∧
    (∀ i, msixTable i ≠ netPlace) ∧ msixPba ≠ netPlace := by
  and_intros <;> intros <;> simp only [netPlace, ctlChipId, mbSubmit, mbStatus, mbAbort, msixTable, msixPba] <;> omega

@[simp] theorem channelRegs_ne_netPlace :
    (∀ i, chCtl i ≠ netPlace) ∧ (∀ i, chStatus i ≠ netPlace) ∧ (∀ i, chFault i ≠ netPlace) ∧ (∀ i, chOverrun i ≠ netPlace) ∧
    (∀ i, chTeMap i ≠ netPlace) ∧ (∀ i, chShadow i ≠ netPlace) ∧ (∀ i, chBankMap i ≠ netPlace) ∧ (∀ i, chArithCtl i ≠ netPlace) ∧
    (∀ i, chArithFlags i ≠ netPlace) ∧ (∀ i, chSrSeed i ≠ netPlace) ∧ (∀ i, chSrRank i ≠ netPlace) ∧ (∀ i, chXslotCtl i ≠ netPlace) ∧
    (∀ i, chXslotStat i ≠ netPlace) ∧ (∀ i j, chQRing i j ≠ netPlace) ∧ (∀ i j, chQCount i j ≠ netPlace) ∧ (∀ i j, chNqStatus i j ≠ netPlace) ∧
    (∀ i j, chCue i j ≠ netPlace) ∧ (∀ i j, chXcap i j ≠ netPlace) ∧ (∀ i j, chXdrop i j ≠ netPlace) := by
  and_intros <;> intros <;> simp only [netPlace, chCtl, chStatus, chFault, chOverrun, chTeMap, chShadow, chBankMap, chArithCtl, chArithFlags,
      chSrSeed, chSrRank, chXslotCtl, chXslotStat, chQRing, chQCount, chNqStatus, chCue, chXcap, chXdrop] <;> omega

@[simp] theorem memoryRegs_ne_netPlace :
    mcStatus ≠ netPlace ∧ mcScrubCtl ≠ netPlace ∧ mcHostwin ≠ netPlace ∧ mcLendStat ≠ netPlace ∧ (∀ i, mcSeErr i ≠ netPlace) ∧
    (∀ i, mcChStatus i ≠ netPlace) ∧ (∀ i, mcChEcc i ≠ netPlace) ∧ (∀ i, mcChErr i ≠ netPlace) ∧ (∀ i, mcRemapSel i ≠ netPlace) ∧
    (∀ i, mcRemapData i ≠ netPlace) ∧ (∀ i, arbCtlM i ≠ netPlace) ∧ (∀ i, arbCtlB i ≠ netPlace) ∧ (∀ i, arbPrioM i ≠ netPlace) ∧
    (∀ i, arbPrioB i ≠ netPlace) ∧ (∀ i, arbStatM i ≠ netPlace) ∧ (∀ i, arbStatB i ≠ netPlace) ∧ (∀ i j, arbCntM i j ≠ netPlace) ∧
    (∀ i j, arbCntB i j ≠ netPlace) ∧ (∀ i j, arbLongestM i j ≠ netPlace) ∧ (∀ i j, arbLongestB i j ≠ netPlace) := by
  and_intros <;> intros <;> simp only [netPlace, mcStatus, mcScrubCtl, mcHostwin, mcLendStat, mcSeErr, mcChStatus, mcChEcc, mcChErr, mcRemapSel,
      mcRemapData, arbCtlM, arbCtlB, arbPrioM, arbPrioB, arbStatM, arbStatB, arbCntM, arbCntB, arbLongestM, arbLongestB] <;> omega

@[simp] theorem networkRegs_ne_netPlace :
    netFabCtl ≠ netPlace ∧ netFabStat ≠ netPlace ∧ netSwapTick ≠ netPlace ∧ netVc0Fault ≠ netPlace ∧ netVc0FaultTick ≠ netPlace ∧
    netMapStat ≠ netPlace ∧ (∀ i, netPortMap i ≠ netPlace) ∧ (∀ i, netPortHop i ≠ netPlace) ∧ (∀ i, netVc0Err i ≠ netPlace) ∧
    (∀ i, netVc0Cnt i ≠ netPlace) ∧ (∀ i, netRxWatch i ≠ netPlace) ∧ (∀ i j, netCircuit i j ≠ netPlace) ∧ (∀ i, netRoute i ≠ netPlace) ∧
    netUnsCtl ≠ netPlace ∧ netUnsStat ≠ netPlace ∧ netFlowClear ≠ netPlace ∧ netTelemCtl ≠ netPlace ∧ netTelemStat ≠ netPlace ∧
    (∀ i, netUnsDrop0 i ≠ netPlace) ∧ (∀ i, netUnsDrop1 i ≠ netPlace) ∧ (∀ i j, netTelemHist i j ≠ netPlace) ∧
    (∀ i, netTelemDrops i ≠ netPlace) := by
  and_intros <;> intros <;> simp only [netPlace, netFabCtl, netFabStat, netSwapTick, netVc0Fault, netVc0FaultTick, netMapStat, netPortMap,
      netPortHop, netVc0Err, netVc0Cnt, netRxWatch, netCircuit, netRoute, netUnsCtl, netUnsStat, netFlowClear, netTelemCtl, netTelemStat,
      netUnsDrop0, netUnsDrop1, netTelemHist, netTelemDrops] <;> omega

@[simp] theorem linkRegs_ne_netPlace :
    (∀ i, lnkCtl i ≠ netPlace) ∧ (∀ i, lnkStatus i ≠ netPlace) ∧ (∀ i, lnkSeq i ≠ netPlace) ∧ (∀ i, lnkLaneMap i ≠ netPlace) ∧
    (∀ i, lnkLaneCtl i ≠ netPlace) ∧ (∀ i, lnkEvent i ≠ netPlace) ∧ (∀ i, lnkErr0 i ≠ netPlace) ∧ (∀ i, lnkErr1 i ≠ netPlace) ∧
    (∀ i, lnkErr2 i ≠ netPlace) ∧ (∀ i, lnkLaneErr i ≠ netPlace) ∧ (∀ i, lnkPeer i ≠ netPlace) ∧ (∀ i j, lnkCredTx i j ≠ netPlace) ∧
    (∀ i j, lnkCredRx i j ≠ netPlace) ∧ (∀ i, lnkPhyStatus i ≠ netPlace) ∧ (∀ i, lnkSurvey i ≠ netPlace) ∧ (∀ i, lnkMarginCtl i ≠ netPlace) ∧
    (∀ i j, lnkMargin i j ≠ netPlace) ∧ (∀ i j, lnkLaser i j ≠ netPlace) := by
  and_intros <;> intros <;> simp only [netPlace, lnkCtl, lnkStatus, lnkSeq, lnkLaneMap, lnkLaneCtl, lnkEvent, lnkErr0, lnkErr1, lnkErr2,
      lnkLaneErr, lnkPeer, lnkCredTx, lnkCredRx, lnkPhyStatus, lnkSurvey, lnkMarginCtl, lnkMargin, lnkLaser] <;> omega

@[simp] theorem timeRegs_ne_netPlace :
    timNow ≠ netPlace ∧ timCtl ≠ netPlace ∧ timServo ≠ netPlace ∧ timStat ≠ netPlace ∧ timRefused ≠ netPlace ∧ timTrim ≠ netPlace ∧
    timRebaseAt ≠ netPlace ∧ timRebaseTo ≠ netPlace ∧ (∀ i, timLink i ≠ netPlace) ∧ (∀ i, timCnt i ≠ netPlace) := by
  and_intros <;> intros <;> simp only [netPlace, timNow, timCtl, timServo, timStat, timRefused, timTrim, timRebaseAt, timRebaseTo, timLink,
      timCnt] <;> omega

@[simp] theorem safetyRegs_ne_netPlace :
    safCtl ≠ netPlace ∧ safStat ≠ netPlace ∧ safFault ≠ netPlace ∧ safFirst ≠ netPlace ∧ safFirstTick ≠ netPlace ∧ safRaise ≠ netPlace ∧
    safKick ≠ netPlace ∧ safNotice ≠ netPlace ∧ safLockViolCount ≠ netPlace ∧ safRegion ≠ netPlace ∧ safInt ≠ netPlace ∧
    (∀ i j, safSramEcc i j ≠ netPlace) := by
  and_intros <;> intros <;> simp only [netPlace, safCtl, safStat, safFault, safFirst, safFirstTick, safRaise, safKick, safNotice,
      safLockViolCount, safRegion, safInt, safSramEcc] <;> omega

@[simp] theorem controlRegs_ne_netPlace :
    ctlBoot ≠ netPlace ∧ ctlFwVersion ≠ netPlace ∧ (∀ i, ctlCore i ≠ netPlace) ∧ (∀ i, ctlPostAddr i ≠ netPlace) ∧
    (∀ i, ctlPostData i ≠ netPlace) ∧ ctlPostStat ≠ netPlace ∧ ctlRxring ≠ netPlace ∧ ctlTxring ≠ netPlace ∧ ctlPcieStat ≠ netPlace ∧
    ctlHostAlert ≠ netPlace ∧ ctlHostRaise ≠ netPlace := by
  and_intros <;> intros <;> simp only [netPlace, ctlBoot, ctlFwVersion, ctlCore, ctlPostAddr, ctlPostData, ctlPostStat, ctlRxring, ctlTxring,
      ctlPcieStat, ctlHostAlert, ctlHostRaise] <;> omega

@[simp] theorem powerRegs_ne_netPlace :
    pwrState ≠ netPlace ∧ pwrVin ≠ netPlace ∧ pwrSupplyEvt ≠ netPlace ∧ pwrDipLog ≠ netPlace ∧ pwrArith ≠ netPlace ∧ pwrCap ≠ netPlace ∧
    pwrClk ≠ netPlace ∧ pwrThermCtl ≠ netPlace ∧ pwrThermStat ≠ netPlace ∧ pwrResurvey ≠ netPlace ∧ pwrReset ≠ netPlace ∧
    (∀ i, pwrSite i ≠ netPlace) ∧ (∀ i, pwrRail i ≠ netPlace) := by
  and_intros <;> intros <;> simp only [netPlace, pwrState, pwrVin, pwrSupplyEvt, pwrDipLog, pwrArith, pwrCap, pwrClk, pwrThermCtl, pwrThermStat,
      pwrResurvey, pwrReset, pwrSite, pwrRail] <;> omega

@[simp] theorem boardRegs_ne_netPlace :
    brdStrap ≠ netPlace ∧ brdPin ≠ netPlace ∧ brdI3c ≠ netPlace ∧ brdJtag ≠ netPlace := by
  and_intros <;> simp only [netPlace, brdStrap, brdPin, brdI3c, brdJtag] <;> omega

end Sys2Proof.Machine
end

section
/-!
Every operation of the state that the commands are made of keeps that part, in the order of the model.
-/

namespace Sys2Proof.Machine

@[simp] theorem State.setFld_kept (s : State) (off : Nat) (f : Fld) (x : Nat) (h : off ≠ netPlace) : (s.setFld off f x).kept = s.kept :=
  s.wr_kept off _ h

@[simp] theorem State.keepSet_kept (s : State) (off : Nat) (m : Word64) : (s.keepSet off m).kept = s.kept := by
  simp [State.keepSet]

@[simp] theorem State.orBits_kept (s : State) (off : Nat) (m : Word64) (h : off ≠ netPlace) : (s.orBits off m).kept = s.kept :=
  s.wr_kept off _ h

@[simp] theorem State.setFlag_kept (s : State) (off : Nat) (f : Fld) (h : off ≠ netPlace) : (s.setFlag off f).kept = s.kept :=
  s.setFld_kept off f 1 h

@[simp] theorem State.addFld_kept (s : State) (off : Nat) (f : Fld) (x : Nat) (h : off ≠ netPlace) : (s.addFld off f x).kept = s.kept :=
  s.setFld_kept off f _ h

@[simp] theorem State.bump_kept (s : State) (off : Nat) (f : Fld) (h : off ≠ netPlace) : (s.bump off f).kept = s.kept :=
  s.addFld_kept off f 1 h

@[simp] theorem State.maxFld_kept (s : State) (off : Nat) (f : Fld) (x : Nat) (h : off ≠ netPlace) : (s.maxFld off f x).kept = s.kept :=
  s.setFld_kept off f _ h

@[simp] theorem State.take_kept (s : State) (k : Nat) : (s.take k).kept = s.kept := by
  simp [State.take]

@[simp] theorem State.setChan_kept (s : State) (n : Fin 8) (c : Chan) : (s.setChan n c).kept = s.kept := by
  simp [State.setChan]

@[simp] theorem State.aerLog_kept (s : State) (b : Nat) : (s.aerLog b).kept = s.kept := by
  simp [State.aerLog]

@[simp] theorem State.sendVector_kept (s : State) (v : Nat) : (s.sendVector v).kept = s.kept := by
  simp [State.sendVector]

@[simp] theorem State.sendVectors_kept (s : State) (bits : List Nat) : (s.sendVectors bits).kept = s.kept := by
  simp [State.sendVectors]

@[simp] theorem State.alert_kept (s : State) (bits : List Nat) : (s.alert bits).kept = s.kept := by
  unfold State.alert
  dsimp only
  rw [State.sendVectors_kept, State.foldl_kept _ _ fun _ _ => by rfl]
  simp

@[simp] theorem State.showQueues_kept (s : State) (n : Fin 8) : (s.showQueues n).kept = s.kept := by
  simp [State.showQueues]

@[simp] theorem State.noteWaits_kept (s : State) (n : Fin 8) (l : List QueF) : (s.noteWaits n l).kept = s.kept := by
  simp [State.noteWaits]

@[simp] theorem State.endRun_kept (s : State) (n : Fin 8) : (s.endRun n).kept = s.kept := by
  unfold State.endRun
  split <;> simp

@[simp] theorem State.stopRegs_kept (s : State) (n st : Nat) : (s.stopRegs n st).kept = s.kept := by
  simp [State.stopRegs]

@[simp] theorem State.stopDiscard_kept (s : State) (n : Fin 8) (st : Nat) : (s.stopDiscard n st).kept = s.kept := by
  simp [State.stopDiscard]

@[simp] theorem State.stopCue_kept (s : State) (n : Fin 8) (cue : Nat) : (s.stopCue n cue).kept = s.kept := by
  simp [State.stopCue]

@[simp] theorem State.stopKeep_kept (s : State) (n : Fin 8) (st : Nat) : (s.stopKeep n st).kept = s.kept := by
  simp [State.stopKeep]

@[simp] theorem State.setStopAtCue_kept (s : State) (n : Fin 8) : (s.setStopAtCue n).kept = s.kept := by
  unfold State.setStopAtCue
  dsimp only
  repeat' split
  all_goals simp -implicitDefEqProofs

@[simp] theorem State.enterCurtain_kept (s : State) (nt : Notice) : (s.enterCurtain nt).kept = s.kept := by
  simp -implicitDefEqProofs [State.enterCurtain]

@[simp] theorem State.intFail_kept (s : State) (kind : Nat) : (s.intFail kind).kept = s.kept := by
  simp [State.intFail]

@[simp] theorem State.intFault_kept (s : State) (code : Nat) : (s.intFault code).kept = s.kept := by
  simp [State.intFault]

@[simp] theorem State.dropNotice_kept (s : State) : s.dropNotice.kept = s.kept := by
  unfold State.dropNotice
  split <;> simp -implicitDefEqProofs

@[simp] theorem State.fillFirst_kept (s : State) (code unit detail org : Nat) : (s.fillFirst code unit detail org).kept = s.kept := by
  simp [State.fillFirst]

@[simp] theorem State.raiseCause_kept (s : State) (code unit detail : Nat) (origin : Option Notice) :
    (s.raiseCause code unit detail origin).kept = s.kept := by
  unfold State.raiseCause
  extract_lets was same own fill s1 s2 s3 _ s4 s5 _ s6
  have h2 : s2.kept = s.kept := by simp [s2, s1]
  have h3 : s3.kept = s.kept := by simp [s3, h2]
  have h4 : s4.kept = s.kept := by simp [s4, h2, h3]
  have h6 : s6.kept = s.kept := by simp [s6, s5, h4]
  simp [h6]

@[simp] theorem State.showPins_kept (s : State) : s.showPins.kept = s.kept := by
  simp [State.showPins]

@[simp] theorem State.faultChanAt_kept (s : State) (n : Fin 8) (b pc engine cycle : Nat) :
    (s.faultChanAt n b pc engine cycle).kept = s.kept := by
  simp [State.faultChanAt]

@[simp] theorem State.faultChan_kept (s : State) (n : Fin 8) (b : Nat) : (s.faultChan n b).kept = s.kept := by
  simp [State.faultChan]

@[simp] theorem State.overrun_kept (s : State) (n : Fin 8) (kind cue queue detail : Nat) :
    (s.overrun n kind cue queue detail).kept = s.kept := by
  simp [State.overrun]

@[simp] theorem State.eccCount_kept (s : State) (n : Fin 8) (u : Nat) (o : WordOut) : (s.eccCount n u o).kept = s.kept := by
  unfold State.eccCount
  split <;> simp

@[simp] theorem State.eccFound_kept (s : State) (n : Fin 8) (u bit pc cycle : Nat) (o : WordOut) :
    (s.eccFound n u bit pc cycle o).kept = s.kept := by
  unfold State.eccFound
  split <;> simp

@[simp] theorem State.addFlags_kept (s : State) (n : Nat) (f : AFlags) : (s.addFlags n f).kept = s.kept := by
  simp [State.addFlags]

@[simp] theorem State.nextCycle_kept (s : State) : s.nextCycle.kept = s.kept := by
  simp [State.nextCycle]

theorem State.writePlain_kept (s : State) (off : Nat) (v m : Word64) (h : off ≠ netPlace) : (s.writePlain off v m).kept = s.kept := by
  unfold State.writePlain
  split
  · rfl
  · simp [h]

theorem State.writeAll_kept (s : State) (off : Nat) (v : Word64) (h : off ≠ netPlace) : (s.writeAll off v).kept = s.kept :=
  s.writePlain_kept off v _ h

theorem resetWord_netPlace {r : Rst} (h : r ∈ [.hot, .soft, .chn, .lnk]) (d old : Word64) : resetWord r RegKind.netPlace.fields d old = old := by
  have hm : accMask (fun f => rstClears r f.clr) RegKind.netPlace.fields = 0 := by
    revert h; cases r <;> decide
  unfold resetWord
  extract_lets m
  rw [show m = 0#64 from hm, BitVec.and_zero, BitVec.or_zero]
  exact BitVec.and_allOnes

theorem State.resetRegs_kept (s : State) (r : Rst) (scope : Nat → Bool) (h : r ∈ [.hot, .soft, .chn, .lnk]) :
    (s.resetRegs r scope).kept = s.kept := by
  unfold State.resetRegs
  refine State.foldl_kept _ _ (fun s off => ?_) s
  split
  · by_cases ho : off = netPlace
    · subst ho
      have hl : locate netPlace = some (.netPlace, 0, 0) := by decide
      simp only [hl, resetWord_netPlace h, State.kept, State.wr_pending, State.wr_fw, State.rd_wr_same]
    · split
      · exact State.wr_kept _ _ _ ho
      · rfl
  · rfl

@[simp] theorem arbCtlOf_ne_netPlace (a : ArbId) : arbCtlOf a ≠ netPlace := by cases a <;> simp [arbCtlOf]

@[simp] theorem arbPrioOf_ne_netPlace (a : ArbId) : arbPrioOf a ≠ netPlace := by cases a <;> simp [arbPrioOf]

@[simp] theorem arbStatOf_ne_netPlace (a : ArbId) : arbStatOf a ≠ netPlace := by cases a <;> simp [arbStatOf]

@[simp] theorem arbCntOf_ne_netPlace (a : ArbId) (k : Nat) : arbCntOf a k ≠ netPlace := by cases a <;> simp [arbCntOf]

@[simp] theorem arbLongestOf_ne_netPlace (a : ArbId) (k : Nat) : arbLongestOf a k ≠ netPlace := by cases a <;> simp [arbLongestOf]

@[simp] theorem State.setArb_kept (s : State) (a : ArbId) (x : Arb) : (s.setArb a x).kept = s.kept := by
  simp [State.setArb]

@[simp] theorem State.starve_kept (s : State) (a : ArbId) (k : Nat) : (s.starve a k).kept = s.kept := by
  simp [State.starve]

@[simp] theorem State.arbPass_kept (s : State) (a : ArbId) (dt : Nat) : (s.arbPass a dt).kept = s.kept := by
  unfold State.arbPass
  dsimp only
  repeat' split
  all_goals simp -implicitDefEqProofs

@[simp] theorem State.arbRaise_kept (s : State) (a : ArbId) (k : Fin 10) : (s.arbRaise a k).kept = s.kept := by
  simp [State.arbRaise]

@[simp] theorem State.arbGrant_kept (s : State) (a : ArbId) (k : Fin 10) (reserved : Bool) : (s.arbGrant a k reserved).kept = s.kept := by
  unfold State.arbGrant
  dsimp only
  rw [State.setArb_kept]
  simp

@[simp] theorem State.arbDrop_kept (s : State) (a : ArbId) : (s.arbDrop a).kept = s.kept := by
  simp [State.arbDrop]

@[simp] theorem State.arbAccess_kept (s : State) (k : Fin 10) (a : ArbId) : (s.arbAccess k a).1.kept = s.kept := by
  unfold State.arbAccess
  dsimp only
  repeat' split
  all_goals simp -implicitDefEqProofs

@[simp] theorem State.arbAccesses_kept (s : State) (l : List (Fin 10 × ArbId)) : (s.arbAccesses l).1.kept = s.kept := by
  unfold State.arbAccesses
  dsimp only
  split
  · exact State.foldl_fst_kept _ _ (fun p x => by simp) _
  · simp

@[simp] theorem State.arbMask_kept (s : State) (a : ArbId) (k : Fin 10) : (s.arbMask a k).kept = s.kept := by
  simp [State.arbMask]

@[simp] theorem State.arbUnmask_kept (s : State) (a : ArbId) (k : Fin 10) : (s.arbUnmask a k).kept = s.kept := by
  simp [State.arbUnmask]

@[simp] theorem State.writeArbCtl_kept (s : State) (a : ArbId) (value m : Word64) : (s.writeArbCtl a value m).kept = s.kept := by
  unfold State.writeArbCtl
  have h := s.writePlain_kept (arbCtlOf a) value m (arbCtlOf_ne_netPlace a)
  dsimp only
  split
  · exact h
  · split <;> simp [h]

@[simp] theorem State.setLink_kept (s : State) (l : Fin 24) (x : LinkSt) : (s.setLink l x).kept = s.kept := by
  simp [State.setLink]

@[simp] theorem State.setNet_kept (s : State) (x : NetSt) : (s.setNet x).kept = s.kept := by
  simp [State.setNet]

@[simp] theorem State.showHop_kept (s : State) (l : Nat) : (s.showHop l).kept = s.kept := by
  simp [State.showHop]

@[simp] theorem State.telemDrop_kept (s : State) (p cls : Nat) : (s.telemDrop p cls).kept = s.kept := by
  simp [State.telemDrop]

@[simp] theorem State.vc0Record_kept (s : State) (kind port circuit bank slot : Nat) :
    (s.vc0Record kind port circuit bank slot).kept = s.kept := by
  simp [State.vc0Record]

@[simp] theorem State.vc0Fault_kept (s : State) (kind port circuit bank slot : Nat) :
    (s.vc0Fault kind port circuit bank slot).kept = s.kept := by
  simp [State.vc0Fault]

@[simp] theorem State.vc0Drop_kept (s : State) (f : Fld) (kind port inp : Nat) (x : Vc0Flit) : (s.vc0Drop f kind port inp x).kept = s.kept := by
  simp [State.vc0Drop]

@[simp] theorem State.vc0Off_kept (s : State) (port : Nat) : (s.vc0Off port).kept = s.kept := by
  simp [State.vc0Off]

@[simp] theorem State.wrapAdd_kept (s : State) (off : Nat) (f : Fld) (x : Nat) (h : off ≠ netPlace) : (s.wrapAdd off f x).kept = s.kept :=
  s.setFld_kept off f _ h

@[simp] theorem State.subFld_kept (s : State) (off : Nat) (f : Fld) (x : Nat) (h : off ≠ netPlace) : (s.subFld off f x).kept = s.kept :=
  s.setFld_kept off f _ h

@[simp] theorem State.freeFlit_kept (s : State) (l cls : Nat) (mgmt last : Bool) : (s.freeFlit l cls mgmt last).kept = s.kept := by
  unfold State.freeFlit
  split <;> simp

@[simp] theorem State.holdFlit_kept (s : State) (l cls : Nat) (mgmt first : Bool) : (s.holdFlit l cls mgmt first).kept = s.kept := by
  simp [State.holdFlit]

@[simp] theorem State.unsEvent_kept (s : State) : s.unsEvent.kept = s.kept := by
  simp [State.unsEvent]

@[simp] theorem State.unsDrop_kept (s : State) (reg : Nat → Nat) (f : Fld) (p cls : Nat) (h : reg p ≠ netPlace) :
    (s.unsDrop reg f p cls).kept = s.kept := by
  simp [State.unsDrop, h]

@[simp] theorem State.showDrained_kept (s : State) : s.showDrained.kept = s.kept := by
  simp [State.showDrained]

@[simp] theorem State.modTim_kept (s : State) (f : TimSt → TimSt) : (s.modTim f).kept = s.kept := by
  simp [State.modTim]

@[simp] theorem State.showTim_kept (s : State) : s.showTim.kept = s.kept := by
  simp [State.showTim]

@[simp] theorem State.goTim_kept (s : State) (st : Nat) : (s.goTim st).kept = s.kept := by
  simp [State.goTim]

@[simp] theorem State.dropAcquire_kept (s : State) : s.dropAcquire.kept = s.kept := by
  simp [State.dropAcquire]

@[simp] theorem State.timLinkDown_kept (s : State) (l : Fin 24) : (s.timLinkDown l).kept = s.kept := by
  simp [State.timLinkDown]

@[simp] theorem State.lookupFail_kept (s : State) (p : Nat) (x : Vc0Flit) (r : Lookup) : (s.lookupFail p x r).kept = s.kept := by
  unfold State.lookupFail
  split <;> simp

@[simp] theorem State.toCrossbar_kept (s : State) (d : Vc0Due) : (s.toCrossbar d).kept = s.kept := by
  simp [State.toCrossbar]

@[simp] theorem State.noSwap_kept (s : State) : s.noSwap.kept = s.kept := by
  simp [State.noSwap]

@[simp] theorem State.missedSwap_kept (s : State) : s.missedSwap.kept = s.kept := by
  simp [State.missedSwap]

@[simp] theorem State.writeCircuit_kept (s : State) (b c : Nat) (v : Word64) : (s.writeCircuit b c v).kept = s.kept := by
  simp [State.writeCircuit]

@[simp] theorem State.schedule_kept (s : State) (n : Fin 8) (f : Flight) : (s.schedule n f).kept = s.kept := by
  simp [State.schedule]

@[simp] theorem State.hazard_kept (s : State) (n : Fin 8) (kind slotA slotB res cycle pcA pcB : Nat) :
    (s.hazard n kind slotA slotB res cycle pcA pcB).kept = s.kept := by
  unfold State.hazard
  split
  · exact (State.faultChanAt_kept ..).trans (State.setChan_kept ..)
  · rfl

@[simp] theorem State.bankBusy_kept (s : State) (n : Fin 8) (f : Flight) (b : Nat) : (s.bankBusy n f b).kept = s.kept := by
  simp [State.bankBusy]

@[simp] theorem State.claim_kept (s : State) (n : Fin 8) (f : Flight) (grs : List Nat) : (s.claim n f grs).1.kept = s.kept := by
  unfold State.claim
  dsimp only
  repeat' split
  all_goals simp -implicitDefEqProofs

@[simp] theorem State.checkAccess_kept (s : State) (n : Fin 8) (f : Flight) (write : Bool) (addr len : Nat) :
    (s.checkAccess n f write addr len).kept = s.kept := by
  unfold State.checkAccess
  dsimp only
  repeat' split
  all_goals simp -implicitDefEqProofs

@[simp] theorem State.sramFound_kept (s : State) (n : Fin 8) (map : Word64) (pc cycle : Nat) (l : List (Nat × WordOut)) :
    (s.sramFound n map pc cycle l).kept = s.kept := by
  simp [State.sramFound]

@[simp] theorem State.readSram_kept (s : State) (n : Fin 8) (f : Flight) (addr len : Nat) (errs : EccObs) :
    (s.readSram n f addr len errs).1.kept = s.kept := by
  simp [State.readSram]

@[simp] theorem State.writeSram_kept (s : State) (n : Fin 8) (f : Flight) (addr : Nat) (b : List Byte) :
    (s.writeSram n f addr b).kept = s.kept := by
  simp [State.writeSram]

@[simp] theorem State.regLand_kept (s : State) (n : Fin 8) (f : Flight) (code : Nat) : (s.regLand n f code).kept = s.kept := by
  unfold State.regLand
  dsimp only
  repeat' split
  all_goals simp -implicitDefEqProofs

@[simp] theorem State.accFound_kept (s : State) (n : Fin 8) (p pc cycle : Nat) (l : List (Nat × WordOut)) :
    (s.accFound n p pc cycle l).kept = s.kept := by
  simp [State.accFound]

@[simp] theorem State.takeUnit_kept (s : State) (n : Fin 8) (unit interval : Nat) : (s.takeUnit n unit interval).kept = s.kept := by
  simp [State.takeUnit]

@[simp] theorem State.addJob_kept (s : State) (n : Fin 8) (op : JobOp) (undef : List Nat) (errs : List ReadErr) :
    (s.addJob n op undef errs).1.kept = s.kept := by
  simp [State.addJob]

@[simp] theorem State.after_kept (s : State) (n : Fin 8) (slot k ord : Nat) (ev : Ev) : (s.after n slot k ord ev).kept = s.kept := by
  simp [State.after]

@[simp] theorem State.issueLoadw_kept (s : State) (n : Fin 8) (f : LoadwF) (e : Nat) (errs : List ReadErr) :
    (s.issueLoadw n f e errs).kept = s.kept := by
  simp [State.issueLoadw]

@[simp] theorem State.issuePass_kept (s : State) (n : Fin 8) (f : PassF) (errs : List ReadErr) : (s.issuePass n f errs).kept = s.kept := by
  simp [State.issuePass]

@[simp] theorem State.issueDrain_kept (s : State) (n : Fin 8) (f : DrainF) (e : Nat) (errs : List ReadErr) :
    (s.issueDrain n f e errs).kept = s.kept := by
  simp [State.issueDrain]

@[simp] theorem State.issueLoadacc_kept (s : State) (n : Fin 8) (f : LoadaccF) (e : Nat) (errs : List ReadErr) :
    (s.issueLoadacc n f e errs).kept = s.kept := by
  simp [State.issueLoadacc]

@[simp] theorem State.endJob_kept (s : State) (n : Fin 8) (id : Nat) : (s.endJob n id).kept = s.kept := by
  simp [State.endJob]

@[simp] theorem State.endDrain_kept (s : State) (n : Fin 8) (id i rows : Nat) : (s.endDrain n id i rows).kept = s.kept := by
  simp [State.endDrain]

@[simp] theorem State.landRead_kept (s : State) (n : Fin 8) (f : Flight) (id : Nat) (scale : Bool) (k addr len : Nat) :
    (s.landRead n f id scale k addr len).kept = s.kept := by
  unfold State.landRead
  dsimp only
  repeat' split
  all_goals simp -implicitDefEqProofs

@[simp] theorem State.landTile_kept (s : State) (n : Fin 8) (id : Nat) : (s.landTile n id).kept = s.kept := by
  unfold State.landTile
  dsimp only
  repeat' split
  all_goals simp -implicitDefEqProofs

@[simp] theorem State.teOutcome_kept (s : State) (n : Fin 8) (f : Flight) (e : Nat) (cmp residue residue16 differ : Bool) :
    (s.teOutcome n f e cmp residue residue16 differ).kept = s.kept := by
  simp [State.teOutcome]

@[simp] theorem State.landPassRow_kept (s : State) (n : Fin 8) (f : Flight) (id e r : Nat) (j : Job) (t : Tile) (fa fw row : Nat) (cont : Bool)
    (anchor : Int) (mxA shadowed : Bool) (obs : TeObs) :
    (s.landPassRow n f id e r j t fa fw row cont anchor mxA shadowed obs).kept = s.kept := by
  simp [State.landPassRow]

@[simp] theorem State.landAccRow_kept (s : State) (n : Fin 8) (id e r : Nat) (j : Job) (row : Nat) (anchor : Int) :
    (s.landAccRow n id e r j row anchor).kept = s.kept := by
  simp [State.landAccRow]

@[simp] theorem State.landRow_kept (s : State) (n : Fin 8) (f : Flight) (id e r : Nat) (obs : TeObs) :
    (s.landRow n f id e r obs).kept = s.kept := by
  unfold State.landRow
  dsimp only
  repeat' split
  all_goals simp -implicitDefEqProofs

@[simp] theorem State.landDrainRead_kept (s : State) (n : Fin 8) (f : Flight) (id i : Nat) : (s.landDrainRead n f id i).kept = s.kept := by
  unfold State.landDrainRead
  dsimp only
  repeat' split
  all_goals simp -implicitDefEqProofs

@[simp] theorem State.landDrainWrite_kept (s : State) (n : Fin 8) (f : Flight) (id i m : Nat) (obs : TeObs) :
    (s.landDrainWrite n f id i m obs).kept = s.kept := by
  unfold State.landDrainWrite
  split
  · split
    · dsimp only
      split <;> simp
    · rfl
  · rfl

@[simp] theorem State.xLater_kept (s : State) (n : Fin 8) (lat : Nat) : (s.xLater n lat).kept = s.kept := by
  simp [State.xLater]

@[simp] theorem State.xreset_kept (s : State) (n : Fin 8) : (s.xreset n).kept = s.kept := by
  simp [State.xreset]

@[simp] theorem State.xundefined_kept (s : State) (n : Fin 8) : (s.xundefined n).kept = s.kept := by
  simp [State.xundefined]

@[simp] theorem State.afterV_kept (s : State) (n : Fin 8) (slot lat r : Nat) (l : List (BitVec 32)) :
    (s.afterV n slot lat r l).kept = s.kept := by
  simp [State.afterV]

@[simp] theorem State.vecResult_kept (s : State) (n : Fin 8) (slot lat r : Nat) (l : List Lane) :
    (s.vecResult n slot lat r l).kept = s.kept := by
  simp [State.vecResult]

@[simp] theorem State.vecUndefined_kept (s : State) (n : Fin 8) (o : VOp) (f : VecF) (slot lat : Nat) :
    (s.vecUndefined n o f slot lat).kept = s.kept := by
  unfold State.vecUndefined
  split <;> simp

@[simp] theorem State.xfillLane_kept (s : State) (n : Fin 8) (x : BitVec 32) : (s.xfillLane n x).2.kept = s.kept := by
  unfold State.xfillLane
  dsimp only
  repeat' split
  all_goals simp

@[simp] theorem State.xfill_kept (s : State) (n : Fin 8) (l : List (BitVec 32)) : (s.xfill n l).2.kept = s.kept := by
  induction l generalizing s with
  | nil => rfl
  | cons x l ih => simp [State.xfill, ih]

@[simp] theorem State.vecDefined_kept (s : State) (n : Fin 8) (o : VOp) (f : VecF) : (s.vecDefined n o f).kept = s.kept := by
  unfold State.vecDefined
  extract_lets
  cases o
  case vrsum => exact (State.afterV_kept ..).trans (State.addFlags_kept ..)
  case vbcast => exact State.afterV_kept ..
  case xread => exact State.afterV_kept ..
  all_goals simp

@[simp] theorem State.issueVec_kept (s : State) (n : Fin 8) (o : VOp) (f : VecF) : (s.issueVec n o f).kept = s.kept := by
  unfold State.issueVec
  split <;> simp

@[simp] theorem State.issueSf_kept (s : State) (n : Fin 8) (o : SfOp) (f : SfF) : (s.issueSf n o f).kept = s.kept := by
  simp [State.issueSf]

@[simp] theorem State.setFired_kept (s : State) (n : Fin 8) (c cycle : Nat) : (s.setFired n c cycle).kept = s.kept := by
  simp [State.setFired]

@[simp] theorem State.cueLand_kept (s : State) (n : Fin 8) (c : Nat) (tick : Word64) (cycle : Nat) :
    (s.cueLand n c tick cycle).kept = s.kept := by
  simp -implicitDefEqProofs [State.cueLand]

@[simp] theorem State.landEv_kept (s : State) (n : Fin 8) (f : Flight) (obs : TeObs) : (s.landEv n f obs).kept = s.kept := by
  unfold State.landEv
  split <;> simp

@[simp] theorem State.landHead_kept (s : State) (n : Fin 8) (f : Flight) (rest : List Flight) (obs : TeObs) :
    (s.landHead n f rest obs).kept = s.kept := by
  simp [State.landHead]

@[simp] theorem State.landTo_kept (s : State) (n : Fin 8) (cycle k : Nat) : (s.landTo n cycle k).kept = s.kept := by
  induction k generalizing s with
  | zero => rfl
  | succ k ih =>
    unfold State.landTo
    split
    · rfl
    · simp [ih]

@[simp] theorem State.landDue_kept (s : State) (n : Fin 8) (cycle : Nat) : (s.landDue n cycle).kept = s.kept := by
  simp [State.landDue]

@[simp] theorem State.landAll_kept (s : State) (n : Fin 8) : (s.landAll n).kept = s.kept := by
  simp [State.landAll]

@[simp] theorem State.landUntil_kept (s : State) (n : Fin 8) (p : Ev → Bool) (obs : TeObs) (k : Nat) : (s.landUntil n p obs k).kept = s.kept := by
  induction k generalizing s with
  | zero => rfl
  | succ k ih =>
    unfold State.landUntil
    split
    · rfl
    · simp [ih]

@[simp] theorem State.setStream_kept (s : State) (n : Fin 8) (q : Nat) (x : Stream) : (s.setStream n q x).kept = s.kept := by
  unfold State.setStream
  split <;> simp

@[simp] theorem State.showCount_kept (s : State) (n : Fin 8) (q : Nat) : (s.showCount n q).kept = s.kept := by
  simp [State.showCount]

@[simp] theorem State.seErr_kept (s : State) (n : Fin 8) (q kind addr : Nat) : (s.seErr n q kind addr).kept = s.kept := by
  simp [State.seErr]

@[simp] theorem State.readDesc_kept (s : State) (n : Fin 8) (q : Nat) : (s.readDesc n q).kept = s.kept := by
  unfold State.readDesc
  split
  · rfl
  · split
    · next h => exact kept_of_fst (s.arbAccesses_kept _) h
    · next h =>
      have e := kept_of_fst (s.arbAccesses_kept _) h
      simp [e]

@[simp] theorem State.startStream_kept (s : State) (n : Fin 8) (q addr : Nat) (errs : EccObs) : (s.startStream n q addr errs).kept = s.kept := by
  simp [State.startStream]

@[simp] theorem State.release_kept (s : State) (n : Fin 8) (q count : Nat) : (s.release n q count).kept = s.kept := by
  simp [State.release]

@[simp] theorem State.syncUp_kept (s : State) (n : Fin 8) (q lag : Nat) : (s.syncUp n q lag).kept = s.kept := by
  unfold State.syncUp
  dsimp only
  repeat' split
  all_goals simp -implicitDefEqProofs

@[simp] theorem State.syncDown_kept (s : State) (n : Fin 8) (q lag : Nat) : (s.syncDown n q lag).kept = s.kept := by
  unfold State.syncDown
  dsimp only
  repeat' split
  all_goals simp -implicitDefEqProofs

@[simp] theorem State.fillTx_kept (s : State) (n q : Fin 8) (k : Nat) : (s.fillTx n q k).kept = s.kept := by
  induction k generalizing s with
  | zero => rfl
  | succ k ih =>
    unfold State.fillTx
    dsimp only
    split
    · rfl
    · split
      · rfl
      · split
        · rfl
        · split
          · next h => exact kept_of_fst (s.arbAccesses_kept _) h
          · next h =>
            have e := kept_of_fst (s.arbAccesses_kept _) h
            simp [ih, e]

@[simp] theorem State.postSend_kept (s : State) (n : Fin 8) (f : NetF) (errs : EccObs) : (s.postSend n f errs).kept = s.kept := by
  simp [State.postSend]

@[simp] theorem State.postRecv_kept (s : State) (n : Fin 8) (f : NetF) : (s.postRecv n f).kept = s.kept := by
  simp [State.postRecv]

@[simp] theorem State.scalar_kept (s : State) (n : Fin 8) (r : BitVec 6) (v : Word64) : (s.scalar n r v).kept = s.kept := by
  simp [State.scalar]

@[simp] theorem State.branch_kept (s : State) (n : Fin 8) (taken : Bool) (t : Nat) : (s.branch n taken t).kept = s.kept := by
  simp [State.branch]

@[simp] theorem State.issueCtl_kept (s : State) (n : Fin 8) (o : COp) (f : CtlF) : (s.issueCtl n o f).kept = s.kept := by
  unfold State.issueCtl
  split <;> simp

@[simp] theorem State.issueSlot_kept (s : State) (n : Fin 8) (o : Op) (errs : List ReadErr) (sram : EccObs) :
    (s.issueSlot n o errs sram).kept = s.kept := by
  unfold State.issueSlot
  split <;> simp

@[simp] theorem State.advance_kept (s : State) (n : Fin 8) : (s.advance n).kept = s.kept := by
  simp [State.advance]

@[simp] theorem State.intBegin_kept (s : State) : s.intBegin.kept = s.kept := by
  unfold State.intBegin
  split <;> simp -implicitDefEqProofs

@[simp] theorem State.intChecked_kept (s : State) : s.intChecked.kept = s.kept := by
  simp [State.intChecked]

@[simp] theorem State.readPatched_kept (s : State) (n : Fin 8) (b : Bundle) : (s.readPatched n b).kept = s.kept := by
  simp [State.readPatched]

@[simp] theorem State.unpatch_kept (s : State) (n : Fin 8) (b : Bundle) (old : Chan) : (s.unpatch n b old).kept = s.kept := by
  simp [State.unpatch]

@[simp] theorem State.issueAll_kept (s : State) (n : Fin 8) (b : Bundle) : (s.issueAll n b).kept = s.kept := by
  unfold State.issueAll
  split <;> simp

@[simp] theorem State.issueNow_kept (s : State) (n : Fin 8) (b : Bundle) : (s.issueNow n b).kept = s.kept := by
  unfold State.issueNow
  dsimp only
  repeat' split
  all_goals simp -implicitDefEqProofs

@[simp] theorem State.showHold_kept (s : State) (n : Fin 8) (cueWait qWait : Bool) : (s.showHold n cueWait qWait).kept = s.kept := by
  simp [State.showHold]

@[simp] theorem State.hold_kept (s : State) (n : Fin 8) (h : Hold) : (s.hold n h).kept = s.kept := by
  simp [State.hold]

@[simp] theorem State.missWait_kept (s : State) (n : Fin 8) (f : QueF) : (s.missWait n f).kept = s.kept := by
  simp [State.missWait]

@[simp] theorem State.tryIssue_kept (s : State) (n : Fin 8) (b : Bundle) (cueMet : Bool) : (s.tryIssue n b cueMet).kept = s.kept := by
  unfold State.tryIssue
  dsimp only
  repeat' split
  all_goals simp -implicitDefEqProofs

@[simp] theorem State.fetch_kept (s : State) (n : Fin 8) (b : Bundle) : (s.fetch n b).kept = s.kept := by
  simp [State.fetch]

@[simp] theorem State.reach_kept (s : State) (n : Fin 8) (b : Bundle) : (s.reach n b).kept = s.kept := by
  unfold State.reach
  split <;> simp

@[simp] theorem State.recheck_kept (s : State) (n : Fin 8) : (s.recheck n).kept = s.kept := by
  unfold State.recheck
  split <;> simp

@[simp] theorem State.settleMiss_kept (s : State) (n : Fin 8) : (s.settleMiss n).kept = s.kept := by
  unfold State.settleMiss
  repeat' split
  all_goals first | exact State.missWait_kept .. | rfl

@[simp] theorem State.syncChan_kept (s : State) (n : Fin 8) : (s.syncChan n).kept = s.kept := by
  simp [State.syncChan]

@[simp] theorem State.slotIssue_kept (s : State) (i : Issue) (o : Op) : (s.slotIssue i o).kept = s.kept := by
  simp [State.slotIssue]

@[simp] theorem State.startNow_kept (s : State) (n : Fin 8) : (s.startNow n).kept = s.kept := by
  simp [State.startNow]

@[simp] theorem State.writeChCtl_kept (s : State) (n : Fin 8) (v : Word64) : (s.writeChCtl n v).kept = s.kept := by
  simp [State.writeChCtl]

@[simp] theorem State.memErr_kept (s : State) (c sec kind : Nat) : (s.memErr c sec kind).kept = s.kept := by
  simp [State.memErr]

@[simp] theorem State.addCand_kept (s : State) (c page : Nat) : (s.addCand c page).kept = s.kept := by
  simp [State.addCand]

@[simp] theorem State.memCorrected_kept (s : State) (c sec pin : Nat) : (s.memCorrected c sec pin).kept = s.kept := by
  simp [State.memCorrected]

@[simp] theorem State.memLost_kept (s : State) (c sec : Nat) : (s.memLost c sec).kept = s.kept := by
  simp [State.memLost]

@[simp] theorem State.memPoisonMet_kept (s : State) (c sec : Nat) : (s.memPoisonMet c sec).kept = s.kept := by
  simp [State.memPoisonMet]

@[simp] theorem State.readSector_kept (s : State) (c sec : Nat) (e : SymErr) : (s.readSector c sec e).1.kept = s.kept := by
  unfold State.readSector
  split <;> simp

@[simp] theorem State.scrubCheck_kept (s : State) (c sec : Nat) (e : SymErr) : (s.scrubCheck c sec e).1.kept = s.kept := by
  unfold State.scrubCheck
  split <;> simp

@[simp] theorem State.memRead_kept (s : State) (a len : Nat) (errs : List (Nat × SymErr)) : (s.memRead a len errs).1.kept = s.kept := by
  unfold State.memRead
  refine State.foldl_fst_kept _ _ (fun p x => ?_) _
  dsimp only
  split <;> next h => exact kept_of_fst (State.readSector_kept _ _ _ _) h

@[simp] theorem State.markDirty_kept (s : State) (a len : Nat) : (s.markDirty a len).kept = s.kept := by
  simp [State.markDirty]

@[simp] theorem State.mergeSector_kept (s : State) (c sec i : Nat) (b : List Byte) (e : SymErr) : (s.mergeSector c sec i b e).kept = s.kept := by
  unfold State.mergeSector
  split <;> next h => simp [kept_of_fst (s.readSector_kept c sec e) h]

@[simp] theorem State.memStore_kept (s : State) (a : Nat) (b : List Byte) (errs : List (Nat × SymErr)) :
    (s.memStore a b errs).kept = s.kept := by
  simp only [State.memStore, State.mergeSector_kept, State.kept_ite, State.kept_update, State.foldl_kept, ite_self, implies_true]

@[simp] theorem State.memWrite_kept (s : State) (a : Nat) (b : List Byte) (errs : List (Nat × SymErr)) :
    (s.memWrite a b errs).kept = s.kept := by
  simp [State.memWrite]

@[simp] theorem State.memPoison_kept (s : State) (a len : Nat) : (s.memPoison a len).kept = s.kept := by
  simp [State.memPoison]

@[simp] theorem State.selfRefresh_kept (s : State) (on : Bool) : (s.selfRefresh on).kept = s.kept := by
  simp [State.selfRefresh]

@[simp] theorem State.stopStream_kept (s : State) (n : Fin 8) (q kind : Nat) (a : Int) : (s.stopStream n q kind a).kept = s.kept := by
  simp [State.stopStream]

@[simp] theorem State.loadEntry_kept (s : State) (n : Fin 8) (q : Fin 24) (i : Nat) (errs : List (Nat × SymErr)) :
    (s.loadEntry n q i errs).kept = s.kept := by
  unfold State.loadEntry
  dsimp only
  split <;> next h => simp [kept_of_fst (s.memRead_kept _ _ _) h]

@[simp] theorem State.storeEntry_kept (s : State) (n : Fin 8) (q : Fin 24) (i : Nat) : (s.storeEntry n q i).kept = s.kept := by
  simp [State.storeEntry]

@[simp] theorem State.withdraw_kept (s : State) (n : Fin 8) (c : Nat) : (s.withdraw n c).kept = s.kept := by
  simp [State.withdraw]

@[simp] theorem State.scrubData_kept (s : State) (c sec : Nat) (e : SymErr) : (s.scrubData c sec e).kept = s.kept := by
  unfold State.scrubData
  split <;> next h => simp [kept_of_fst (s.readSector_kept c sec e) h]

@[simp] theorem State.scrubSector_kept (s : State) (c sec : Nat) (e : SymErr) : (s.scrubSector c sec e).kept = s.kept := by
  unfold State.scrubSector
  split
  · simp
  · split <;> next h => simp [kept_of_fst (s.scrubCheck_kept c sec e) h]

@[simp] theorem State.scrubRest_kept (s : State) (c : Nat) : (s.scrubRest c).kept = s.kept := by
  simp [State.scrubRest]

@[simp] theorem State.judgeSweep_kept (s : State) (c : Nat) : (s.judgeSweep c).kept = s.kept := by
  simp [State.judgeSweep]

@[simp] theorem State.endSweep_kept (s : State) (c : Nat) : (s.endSweep c).kept = s.kept := by
  simp [State.endSweep]

@[simp] theorem State.showRemap_kept (s : State) (c : Nat) : (s.showRemap c).kept = s.kept := by
  simp [State.showRemap]

@[simp] theorem State.writeRemap_kept (s : State) (c : Nat) (v : Word64) : (s.writeRemap c v).kept = s.kept := by
  simp [State.writeRemap]

@[simp] theorem State.lendFault_kept (s : State) (f : Fld) : (s.lendFault f).kept = s.kept := by
  simp [State.lendFault]

@[simp] theorem State.dropLend_kept (s : State) (r : LendReq) : (s.dropLend r).kept = s.kept := by
  simp [State.dropLend]

@[simp] theorem State.lendArrive_kept (s : State) (r : LendReq) : (s.lendArrive r).kept = s.kept := by
  simp [State.lendArrive]

@[simp] theorem State.lendGo_kept (s : State) (read : Bool) (carryOut : LendReq → State → State) (hc : ∀ r s, (carryOut r s).kept = s.kept) :
    (s.lendGo read carryOut).kept = s.kept := by
  unfold State.lendGo
  split
  · rfl
  · split
    · simp
    · split
      · simp
      · split
        · rfl
        · split <;> next h => simp [hc, kept_of_fst (s.arbAccesses_kept _) h]

@[simp] theorem State.complete_kept (s : State) (st : Nat) (d : List Byte) : (s.complete st d).kept = s.kept := by
  simp [State.complete]

@[simp] theorem State.hostRefused_kept (s : State) (r : HostReq) : (s.hostRefused r).kept = s.kept := by
  simp [State.hostRefused]

@[simp] theorem State.hostAccess_kept (s : State) (r : HostReq) : (s.hostAccess r).kept = s.kept := by
  unfold State.hostAccess
  dsimp only
  split
  · simp
  · split <;> next h => rw [State.complete_kept, kept_of_fst (s.memRead_kept _ _ _) h]

@[simp] theorem State.hostAdmit_kept (s : State) (r : HostReq) : (s.hostAdmit r).kept = s.kept := by
  simp [State.hostAdmit]

@[simp] theorem State.hostGo_kept (s : State) (r : HostReq) : (s.hostGo r).1.kept = s.kept := by
  unfold State.hostGo
  dsimp only
  split
  · simp
  · split
    · rfl
    · split <;> next h => simp [kept_of_fst (s.arbAccesses_kept _) h]

@[simp] theorem State.dropPkt_kept (s : State) (reg : Nat → Nat) (f : Fld) (p : Pkt) (h : reg p.inp ≠ netPlace) :
    (s.dropPkt reg f p).kept = s.kept := by
  simp [State.dropPkt, h]

@[simp] theorem State.await_kept (s : State) (p : Pkt) : (s.await p).kept = s.kept := by
  simp [State.await]

@[simp] theorem State.allowIn_kept (s : State) (p : Pkt) : (s.allowIn p).kept = s.kept := by
  simp [State.allowIn]

@[simp] theorem State.setSendFlow_kept (s : State) (k : Nat) (f : SendFlow) : (s.setSendFlow k f).kept = s.kept := by
  simp [State.setSendFlow]

@[simp] theorem State.sendFlowPkt_kept (s : State) (e : Nat) (p : Pkt) : (s.sendFlowPkt e p).kept = s.kept := by
  simp [State.sendFlowPkt]

@[simp] theorem State.inject_kept (s : State) (e cls : Nat) (flits : List (List Byte)) : (s.inject e cls flits).kept = s.kept := by
  simp [State.inject]

@[simp] theorem State.releaseFlow_kept (s : State) (e k : Nat) : (s.releaseFlow e k).kept = s.kept := by
  simp [State.releaseFlow]

@[simp] theorem State.sendNotices_kept (s : State) : s.sendNotices.kept = s.kept := by
  simp [State.sendNotices]

@[simp] theorem State.reachEnd_kept (s : State) (e : Nat) (p : Pkt) : (s.reachEnd e p).kept = s.kept := by
  simp [State.reachEnd]

@[simp] theorem State.endFlit_kept (s : State) (o : Nat) : (s.endFlit o).kept = s.kept := by
  unfold State.endFlit
  split <;> simp

@[simp] theorem State.setArrived_kept (s : State) (e : Nat) (p : Pkt) (x : Nat) : (s.setArrived e p x).kept = s.kept := by
  simp [State.setArrived]

@[simp] theorem State.answerFlag_kept (s : State) (e type : Nat) (p : Pkt) : (s.answerFlag e type p).kept = s.kept := by
  simp [State.answerFlag]

@[simp] theorem State.failFlag_kept (s : State) (e : Nat) (p : Pkt) : (s.failFlag e p).kept = s.kept := by
  simp [State.failFlag]

@[simp] theorem State.csramStore_kept (s : State) (a : Nat) (b : List Byte) : (s.csramStore a b).kept = s.kept := by
  simp [State.csramStore]

theorem State.toRing_kept {s t : State} {p : Pkt} (h : s.toRing p = some t) : t.kept = s.kept := by
  simp only [State.toRing, Option.ite_none_left_eq_some, Option.some.injEq] at h
  rw [← h.2]
  simp

theorem State.toMemory_kept {s t : State} {p : Pkt} {errs : List (Nat × SymErr)} (h : s.toMemory p errs = some t) : t.kept = s.kept := by
  unfold State.toMemory at h
  dsimp only at h
  split at h
  · cases h; simp
  · cases h

@[simp] theorem State.toCurtain_kept (s : State) (p : Pkt) : (s.toCurtain p).kept = s.kept := by
  simp [State.toCurtain]

@[simp] theorem State.deliver_kept (s : State) (e : Nat) (p : Pkt) (errs : List (Nat × SymErr)) : (s.deliver e p errs).1.kept = s.kept := by
  unfold State.deliver
  split
  · next t h =>
    split at h
    · exact State.toMemory_kept h
    · split at h
      · cases h; simp
      · exact State.toRing_kept h
  · simp

@[simp] theorem State.deliverFlag_kept (s : State) (e : Nat) (p : Pkt) (errs : List (Nat × SymErr)) : (s.deliverFlag e p errs).kept = s.kept := by
  unfold State.deliverFlag
  split <;> next h => simp [kept_of_fst (s.deliver_kept e p errs) h]

@[simp] theorem State.endpoint_kept (s : State) (e : Nat) (p : Pkt) (errs : List (Nat × SymErr)) : (s.endpoint e p errs).kept = s.kept := by
  unfold State.endpoint
  split
  · simp
  · split
    · split <;> next h => simp [kept_of_fst (s.deliver_kept e p errs) h]
    · simp

@[simp] theorem State.popEnd_kept (s : State) (e : Nat) : (s.popEnd e).kept = s.kept := by
  simp [State.popEnd]

@[simp] theorem State.atEnd_kept (s : State) (e : Nat) (p : Pkt) (errs : List (Nat × SymErr)) : (s.atEnd e p errs).kept = s.kept := by
  simp [State.atEnd]

@[simp] theorem State.packetGrants_kept (s : State) (p : Pkt) : (s.packetGrants p).1.kept = s.kept := by
  simp [State.packetGrants]

theorem State.popFlag_kept {s t : State} {e type : Nat} {x : Option Nat} (h : s.popFlag e type = some (t, x)) : t.kept = s.kept := by
  unfold State.popFlag at h
  split at h
  · cases h
  · cases h; simp

@[simp] theorem State.setOut_kept (s : State) (l : List OutMsg) : (s.setOut l).kept = s.kept := by
  simp [State.setOut]

@[simp] theorem State.clearFlows_kept (s : State) (d : Nat) : (s.clearFlows d).kept = s.kept := by
  simp [State.clearFlows]

@[simp] theorem State.sendMsg_kept (s : State) (i : Nat) (m : OutMsg) : (s.sendMsg i m).kept = s.kept := by
  simp [State.sendMsg]

@[simp] theorem State.drainTx_kept (s : State) (k : Nat) : (s.drainTx k).kept = s.kept := by
  induction k generalizing s with
  | zero => rfl
  | succ k ih => simp [State.drainTx, ih]

@[simp] theorem State.pumpTx_kept (s : State) : s.pumpTx.kept = s.kept := by
  unfold State.pumpTx
  dsimp only
  split
  · simp
  · rw [State.foldl_kept _ _ (fun s i => ?_), State.drainTx_kept]
    split <;> simp

@[simp] theorem State.settleMsg_kept (s : State) (i : Nat) : (s.settleMsg i).kept = s.kept := by
  unfold State.settleMsg
  split <;> simp

@[simp] theorem State.settleTx_kept (s : State) : s.settleTx.kept = s.kept := by
  simp [State.settleTx]

@[simp] theorem State.stall_kept (s : State) (k : Nat) : (s.stall k).kept = s.kept := by
  simp [State.stall]

@[simp] theorem State.writeRoute_kept (s : State) (d : Nat) (v m : Word64) : (s.writeRoute d v m).kept = s.kept := by
  simp [State.writeRoute, State.writePlain_kept]

@[simp] theorem State.resumeInject_kept (s : State) : s.resumeInject.kept = s.kept := by
  simp [State.resumeInject]

@[simp] theorem State.writeUnsCtl_kept (s : State) (v m : Word64) : (s.writeUnsCtl v m).kept = s.kept := by
  simp [State.writeUnsCtl, State.writePlain_kept]

@[simp] theorem State.clearBins_kept (s : State) (window : Nat) : (s.clearBins window).kept = s.kept := by
  simp [State.clearBins]

@[simp] theorem State.copyBins_kept (s : State) : s.copyBins.kept = s.kept := by
  unfold State.copyBins
  exact State.foldl_kept _ _ (fun s _ => State.foldl_kept _ _ (fun s _ => by simp) s) s

@[simp] theorem State.setLstate_kept (s : State) (l x : Nat) : (s.setLstate l x).kept = s.kept := by
  simp [State.setLstate]

@[simp] theorem State.showUnderstudies_kept (s : State) (l : Nat) : (s.showUnderstudies l).kept = s.kept := by
  simp [State.showUnderstudies]

@[simp] theorem State.mapLanes_kept (s : State) (l base mask : Nat) : (s.mapLanes l base mask).kept = s.kept := by
  simp [State.mapLanes]

@[simp] theorem State.modLink_kept (s : State) (l : Fin 24) (f : LinkSt → LinkSt) : (s.modLink l f).kept = s.kept := by
  simp [State.modLink]

@[simp] theorem State.showSeq_kept (s : State) (l : Fin 24) : (s.showSeq l).kept = s.kept := by
  simp [State.showSeq]

@[simp] theorem State.showGrace_kept (s : State) (l : Fin 24) : (s.showGrace l).kept = s.kept := by
  unfold State.showGrace
  split <;> simp

@[simp] theorem State.linkEvent_kept (s : State) (l : Nat) (f : Fld) : (s.linkEvent l f).kept = s.kept := by
  simp [State.linkEvent]

@[simp] theorem State.flushPkt_kept (s : State) (l : Nat) (p : Pkt) (from_ : Nat) : (s.flushPkt l p from_).kept = s.kept := by
  simp [State.flushPkt]

@[simp] theorem State.flushPackets_kept (s : State) (l : Fin 24) : (s.flushPackets l).kept = s.kept := by
  unfold State.flushPackets
  dsimp only
  rw [State.foldl_kept _ _ (fun s p => State.foldl_kept _ _ (fun s v => by simp) s), State.foldl_kept _ _ (fun s v => ?_)]
  split <;> simp

@[simp] theorem State.flushPartial_kept (s : State) (l : Fin 24) : (s.flushPartial l).kept = s.kept := by
  simp [State.flushPartial]

@[simp] theorem State.freshLink_kept (s : State) (l : Fin 24) : (s.freshLink l).kept = s.kept := by
  simp [State.freshLink]

@[simp] theorem State.flushEntry_kept (s : State) (l : Fin 24) (e : RingEnt) : (s.flushEntry l e).kept = s.kept := by
  simp [State.flushEntry]

@[simp] theorem State.flushRing_kept (s : State) (l : Fin 24) : (s.flushRing l).kept = s.kept := by
  simp [State.flushRing]

@[simp] theorem State.flushLink_kept (s : State) (l : Fin 24) : (s.flushLink l).kept = s.kept := by
  simp [State.flushLink]

@[simp] theorem State.endGrace_kept (s : State) (l : Fin 24) : (s.endGrace l).kept = s.kept := by
  simp [State.endGrace]

@[simp] theorem State.beginTraining_kept (s : State) (l : Fin 24) : (s.beginTraining l).kept = s.kept := by
  simp [State.beginTraining]

@[simp] theorem State.wentDown_kept (s : State) (l : Fin 24) (ev : Fld) : (s.wentDown l ev).kept = s.kept := by
  simp [State.wentDown]

@[simp] theorem State.linkDown_kept (s : State) (l : Fin 24) (ev : Fld) : (s.linkDown l ev).kept = s.kept := by
  simp [State.linkDown]

@[simp] theorem State.linkOff_kept (s : State) (l : Fin 24) : (s.linkOff l).kept = s.kept := by
  simp [State.linkOff]

@[simp] theorem State.takeAdv_kept (s : State) (l : Nat) (adv : List Byte) : (s.takeAdv l adv).kept = s.kept := by
  simp [State.takeAdv]

@[simp] theorem State.linkUp_kept (s : State) (l : Fin 24) (i : PeerInit) : (s.linkUp l i).kept = s.kept := by
  simp [State.linkUp]

@[simp] theorem State.maybeUp_kept (s : State) (l : Fin 24) : (s.maybeUp l).kept = s.kept := by
  unfold State.maybeUp
  dsimp only
  repeat' split
  all_goals simp -implicitDefEqProofs

@[simp] theorem State.emit_kept (s : State) (l : Fin 24) (m kind seq cls : Nat) (payload : List Byte) :
    (s.emit l m kind seq cls payload).kept = s.kept := by
  simp [State.emit]

@[simp] theorem State.sendLctl_kept (s : State) (l : Fin 24) (m : Nat) (c : Lctl) : (s.sendLctl l m c).kept = s.kept := by
  simp [State.sendLctl]

@[simp] theorem State.charge_kept (s : State) (l kind row : Nat) (hdr : Bool) : (s.charge l kind row hdr).kept = s.kept := by
  simp [State.charge]

@[simp] theorem State.sendEntry_kept (s : State) (l : Fin 24) (m i : Nat) (e : RingEnt) : (s.sendEntry l m i e).kept = s.kept := by
  unfold State.sendEntry
  split <;> simp

@[simp] theorem State.sendPkt_kept (s : State) (l : Fin 24) (m v : Nat) (o : OutPkt) : (s.sendPkt l m v o).kept = s.kept := by
  simp [State.sendPkt]

@[simp] theorem State.sendGo_kept (s : State) (l : Fin 24) (m code copy lanes : Nat) : (s.sendGo l m code copy lanes).kept = s.kept := by
  simp [State.sendGo]

@[simp] theorem State.sendCmd_kept (s : State) (l : Fin 24) (m : Nat) (c : Lctl) : (s.sendCmd l m c).kept = s.kept := by
  unfold State.sendCmd
  dsimp only
  repeat' split
  all_goals simp -implicitDefEqProofs

@[simp] theorem State.fillRest_kept (s : State) (l : Fin 24) (m : Nat) (due : Bool) : (s.fillRest l m due).kept = s.kept := by
  unfold State.fillRest
  dsimp only
  repeat' split
  all_goals simp -implicitDefEqProofs

@[simp] theorem State.fillSlot_kept (s : State) (l : Fin 24) (m : Nat) (due : Bool) : (s.fillSlot l m due).kept = s.kept := by
  unfold State.fillSlot
  dsimp only
  repeat' split
  all_goals simp -implicitDefEqProofs

@[simp] theorem State.transmit_kept (s : State) (l : Fin 24) (m : Nat) (due : Bool) : (s.transmit l m due).kept = s.kept := by
  unfold State.transmit
  dsimp only
  repeat' split
  all_goals simp -implicitDefEqProofs

@[simp] theorem State.telemAdd_kept (s : State) (p : Nat) : (s.telemAdd p).kept = s.kept := by
  simp [State.telemAdd]

@[simp] theorem State.telemSlot_kept (s : State) (p m : Nat) : (s.telemSlot p m).kept = s.kept := by
  simp [State.telemSlot]

@[simp] theorem State.telemRest_kept (s : State) (m : Nat) : (s.telemRest m).kept = s.kept := by
  simp [State.telemRest]

@[simp] theorem State.leaveVc0_kept (s : State) (p m : Nat) (d : Vc0Due) : (s.leaveVc0 p m d).kept = s.kept := by
  unfold State.leaveVc0
  dsimp only
  repeat' split
  all_goals simp -implicitDefEqProofs

@[simp] theorem State.outputSlot_kept (s : State) (p m : Nat) : (s.outputSlot p m).kept = s.kept := by
  unfold State.outputSlot
  extract_lets q now _ s1 due first s2 s3 s4
  have h1 : s1.kept = s.kept := by simp [s1]
  have h2 : s2.kept = s.kept := by simp [s2, h1]
  have h3 : s3.kept = s.kept := by
    simp only [s3]
    split
    · simp [h1]
    · cases first <;> simp [h2]
  have h4 : s4.kept = s.kept := by simp [s4, h3]
  split
  · simp [h4]
  · split <;> simp [h4]

@[simp] theorem State.queueLctl_kept (s : State) (l : Fin 24) (c : Lctl) : (s.queueLctl l c).kept = s.kept := by
  simp [State.queueLctl]

@[simp] theorem State.command_kept (s : State) (l : Fin 24) (c : Lctl) : (s.command l c).kept = s.kept := by
  simp [State.command]

@[simp] theorem State.answered_kept (s : State) (l : Fin 24) (ctype : Nat) : (s.answered l ctype).kept = s.kept := by
  simp [State.answered]

@[simp] theorem State.applyAck_kept (s : State) (l : Fin 24) (a : Nat) : (s.applyAck l a).kept = s.kept := by
  simp [State.applyAck]

@[simp] theorem State.laneParity_kept (s : State) (l : Fin 24) (w : Nat) (raw : List Byte) : (s.laneParity l w raw).kept = s.kept := by
  simp [State.laneParity]

@[simp] theorem State.fec_kept (s : State) (l : Fin 24) (raw : List Byte) : (s.fec l raw).1.kept = s.kept := by
  unfold State.fec
  split <;> simp

@[simp] theorem State.applyCredits_kept (s : State) (l : Fin 24) (block : List Byte) : (s.applyCredits l block).kept = s.kept := by
  simp [State.applyCredits]

@[simp] theorem State.takeFlit_kept (s : State) (l : Fin 24) (v : Nat) (first last mgmt : Bool) (d : List Byte) :
    (s.takeFlit l v first last mgmt d).kept = s.kept := by
  simp [State.takeFlit]

@[simp] theorem State.replaced_kept (s : State) (l : Fin 24) (r : ReplRx) : (s.replaced l r).kept = s.kept := by
  simp [State.replaced]

@[simp] theorem State.acceptFlit_kept (s : State) (l : Fin 24) (h kind frac : Nat) (d : List Byte) :
    (s.acceptFlit l h kind frac d).kept = s.kept := by
  unfold State.acceptFlit
  dsimp only
  repeat' split
  all_goals simp -implicitDefEqProofs

@[simp] theorem State.classify_kept (s : State) (l : Fin 24) (h kind frac : Nat) (d : List Byte) :
    (s.classify l h kind frac d).kept = s.kept := by
  simp [State.classify]

@[simp] theorem State.switchRx_kept (s : State) (l : Fin 24) (code : Nat) : (s.switchRx l code).kept = s.kept := by
  simp [State.switchRx]

theorem State.popLctl_kept {s t : State} {l : Fin 24} {ctype : Nat} {c : LctlIn} (h : s.popLctl l ctype = some (c, t)) : t.kept = s.kept := by
  unfold State.popLctl at h
  obtain ⟨d, _, hd⟩ := Option.map_eq_some_iff.mp h
  cases hd
  simp

@[simp] theorem State.onLctl_kept (s : State) (l : Fin 24) (ctype : Nat) (f : State → LctlIn → State) (hf : ∀ s c, (f s c).kept = s.kept) :
    (s.onLctl l ctype f).kept = s.kept := by
  unfold State.onLctl
  split
  · next h => rw [hf, State.popLctl_kept h]
  · rfl

@[simp] theorem State.requestWidth_kept (s : State) (l : Fin 24) (code : Nat) : (s.requestWidth l code).kept = s.kept := by
  simp [State.requestWidth]

@[simp] theorem State.markRx_kept (s : State) (l p : Nat) : (s.markRx l p).kept = s.kept := by
  simp [State.markRx]

theorem State.mendLane_kept {s t : State} {l : Fin 24} {p j : Nat} {spare : Option Nat} (h : s.mendLane l p j spare = some t) : t.kept = s.kept := by
  unfold State.mendLane at h
  dsimp only at h
  split at h
  · cases h; simp
  · split at h
    · cases h; simp
    · split at h
      · cases h; simp
      · split at h
        · cases h; simp
        · cases h

@[simp] theorem State.laneFailing_kept (s : State) (l : Fin 24) (p : Nat) (lost : Bool) : (s.laneFailing l p lost).kept = s.kept := by
  unfold State.laneFailing
  split
  · simp
  · dsimp only
    split
    · rfl
    · split
      · simp
      · split
        · next h => rw [State.mendLane_kept h, State.markRx_kept]
        · simp

@[simp] theorem State.nextFailing_kept (s : State) (l : Fin 24) : (s.nextFailing l).kept = s.kept := by
  unfold State.nextFailing
  split <;> simp

@[simp] theorem State.beginGo_kept (s : State) (l : Fin 24) (code lanes : Nat) : (s.beginGo l code lanes).kept = s.kept := by
  simp [State.beginGo]

@[simp] theorem State.answerWidth_kept (s : State) (l : Fin 24) (code lanes : Nat) : (s.answerWidth l code lanes).kept = s.kept := by
  simp [State.answerWidth]

@[simp] theorem State.retryCmd_kept (s : State) (l : Fin 24) (p : PendCmd) : (s.retryCmd l p).kept = s.kept := by
  simp [State.retryCmd]

@[simp] theorem State.enableLink_kept (s : State) (l : Fin 24) : (s.enableLink l).kept = s.kept := by
  simp [State.enableLink]

@[simp] theorem State.writeLnkCtl_kept (s : State) (l : Fin 24) (v m : Word64) : (s.writeLnkCtl l v m).kept = s.kept := by
  unfold State.writeLnkCtl
  extract_lets was s1 w s2 s3 code
  have h1 : s1.kept = s.kept := by simp [s1, State.writePlain_kept]
  have h2 : s2.kept = s.kept := by
    dsimp only [s2]
    split <;> simp [h1]
  have h3 : s3.kept = s.kept := by simp [s3, h2]
  simp [h3]

@[simp] theorem State.goStep_kept (s : State) (l : Fin 24) (k : Nat) : (s.goStep l k).kept = s.kept := by
  simp [State.goStep]

@[simp] theorem State.failStep_kept (s : State) (l : Fin 24) (k : Nat) : (s.failStep l k).kept = s.kept := by
  simp [State.failStep]

@[simp] theorem State.trained_kept (s : State) (l : Fin 24) : (s.trained l).kept = s.kept := by
  simp [State.trained]

@[simp] theorem State.applySources_kept (s : State) (l : Fin 24) : (s.applySources l).kept = s.kept := by
  simp [State.applySources]

@[simp] theorem State.putMap_kept (s : State) (l base : Nat) (m : List Nat) : (s.putMap l base m).kept = s.kept := by
  simp [State.putMap]

@[simp] theorem State.seedLanes_kept (s : State) (l : Fin 24) : (s.seedLanes l).kept = s.kept := by
  simp [State.seedLanes]

@[simp] theorem State.writeLaser_kept (s : State) (l : Fin 24) (lane : Nat) (v m : Word64) : (s.writeLaser l lane v m).kept = s.kept := by
  simp [State.writeLaser, State.writePlain_kept]

@[simp] theorem State.writePortMap_kept (s : State) (l : Nat) (v m : Word64) : (s.writePortMap l v m).kept = s.kept := by
  simp [State.writePortMap, State.writePlain_kept]

@[simp] theorem State.writeHop_kept (s : State) (l : Nat) (v m : Word64) : (s.writeHop l v m).kept = s.kept := by
  simp [State.writeHop, State.writePlain_kept]

@[simp] theorem State.setInt_kept (s : State) (off : Nat) (f : Fld) (x : Int) (h : off ≠ netPlace) : (s.setInt off f x).kept = s.kept := by
  simp [State.setInt, h]

@[simp] theorem State.stepTime_kept (s : State) (new : Nat) : (s.stepTime new).kept = s.kept :=
  (State.kept_eq (s := s.wr timNow _) rfl rfl rfl rfl).trans (State.wr_kept s _ _ (by decide))

@[simp] theorem State.servoRun_kept (s : State) (k : Nat) : (s.servoRun k).kept = s.kept := by
  simp [State.servoRun]

@[simp] theorem State.servoDue_kept (s : State) : s.servoDue.kept = s.kept := by
  simp [State.servoDue]

@[simp] theorem State.sampleOk_kept (s : State) (l : Fin 24) (t3 : Nat) (delay : Int) : (s.sampleOk l t3 delay).1.kept = s.kept := by
  unfold State.sampleOk
  dsimp only
  repeat' split
  all_goals simp -implicitDefEqProofs

@[simp] theorem State.acquireSample_kept (s : State) (l : Fin 24) (theta : Int) (t2 : Nat) : (s.acquireSample l theta t2).kept = s.kept := by
  unfold State.acquireSample
  split <;> simp

@[simp] theorem State.writeTimCtl_kept (s : State) (v m : Word64) : (s.writeTimCtl v m).kept = s.kept := by
  simp [State.writeTimCtl, State.writePlain_kept]

@[simp] theorem State.writeTimRefused_kept (s : State) (v m : Word64) : (s.writeTimRefused v m).kept = s.kept := by
  simp [State.writeTimRefused, State.writePlain_kept]

@[simp] theorem State.expireHold_kept (s : State) : s.expireHold.kept = s.kept := by
  simp [State.expireHold]

@[simp] theorem State.showAtrim_kept (s : State) (n : Fin 8) : (s.showAtrim n).kept = s.kept := by
  simp [State.showAtrim]

@[simp] theorem State.raiseWrite_kept (s : State) (v m : Word64) : (s.raiseWrite v m).kept = s.kept := by
  simp [State.raiseWrite]

@[simp] theorem State.recordNotice_kept (s : State) (n : Notice) (port : Nat) : (s.recordNotice n port).kept = s.kept := by
  simp -implicitDefEqProofs [State.recordNotice]

@[simp] theorem State.showHalt_kept (s : State) : s.showHalt.kept = s.kept := by
  simp -implicitDefEqProofs [State.showHalt]

@[simp] theorem State.stopAll_kept (s : State) : s.stopAll.kept = s.kept := by
  simp [State.stopAll]

@[simp] theorem State.leaveCurtain_kept (s : State) : s.leaveCurtain.kept = s.kept := by
  simp -implicitDefEqProofs [State.leaveCurtain]

@[simp] theorem State.writeSafCtl_kept (s : State) (v m : Word64) : (s.writeSafCtl v m).kept = s.kept := by
  simp [State.writeSafCtl, State.writePlain_kept]

@[simp] theorem State.writeRegion_kept (s : State) (v m : Word64) : (s.writeRegion v m).kept = s.kept := by
  simp [State.writeRegion, State.writePlain_kept]

@[simp] theorem State.post_kept (s : State) (dest msg flags : Nat) (body : List Byte) (mb : Option Nat) :
    (s.post dest msg flags body mb).kept = s.kept := by
  simp [State.post]

@[simp] theorem State.postAll_kept (s : State) (msg flags : Nat) (body : List Byte) : (s.postAll msg flags body).kept = s.kept := by
  unfold State.postAll
  split <;> simp

@[simp] theorem State.rxFree_kept (s : State) : s.rxFree.kept = s.kept := by
  simp [State.rxFree]

@[simp] theorem State.rxSkip_kept (s : State) (k : Nat) : (s.rxSkip k).kept = s.kept := by
  induction k generalizing s with
  | zero => rfl
  | succ k ih =>
    unfold State.rxSkip
    split
    · simp [ih]
    · rfl

@[simp] theorem State.onMsg_kept (s : State) (msg : Nat) (f : State → Msg → State) (hf : ∀ s m, (f s m).kept = s.kept) :
    (s.onMsg msg f).kept = s.kept := by
  simp only [State.onMsg]
  split
  · rfl
  · split
    · split
      · rw [hf]
        simp -implicitDefEqProofs
      · simp
    · simp

@[simp] theorem State.modInt_kept (s : State) (f : IntSt → IntSt) : (s.modInt f).kept = s.kept := by
  simp [State.modInt]

@[simp] theorem State.restoreChan_kept (s : State) (n : Fin 8) (b : List Byte) (tr : Nat) : (s.restoreChan n b tr).kept = s.kept := by
  unfold State.restoreChan
  dsimp only
  rw [State.foldl_kept _ _ (fun s i => ?_), State.setChan_kept]
  split
  · rfl
  · exact State.wr_kept _ _ _ (by simp only [netPlace]; omega)

@[simp] theorem State.failInt_kept (s : State) (kind : Nat) : (s.failInt kind).kept = s.kept := by
  simp [State.failInt]

@[simp] theorem State.snapFound_kept (s : State) (n : Fin 8) (sram : List (Nat × WordOut)) (regs : List WordOut) :
    (s.snapFound n sram regs).kept = s.kept := by
  simp [State.snapFound]

@[simp] theorem State.captureChan_kept (s : State) (n : Fin 8) (errs : List ReadErr) : (s.captureChan n errs).kept = s.kept := by
  simp [State.captureChan]

@[simp] theorem State.sendRange_kept (s : State) (dest from_ to_ len : Nat) (flagLast : Bool) (errs : List (Nat × SymErr)) :
    (s.sendRange dest from_ to_ len flagLast errs).1.kept = s.kept := by
  unfold State.sendRange
  refine State.foldl_fst_kept _ _ (fun p i => ?_) _
  split
  · rfl
  · split <;> next h => simp [kept_of_fst (State.memRead_kept _ _ _ _) h]

@[simp] theorem State.sendCopies_kept (s : State) (errs : List (Nat × SymErr)) : (s.sendCopies errs).kept = s.kept := by
  unfold State.sendCopies
  dsimp only
  split
  · rfl
  · split
    · next h => exact kept_of_fst (s.arbAccesses_kept _) h
    · next t h =>
      have ht := kept_of_fst (s.arbAccesses_kept _) h
      generalize hu : List.foldl _ (t, none) _ = u
      have hk : u.1.kept = s.kept := by
        rw [← hu, ← ht]
        refine State.foldl_fst_kept _ _ (fun p x => ?_) _
        split <;> simp
      split <;> simp [hk]

@[simp] theorem State.copyBlocks_kept (s : State) (w : Nat) (blocks : List Nat) (from_ to_ : Nat) (errs : List (Nat × SymErr)) :
    (s.copyBlocks w blocks from_ to_ errs).1.kept = s.kept := by
  unfold State.copyBlocks
  refine State.foldl_fst_kept _ _ (fun p i => ?_) _
  split
  · rfl
  · split <;> next h => simp [kept_of_fst (State.memRead_kept _ _ _ _) h]

@[simp] theorem State.copyPages_kept (s : State) (pages : List Nat) (from_ to_ : Nat) (errs : List (Nat × SymErr)) :
    (s.copyPages pages from_ to_ errs).1.kept = s.kept := by
  simp [State.copyPages]

@[simp] theorem State.stopCopies_kept (s : State) : s.stopCopies.kept = s.kept := by
  simp [State.stopCopies]

@[simp] theorem State.copiesDone_kept (s : State) : s.copiesDone.kept = s.kept := by
  unfold State.copiesDone
  dsimp only
  repeat' split
  all_goals simp -implicitDefEqProofs

@[simp] theorem State.commitInt_kept (s : State) (k : Nat) : (s.commitInt k).kept = s.kept := by
  simp [State.commitInt]

@[simp] theorem State.writeTick_kept (s : State) (tr : Nat) (errs : List (Nat × SymErr)) : (s.writeTick tr errs).kept = s.kept := by
  simp [State.writeTick]

@[simp] theorem State.goCoded_kept (s : State) (t : Nat) : (s.goCoded t).kept = s.kept := by
  simp [State.goCoded]

@[simp] theorem State.resumeAt_kept (s : State) (tr : Nat) : (s.resumeAt tr).kept = s.kept := by
  simp [State.resumeAt]

@[simp] theorem State.modPwr_kept (s : State) (f : PwrSt → PwrSt) : (s.modPwr f).kept = s.kept := by
  simp [State.modPwr]

@[simp] theorem State.supplyFault_kept (s : State) (f : Fld) (unit : Nat) : (s.supplyFault f unit).kept = s.kept := by
  simp -implicitDefEqProofs [State.supplyFault]

@[simp] theorem State.setPorAt_kept (s : State) : s.setPorAt.kept = s.kept := by
  simp [State.setPorAt]

@[simp] theorem State.expireHoldup_kept (s : State) : s.expireHoldup.kept = s.kept := by
  simp [State.expireHoldup]

@[simp] theorem State.dipBegins_kept (s : State) : s.dipBegins.kept = s.kept := by
  simp [State.dipBegins]

@[simp] theorem State.dipEnds_kept (s : State) : s.dipEnds.kept = s.kept := by
  simp [State.dipEnds]

@[simp] theorem State.writeArith_kept (s : State) (v m : Word64) : (s.writeArith v m).kept = s.kept := by
  simp [State.writeArith, State.writePlain_kept]

@[simp] theorem State.setTemp_kept (s : State) (g : Nat) (t : Int) : (s.setTemp g t).kept = s.kept := by
  simp [State.setTemp]

@[simp] theorem State.heatFlag_kept (s : State) (f : Fld) (g : Nat) : (s.heatFlag f g).kept = s.kept := by
  simp [State.heatFlag]

@[simp] theorem State.showTop_kept (s : State) : s.showTop.kept = s.kept := by
  simp [State.showTop]

@[simp] theorem State.showRail_kept (s : State) (r : Nat) : (s.showRail r).kept = s.kept := by
  simp [State.showRail]

@[simp] theorem State.surveySite_kept (s : State) (k : Nat) (v : List Nat) : (s.surveySite k v).kept = s.kept := by
  simp -implicitDefEqProofs [State.surveySite]

@[simp] theorem State.ledgerSurvey_kept (s : State) (vfail : List (List Nat)) : (s.ledgerSurvey vfail).kept = s.kept := by
  simp [State.ledgerSurvey]

@[simp] theorem State.copySector_kept (s : State) (from_ to_ : Nat × Nat) (e : SymErr) : (s.copySector from_ to_ e).kept = s.kept := by
  unfold State.copySector
  split <;> next h => simp [kept_of_fst (s.readSector_kept _ _ e) h]

@[simp] theorem State.copyPage_kept (s : State) (c f c2 f2 : Nat) (errs : EccObs) : (s.copyPage c f c2 f2 errs).kept = s.kept := by
  simp [State.copyPage]

@[simp] theorem State.putEntry_kept (s : State) (c p : Nat) (to_ : Nat × Nat) : (s.putEntry c p to_).kept = s.kept := by
  simp [State.putEntry]

@[simp] theorem State.spreadPage_kept (s : State) (c i : Nat) (copy : Bool) (errs : EccObs) : (s.spreadPage c i copy errs).kept = s.kept := by
  unfold State.spreadPage
  split <;> simp

@[simp] theorem State.spread_kept (s : State) (c : Nat) (copy : Bool) (errs : EccObs) : (s.spread c copy errs).kept = s.kept := by
  simp [State.spread]

@[simp] theorem State.showShadow_kept (s : State) (n : Nat) : (s.showShadow n).kept = s.kept := by
  simp [State.showShadow]

@[simp] theorem State.mapFailed_kept (s : State) (l : Nat) : (s.mapFailed l).kept = s.kept := by
  unfold State.mapFailed
  dsimp only
  repeat' split
  all_goals simp -implicitDefEqProofs

@[simp] theorem State.applyRecord_kept (s : State) (r : Retired) : (s.applyRecord r).kept = s.kept := by
  unfold State.applyRecord
  split <;> simp

@[simp] theorem State.applyList_kept (s : State) (kinds : List Nat) : (s.applyList kinds).kept = s.kept := by
  simp [State.applyList]

@[simp] theorem State.record_kept (s : State) (r : Retired) : (s.record r).kept = s.kept := by
  simp [State.record]

@[simp] theorem State.retire_kept (s : State) (r : Retired) : (s.retire r).kept = s.kept := by
  simp [State.retire]

@[simp] theorem State.retireEngine_kept (s : State) (n e : Nat) : (s.retireEngine n e).kept = s.kept := by
  simp [State.retireEngine]

@[simp] theorem State.retireBank_kept (s : State) (n b : Nat) (not_ : List Nat) : (s.retireBank n b not_).kept = s.kept := by
  unfold State.retireBank
  dsimp only
  repeat' split
  all_goals simp -implicitDefEqProofs

@[simp] theorem State.retirePhysBank_kept (s : State) (n p : Nat) : (s.retirePhysBank n p).kept = s.kept := by
  unfold State.retirePhysBank
  dsimp only
  repeat' split
  all_goals simp -implicitDefEqProofs

@[simp] theorem State.retireMemChan_kept (s : State) (c : Nat) (errs : EccObs) : (s.retireMemChan c errs).kept = s.kept := by
  unfold State.retireMemChan
  split
  · rfl
  · split
    · simp
    · split <;> next h => simp [kept_of_fst (s.arbAccesses_kept _) h]

@[simp] theorem State.dropCand_kept (s : State) (c f : Nat) : (s.dropCand c f).kept = s.kept := by
  simp [State.dropCand]

@[simp] theorem State.retirePage_kept (s : State) (c f : Nat) (errs : EccObs) : (s.retirePage c f errs).kept = s.kept := by
  unfold State.retirePage
  generalize s.mem.servedBy c f = served, s.freePool c = free, h : s.arbAccesses (pageCopyArbs c c) = p
  obtain ⟨t, ok⟩ := p
  have ht : t.kept = s.kept := kept_of_fst (s.arbAccesses_kept _) h
  rcases served with _ | k
  · exact s.dropCand_kept c f
  · rcases free with _ | f2
    · exact s.retireMemChan_kept c errs
    · cases ok
      · exact ht
      · exact (State.dropCand_kept ..).trans ((State.record_kept ..).trans ((State.putEntry_kept ..).trans ((State.copyPage_kept ..).trans ht)))

@[simp] theorem State.retireMemory_kept (s : State) (errs : EccObs) : (s.retireMemory errs).kept = s.kept := by
  simp [State.retireMemory]

@[simp] theorem State.retireLaser_kept (s : State) (l : Fin 24) (lane : Nat) : (s.retireLaser l lane).kept = s.kept := by
  unfold State.retireLaser
  split <;> simp

@[simp] theorem State.retireChanUnits_kept (s : State) (n : Fin 8) : (s.retireChanUnits n).kept = s.kept := by
  simp [State.retireChanUnits]

@[simp] theorem State.retireUnits_kept (s : State) (errs : EccObs) : (s.retireUnits errs).kept = s.kept := by
  simp [State.retireUnits]

@[simp] theorem State.refillBank_kept (s : State) (n : Fin 8) (b : Nat) : (s.refillBank n b).kept = s.kept := by
  unfold State.refillBank
  refine State.foldl_kept _ _ (fun t row => ?_) s
  extract_lets a
  generalize h : t.memRead _ _ _ = p
  obtain ⟨u, d, e⟩ := p
  exact (u.setChan_kept n _).trans (kept_of_fst (t.memRead_kept _ _ _) h)

@[simp] theorem State.retireBanks_kept (s : State) (n : Fin 8) : (s.retireBanks n).kept = s.kept := by
  simp [State.retireBanks]

@[simp] theorem State.retireAtInt_kept (s : State) (errs : EccObs) : (s.retireAtInt errs).kept = s.kept := by
  simp [State.retireAtInt]

@[simp] theorem State.retireEngines_kept (s : State) (n : Fin 8) (fail : BitVec 17) : (s.retireEngines n fail).kept = s.kept := by
  simp [State.retireEngines]

@[simp] theorem State.setInit_kept (s : State) (l : List Nat) : (s.setInit l).kept = s.kept := by
  simp [State.setInit]

@[simp] theorem State.ownRoute_kept (s : State) : s.ownRoute.kept = s.kept := by
  simp [State.ownRoute]

@[simp] theorem State.resetMsix_kept (s : State) : s.resetMsix.kept = s.kept := by
  simp [State.resetMsix]

@[simp] theorem State.leaveStandby_kept (s : State) : s.leaveStandby.kept = s.kept := by
  simp [State.leaveStandby, State.resetRegs_kept]

theorem State.resetCore_kept (s : State) (r : Rst) (hr : r ∈ [.hot, .soft, .chn, .lnk]) : (s.resetCore r).kept = s.kept := by
  unfold State.resetCore
  extract_lets s1 st init s2 s3 _ _ _ _ _ s4 s5
  have h2 : s2.kept = s.kept := by simp [s2, s1]
  have h3 : s3.kept = s.kept := (s2.resetRegs_kept r _ hr).trans h2
  clear_value s3
  have h4 : s4.kept = s.kept := (State.kept_eq (s := s3) rfl rfl rfl rfl).trans h3
  clear_value s4
  simp [s5, h4]

@[simp] theorem State.hot_kept (s : State) : s.hot.kept = s.kept := by
  simp [State.hot, State.resetCore_kept]

@[simp] theorem State.soft_kept (s : State) (byFlr : Bool) : (s.soft byFlr).kept = s.kept := by
  simp [State.soft, State.resetCore_kept]

@[simp] theorem State.dropPort_kept (s : State) (n : Fin 8) : (s.dropPort n).kept = s.kept := by
  simp [State.dropPort]

@[simp] theorem State.resetChannel_kept (s : State) (n : Fin 8) : (s.resetChannel n).kept = s.kept := by
  simp [State.resetChannel, State.resetRegs_kept]

@[simp] theorem State.showHeld_kept (s : State) (l : Fin 24) : (s.showHeld l).kept = s.kept := by
  simp [State.showHeld]

@[simp] theorem State.resetLink_kept (s : State) (l : Fin 24) : (s.resetLink l).kept = s.kept := by
  simp [State.resetLink, State.resetRegs_kept]

@[simp] theorem State.latchStraps_kept (s : State) (straps : BitVec 4) : (s.latchStraps straps).kept = s.kept := by
  simp [State.latchStraps]

@[simp] theorem State.unsupported_kept (s : State) (write : Bool) : (s.unsupported write).kept = s.kept := by
  simp [State.unsupported]

@[simp] theorem State.unmask_kept (s : State) (v : Nat) : (s.unmask v).kept = s.kept := by
  simp -implicitDefEqProofs [State.unmask]

@[simp] theorem State.writeHostRaise_kept (s : State) (v : Word64) (fromHost : Bool) : (s.writeHostRaise v fromHost).kept = s.kept := by
  simp [State.writeHostRaise]

@[simp] theorem State.fwRead_kept (s : State) (a len : Nat) (errs : EccObs) : (s.fwRead a len errs).1.kept = s.kept := by
  unfold State.fwRead
  split
  · simp
  · split <;> next h => simp [kept_of_fst (s.memRead_kept _ _ _) h]

@[simp] theorem State.readMap_kept (s : State) (a : LoadArgs) (errs : EccObs) : (s.readMap a errs).1.kept = s.kept := by
  simp [State.readMap]

@[simp] theorem State.modCore_kept (s : State) (c : Nat) (f : CoreSt → CoreSt) : (s.modCore c f).kept = s.kept := by
  simp [State.modCore]

@[simp] theorem State.assignRoles_kept (s : State) : s.assignRoles.kept = s.kept := by
  simp [State.assignRoles]

@[simp] theorem State.kick_kept (s : State) (v : Word64) : (s.kick v).kept = s.kept := by
  simp [State.kick]

@[simp] theorem State.modMb_kept (s : State) (m : Fin 16) (f : MbSt → MbSt) : (s.modMb m f).kept = s.kept := by
  simp [State.modMb]

@[simp] theorem State.mbWrite_kept (s : State) (m : Fin 16) (off : Nat) (b : List Byte) : (s.mbWrite m off b).kept = s.kept := by
  simp [State.mbWrite]

@[simp] theorem State.mbEnd_kept (s : State) (m : Fin 16) (code : Nat) : (s.mbEnd m code).kept = s.kept := by
  simp -implicitDefEqProofs [State.mbEnd]

@[simp] theorem State.mbDone_kept (s : State) (m : Fin 16) (b : List Byte) : (s.mbDone m b).kept = s.kept := by
  simp [State.mbDone]

@[simp] theorem State.setMode_kept (s : State) (x : Nat) : (s.setMode x).kept = s.kept := by
  simp [State.setMode]

@[simp] theorem State.beginPower_kept (s : State) (to_ : Nat) (mb : Option Nat) : (s.beginPower to_ mb).kept = s.kept := by
  simp [State.beginPower]

@[simp] theorem State.controlRead_kept (s : State) (errs : List SymErr) : (s.controlRead errs).kept = s.kept := by
  simp [State.controlRead]

@[simp] theorem State.onCmd_kept (s : State) (m : Fin 16) (c : Cmd) (start cont : State → State) (hs : ∀ s, (start s).kept = s.kept)
    (hc : ∀ s, (cont s).kept = s.kept) : (s.onCmd m c start cont).kept = s.kept := by
  simp [State.onCmd, hs, hc]

@[simp] theorem State.atOnce_kept (s : State) (m : Fin 16) (c : Cmd) (f : State → State) (hf : ∀ s, (f s).kept = s.kept) :
    (s.atOnce m c f).kept = s.kept :=
  s.onCmd_kept m c f id hf fun _ => rfl

@[simp] theorem State.abort_kept (s : State) (m : Fin 16) (v : Word64) : (s.abort m v).kept = s.kept := by
  unfold State.abort
  split <;> simp

@[simp] theorem State.modDebug_kept (s : State) (f : DebugSt → DebugSt) : (s.modDebug f).kept = s.kept := by
  simp [State.modDebug]

@[simp] theorem State.dmControl_kept (s : State) (v : Nat) : (s.dmControl v).kept = s.kept := by
  simp [State.dmControl]

@[simp] theorem State.dmCommand_kept (s : State) (v : Nat) : (s.dmCommand v).kept = s.kept := by
  unfold State.dmCommand
  dsimp only
  repeat' split
  all_goals simp

@[simp] theorem State.dmWrite_kept (s : State) (addr : Nat) (v : BitVec 32) : (s.dmWrite addr v).kept = s.kept := by
  simp [State.dmWrite]

@[simp] theorem State.dmiOp_kept (s : State) (addr : Nat) (data : BitVec 32) (op : BitVec 2) : (s.dmiOp addr data op).kept = s.kept := by
  simp [State.dmiOp]

@[simp] theorem State.writeChFault_kept (s : State) (n : Nat) (v m : Word64) : (s.writeChFault n v m).kept = s.kept := by
  simp [State.writeChFault, State.writePlain_kept]

@[simp] theorem State.writeShadow_kept (s : State) (n : Nat) (v m : Word64) : (s.writeShadow n v m).kept = s.kept := by
  simp [State.writeShadow, State.writePlain_kept]

@[simp] theorem State.writeHostwin_kept (s : State) (v m : Word64) : (s.writeHostwin v m).kept = s.kept := by
  simp [State.writeHostwin, State.writePlain_kept]

@[simp] theorem State.writeFabCtl_kept (s : State) (v m : Word64) : (s.writeFabCtl v m).kept = s.kept := by
  simp [State.writeFabCtl, State.writePlain_kept]

@[simp] theorem State.writeRail_kept (s : State) (r : Nat) (v m : Word64) : (s.writeRail r v m).kept = s.kept := by
  simp [State.writeRail, State.writePlain_kept]

@[simp] theorem State.writeAlert_kept (s : State) (v m : Word64) : (s.writeAlert v m).kept = s.kept := by
  simp [State.writeAlert, State.writePlain_kept]

@[simp] theorem State.writeI3c_kept (s : State) (v m : Word64) (fromHost : Bool) : (s.writeI3c v m fromHost).kept = s.kept := by
  simp [State.writeI3c, State.writePlain_kept]

@[simp] theorem State.writeMsix_kept (s : State) (i : Nat) (v m : Word64) : (s.writeMsix i v m).kept = s.kept := by
  simp [State.writeMsix, State.writePlain_kept]

theorem State.writeKind_kept (s : State) (k : RegKind) (i j off : Nat) (v m : Word64) (fromHost : Bool) (hk : k ≠ .netPlace) (ho : off ≠ netPlace) :
    (s.writeKind k i j off v m fromHost).kept = s.kept := by
  cases k
  case netPlace => contradiction
  all_goals simp [State.writeKind, State.writePlain_kept, ho]

theorem at0_kind {k k' : RegKind} {b off i j : Nat} (h : at0 k b off = some (k', i, j)) : k = k' ∧ off = b := by
  simp only [at0, Option.ite_none_right_eq_some, Option.some.injEq, Prod.mk.injEq] at h
  exact ⟨h.2.1, h.1⟩

theorem at1_kind {k k' : RegKind} {b st n off i j : Nat} (h : at1 k b st n off = some (k', i, j)) : k = k' := by
  simp only [at1, Option.ite_none_right_eq_some, Option.some.injEq, Prod.mk.injEq] at h
  exact h.2.1

theorem at2_kind {k k' : RegKind} {b st n st2 m off i j : Nat} (h : at2 k b st n st2 m off = some (k', i, j)) : k = k' := by
  simp only [at2, Option.ite_none_right_eq_some, Option.some.injEq, Prod.mk.injEq] at h
  exact h.2.1

theorem at0_ne {k k' : RegKind} (hk : k ≠ k') (b off i j : Nat) : at0 k b off ≠ some (k', i, j) := fun h => hk (at0_kind h).1

theorem at1_ne {k k' : RegKind} (hk : k ≠ k') (b st n off i j : Nat) : at1 k b st n off ≠ some (k', i, j) := fun h => hk (at1_kind h)

theorem at2_ne {k k' : RegKind} (hk : k ≠ k') (b st n st2 m off i j : Nat) : at2 k b st n st2 m off ≠ some (k', i, j) := fun h => hk (at2_kind h)

/-- NET_PLACE is the register at one offset only. -/
theorem locate_netPlace {off i j : Nat} (h : locate off = some (.netPlace, i, j)) : off = netPlace := by
  revert h
  unfold locate
  repeat' split
  · simp only [locateHost, Option.orElse_eq_orElse, Option.orElse_eq_or, Option.or_eq_some_iff, at0_ne, at1_ne, ne_eq, reduceCtorEq,
      not_false_eq_true, and_false, false_or, or_false]
    exact fun h => (at0_kind h.2).2
  all_goals
    simp [locateChan, locateMem, locateNet, locateLnk, locateTim, locateSaf, locateCtl, locatePwr, locateBrd, at0_ne, at1_ne, at2_ne]

theorem State.regWrite_kept (s : State) (off : Nat) (v m : Word64) (fromHost : Bool) (ho : off ≠ netPlace) :
    (s.regWrite off v m fromHost).kept = s.kept := by
  unfold State.regWrite
  split
  · rfl
  · split
    · next k i j h => exact s.writeKind_kept k i j off v m fromHost (fun hk => ho (locate_netPlace (hk ▸ h))) ho
    · rfl

@[simp] theorem State.fwWrite_kept (s : State) (off : Nat) (v : Word64) (ho : off ≠ netPlace) : (s.fwWrite off v).kept = s.kept :=
  s.regWrite_kept off v _ false ho

@[simp] theorem State.commits_kept (s : State) (n : Nat) : (s.commits n).kept = s.kept := by
  simp [State.commits]

theorem State.dupWrite_kept (s : State) (off : Nat) (v : Word64) (ho : off ≠ netPlace) : (s.dupWrite off v).kept = s.kept := by
  simp [State.dupWrite, ho]

@[simp] theorem State.postAlone_kept (s : State) (c : Nat) : (s.postAlone c).kept = s.kept := by
  simp [State.postAlone]

@[simp] theorem State.hostTake_kept (s : State) (i : Nat) : (s.hostTake i).kept = s.kept := by
  simp [State.hostTake]

@[simp] theorem State.refillBudget_kept (s : State) : s.refillBudget.kept = s.kept := by
  simp [State.refillBudget]

@[simp] theorem State.modBrd_kept (s : State) (f : BrdSt → BrdSt) : (s.modBrd f).kept = s.kept := by
  simp [State.modBrd]

@[simp] theorem State.ccc_kept (s : State) (f : State → State) (hf : ∀ s, (f s).kept = s.kept) : (s.ccc f).kept = s.kept := by
  simp [State.ccc, hf]

@[simp] theorem State.i3cReply_kept (s : State) (b : List Byte) : (s.i3cReply b).kept = s.kept := by
  simp [State.i3cReply]

@[simp] theorem State.i3cAnswer_kept (s : State) (status v : Nat) : (s.i3cAnswer status v).kept = s.kept := by
  simp [State.i3cAnswer]

@[simp] theorem State.i3cAssign_kept (s : State) (a : BitVec 7) : (s.i3cAssign a).kept = s.kept := by
  simp [State.i3cAssign]

@[simp] theorem State.tap_kept (s : State) (code : Nat) (shift : List Byte) (drive : Option Nat) : (s.tap code shift drive).kept = s.kept := by
  simp [State.tap]

@[simp] theorem State.tapBypass_kept (s : State) (code : Nat) : (s.tapBypass code).kept = s.kept := by
  simp [State.tapBypass]

@[simp] theorem State.tapRefuse_kept (s : State) : s.tapRefuse.kept = s.kept := by
  simp [State.tapRefuse]

@[simp] theorem State.onTap_kept (s : State) (refuse : Bool) (f : State → State) (hf : ∀ s, (f s).kept = s.kept) :
    (s.onTap refuse f).kept = s.kept := by
  simp [State.onTap, hf]

@[simp] theorem State.tookShift_kept (s : State) : s.tookShift.kept = s.kept := by
  simp [State.tookShift]

@[simp] theorem State.landNext_kept (s : State) (n : Fin 8) (p : Ev → Bool) (obs : TeObs) : (s.landNext n p obs).kept = s.kept := by
  unfold State.landNext
  split <;> simp

@[simp] theorem State.scrubRow_kept (s : State) (n : Fin 8) (bank row : Nat) (errs : EccObs) : (s.scrubRow n bank row errs).kept = s.kept := by
  simp [State.scrubRow]

@[simp] theorem State.fwField_kept (s : State) (off : Nat) (f : Fld) (x : Nat) (ho : off ≠ netPlace) : (s.fwField off f x).kept = s.kept :=
  s.regWrite_kept off _ _ false ho

@[simp] theorem State.mbFail_kept (s : State) (m : Fin 16) (b : List Byte) (code : Nat) : (s.mbFail m b code).kept = s.kept := by
  simp [State.mbFail]

@[simp] theorem State.onRom_kept (s : State) (m : Fin 16) (op len : Nat) (f : State → State) (hf : ∀ s, (f s).kept = s.kept) :
    (s.onRom m op len f).kept = s.kept := by
  simp [State.onRom, hf]

@[simp] theorem State.applySurvey_kept (s : State) (l : Nat) : (s.applySurvey l).kept = s.kept := by
  simp [State.applySurvey]

@[simp] theorem State.restoreLanes_kept (s : State) (l : Nat) : (s.restoreLanes l).kept = s.kept := by
  simp [State.restoreLanes]

@[simp] theorem State.endPorts_kept (s : State) (m : Fin 16) : (s.endPorts m).kept = s.kept := by
  simp [State.endPorts]

@[simp] theorem State.waitPorts_kept (s : State) (m : Fin 16) : (s.waitPorts m).kept = s.kept := by
  simp [State.waitPorts]

@[simp] theorem State.beginPorts_kept (s : State) (m : Fin 16) : (s.beginPorts m).kept = s.kept := by
  simp [State.beginPorts, State.dupWrite_kept]

@[simp] theorem State.onTime_kept (s : State) (m : Fin 16) (op : Nat) (start cont : State → State) (hs : ∀ s, (start s).kept = s.kept)
    (hc : ∀ s, (cont s).kept = s.kept) : (s.onTime m op start cont).kept = s.kept := by
  simp [State.onTime, State.onCmd_kept, hs, hc]

@[simp] theorem State.endTime_kept (s : State) (m : Fin 16) (code : Nat) : (s.endTime m code).kept = s.kept := by
  simp [State.endTime]

@[simp] theorem State.governed_kept (s : State) (m : Fin 16) (write next : State → State) (hw : ∀ s, (write s).kept = s.kept)
    (hn : ∀ s, (next s).kept = s.kept) : (s.governed m write next).kept = s.kept := by
  simp [State.governed, hw, hn]

@[simp] theorem State.waitAcquire_kept (s : State) (m : Fin 16) : (s.waitAcquire m).kept = s.kept := by
  simp [State.waitAcquire]

@[simp] theorem State.onRoutes_kept (s : State) (m : Fin 16) (op : Nat) (start : State → State) (hs : ∀ s, (start s).kept = s.kept) :
    (s.onRoutes m op start).kept = s.kept := by
  simp [State.onRoutes, State.atOnce_kept, hs]

@[simp] theorem State.endRoutes_kept (s : State) (m : Fin 16) (code : Nat) : (s.endRoutes m code).kept = s.kept := by
  simp [State.endRoutes]

@[simp] theorem State.copyRoutes_kept (s : State) (b : List Byte) : (s.copyRoutes b).kept = s.kept := by
  unfold State.copyRoutes
  exact State.foldl_kept _ _ (fun s d => s.dupWrite_kept _ _ (by simp)) s

@[simp] theorem State.waitSend_kept (s : State) (m : Fin 16) : (s.waitSend m).kept = s.kept := by
  unfold State.waitSend
  split <;> simp

@[simp] theorem State.waitRecv_kept (s : State) (m : Fin 16) : (s.waitRecv m).kept = s.kept := by
  unfold State.waitRecv
  split <;> simp

@[simp] theorem State.onReset_kept (s : State) (m : Fin 16) (kind : Nat) : (s.onReset m kind).kept = s.kept := by
  simp [State.onReset]

@[simp] theorem State.restartChannel_kept (s : State) (n : Fin 8) : (s.restartChannel n).kept = s.kept := by
  simp [State.restartChannel]

@[simp] theorem State.applyReset_kept (s : State) (kind unit : Nat) : (s.applyReset kind unit).kept = s.kept := by
  simp [State.applyReset]

@[simp] theorem State.dueResets_kept (s : State) : s.dueResets.kept = s.kept := by
  simp [State.dueResets]

@[simp] theorem State.waitPower_kept (s : State) (m : Fin 16) : (s.waitPower m).kept = s.kept := by
  simp [State.waitPower]

@[simp] theorem State.maskPorts_kept (s : State) : s.maskPorts.kept = s.kept := by
  simp [State.maskPorts]

@[simp] theorem State.enterPower_kept (s : State) (to_ : Nat) : (s.enterPower to_).kept = s.kept := by
  simp [State.enterPower]

@[simp] theorem State.writePhase_kept (s : State) (bank : Nat) (recs : List (Nat × Nat)) : (s.writePhase bank recs).kept = s.kept := by
  simp [State.writePhase]

@[simp] theorem State.writeTables_kept (s : State) (p : Prog) (i : Nat) : (s.writeTables p i).kept = s.kept := by
  unfold State.writeTables
  split <;> simp

@[simp] theorem State.enableVc0_kept (s : State) : s.enableVc0.kept = s.kept := by
  simp [State.enableVc0]

@[simp] theorem State.rearmSwap_kept (s : State) : s.rearmSwap.kept = s.kept := by
  unfold State.rearmSwap
  dsimp only
  repeat' split
  all_goals simp -implicitDefEqProofs

@[simp] theorem State.applyChannel_kept (s : State) (b : Img) (idx : Nat) (n : Fin 8) : (s.applyChannel b idx n).kept = s.kept := by
  unfold State.applyChannel
  split <;> simp

@[simp] theorem State.loadChannels_kept (s : State) (b : Img) (idx : Nat) : (s.loadChannels b idx).kept = s.kept := by
  simp [State.loadChannels]

@[simp] theorem State.writeDmax_kept (s : State) (b : Img) : (s.writeDmax b).kept = s.kept := by
  simp [State.writeDmax]

@[simp] theorem State.applyImage_kept (s : State) (b : Img) (a : LoadArgs) (m : List Nat) (pos : Nat) (whole : Bool) (errs : EccObs) :
    (s.applyImage b a m pos whole errs).kept = s.kept := by
  simp -implicitDefEqProofs [State.applyImage]

@[simp] theorem State.beginLoad_kept (s : State) (m : Fin 16) (errs : EccObs) : (s.beginLoad m errs).kept = s.kept := by
  simp [State.beginLoad]

@[simp] theorem State.modRun_kept (s : State) (f : Run → Run) : (s.modRun f).kept = s.kept := by
  simp [State.modRun]

@[simp] theorem State.goRun_kept (s : State) (m : Fin 16) (r : Run) : (s.goRun m r).kept = s.kept := by
  unfold State.goRun
  extract_lets s1 f
  have h1 : s1.kept = s.kept := by simp [s1]
  split
  · split
    · exact h1
    · rw [State.mbEnd_kept]
      exact (State.kept_eq (s := s1) rfl rfl rfl rfl).trans h1
  · rfl

@[simp] theorem State.runStep_kept (s : State) (m : Fin 16) : (s.runStep m).kept = s.kept := by
  unfold State.runStep
  split <;> simp

@[simp] theorem State.newRun_kept (s : State) (m : Fin 16) (off t0 state : Nat) : (s.newRun m off t0 state).kept = s.kept := by
  simp [State.newRun]

@[simp] theorem State.beginStart_kept (s : State) (m : Fin 16) : (s.beginStart m).kept = s.kept := by
  simp [State.beginStart]

@[simp] theorem State.waitInput_kept (s : State) (m : Fin 16) (errs : EccObs) : (s.waitInput m errs).kept = s.kept := by
  unfold State.waitInput
  dsimp only
  repeat' split
  all_goals simp -implicitDefEqProofs

@[simp] theorem State.waitCurtain_kept (s : State) (m : Fin 16) : (s.waitCurtain m).kept = s.kept := by
  simp [State.waitCurtain]

@[simp] theorem State.failRestore_kept (s : State) (m : Fin 16) (code : Nat) : (s.failRestore m code).kept = s.kept := by
  simp [State.failRestore]

@[simp] theorem State.badRestore_kept (s : State) (m : Fin 16) (c : Nat) : (s.badRestore m c).kept = s.kept := by
  simp [State.badRestore]

@[simp] theorem State.restorePhase_kept (s : State) (m : Fin 16) (p : Nat) : (s.restorePhase m p).kept = s.kept := by
  simp [State.restorePhase]

@[simp] theorem State.sendRegion_kept (s : State) (m : Fin 16) (dest from_ to_ pages next : Nat) (errs : EccObs) :
    (s.sendRegion m dest from_ to_ pages next errs).kept = s.kept := by
  unfold State.sendRegion
  obtain ⟨arbs, ea, ha⟩ : ∃ f, State.arbAccesses = f ∧ ∀ s l, (f s l).1.kept = s.kept := ⟨_, rfl, State.arbAccesses_kept⟩
  obtain ⟨send, es, hs⟩ : ∃ f, State.sendRange = f ∧ ∀ s d a b l x e, (f s d a b l x e).1.kept = s.kept := ⟨_, rfl, State.sendRange_kept⟩
  rw [ea, es]
  split
  · rfl
  · split
    · next h => exact kept_of_fst (ha s _) h
    · next t h =>
      have ht : t.kept = s.kept := kept_of_fst (ha s _) h
      split <;> next hu => simp [(kept_of_fst (hs t _ _ _ _ _ _) hu).trans ht]

@[simp] theorem State.copyRegion_kept (s : State) (m : Fin 16) (pages : List Nat) (from_ to_ : Nat) (errs : EccObs) (next : State → State)
    (hn : ∀ s, (next s).kept = s.kept) : (s.copyRegion m pages from_ to_ errs next).kept = s.kept := by
  unfold State.copyRegion
  split
  · next h => exact kept_of_fst (s.arbAccesses_kept _) h
  · next t h =>
    have ht := kept_of_fst (s.arbAccesses_kept _) h
    split <;> next h => simp [kept_of_fst (t.copyPages_kept _ _ _ _) h, ht, hn]

@[simp] theorem State.waitRegion_kept (s : State) (m : Fin 16) (dest again : Nat) (next : State → State) (hn : ∀ s, (next s).kept = s.kept) :
    (s.waitRegion m dest again next).kept = s.kept := by
  simp [State.waitRegion, hn]

@[simp] theorem State.dropCopy_kept (s : State) (m : Fin 16) (region : Nat) : (s.dropCopy m region).kept = s.kept := by
  simp [State.dropCopy]

@[simp] theorem State.restoreOwn_kept (s : State) (m : Fin 16) (errs : EccObs) : (s.restoreOwn m errs).kept = s.kept := by
  unfold State.restoreOwn
  extract_lets a pages
  have hc (t : State) (h : t.kept = s.kept) (p : List Nat) (f g : Nat) (next : State → State) (hn : ∀ s, (next s).kept = s.kept) :
      (t.copyRegion m p f g errs next).kept = s.kept := (t.copyRegion_kept m p f g errs next hn).trans h
  split
  · split
    · generalize h : s.memRead _ _ _ = p
      obtain ⟨t, b, bad⟩ := p
      have ht := kept_of_fst (s.memRead_kept _ _ _) h
      cases bad
      · simp [ht]
      · simp [ht]
    · rfl
  · split
    · simp
    · simp

@[simp] theorem State.restoreBlocks_kept (s : State) (w : Nat) (l : List (Fin 8)) (errs : EccObs) : (s.restoreBlocks w l errs).1.kept = s.kept := by
  unfold State.restoreBlocks
  refine State.foldl_fst_kept _ _ (fun p n => ?_) _
  split
  · rfl
  · split <;> next h => simp [kept_of_fst (State.memRead_kept _ _ _ _) h]

@[simp] theorem State.restoreFrom_kept (s : State) (w : Nat) (m : Fin 16) (errs : EccObs) : (s.restoreFrom w m errs).kept = s.kept := by
  obtain ⟨arbs, ea, ha⟩ : ∃ f, State.arbAccesses = f ∧ ∀ s l, (f s l).1.kept = s.kept := ⟨_, rfl, State.arbAccesses_kept⟩
  obtain ⟨read, er, hr⟩ : ∃ f, State.fwRead = f ∧ ∀ s a l e, (f s a l e).1.kept = s.kept := ⟨_, rfl, State.fwRead_kept⟩
  obtain ⟨map, em, hm⟩ : ∃ f, State.readMap = f ∧ ∀ s a e, (f s a e).1.kept = s.kept := ⟨_, rfl, State.readMap_kept⟩
  obtain ⟨mem, ee, he⟩ : ∃ f, State.memRead = f ∧ ∀ s a l e, (f s a l e).1.kept = s.kept := ⟨_, rfl, State.memRead_kept⟩
  obtain ⟨blocks, eb, hb⟩ : ∃ f, State.restoreBlocks = f ∧ ∀ s w l e, (f s w l e).1.kept = s.kept := ⟨_, rfl, State.restoreBlocks_kept⟩
  obtain ⟨g, hg⟩ : ∃ g, g = State.restoreFrom := ⟨_, rfl⟩
  rw [← hg]
  delta State.restoreFrom at hg
  rw [ea, er, em, ee, eb] at hg
  subst hg
  beta_reduce
  extract_lets a k
  split
  next s1 b e1 =>
  have h1 : s1.kept = s.kept := kept_of_fst (hr s _ _ _) e1
  split
  next s2 devmap e2 =>
  have h2 : s2.kept = s.kept := (kept_of_fst (hm s1 _ _) e2).trans h1
  split
  next s3 rec_ bad e3 =>
  have h3 : s3.kept = s.kept := (kept_of_fst (he s2 _ _ _) e3).trans h2
  extract_lets s4
  have h4 : s4.kept = s.kept := (s3.applyImage_kept _ _ _ _ _ _).trans h3
  split
  · simp [h3]
  · simp [h3]
  · next s5 e5 =>
    have h5 : s5.kept = s.kept := (kept_of_fst (ha s4 _) e5).trans h4
    split
    next s6 bad6 e6 =>
    have h6 : s6.kept = s.kept := (kept_of_fst (hb s5 _ _ _) e6).trans h5
    split
    · simp [h6]
    · extract_lets s7 _ s9 s10
      have h7 : s7.kept = s.kept := by simpa [s7] using h6
      clear_value s7
      have h9 : s9.kept = s.kept := by simp -implicitDefEqProofs [s9, h7]
      clear_value s9
      simp [s10, h9]

@[simp] theorem State.restoreState_kept (s : State) (m : Fin 16) (errs : EccObs) : (s.restoreState m errs).kept = s.kept := by
  simp [State.restoreState]

@[simp] theorem State.restoreGo_kept (s : State) (m : Fin 16) : (s.restoreGo m).kept = s.kept := by
  unfold State.restoreGo
  split <;> simp

@[simp] theorem State.restoreStep_kept (s : State) (m : Fin 16) (errs : EccObs) : (s.restoreStep m errs).kept = s.kept := by
  unfold State.restoreStep
  dsimp only
  split <;> simp [State.waitRegion_kept]

@[simp] theorem State.beginRestore_kept (s : State) (m : Fin 16) (errs : EccObs) : (s.beginRestore m errs).kept = s.kept := by
  unfold State.beginRestore
  extract_lets a
  split
  next s1 b e1 =>
  have h1 : s1.kept = s.kept := kept_of_fst (s.fwRead_kept _ _ _) e1
  extract_lets t c at_
  have ht : t.kept = s.kept := by simp [t, h1]
  split
  · simp [h1]
  · split
    · simp [ht]
    · split <;> next h => simp [(kept_of_fst (t.memRead_kept _ _ _) h).trans ht]

@[simp] theorem State.flashImageWrite_kept (s : State) (b : List Byte) (ok : Bool) : (s.flashImageWrite b ok).kept = s.kept := by
  simp [State.flashImageWrite]

@[simp] theorem State.strapMap_kept (s : State) : s.strapMap.kept = s.kept := by
  simp [State.strapMap]

@[simp] theorem State.restoreTops_kept (s : State) : s.restoreTops.kept = s.kept := by
  simp [State.restoreTops]

@[simp] theorem State.recover_kept (s : State) (m : Fin 16) (flashOk : Bool) (errs : EccObs) : (s.recover m flashOk errs).kept = s.kept := by
  simp [State.recover]

@[simp] theorem State.goOn_kept (s : State) (m : Fin 16) : (s.goOn m).kept = s.kept := by
  unfold State.goOn
  split
  · rfl
  · split
    · rfl
    · simp

@[simp] theorem State.fwTick_kept (s : State) : s.fwTick.kept = s.kept := by
  simp [State.fwTick]

@[simp] theorem State.endTick_kept (s : State) : s.endTick.kept = s.kept := by
  simp [State.endTick]

@[simp] theorem State.retryReads_kept (s : State) (n : Fin 8) : (s.retryReads n).kept = s.kept := by
  simp [State.retryReads]

@[simp] theorem State.linkTick_kept (s : State) (l : Fin 24) : (s.linkTick l).kept = s.kept := by
  simp [State.linkTick]

end Sys2Proof.Machine
end

section
/-!
Writes at an offset of the writer's choice, which may be that of NET_PLACE: a locked placement stays (R9, R34).
-/

namespace Sys2Proof.Machine

/-- What every step outside POR and MOD keeps of a state. -/
structure Keeps (s t : State) : Prop where
  pending : t.pending = s.pending
  slot1 : s.fw.slot1 ≠ none → t.fw.slot1 = s.fw.slot1
  svnMin : s.fw.svnMin ≤ t.fw.svnMin
  place : s.flag netPlace NET_PLACE_LOCK = true → t.rd netPlace = s.rd netPlace

theorem Keeps.of_kept {s t : State} (h : t.kept = s.kept) : Keeps s t := by
  simp only [State.kept, Kept.mk.injEq] at h
  obtain ⟨hp, h1, hm, hr⟩ := h
  exact ⟨hp, fun _ => h1, hm.ge, fun _ => hr⟩

theorem Keeps.refl (s : State) : Keeps s s := .of_kept rfl

theorem Keeps.trans {s t u : State} (h : Keeps s t) (h' : Keeps t u) : Keeps s u where
  pending := h'.pending.trans h.pending
  slot1 hs := (h'.slot1 (by rw [h.slot1 hs]; exact hs)).trans (h.slot1 hs)
  svnMin := h.svnMin.trans h'.svnMin
  place hl := (h'.place (by rw [State.flag, State.fld, h.place hl]; exact hl)).trans (h.place hl)

/-- A write where nothing is writable leaves the word. -/
theorem writeWord_netPlace_locked (before old v m : Word64) : writeWord RegKind.netPlace.fields true before old v m = old := by
  have hrw : accMask (fun f => decide (f.acc = .rw) || (decide (f.acc = .rwl) && !true)) RegKind.netPlace.fields = 0#64 := by decide
  have hc : accMask (fun f => decide (f.acc = .w1c)) RegKind.netPlace.fields = 0#64 := by decide
  have hs : accMask (fun f => decide (f.acc = .w1s)) RegKind.netPlace.fields = 0#64 := by decide
  simp only [writeWord, hrw, hc, hs, BitVec.zero_and, BitVec.and_zero, BitVec.or_zero, BitVec.not_zero, BitVec.and_allOnes]

theorem State.locked_netPlace (s : State) : s.locked .netPlace = s.flag netPlace NET_PLACE_LOCK := by simp [State.locked]

theorem locate_at_netPlace : locate netPlace = some (.netPlace, 0, 0) := by decide

/-- A write to the locked placement leaves the placement, and is counted where it reaches a locked field (R9). -/
theorem State.writePlain_netPlace_locked (s : State) (v m : Word64) (hl : s.flag netPlace NET_PLACE_LOCK = true) :
    s.writePlain netPlace v m = (if s.lockViolated .netPlace m then (s.wr netPlace (s.rd netPlace)).bump safLockViolCount SAF_LOCK_VIOL_COUNT_COUNT
      else s.wr netPlace (s.rd netPlace)).nextCycle := by
  simp only [State.writePlain, locate_at_netPlace, State.locked_netPlace, hl, writeWord_netPlace_locked]

theorem State.wr_rd_kept (s : State) (off : Nat) : (s.wr off (s.rd off)).kept = s.kept := by
  have h : (s.wr off (s.rd off)).rd netPlace = s.rd netPlace := by
    by_cases ho : netPlace = off
    · rw [ho, State.rd_wr_same]
    · exact State.rd_wr_other _ _ _ _ ho
  simp only [State.kept, State.wr_pending, State.wr_fw, h]

theorem State.writePlain_netPlace_locked_kept (s : State) (v m : Word64) (hl : s.flag netPlace NET_PLACE_LOCK = true) :
    (s.writePlain netPlace v m).kept = s.kept := by
  rw [State.writePlain_netPlace_locked s v m hl]
  split <;> simp [State.wr_rd_kept]

/-- A write to a placement that is not locked reaches nothing else. -/
theorem Keeps.of_unlocked {s t : State} (hl : s.flag netPlace NET_PLACE_LOCK = false) (hp : t.pending = s.pending) (hf : t.fw = s.fw) :
    Keeps s t where
  pending := hp
  slot1 _ := by rw [hf]
  svnMin := by rw [hf]
  place h := by rw [hl] at h; cases h

theorem State.writePlain_pending (s : State) (off : Nat) (v m : Word64) : (s.writePlain off v m).pending = s.pending := by
  unfold State.writePlain
  split
  · rfl
  · dsimp only
    split <;> simp

theorem State.writePlain_fw (s : State) (off : Nat) (v m : Word64) : (s.writePlain off v m).fw = s.fw := by
  unfold State.writePlain
  split
  · rfl
  · dsimp only
    split <;> simp

theorem State.writePlace_keeps (s : State) (v m : Word64) : Keeps s (s.writePlace v m) := by
  unfold State.writePlace
  cases hl : s.flag netPlace NET_PLACE_LOCK
  · refine .of_unlocked hl ?_ ?_
    · rw [State.locked_netPlace, hl]
      dsimp only
      repeat' split
      all_goals simp [State.writePlain_pending]
    · rw [State.locked_netPlace, hl]
      dsimp only
      repeat' split
      all_goals simp [State.writePlain_fw]
  · rw [State.locked_netPlace, hl, if_pos rfl]
    exact .of_kept (s.writePlain_netPlace_locked_kept v m hl)

theorem State.regWrite_keeps (s : State) (off : Nat) (v m : Word64) (fromHost : Bool) : Keeps s (s.regWrite off v m fromHost) := by
  by_cases ho : off = netPlace
  · subst ho
    simp only [State.regWrite, locate_at_netPlace, State.writeKind]
    split
    · exact .refl s
    · exact s.writePlace_keeps v m
  · exact .of_kept (s.regWrite_kept off v m fromHost ho)

theorem State.dupWrite_keeps (s : State) (off : Nat) (v : Word64) : Keeps s (s.dupWrite off v) :=
  (s.regWrite_keeps off v (~~~0) false).trans (.of_kept (State.commits_kept _ 1))

theorem State.post2_keeps (s : State) (c : Nat) (v : Word64) : Keeps s (s.post2 c v) := by
  unfold State.post2
  split
  · exact .refl s
  · extract_lets t off _ w
    have ht : t.kept = s.kept := by
      simp only [t]
      split <;> simp
    split
    · refine .of_kept ?_
      rw [State.setFlag_kept _ _ _ (by decide)]
      exact (State.kept_eq (s := t) rfl rfl rfl rfl).trans ht
    · have hw : w.kept = s.kept := (State.setFld_kept _ _ _ _ (by decide)).trans ((State.kept_eq (s := t) rfl rfl rfl rfl).trans ht)
      split
      · exact (Keeps.of_kept hw).trans (w.dupWrite_keeps off v)
      · exact .of_kept (by simp [hw])

theorem State.bar0Write_keeps (s : State) (off : Nat) (size4 : Bool) (v : Word64) (fromHost : Bool) : Keeps s (s.bar0Write off size4 v fromHost) := by
  unfold State.bar0Write
  extract_lets n inMb _ reg _
  split
  · exact .refl s
  · split
    · exact .of_kept (State.kept_eq (s := s) rfl rfl rfl rfl)
    · split
      · refine .of_kept ?_
        split <;> simp
      · split
        split
        · exact .of_kept (State.kept_eq (s := s) rfl rfl rfl rfl)
        · split
          · exact .refl s
          · exact s.post2_keeps _ _
        · exact s.regWrite_keeps _ _ _ _

theorem State.hostBar0_keeps (s : State) (r : HostReq) : Keeps s (s.hostBar0 r) := s.bar0Write_keeps _ _ _ _

theorem State.hostTake_keeps (s : State) (i : Nat) : Keeps s (s.hostTake i) := .of_kept (by simp)

theorem State.hostStep_keeps (s : State) : Keeps s s.hostStep.1 := by
  unfold State.hostStep
  split
  · exact .refl s
  · next r rest _ =>
    extract_lets pass
    have hp (t : State) : Keeps t (pass t).1 := by
      simp only [pass]
      split
      · exact (t.hostTake_keeps _).trans (State.hostBar0_keeps _ _)
      · exact .refl t
    clear_value pass
    split
    · exact (s.hostTake_keeps 0).trans (State.hostBar0_keeps _ _)
    · split
      · have hg : Keeps s (s.hostGo r).1 := .of_kept (s.hostGo_kept r)
        split <;> next h => rw [h] at hg; first | exact hg.trans (State.hostTake_keeps _ 0) | exact hg.trans (hp _)
      · split
        · exact hp s
        · exact .of_kept ((State.kept_eq (s := s.hostAdmit r) rfl rfl rfl rfl).trans (s.hostAdmit_kept r))

theorem State.hostSteps_keeps (s : State) (k : Nat) : Keeps s (s.hostSteps k) := by
  induction k generalizing s with
  | zero => exact .refl s
  | succ k ih =>
    have hs := s.hostStep_keeps
    unfold State.hostSteps
    split <;> next h => rw [h] at hs; first | exact hs.trans (ih _) | exact hs

theorem State.hostPump_keeps (s : State) : Keeps s s.hostPump := s.hostSteps_keeps _

theorem State.hostArrive_keeps (s : State) (r : HostReq) : Keeps s (s.hostArrive r) := by
  unfold State.hostArrive
  split
  · exact .refl s
  · split
    · split
      · exact .refl s
      · exact .of_kept (by simp)
    · extract_lets _ t
      have ht : t.kept = s.kept := State.kept_eq (s := s) rfl rfl rfl rfl
      exact (Keeps.of_kept ht).trans t.hostPump_keeps

theorem State.beginTick_keeps (s : State) : Keeps s s.beginTick := by
  unfold State.beginTick
  extract_lets s1 s2
  have h2 : s2.kept = s.kept := by simp [s2, s1]
  refine .trans (.of_kept ?_) (State.hostPump_keeps _)
  simp [h2]

theorem State.idleTick_keeps (s : State) : Keeps s s.idleTick := by
  unfold State.idleTick
  split
  · exact .refl s
  · extract_lets _ s1 s2
    have h1 : s1.kept = s.kept := State.kept_eq (s := s) rfl rfl rfl rfl
    have h2 : s2.kept = s1.kept := State.endTick_kept _
    split
    · exact .of_kept h1
    · refine .trans (.trans (.of_kept ?_) (State.beginTick_keeps _)) (.of_kept (State.fwTick_kept _))
      rw [State.nextCycle_kept, State.wr_kept _ _ _ (by decide), h2, h1]

/-- What a command does where it answers with the next state. -/
@[simp] theorem State.ofNext_next (s t : State) : s.ofNext (.next t) = t := rfl

@[simp] theorem State.ofNext_ite (s : State) (c : Prop) [Decidable c] (a b : Host.Outcome State Fault Refusal) :
    s.ofNext (if c then a else b) = if c then s.ofNext a else s.ofNext b := apply_ite _ c a b

end Sys2Proof.Machine
end

section
/-!
Every command but those that write the fuses or the placement, and the resets that clear it, keeps that part.
-/

namespace Sys2Proof.Machine

@[simp] theorem execArbRequest_kept (a : ArbId) (k : Fin 10) (dt : Nat) (s : State) : (s.ofNext (execArbRequest a k dt s)).kept = s.kept := by
  simp [execArbRequest]

@[simp] theorem execArbRound_kept (a : ArbId) (dt : Nat) (s : State) : (s.ofNext (execArbRound a dt s)).kept = s.kept := by
  unfold execArbRound
  dsimp only
  repeat' split
  all_goals simp -implicitDefEqProofs

@[simp] theorem execArbRelease_kept (a : ArbId) (dt : Nat) (s : State) : (s.ofNext (execArbRelease a dt s)).kept = s.kept := by
  simp [execArbRelease]

@[simp] theorem execArbMaskFall_kept (a : ArbId) (k : Fin 10) (s : State) : (s.ofNext (execArbMaskFall a k s)).kept = s.kept := by
  simp [execArbMaskFall]

@[simp] theorem execStarveDetect_kept (a : ArbId) (k : Fin 10) (dt : Nat) (s : State) :
    (s.ofNext (execStarveDetect a k dt s)).kept = s.kept := by
  simp [execStarveDetect]

@[simp] theorem execArbPrioWrite_kept (a : ArbId) (value : Word64) (s : State) : (s.ofNext (execArbPrioWrite a value s)).kept = s.kept := by
  simp [execArbPrioWrite, State.writeAll_kept]

@[simp] theorem execArbCtlWrite_kept (a : ArbId) (value : Word64) (s : State) : (s.ofNext (execArbCtlWrite a value s)).kept = s.kept := by
  simp [execArbCtlWrite]

@[simp] theorem execVc0CrossbarEnter_kept (p : Fin 34) (s : State) : (s.ofNext (execVc0CrossbarEnter p s)).kept = s.kept := by
  unfold execVc0CrossbarEnter
  dsimp only
  repeat' split
  all_goals simp -implicitDefEqProofs

@[simp] theorem execVc0LinkArrive_kept (l : Fin 24) (s : State) : (s.ofNext (execVc0LinkArrive l s)).kept = s.kept := by
  unfold execVc0LinkArrive
  dsimp only
  repeat' split
  all_goals simp -implicitDefEqProofs

@[simp] theorem execVc0WindowClose_kept (l : Fin 24) (s : State) : (s.ofNext (execVc0WindowClose l s)).kept = s.kept := by
  unfold execVc0WindowClose
  split <;> simp -implicitDefEqProofs

@[simp] theorem execSwapTickCopy_kept (s : State) : (s.ofNext (execSwapTickCopy s)).kept = s.kept := by
  unfold execSwapTickCopy
  split <;> simp -implicitDefEqProofs

@[simp] theorem execBankSwap_kept (s : State) : (s.ofNext (execBankSwap s)).kept = s.kept := by
  simp [execBankSwap]

@[simp] theorem execCircuitEntryWrite_kept (bank : Fin 2) (c : Fin 4096) (value : Word64) (s : State) :
    (s.ofNext (execCircuitEntryWrite bank c value s)).kept = s.kept := by
  simp [execCircuitEntryWrite]

@[simp] theorem execStreamBurstIssue_kept (n : Fin 8) (q : Fin 24) (s : State) : (s.ofNext (execStreamBurstIssue n q s)).kept = s.kept := by
  simp [execStreamBurstIssue]

@[simp] theorem execBurstComplete_kept (n : Fin 8) (q : Fin 24) (k : Nat) (errs : List (Nat × SymErr)) (s : State) :
    (s.ofNext (execBurstComplete n q k errs s)).kept = s.kept := by
  simp only [execBurstComplete, State.ofNext_next]
  split
  · rfl
  · split
    · rfl
    · split <;> next h => simp [kept_of_fst (s.arbAccesses_kept _) h]

@[simp] theorem execStreamEntryWritten_kept (n : Fin 8) (q : Fin 24) (k : Nat) (s : State) :
    (s.ofNext (execStreamEntryWritten n q k s)).kept = s.kept := by
  simp only [execStreamEntryWritten, State.ofNext_next]
  split
  · rfl
  · split
    · rfl
    · split <;> next h => simp [kept_of_fst (s.arbAccesses_kept _) h]

@[simp] theorem execStoreEntryWritten_kept (n : Fin 8) (q : Fin 24) (s : State) : (s.ofNext (execStoreEntryWritten n q s)).kept = s.kept := by
  simp [execStoreEntryWritten]

@[simp] theorem execStreamDescriptorDone_kept (n : Fin 8) (q : Fin 24) (s : State) :
    (s.ofNext (execStreamDescriptorDone n q s)).kept = s.kept := by
  simp [execStreamDescriptorDone]

@[simp] theorem execCountSync_kept (n : Fin 8) (q : Fin 24) (toArith : Bool) (s : State) :
    (s.ofNext (execCountSync n q toArith s)).kept = s.kept := by
  simp [execCountSync]

@[simp] theorem execArbMaskRise_kept (a : ArbId) (k : Fin 10) (s : State) : (s.ofNext (execArbMaskRise a k s)).kept = s.kept := by
  unfold execArbMaskRise
  dsimp only
  repeat' split
  all_goals simp -implicitDefEqProofs

@[simp] theorem execPinTest_kept (c : Fin 128) (failed : BitVec 16) (s : State) : (s.ofNext (execPinTest c failed s)).kept = s.kept := by
  unfold execPinTest
  dsimp only
  repeat' split
  all_goals simp -implicitDefEqProofs

@[simp] theorem execPatrolScrubRead_kept (c : Fin 128) (err : SymErr) (s : State) : (s.ofNext (execPatrolScrubRead c err s)).kept = s.kept := by
  simp [execPatrolScrubRead]

@[simp] theorem execScrubSweepEnd_kept (c : Fin 128) (s : State) : (s.ofNext (execScrubSweepEnd c s)).kept = s.kept := by
  simp [execScrubSweepEnd]

@[simp] theorem execRemapDataWrite_kept (c : Fin 128) (value : Word64) (s : State) :
    (s.ofNext (execRemapDataWrite c value s)).kept = s.kept := by
  simp [execRemapDataWrite]

@[simp] theorem execMemInitDone_kept (failed : List (Fin 128)) (s : State) : (s.ofNext (execMemInitDone failed s)).kept = s.kept := by
  simp [execMemInitDone]

@[simp] theorem execLendWrite_kept (s : State) (errs : List (Nat × SymErr)) : (s.ofNext (execLendWrite s errs)).kept = s.kept := by
  simp [execLendWrite]

@[simp] theorem execLendRead_kept (errs : List (Nat × SymErr)) (inTime : Bool) (s : State) :
    (s.ofNext (execLendRead errs inTime s)).kept = s.kept := by
  unfold execLendRead
  rw [State.ofNext_next]
  refine State.lendGo_kept s true _ fun r s => ?_
  split <;> next h => simp [kept_of_fst (s.memRead_kept _ _ _) h]

@[simp] theorem execLendReplyDepart_kept (s : State) : (s.ofNext (execLendReplyDepart s)).kept = s.kept := by
  unfold execLendReplyDepart
  split <;> simp -implicitDefEqProofs

@[simp] theorem execUnsPacketArrive_kept (l : Fin 24) (cls : Fin 4) (s : State) : (s.ofNext (execUnsPacketArrive l cls s)).kept = s.kept := by
  unfold execUnsPacketArrive
  split <;> simp -implicitDefEqProofs

@[simp] theorem execUnsPacketForward_kept (p : Fin 34) (cls : Fin 4) (s : State) : (s.ofNext (execUnsPacketForward p cls s)).kept = s.kept := by
  unfold execUnsPacketForward
  dsimp only
  repeat' split
  all_goals simp -implicitDefEqProofs

@[simp] theorem execPort32Deliver_kept (s : State) : (s.ofNext (execPort32Deliver s)).kept = s.kept := by
  unfold execPort32Deliver
  split <;> simp -implicitDefEqProofs

@[simp] theorem execPort33Write_kept (s : State) (errs : List (Nat × SymErr)) : (s.ofNext (execPort33Write s errs)).kept = s.kept := by
  simp only [execPort33Write, State.ofNext_next]
  split
  · rfl
  · split
    · split
      · rfl
      · split <;> next h => simp [kept_of_fst (s.packetGrants_kept _) h]
    · simp

@[simp] theorem execFlaggedPacketRelease_kept (port : Fin 2) (s : State) : (s.ofNext (execFlaggedPacketRelease port s)).kept = s.kept := by
  simp only [execFlaggedPacketRelease, State.ofNext_next]
  split
  · rfl
  · next x _ =>
    have hp : (if port.val = 1 && s.writesNow x.1 then s.packetGrants x.1 else (s, true)).1.kept = s.kept := by
      split
      · exact s.packetGrants_kept _
      · rfl
    split <;> next h => simp [kept_of_fst hp h]

@[simp] theorem execFlagAckSend_kept (port : Fin 2) (s : State) : (s.ofNext (execFlagAckSend port s)).kept = s.kept := by
  unfold execFlagAckSend
  split <;> simp -implicitDefEqProofs

@[simp] theorem execUnsPacketInject_kept (port : Fin 2) (cls : Fin 4) (flits : List (List Byte)) (s : State) :
    (s.ofNext (execUnsPacketInject port cls flits s)).kept = s.kept := by
  simp [execUnsPacketInject]

@[simp] theorem execFlagAckReceive_kept (port : Fin 2) (s : State) : (s.ofNext (execFlagAckReceive port s)).kept = s.kept := by
  simp only [execFlagAckReceive, State.ofNext_next]
  split
  · next h => simp [State.popFlag_kept h]
  · next h => exact State.popFlag_kept h
  · rfl

@[simp] theorem execFlagFailReceive_kept (port : Fin 2) (s : State) : (s.ofNext (execFlagFailReceive port s)).kept = s.kept := by
  simp only [execFlagFailReceive, State.ofNext_next]
  split
  · next h => simp [State.popFlag_kept h]
  · next h => simp [State.popFlag_kept h]
  · rfl

@[simp] theorem execHoldTimeout_kept (port : Fin 2) (s : State) : (s.ofNext (execHoldTimeout port s)).kept = s.kept := by
  unfold execHoldTimeout
  dsimp only
  repeat' split
  all_goals simp -implicitDefEqProofs

@[simp] theorem execAckTimeout_kept (port : Fin 2) (flow : Nat) (s : State) : (s.ofNext (execAckTimeout port flow s)).kept = s.kept := by
  unfold execAckTimeout
  dsimp only
  repeat' split
  all_goals simp -implicitDefEqProofs

@[simp] theorem execNetFlowClear_kept (d : BitVec 12) (s : State) : (s.ofNext (execNetFlowClear d s)).kept = s.kept := by
  simp [execNetFlowClear]

@[simp] theorem execRouteEntryWrite_kept (d : BitVec 12) (value : Word64) (s : State) :
    (s.ofNext (execRouteEntryWrite d value s)).kept = s.kept := by
  simp [execRouteEntryWrite]

@[simp] theorem execTableOpenWrite_kept (value : Word64) (s : State) : (s.ofNext (execTableOpenWrite value s)).kept = s.kept := by
  simp [execTableOpenWrite]

@[simp] theorem execTelemWindowClose_kept (s : State) : (s.ofNext (execTelemWindowClose s)).kept = s.kept := by
  simp [execTelemWindowClose]

@[simp] theorem execCrossbarOutputSlot_kept (p : Fin 34) (s : State) : (s.ofNext (execCrossbarOutputSlot p s)).kept = s.kept := by
  simp [execCrossbarOutputSlot]

@[simp] theorem execReplayTimeout_kept (l : Fin 24) (s : State) : (s.ofNext (execReplayTimeout l s)).kept = s.kept := by
  unfold execReplayTimeout
  split <;> simp -implicitDefEqProofs

@[simp] theorem execFlitReceive_kept (l : Fin 24) (bytes : List Byte) (frac : Fin 16) (s : State) :
    (s.ofNext (execFlitReceive l bytes frac s)).kept = s.kept := by
  unfold execFlitReceive
  rw [State.ofNext_next]
  split
  · rfl
  · extract_lets raw t u
    have ht : t.kept = s.kept := by simp [t]
    have hu : u.kept = s.kept := by
      simp only [u]
      split
      · split <;> simp [ht]
      · exact ht
    split
    · next h => exact (kept_of_fst (u.fec_kept l _) h).trans hu
    · next h =>
      have hf := (kept_of_fst (u.fec_kept l _) h).trans hu
      repeat' split
      all_goals simp [hf]

@[simp] theorem execLctlCredit_kept (l : Fin 24) (s : State) : (s.ofNext (execLctlCredit l s)).kept = s.kept := by
  simp [execLctlCredit]

@[simp] theorem execLctlInit_kept (l : Fin 24) (s : State) : (s.ofNext (execLctlInit l s)).kept = s.kept := by
  simp [execLctlInit]

@[simp] theorem execLctlReplace_kept (l : Fin 24) (s : State) : (s.ofNext (execLctlReplace l s)).kept = s.kept := by
  simp [execLctlReplace]

@[simp] theorem execLctlLaneAck_kept (l : Fin 24) (s : State) : (s.ofNext (execLctlLaneAck l s)).kept = s.kept := by
  refine State.onLctl_kept s l 5 _ fun s c => ?_
  split
  · split
    · rfl
    · extract_lets _ _ t
      have ht : t.kept = s.kept := by simp [t]
      split <;> simp [ht]
  · rfl

@[simp] theorem execLctlLaneDone_kept (l : Fin 24) (s : State) : (s.ofNext (execLctlLaneDone l s)).kept = s.kept := by
  refine State.onLctl_kept s l 6 _ fun s c => ?_
  split
  · split
    · rfl
    · extract_lets _ t1 t2 t3
      have h3 : t3.kept = s.kept := by simp [t3, t2, t1]
      split <;> simp [h3]
  · rfl

@[simp] theorem execLctlWidthReq_kept (l : Fin 24) (s : State) : (s.ofNext (execLctlWidthReq l s)).kept = s.kept := by
  simp [execLctlWidthReq]

@[simp] theorem execLctlWidthAck_kept (l : Fin 24) (s : State) : (s.ofNext (execLctlWidthAck l s)).kept = s.kept := by
  refine State.onLctl_kept s l 8 _ fun s c => ?_
  split <;> simp

@[simp] theorem execLctlWidthGo_kept (l : Fin 24) (s : State) : (s.ofNext (execLctlWidthGo l s)).kept = s.kept := by
  simp [execLctlWidthGo]

@[simp] theorem execLctlRetrain_kept (l : Fin 24) (s : State) : (s.ofNext (execLctlRetrain l s)).kept = s.kept := by
  simp [execLctlRetrain]

@[simp] theorem execLaneParityWindow_kept (l : Fin 24) (s : State) : (s.ofNext (execLaneParityWindow l s)).kept = s.kept := by
  simp [execLaneParityWindow]

@[simp] theorem execLaneLossOfLock_kept (l : Fin 24) (lane : Fin 10) (s : State) : (s.ofNext (execLaneLossOfLock l lane s)).kept = s.kept := by
  simp [execLaneLossOfLock]

@[simp] theorem execCmdRetry_kept (l : Fin 24) (s : State) (pattern : BitVec 10) : (s.ofNext (execCmdRetry l s pattern)).kept = s.kept := by
  unfold execCmdRetry
  dsimp only
  repeat' split
  all_goals simp -implicitDefEqProofs

@[simp] theorem execGraceExpiry_kept (l : Fin 24) (s : State) : (s.ofNext (execGraceExpiry l s)).kept = s.kept := by
  unfold execGraceExpiry
  split <;> simp -implicitDefEqProofs

@[simp] theorem execLnkEnWrite_kept (l : Fin 24) (value : Word64) (s : State) : (s.ofNext (execLnkEnWrite l value s)).kept = s.kept := by
  simp [execLnkEnWrite]

@[simp] theorem execLnkRetrainWrite_kept (l : Fin 24) (value : Word64) (s : State) :
    (s.ofNext (execLnkRetrainWrite l value s)).kept = s.kept := by
  simp [execLnkRetrainWrite]

@[simp] theorem execLnkWidthGoWrite_kept (l : Fin 24) (value : Word64) (s : State) :
    (s.ofNext (execLnkWidthGoWrite l value s)).kept = s.kept := by
  simp [execLnkWidthGoWrite]

@[simp] theorem execDetect_kept (l : Fin 24) (locked : BitVec 10) (s : State) : (s.ofNext (execDetect l locked s)).kept = s.kept := by
  simp [execDetect]

@[simp] theorem execEqualise_kept (l : Fin 24) (settled : BitVec 10) (s : State) : (s.ofNext (execEqualise l settled s)).kept = s.kept := by
  simp [execEqualise]

@[simp] theorem execIdentifyLanes_kept (l : Fin 24) (crossed inverted : BitVec 10) (s : State) :
    (s.ofNext (execIdentifyLanes l crossed inverted s)).kept = s.kept := by
  simp [execIdentifyLanes]

@[simp] theorem execPlace_kept (l : Fin 24) (peerGood : BitVec 10) (s : State) : (s.ofNext (execPlace l peerGood s)).kept = s.kept := by
  unfold execPlace
  dsimp only
  repeat' split
  all_goals simp -implicitDefEqProofs

@[simp] theorem execAlign_kept (l : Fin 24) (s : State) : (s.ofNext (execAlign l s)).kept = s.kept := by
  simp [execAlign]

@[simp] theorem execSurvey_kept (l : Fin 24) (samples : List (Nat × Nat)) (s : State) : (s.ofNext (execSurvey l samples s)).kept = s.kept := by
  simp [execSurvey]

@[simp] theorem execTrainStepTimeout_kept (l : Fin 24) (s : State) : (s.ofNext (execTrainStepTimeout l s)).kept = s.kept := by
  simp [execTrainStepTimeout]

@[simp] theorem execTrainRetry_kept (l : Fin 24) (s : State) : (s.ofNext (execTrainRetry l s)).kept = s.kept := by
  unfold execTrainRetry
  split <;> simp -implicitDefEqProofs

@[simp] theorem execEyeMonitor_kept (l : Fin 24) (lane : Fin 10) (v h : BitVec 10) (prbs : Nat) (s : State) :
    (s.ofNext (execEyeMonitor l lane v h prbs s)).kept = s.kept := by
  simp [execEyeMonitor]

@[simp] theorem execLaserMonitor_kept (l : Fin 24) (lane : Fin 10) (bias power : BitVec 8) (s : State) :
    (s.ofNext (execLaserMonitor l lane bias power s)).kept = s.kept := by
  simp [execLaserMonitor]

@[simp] theorem execLaserSourceWrite_kept (l : Fin 24) (lane : Fin 10) (value : Word64) (s : State) :
    (s.ofNext (execLaserSourceWrite l lane value s)).kept = s.kept := by
  simp [execLaserSourceWrite]

@[simp] theorem execPortMapWrite_kept (l : Fin 24) (value : Word64) (s : State) : (s.ofNext (execPortMapWrite l value s)).kept = s.kept := by
  simp [execPortMapWrite]

@[simp] theorem execDelayWrite_kept (l : Fin 24) (value : Word64) (s : State) : (s.ofNext (execDelayWrite l value s)).kept = s.kept := by
  simp [execDelayWrite]

@[simp] theorem execDmaxWrite_kept (l : Fin 24) (value : Word64) (s : State) : (s.ofNext (execDmaxWrite l value s)).kept = s.kept := by
  simp [execDmaxWrite]

@[simp] theorem execServoRun_kept (s : State) : (s.ofNext (execServoRun s)).kept = s.kept := by
  simp [execServoRun]

@[simp] theorem execLctlTimestamp_kept (l : Fin 24) (s : State) : (s.ofNext (execLctlTimestamp l s)).kept = s.kept := by
  refine State.onLctl_kept s l 2 _ fun s c => ?_
  extract_lets t1 t3 t4 t2 a b theta delay s1 r s2 s3 acq
  split
  · rfl
  · have h3 : s3.kept = s.kept := by simp [s3, s2, s1, r]
    clear_value s3
    split
    · exact h3
    · split
      · next h => exact (kept_of_fst (s3.sampleOk_kept _ _ _) h).trans h3
      · next h =>
        have h4 := (kept_of_fst (s3.sampleOk_kept _ _ _) h).trans h3
        repeat' split
        all_goals simp [h4, r]

@[simp] theorem execBenchmarkWrite_kept (value : Word64) (s : State) : (s.ofNext (execBenchmarkWrite value s)).kept = s.kept := by
  simp [execBenchmarkWrite]

@[simp] theorem execAcquireWrite_kept (value : Word64) (s : State) : (s.ofNext (execAcquireWrite value s)).kept = s.kept := by
  simp [execAcquireWrite]

@[simp] theorem execRebaseArmWrite_kept (value : Word64) (s : State) : (s.ofNext (execRebaseArmWrite value s)).kept = s.kept := by
  simp [execRebaseArmWrite]

@[simp] theorem execTimReleaseWrite_kept (value : Word64) (s : State) : (s.ofNext (execTimReleaseWrite value s)).kept = s.kept := by
  simp [execTimReleaseWrite]

@[simp] theorem execRebaseStep_kept (s : State) : (s.ofNext (execRebaseStep s)).kept = s.kept := by
  simp [execRebaseStep]

@[simp] theorem execTrimSlew_kept (s : State) : (s.ofNext (execTrimSlew s)).kept = s.kept := by
  simp [execTrimSlew]

@[simp] theorem execTimRefusedClear_kept (value : Word64) (s : State) : (s.ofNext (execTimRefusedClear value s)).kept = s.kept := by
  simp [execTimRefusedClear]

@[simp] theorem execRefclkTLoss_kept (s : State) : (s.ofNext (execRefclkTLoss s)).kept = s.kept := by
  simp [execRefclkTLoss]

@[simp] theorem execRefclkTReturn_kept (s : State) : (s.ofNext (execRefclkTReturn s)).kept = s.kept := by
  simp -implicitDefEqProofs [execRefclkTReturn]

@[simp] theorem execHoldExpired_kept (s : State) : (s.ofNext (execHoldExpired s)).kept = s.kept := by
  unfold execHoldExpired
  split <;> simp -implicitDefEqProofs

@[simp] theorem execCountedCompare_kept (n : Fin 8) (err : Int) (s : State) : (s.ofNext (execCountedCompare n err s)).kept = s.kept := by
  simp [execCountedCompare]

@[simp] theorem execSafRaiseWrite_kept (value : Word64) (s : State) : (s.ofNext (execSafRaiseWrite value s)).kept = s.kept := by
  simp [execSafRaiseWrite]

@[simp] theorem execCurtainNotice_kept (s : State) : (s.ofNext (execCurtainNotice s)).kept = s.kept := by
  unfold execCurtainNotice
  split <;> simp -implicitDefEqProofs

@[simp] theorem execCurtainStopTimeout_kept (s : State) : (s.ofNext (execCurtainStopTimeout s)).kept = s.kept := by
  unfold execCurtainStopTimeout
  split <;> simp -implicitDefEqProofs

@[simp] theorem execCurtainChannelsStopped_kept (s : State) : (s.ofNext (execCurtainChannelsStopped s)).kept = s.kept := by
  simp [execCurtainChannelsStopped]

@[simp] theorem execHaltEnter_kept (s : State) : (s.ofNext (execHaltEnter s)).kept = s.kept := by
  simp [execHaltEnter]

@[simp] theorem execCaptureDone_kept (errs : List (Fin 8 × ReadErr)) (s : State) : (s.ofNext (execCaptureDone errs s)).kept = s.kept := by
  unfold execCaptureDone
  rw [State.ofNext_next]
  obtain ⟨arbs, ea, ha⟩ : ∃ f, State.arbAccesses = f ∧ ∀ s l, (f s l).1.kept = s.kept := ⟨_, rfl, State.arbAccesses_kept⟩
  rw [ea]
  split
  · rfl
  · extract_lets u
    have hu : u.kept = s.kept := by simp [u]
    split
    · exact hu
    · split
      · simp [hu]
      · split
        · exact hu
        · split
          · next h => exact (kept_of_fst (ha u _) h).trans hu
          · next h =>
            have ht := (kept_of_fst (ha u _) h).trans hu
            extract_lets v w
            have hv : v.kept = s.kept := by simp [v, ht]
            have hw : w.kept = s.kept := by simp [w, hv]
            repeat' split
            all_goals simp [hv, hw]

@[simp] theorem execCopyEngineDone_kept (errs : List (Nat × SymErr)) (s : State) : (s.ofNext (execCopyEngineDone errs s)).kept = s.kept := by
  simp only [execCopyEngineDone, State.ofNext_next]
  generalize hu : s.sendCopies errs = u
  have hk : u.kept = s.kept := by rw [← hu]; simp
  split
  · exact hk
  · split
    · simp [hk]
    · split
      · exact hk
      · split
        · next h => exact (kept_of_fst (u.arbAccesses_kept _) h).trans hk
        · next t h =>
          have ht := (kept_of_fst (u.arbAccesses_kept _) h).trans hk
          split <;> next h => simp [(kept_of_fst (t.copyPages_kept _ _ _ _) h).trans ht]

@[simp] theorem execMsgCaptured_kept (s : State) : (s.ofNext (execMsgCaptured s)).kept = s.kept := by
  simp [execMsgCaptured]

@[simp] theorem execMsgCopy_kept (s : State) (errs : List (Nat × SymErr)) : (s.ofNext (execMsgCopy s errs)).kept = s.kept := by
  simp [execMsgCopy]

@[simp] theorem execMsgDone_kept (s : State) : (s.ofNext (execMsgDone s)).kept = s.kept := by
  simp [execMsgDone]

@[simp] theorem execMsgHold_kept (s : State) : (s.ofNext (execMsgHold s)).kept = s.kept := by
  simp [execMsgHold]

@[simp] theorem execMsgCopyDone_kept (s : State) : (s.ofNext (execMsgCopyDone s)).kept = s.kept := by
  simp [execMsgCopyDone]

@[simp] theorem execMsgStep_kept (s : State) (errs : List (Nat × SymErr)) : (s.ofNext (execMsgStep s errs)).kept = s.kept := by
  simp [execMsgStep]

@[simp] theorem execMsgHost_kept (s : State) : (s.ofNext (execMsgHost s)).kept = s.kept := by
  simp [execMsgHost]

@[simp] theorem execVinSample_kept (vin iin pin : Nat) (s : State) : (s.ofNext (execVinSample vin iin pin s)).kept = s.kept := by
  simp -implicitDefEqProofs [execVinSample]

@[simp] theorem execHoldupExpired_kept (s : State) : (s.ofNext (execHoldupExpired s)).kept = s.kept := by
  simp [execHoldupExpired]

@[simp] theorem execOverpower_kept (pin : Nat) (s : State) : (s.ofNext (execOverpower pin s)).kept = s.kept := by
  simp [execOverpower]

@[simp] theorem execArithStepWrite_kept (value : Word64) (s : State) : (s.ofNext (execArithStepWrite value s)).kept = s.kept := by
  simp [execArithStepWrite]

@[simp] theorem execArithPllLocked_kept (n : Fin 8) (s : State) : (s.ofNext (execArithPllLocked n s)).kept = s.kept := by
  simp [execArithPllLocked]

@[simp] theorem execCtrlDroopStretch_kept (_region : Fin 6) (s : State) : (s.ofNext (execCtrlDroopStretch _region s)).kept = s.kept := by
  simp [execCtrlDroopStretch]

@[simp] theorem execNetDroop_kept (_monitor : Fin 8) (belowFloor : Bool) (s : State) :
    (s.ofNext (execNetDroop _monitor belowFloor s)).kept = s.kept := by
  simp [execNetDroop]

@[simp] theorem execRefclkLoss_kept (which : Fin 4) (s : State) : (s.ofNext (execRefclkLoss which s)).kept = s.kept := by
  simp [execRefclkLoss]

@[simp] theorem execRefclkReturn_kept (which : Fin 4) (s : State) : (s.ofNext (execRefclkReturn which s)).kept = s.kept := by
  simp [execRefclkReturn]

@[simp] theorem execThermalWarn_kept (g : Fin 7) (t : Int) (s : State) : (s.ofNext (execThermalWarn g t s)).kept = s.kept := by
  simp [execThermalWarn]

@[simp] theorem execThermalCurtain_kept (g : Fin 7) (t : Int) (s : State) : (s.ofNext (execThermalCurtain g t s)).kept = s.kept := by
  simp [execThermalCurtain]

@[simp] theorem execThermalTrip_kept (g : Fin 7) (t : Int) (s : State) : (s.ofNext (execThermalTrip g t s)).kept = s.kept := by
  simp [execThermalTrip]

@[simp] theorem execResurvey_kept (vfail : List (List Nat)) (s : State) : (s.ofNext (execResurvey vfail s)).kept = s.kept := by
  simp [execResurvey]

@[simp] theorem execRailVoltageStep_kept (r : Fin 20) (up : Bool) (s : State) : (s.ofNext (execRailVoltageStep r up s)).kept = s.kept := by
  simp [execRailVoltageStep]

@[simp] theorem execLedgerWrite_kept (s : State) : (s.ofNext (execLedgerWrite s)).kept = s.kept := by
  simp [execLedgerWrite]

@[simp] theorem execMsgResume_kept (s : State) (errs : EccObs) : (s.ofNext (execMsgResume s errs)).kept = s.kept := by
  unfold execMsgResume
  rw [State.ofNext_next]
  refine State.onMsg_kept s _ _ fun s m => ?_
  split
  · extract_lets tr t _
    have ht : t.kept = s.kept := by simp [t]
    exact (t.modRun_kept fun r => { r with t0 := tr }).trans ht
  · rfl

@[simp] theorem execSelfTestDone_kept (n : Fin 8) (fail : BitVec 17) (s : State) : (s.ofNext (execSelfTestDone n fail s)).kept = s.kept := by
  simp [execSelfTestDone]

@[simp] theorem execHotReset_kept (s : State) : (s.ofNext (execHotReset s)).kept = s.kept := by
  simp [execHotReset]

@[simp] theorem execFlr_kept (s : State) : (s.ofNext (execFlr s)).kept = s.kept := by
  simp [execFlr]

@[simp] theorem execChannelReset_kept (n : Fin 8) (s : State) : (s.ofNext (execChannelReset n s)).kept = s.kept := by
  simp [execChannelReset]

@[simp] theorem execLinkReset_kept (l : Fin 24) (s : State) : (s.ofNext (execLinkReset l s)).kept = s.kept := by
  simp [execLinkReset]

@[simp] theorem execModResetRelease_kept (straps : BitVec 4) (s : State) : (s.ofNext (execModResetRelease straps s)).kept = s.kept := by
  simp [execModResetRelease]

@[simp] theorem execResetGlitch_kept (_perst : Bool) (s : State) : (s.ofNext (execResetGlitch _perst s)).kept = s.kept := by
  simp [execResetGlitch]

@[simp] theorem execPowerUp_kept (s : State) : (s.ofNext (execPowerUp s)).kept = s.kept := by
  simp [execPowerUp]

@[simp] theorem execSelfRefreshExit_kept (s : State) : (s.ofNext (execSelfRefreshExit s)).kept = s.kept := by
  simp [execSelfRefreshExit]

@[simp] theorem execBar0BadAccess_kept (write : Bool) (s : State) : (s.ofNext (execBar0BadAccess write s)).kept = s.kept := by
  simp [execBar0BadAccess]

@[simp] theorem execAtomicopRequest_kept (s : State) : (s.ofNext (execAtomicopRequest s)).kept = s.kept := by
  simp [execAtomicopRequest]

@[simp] theorem execBar2Resize_kept (code : Nat) (s : State) : (s.ofNext (execBar2Resize code s)).kept = s.kept := by
  simp [execBar2Resize]

@[simp] theorem execMsixUnmask_kept (v : Fin 4) (s : State) : (s.ofNext (execMsixUnmask v s)).kept = s.kept := by
  simp [execMsixUnmask]

@[simp] theorem execD3hotEntry_kept (s : State) : (s.ofNext (execD3hotEntry s)).kept = s.kept := by
  simp [execD3hotEntry]

@[simp] theorem execD0Return_kept (s : State) : (s.ofNext (execD0Return s)).kept = s.kept := by
  simp [execD0Return]

@[simp] theorem execHostLinkChange_kept (speed : Fin 8) (width : Nat) (s : State) :
    (s.ofNext (execHostLinkChange speed width s)).kept = s.kept := by
  simp [execHostLinkChange]

@[simp] theorem execCtlHostRaise_kept (value : Word64) (fromHost : Bool) (s : State) :
    (s.ofNext (execCtlHostRaise value fromHost s)).kept = s.kept := by
  simp [execCtlHostRaise]

@[simp] theorem execAerErrorLogged_kept (e : AerErr) (s : State) : (s.ofNext (execAerErrorLogged e s)).kept = s.kept := by
  simp [execAerErrorLogged]

@[simp] theorem execSafKick_kept (value : Word64) (s : State) : (s.ofNext (execSafKick value s)).kept = s.kept := by
  simp [execSafKick]

@[simp] theorem execWatchdogExpiry_kept (core : Fin 5) (s : State) : (s.ofNext (execWatchdogExpiry core s)).kept = s.kept := by
  unfold execWatchdogExpiry
  dsimp only
  repeat' split
  all_goals simp -implicitDefEqProofs

@[simp] theorem execLockstepMismatch_kept (s : State) : (s.ofNext (execLockstepMismatch s)).kept = s.kept := by
  simp [execLockstepMismatch]

@[simp] theorem execMbPoll_kept (m : Fin 16) (s : State) (errs : List SymErr) : (s.ofNext (execMbPoll m s errs)).kept = s.kept := by
  unfold execMbPoll
  rw [State.ofNext_next]
  extract_lets t mode sub serves base cmd t1 f t2 t3 op
  have h : t.kept = s.kept := by
    simp only [t]
    split <;> simp
  have h1 : t1.kept = s.kept := by simp [t1, h]
  have h2 : t2.kept = s.kept := (State.kept_eq (s := t1) rfl rfl rfl rfl).trans h1
  have h3 : t3.kept = s.kept := by simp [t3, h2]
  clear_value t t1 t2 t3
  repeat' split
  all_goals simp [h, h3]

@[simp] theorem execMbAbort_kept (m : Fin 16) (value : Word64) (s : State) : (s.ofNext (execMbAbort m value s)).kept = s.kept := by
  simp [execMbAbort]

@[simp] theorem execCoreTakeover_kept (core : Fin 5) (s : State) : (s.ofNext (execCoreTakeover core s)).kept = s.kept := by
  simp only [execCoreTakeover, State.ofNext_next]
  split
  · split
    · rw [State.foldl_kept _ _ fun t m => ?_]
      · simp
      · split
        · split <;> simp
        · rfl
    · simp
  · rfl

@[simp] theorem execPostPairTimeout_kept (s : State) : (s.ofNext (execPostPairTimeout s)).kept = s.kept := by
  unfold execPostPairTimeout
  split <;> simp -implicitDefEqProofs

@[simp] theorem execI3cPrivateSelect_kept (bytes : List Byte) (s : State) : (s.ofNext (execI3cPrivateSelect bytes s)).kept = s.kept := by
  simp [execI3cPrivateSelect]

@[simp] theorem execI3cPrivateWrite_kept (bytes : List Byte) (s : State) : (s.ofNext (execI3cPrivateWrite bytes s)).kept = s.kept := by
  unfold execI3cPrivateWrite
  rw [State.ofNext_next]
  refine State.ccc_kept s _ fun s => ?_
  extract_lets off
  split
  · simp
  · split
    · next h =>
      have ho : off ≠ netPlace := by
        rcases h.1 with h | h <;> rw [h] <;> decide
      simp [ho]
    · simp

@[simp] theorem execI3cPrivateRead_kept (busBusy : Bool) (s : State) : (s.ofNext (execI3cPrivateRead busBusy s)).kept = s.kept := by
  unfold execI3cPrivateRead
  rw [State.ofNext_next]
  refine State.ccc_kept s _ fun s => ?_
  split
  · split
    · simp
    · split <;> simp
  · simp
  · simp

@[simp] theorem execEnec_kept (ev : Byte) (s : State) : (s.ofNext (execEnec ev s)).kept = s.kept := by
  simp [execEnec]

@[simp] theorem execDisec_kept (ev : Byte) (s : State) : (s.ofNext (execDisec ev s)).kept = s.kept := by
  simp [execDisec]

@[simp] theorem execEntdaa_kept (addr : BitVec 7) (s : State) : (s.ofNext (execEntdaa addr s)).kept = s.kept := by
  simp [execEntdaa]

@[simp] theorem execSetdasa_kept (static dyn : BitVec 7) (s : State) : (s.ofNext (execSetdasa static dyn s)).kept = s.kept := by
  simp [execSetdasa]

@[simp] theorem execRstdaa_kept (s : State) : (s.ofNext (execRstdaa s)).kept = s.kept := by
  simp [execRstdaa]

@[simp] theorem execGetpid_kept (s : State) : (s.ofNext (execGetpid s)).kept = s.kept := by
  simp [execGetpid]

@[simp] theorem execGetbcr_kept (s : State) : (s.ofNext (execGetbcr s)).kept = s.kept := by
  simp [execGetbcr]

@[simp] theorem execGetdcr_kept (s : State) : (s.ofNext (execGetdcr s)).kept = s.kept := by
  simp [execGetdcr]

@[simp] theorem execGetstatus_kept (s : State) : (s.ofNext (execGetstatus s)).kept = s.kept := by
  simp [execGetstatus]

@[simp] theorem execGetmwl_kept (s : State) : (s.ofNext (execGetmwl s)).kept = s.kept := by
  simp [execGetmwl]

@[simp] theorem execGetmrl_kept (s : State) : (s.ofNext (execGetmrl s)).kept = s.kept := by
  simp [execGetmrl]

@[simp] theorem execIbiRetry_kept (acked : Bool) (s : State) : (s.ofNext (execIbiRetry acked s)).kept = s.kept := by
  simp [execIbiRetry]

@[simp] theorem execExtest_kept (s : State) : (s.ofNext (execExtest s)).kept = s.kept := by
  simp [execExtest]

@[simp] theorem execIdcode_kept (s : State) : (s.ofNext (execIdcode s)).kept = s.kept := by
  simp [execIdcode]

@[simp] theorem execSamplePreload_kept (s : State) : (s.ofNext (execSamplePreload s)).kept = s.kept := by
  simp [execSamplePreload]

@[simp] theorem execClamp_kept (s : State) : (s.ofNext (execClamp s)).kept = s.kept := by
  simp [execClamp]

@[simp] theorem execHighz_kept (s : State) : (s.ofNext (execHighz s)).kept = s.kept := by
  simp [execHighz]

@[simp] theorem execDtmcs_kept (s : State) : (s.ofNext (execDtmcs s)).kept = s.kept := by
  simp [execDtmcs]

@[simp] theorem execDmi_kept (s : State) (addr : Nat) (data : BitVec 32) (op : BitVec 2) :
    (s.ofNext (execDmi s addr data op)).kept = s.kept := by
  simp [execDmi]

@[simp] theorem execBypass_kept (code : BitVec 8) (s : State) : (s.ofNext (execBypass code s)).kept = s.kept := by
  simp [execBypass]

@[simp] theorem execTapReset_kept (s : State) : (s.ofNext (execTapReset s)).kept = s.kept := by
  simp [execTapReset]

@[simp] theorem execWeightTileLoaded_kept (n : Fin 8) (e : Fin 16) (s : State) : (s.ofNext (execWeightTileLoaded n e s)).kept = s.kept := by
  simp [execWeightTileLoaded]

@[simp] theorem execAccRowComplete_kept (n : Fin 8) (e : Fin 16) (obs : TeObs) (s : State) :
    (s.ofNext (execAccRowComplete n e obs s)).kept = s.kept := by
  simp [execAccRowComplete]

@[simp] theorem execDrainRowWrite_kept (n : Fin 8) (e : Fin 16) (obs : TeObs) (s : State) :
    (s.ofNext (execDrainRowWrite n e obs s)).kept = s.kept := by
  simp [execDrainRowWrite]

@[simp] theorem execResultWriteback_kept (n : Fin 8) (s : State) : (s.ofNext (execResultWriteback n s)).kept = s.kept := by
  simp [execResultWriteback]

@[simp] theorem execCueFire_kept (n : Fin 8) (c : Fin 16) (s : State) : (s.ofNext (execCueFire n c s)).kept = s.kept := by
  simp [execCueFire]

@[simp] theorem execShadowTargetChange_kept (n : Fin 8) (s : State) : (s.ofNext (execShadowTargetChange n s)).kept = s.kept := by
  simp [execShadowTargetChange]

@[simp] theorem execShadowCopyDone_kept (n : Fin 8) (s : State) : (s.ofNext (execShadowCopyDone n s)).kept = s.kept := by
  unfold execShadowCopyDone
  split <;> simp -implicitDefEqProofs

@[simp] theorem execSramScrubRead_kept (n : Fin 8) (bank : Fin 66) (row : Fin 12288) (errs : EccObs) (s : State) :
    (s.ofNext (execSramScrubRead n bank row errs s)).kept = s.kept := by
  simp only [execSramScrubRead, State.ofNext_next]
  split
  · rfl
  · split <;> next h => simp [kept_of_fst (s.arbAccesses_kept _) h]

@[simp] theorem execSramInitDone_kept (n : Fin 8) (s : State) : (s.ofNext (execSramInitDone n s)).kept = s.kept := by
  simp [execSramInitDone]

@[simp] theorem execRunStart_kept (n : Fin 8) (value : Word64) (s : State) : (s.ofNext (execRunStart n value s)).kept = s.kept := by
  simp [execRunStart]

@[simp] theorem execRunStop_kept (n : Fin 8) (value : Word64) (s : State) : (s.ofNext (execRunStop n value s)).kept = s.kept := by
  simp [execRunStop]

@[simp] theorem execStopAtCueWrite_kept (n : Fin 8) (value : Word64) (s : State) : (s.ofNext (execStopAtCueWrite n value s)).kept = s.kept := by
  simp [execStopAtCueWrite]

@[simp] theorem execUnarmedWaitPoll_kept (n : Fin 8) (s : State) : (s.ofNext (execUnarmedWaitPoll n s)).kept = s.kept := by
  unfold execUnarmedWaitPoll
  dsimp only
  repeat' split
  all_goals simp -implicitDefEqProofs

@[simp] theorem execFlitDeparture_kept (n q : Fin 8) (s : State) : (s.ofNext (execFlitDeparture n q s)).kept = s.kept := by
  unfold execFlitDeparture
  dsimp only
  repeat' split
  all_goals simp -implicitDefEqProofs

@[simp] theorem execRxqFlitArrive_kept (n q : Fin 8) (s : State) : (s.ofNext (execRxqFlitArrive n q s)).kept = s.kept := by
  unfold execRxqFlitArrive
  dsimp only
  repeat' split
  all_goals simp -implicitDefEqProofs

@[simp] theorem execDepositComplete_kept (n : Fin 8) (q : Fin 8) (s : State) : (s.ofNext (execDepositComplete n q s)).kept = s.kept := by
  simp only [execDepositComplete, State.ofNext_next]
  split
  · split <;> next h => simp [kept_of_fst (s.arbAccesses_kept _) h]
  · rfl

@[simp] theorem execRxWatchExpiry_kept (n q : Fin 8) (s : State) : (s.ofNext (execRxWatchExpiry n q s)).kept = s.kept := by
  unfold execRxWatchExpiry
  dsimp only
  repeat' split
  all_goals simp -implicitDefEqProofs

@[simp] theorem execLoadw_kept (i : Issue) (f : LoadwF) (s : State) : (s.ofNext (execLoadw i f s)).kept = s.kept := by
  simp [execLoadw]

@[simp] theorem execPass_kept (i : Issue) (f : PassF) (s : State) : (s.ofNext (execPass i f s)).kept = s.kept := by
  simp [execPass]

@[simp] theorem execDrain_kept (i : Issue) (f : DrainF) (s : State) : (s.ofNext (execDrain i f s)).kept = s.kept := by
  simp [execDrain]

@[simp] theorem execLoadacc_kept (i : Issue) (f : LoadaccF) (s : State) : (s.ofNext (execLoadacc i f s)).kept = s.kept := by
  simp [execLoadacc]

@[simp] theorem execVadd_kept (i : Issue) (f : VecF) (s : State) : (s.ofNext (execVadd i f s)).kept = s.kept := by
  simp [execVadd]

@[simp] theorem execVsub_kept (i : Issue) (f : VecF) (s : State) : (s.ofNext (execVsub i f s)).kept = s.kept := by
  simp [execVsub]

@[simp] theorem execVmul_kept (i : Issue) (f : VecF) (s : State) : (s.ofNext (execVmul i f s)).kept = s.kept := by
  simp [execVmul]

@[simp] theorem execVfma_kept (i : Issue) (f : VecF) (s : State) : (s.ofNext (execVfma i f s)).kept = s.kept := by
  simp [execVfma]

@[simp] theorem execVdiv_kept (i : Issue) (f : VecF) (s : State) : (s.ofNext (execVdiv i f s)).kept = s.kept := by
  simp [execVdiv]

@[simp] theorem execVsqrt_kept (i : Issue) (f : VecF) (s : State) : (s.ofNext (execVsqrt i f s)).kept = s.kept := by
  simp [execVsqrt]

@[simp] theorem execVmax_kept (i : Issue) (f : VecF) (s : State) : (s.ofNext (execVmax i f s)).kept = s.kept := by
  simp [execVmax]

@[simp] theorem execVmin_kept (i : Issue) (f : VecF) (s : State) : (s.ofNext (execVmin i f s)).kept = s.kept := by
  simp [execVmin]

@[simp] theorem execVcmp_kept (i : Issue) (f : VecF) (s : State) : (s.ofNext (execVcmp i f s)).kept = s.kept := by
  simp [execVcmp]

@[simp] theorem execVsel_kept (i : Issue) (f : VecF) (s : State) : (s.ofNext (execVsel i f s)).kept = s.kept := by
  simp [execVsel]

@[simp] theorem execViadd_kept (i : Issue) (f : VecF) (s : State) : (s.ofNext (execViadd i f s)).kept = s.kept := by
  simp [execViadd]

@[simp] theorem execVisub_kept (i : Issue) (f : VecF) (s : State) : (s.ofNext (execVisub i f s)).kept = s.kept := by
  simp [execVisub]

@[simp] theorem execViand_kept (i : Issue) (f : VecF) (s : State) : (s.ofNext (execViand i f s)).kept = s.kept := by
  simp [execViand]

@[simp] theorem execVior_kept (i : Issue) (f : VecF) (s : State) : (s.ofNext (execVior i f s)).kept = s.kept := by
  simp [execVior]

@[simp] theorem execVixor_kept (i : Issue) (f : VecF) (s : State) : (s.ofNext (execVixor i f s)).kept = s.kept := by
  simp [execVixor]

@[simp] theorem execVishl_kept (i : Issue) (f : VecF) (s : State) : (s.ofNext (execVishl i f s)).kept = s.kept := by
  simp [execVishl]

@[simp] theorem execVishr_kept (i : Issue) (f : VecF) (s : State) : (s.ofNext (execVishr i f s)).kept = s.kept := by
  simp [execVishr]

@[simp] theorem execVcvt_kept (i : Issue) (f : VecF) (s : State) : (s.ofNext (execVcvt i f s)).kept = s.kept := by
  simp [execVcvt]

@[simp] theorem execVunpk_kept (i : Issue) (f : VecF) (s : State) : (s.ofNext (execVunpk i f s)).kept = s.kept := by
  simp [execVunpk]

@[simp] theorem execVwadd_kept (i : Issue) (f : VecF) (s : State) : (s.ofNext (execVwadd i f s)).kept = s.kept := by
  simp [execVwadd]

@[simp] theorem execVwrnd_kept (i : Issue) (f : VecF) (s : State) : (s.ofNext (execVwrnd i f s)).kept = s.kept := by
  simp [execVwrnd]

@[simp] theorem execVshuf_kept (i : Issue) (f : VecF) (s : State) : (s.ofNext (execVshuf i f s)).kept = s.kept := by
  simp [execVshuf]

@[simp] theorem execVrsum_kept (i : Issue) (f : VecF) (s : State) : (s.ofNext (execVrsum i f s)).kept = s.kept := by
  simp [execVrsum]

@[simp] theorem execVbcast_kept (i : Issue) (f : VecF) (s : State) : (s.ofNext (execVbcast i f s)).kept = s.kept := by
  simp [execVbcast]

@[simp] theorem execVmovs_kept (i : Issue) (f : VecF) (s : State) : (s.ofNext (execVmovs i f s)).kept = s.kept := by
  simp [execVmovs]

@[simp] theorem execXfill_kept (i : Issue) (f : VecF) (s : State) : (s.ofNext (execXfill i f s)).kept = s.kept := by
  simp [execXfill]

@[simp] theorem execXreset_kept (i : Issue) (f : VecF) (s : State) : (s.ofNext (execXreset i f s)).kept = s.kept := by
  simp [execXreset]

@[simp] theorem execXread_kept (i : Issue) (f : VecF) (s : State) : (s.ofNext (execXread i f s)).kept = s.kept := by
  simp [execXread]

@[simp] theorem execRecip_kept (i : Issue) (f : SfF) (s : State) : (s.ofNext (execRecip i f s)).kept = s.kept := by
  simp [execRecip]

@[simp] theorem execRsqrt_kept (i : Issue) (f : SfF) (s : State) : (s.ofNext (execRsqrt i f s)).kept = s.kept := by
  simp [execRsqrt]

@[simp] theorem execExp_kept (i : Issue) (f : SfF) (s : State) : (s.ofNext (execExp i f s)).kept = s.kept := by
  simp [execExp]

@[simp] theorem execLog_kept (i : Issue) (f : SfF) (s : State) : (s.ofNext (execLog i f s)).kept = s.kept := by
  simp [execLog]

@[simp] theorem execTanh_kept (i : Issue) (f : SfF) (s : State) : (s.ofNext (execTanh i f s)).kept = s.kept := by
  simp [execTanh]

@[simp] theorem execLdv_kept (i : Issue) (f : MemF) (ecc : EccObs) (s : State) : (s.ofNext (execLdv i f ecc s)).kept = s.kept := by
  simp [execLdv]

@[simp] theorem execStv_kept (i : Issue) (f : MemF) (s : State) : (s.ofNext (execStv i f s)).kept = s.kept := by
  simp [execStv]

@[simp] theorem execLds_kept (i : Issue) (f : MemF) (ecc : EccObs) (s : State) : (s.ofNext (execLds i f ecc s)).kept = s.kept := by
  simp [execLds]

@[simp] theorem execSts_kept (i : Issue) (f : MemF) (s : State) : (s.ofNext (execSts i f s)).kept = s.kept := by
  simp [execSts]

@[simp] theorem execQwait_kept (i : Issue) (f : QueF) (s : State) : (s.ofNext (execQwait i f s)).kept = s.kept := by
  simp [execQwait]

@[simp] theorem execQrel_kept (i : Issue) (f : QueF) (s : State) : (s.ofNext (execQrel i f s)).kept = s.kept := by
  simp [execQrel]

@[simp] theorem execQcommit_kept (i : Issue) (f : QueF) (s : State) : (s.ofNext (execQcommit i f s)).kept = s.kept := by
  simp [execQcommit]

@[simp] theorem execQstart_kept (i : Issue) (f : QueF) (s : State) : (s.ofNext (execQstart i f s)).kept = s.kept := by
  simp [execQstart]

@[simp] theorem execNsend_kept (i : Issue) (f : NetF) (s : State) : (s.ofNext (execNsend i f s)).kept = s.kept := by
  simp [execNsend]

@[simp] theorem execNrecv_kept (i : Issue) (f : NetF) (s : State) : (s.ofNext (execNrecv i f s)).kept = s.kept := by
  simp [execNrecv]

@[simp] theorem execCue_kept (i : Issue) (f : CtlF) (s : State) : (s.ofNext (execCue i f s)).kept = s.kept := by
  simp [execCue]

@[simp] theorem execCueset_kept (i : Issue) (f : CtlF) (s : State) : (s.ofNext (execCueset i f s)).kept = s.kept := by
  simp [execCueset]

@[simp] theorem execSadd_kept (i : Issue) (f : CtlF) (s : State) : (s.ofNext (execSadd i f s)).kept = s.kept := by
  simp [execSadd]

@[simp] theorem execSaddi_kept (i : Issue) (f : CtlF) (s : State) : (s.ofNext (execSaddi i f s)).kept = s.kept := by
  simp [execSaddi]

@[simp] theorem execSsub_kept (i : Issue) (f : CtlF) (s : State) : (s.ofNext (execSsub i f s)).kept = s.kept := by
  simp [execSsub]

@[simp] theorem execSmul_kept (i : Issue) (f : CtlF) (s : State) : (s.ofNext (execSmul i f s)).kept = s.kept := by
  simp [execSmul]

@[simp] theorem execSand_kept (i : Issue) (f : CtlF) (s : State) : (s.ofNext (execSand i f s)).kept = s.kept := by
  simp [execSand]

@[simp] theorem execSor_kept (i : Issue) (f : CtlF) (s : State) : (s.ofNext (execSor i f s)).kept = s.kept := by
  simp [execSor]

@[simp] theorem execSxor_kept (i : Issue) (f : CtlF) (s : State) : (s.ofNext (execSxor i f s)).kept = s.kept := by
  simp [execSxor]

@[simp] theorem execSshl_kept (i : Issue) (f : CtlF) (s : State) : (s.ofNext (execSshl i f s)).kept = s.kept := by
  simp [execSshl]

@[simp] theorem execSshr_kept (i : Issue) (f : CtlF) (s : State) : (s.ofNext (execSshr i f s)).kept = s.kept := by
  simp [execSshr]

@[simp] theorem execSsra_kept (i : Issue) (f : CtlF) (s : State) : (s.ofNext (execSsra i f s)).kept = s.kept := by
  simp [execSsra]

@[simp] theorem execSlui_kept (i : Issue) (f : CtlF) (s : State) : (s.ofNext (execSlui i f s)).kept = s.kept := by
  simp [execSlui]

@[simp] theorem execScmplt_kept (i : Issue) (f : CtlF) (s : State) : (s.ofNext (execScmplt i f s)).kept = s.kept := by
  simp [execScmplt]

@[simp] theorem execBr_kept (i : Issue) (f : CtlF) (s : State) : (s.ofNext (execBr i f s)).kept = s.kept := by
  simp [execBr]

@[simp] theorem execBeqz_kept (i : Issue) (f : CtlF) (s : State) : (s.ofNext (execBeqz i f s)).kept = s.kept := by
  simp [execBeqz]

@[simp] theorem execBnez_kept (i : Issue) (f : CtlF) (s : State) : (s.ofNext (execBnez i f s)).kept = s.kept := by
  simp [execBnez]

@[simp] theorem execIntermit_kept (i : Issue) (f : CtlF) (s : State) : (s.ofNext (execIntermit i f s)).kept = s.kept := by
  simp [execIntermit]

@[simp] theorem execHalt_kept (i : Issue) (f : CtlF) (s : State) : (s.ofNext (execHalt i f s)).kept = s.kept := by
  simp [execHalt]

@[simp] theorem execSignal_kept (i : Issue) (f : CtlF) (s : State) : (s.ofNext (execSignal i f s)).kept = s.kept := by
  simp [execSignal]

@[simp] theorem execNop_kept (n : Fin 8) (bundle : BitVec 512) (s : State) (errs : List ReadErr) :
    (s.ofNext (execNop n bundle s errs)).kept = s.kept := by
  simp [execNop]

@[simp] theorem execIdentify_kept (m : Fin 16) (s : State) : (s.ofNext (execIdentify m s)).kept = s.kept := by
  simp [execIdentify]

@[simp] theorem execGetSurvey_kept (m : Fin 16) (s : State) : (s.ofNext (execGetSurvey m s)).kept = s.kept := by
  simp [execGetSurvey]

@[simp] theorem execSetPorts_kept (m : Fin 16) (s : State) : (s.ofNext (execSetPorts m s)).kept = s.kept := by
  simp [execSetPorts]

@[simp] theorem execTimeSetBenchmark_kept (m : Fin 16) (s : State) : (s.ofNext (execTimeSetBenchmark m s)).kept = s.kept := by
  simp [execTimeSetBenchmark]

@[simp] theorem execTimeClearBenchmark_kept (m : Fin 16) (s : State) : (s.ofNext (execTimeClearBenchmark m s)).kept = s.kept := by
  simp [execTimeClearBenchmark]

@[simp] theorem execTimeAcquire_kept (m : Fin 16) (s : State) : (s.ofNext (execTimeAcquire m s)).kept = s.kept :=
  State.onTime_kept s m 2 _ _ (fun s => State.governed_kept s m _ _ (fun s => by simp) fun s => s.waitAcquire_kept m) fun s => s.waitAcquire_kept m

@[simp] theorem execTimeRelease_kept (m : Fin 16) (s : State) : (s.ofNext (execTimeRelease m s)).kept = s.kept :=
  State.onTime_kept s m 3 _ _ (fun s => State.governed_kept s m _ _ (fun s => by simp) fun s => s.endTime_kept m 0) fun _ => rfl

@[simp] theorem execTimeClearRefused_kept (m : Fin 16) (s : State) : (s.ofNext (execTimeClearRefused m s)).kept = s.kept :=
  State.onTime_kept s m 4 _ _ (fun s => State.governed_kept s m _ _ (fun s => by simp) fun s => s.endTime_kept m 0) fun _ => rfl

@[simp] theorem execRoutesStop_kept (m : Fin 16) (s : State) : (s.ofNext (execRoutesStop m s)).kept = s.kept := by
  simp [execRoutesStop]

@[simp] theorem execRoutesWrite_kept (m : Fin 16) (s : State) (errs : EccObs) : (s.ofNext (execRoutesWrite m s errs)).kept = s.kept := by
  simp [execRoutesWrite]

@[simp] theorem execRoutesStart_kept (m : Fin 16) (s : State) : (s.ofNext (execRoutesStart m s)).kept = s.kept := by
  simp [execRoutesStart]

@[simp] theorem execMsgSend_kept (m : Fin 16) (s : State) : (s.ofNext (execMsgSend m s)).kept = s.kept := by
  simp [execMsgSend]

@[simp] theorem execMsgRecv_kept (m : Fin 16) (s : State) : (s.ofNext (execMsgRecv m s)).kept = s.kept := by
  simp [execMsgRecv]

@[simp] theorem execResetSoft_kept (m : Fin 16) (s : State) : (s.ofNext (execResetSoft m s)).kept = s.kept := by
  simp [execResetSoft]

@[simp] theorem execResetChn_kept (m : Fin 16) (s : State) : (s.ofNext (execResetChn m s)).kept = s.kept := by
  simp [execResetChn]

@[simp] theorem execResetLnk_kept (m : Fin 16) (s : State) : (s.ofNext (execResetLnk m s)).kept = s.kept := by
  simp [execResetLnk]

@[simp] theorem execSetPower_kept (m : Fin 16) (s : State) : (s.ofNext (execSetPower m s)).kept = s.kept := by
  simp [execSetPower]

@[simp] theorem execPowerTransitionDone_kept (s : State) : (s.ofNext (execPowerTransitionDone s)).kept = s.kept := by
  unfold execPowerTransitionDone
  dsimp only
  repeat' split
  all_goals simp -implicitDefEqProofs

@[simp] theorem execGetLedger_kept (m : Fin 16) (s : State) : (s.ofNext (execGetLedger m s)).kept = s.kept := by
  simp [execGetLedger]

@[simp] theorem execGetRetired_kept (m : Fin 16) (s : State) : (s.ofNext (execGetRetired m s)).kept = s.kept := by
  simp [execGetRetired]

@[simp] theorem execLoad_kept (m : Fin 16) (s : State) (errs : EccObs) : (s.ofNext (execLoad m s errs)).kept = s.kept := by
  simp [execLoad]

@[simp] theorem execStart_kept (m : Fin 16) (s : State) : (s.ofNext (execStart m s)).kept = s.kept := by
  simp [execStart]

@[simp] theorem execInputDone_kept (m : Fin 16) (s : State) (errs : EccObs) : (s.ofNext (execInputDone m s errs)).kept = s.kept := by
  simp [execInputDone]

@[simp] theorem execCurtain_kept (m : Fin 16) (s : State) : (s.ofNext (execCurtain m s)).kept = s.kept := by
  simp [execCurtain]

@[simp] theorem execHoldAtInt_kept (m : Fin 16) (s : State) : (s.ofNext (execHoldAtInt m s)).kept = s.kept := by
  simp [execHoldAtInt]

@[simp] theorem execRelease_kept (m : Fin 16) (s : State) : (s.ofNext (execRelease m s)).kept = s.kept := by
  simp [execRelease]

@[simp] theorem execRestore_kept (m : Fin 16) (s : State) (errs : EccObs) : (s.ofNext (execRestore m s errs)).kept = s.kept := by
  simp [execRestore]

@[simp] theorem execBootImageVerified_kept (s : State) : (s.ofNext (execBootImageVerified s)).kept = s.kept := by
  simp -implicitDefEqProofs [execBootImageVerified]

@[simp] theorem execFwInitComplete_kept (s : State) : (s.ofNext (execFwInitComplete s)).kept = s.kept := by
  simp [execFwInitComplete]

@[simp] theorem execRecover_kept (flashOk : Bool) (s : State) (errs : EccObs) : (s.ofNext (execRecover flashOk s errs)).kept = s.kept := by
  simp [execRecover]

@[simp] theorem execGetCert_kept (m : Fin 16) (s : State) : (s.ofNext (execGetCert m s)).kept = s.kept := by
  simp [execGetCert]

@[simp] theorem execAttest_kept (m : Fin 16) (s : State) : (s.ofNext (execAttest m s)).kept = s.kept := by
  simp [execAttest]

@[simp] theorem execCommandWaitTimeout_kept (m : Fin 16) (s : State) : (s.ofNext (execCommandWaitTimeout m s)).kept = s.kept := by
  simp [execCommandWaitTimeout]

end Sys2Proof.Machine
end

section
/-!
The commands that write the fuses or the placement (R34, R483, R486, R488).
-/

namespace Sys2Proof.Machine

theorem Keeps.ite {c : Prop} [Decidable c] {s t u : State} (ht : c → Keeps s t) (hu : ¬ c → Keeps s u) : Keeps s (if c then t else u) := by
  split
  · next h => exact ht h
  · next h => exact hu h

theorem State.kept_locked (s : State) (c : Cmd) (m : Fin 16) :
    (if c.lock then { s with fw := { s.fw with lock := some m.val, took := some s.fw.mb[m].since } } else s).kept = s.kept := by
  split
  · exact State.kept_eq (s := s) rfl rfl rfl rfl
  · rfl

/-- A mailbox command keeps what going on with it keeps and what starting it keeps; it starts only where its arguments are in range. -/
theorem State.onCmd_keeps (s : State) (m : Fin 16) (c : Cmd) (start cont : State → State) (hc : Keeps s (cont s))
    (hs : s.argsOk m c = true → ∀ t, t.kept = s.kept → Keeps t (start t)) : Keeps s (s.onCmd m c start cont) := by
  have hend (code : Nat) : Keeps s (s.mbEnd m code) := .of_kept (s.mbEnd_kept m code)
  unfold State.onCmd
  refine .ite (fun _ => .refl s) fun _ => .ite (fun _ => hc) fun _ => .ite (fun _ => .refl s) fun _ => .ite (fun _ => hend 4) fun _ =>
    .ite (fun _ => hend 2) fun _ => .ite (fun _ => hend 3) fun ha => .ite (fun _ => hend 8) fun _ => .ite (fun _ => hend 9) fun _ =>
    .ite (fun _ => hend 8) fun _ => .ite (fun _ => hend 2) fun _ => ?_
  have ht := s.kept_locked c m
  extract_lets _ t
  have hu : ((t.setFld (mbStatus m) MB_STATUS_STATE 2).modMb m fun x => { x with since := t.now }).kept = s.kept := by
    rw [State.modMb_kept, State.setFld_kept _ _ _ _ (by simp)]
    exact ht
  exact (Keeps.of_kept hu).trans (hs (by simpa using ha) _ hu)

theorem State.atOnce_keeps (s : State) (m : Fin 16) (c : Cmd) (f : State → State)
    (hf : s.argsOk m c = true → ∀ t, t.kept = s.kept → Keeps t (f t)) : Keeps s (s.atOnce m c f) :=
  s.onCmd_keeps m c f id (.refl s) hf

theorem State.raiseSvn_keeps (s : State) (raise : Bool) (n : Nat) :
    Keeps s (if raise then { s with fw := { s.fw with svnMin := max s.fw.svnMin n } } else s) := by
  split
  · exact ⟨rfl, fun _ => rfl, Nat.le_max_left _ _, fun _ => rfl⟩
  · exact .refl s

theorem State.update_keeps (s : State) (m : Fin 16) (flashOk : Bool) (errs : EccObs) : Keeps s (s.update m flashOk errs) := by
  unfold State.update
  extract_lets raise
  split
  next t b h =>
  have ht : t.kept = s.kept := kept_of_fst (s.fwRead_kept _ _ _) h
  extract_lets c u k n
  split
  · exact .of_kept (by simp [ht])
  · split
    · have hu : u.kept = s.kept := by simp [u, ht]
      exact (Keeps.of_kept hu).trans ((u.raiseSvn_keeps raise _).trans (.of_kept (State.mbDone_kept ..)))
    · exact .of_kept (by simp [ht])

theorem execUpdate_keeps (m : Fin 16) (flashOk : Bool) (s : State) (errs : EccObs) : Keeps s (s.ofNext (execUpdate m flashOk s errs)) := by
  unfold execUpdate
  rw [State.ofNext_next]
  exact s.atOnce_keeps m _ _ fun _ t _ => t.update_keeps m flashOk errs

/-- OWNER_KEY starts only where the slot is free (R486). -/
theorem slot1_of_argsOk {s : State} {m : Fin 16} (h : s.argsOk m cOwnerKey = true) : s.fw.slot1 = none := by
  simp [State.argsOk, State.inRange, cOwnerKey] at h
  exact h.2

theorem execOwnerKey_keeps (m : Fin 16) (s : State) : Keeps s (s.ofNext (execOwnerKey m s)) := by
  unfold execOwnerKey
  rw [State.ofNext_next]
  refine s.atOnce_keeps m _ _ fun ha t ht => .trans ?_ (.of_kept (State.mbEnd_kept ..))
  have h1 : t.fw.slot1 = none := (congrArg Kept.slot1 ht).trans (slot1_of_argsOk ha)
  exact ⟨rfl, fun h => absurd h1 h, le_rfl, fun _ => rfl⟩

theorem execSetPlace_keeps (m : Fin 16) (s : State) : Keeps s (s.ofNext (execSetPlace m s)) := by
  unfold execSetPlace
  rw [State.ofNext_next]
  exact s.atOnce_keeps m _ _ fun _ t _ => (t.regWrite_keeps netPlace _ _ false).trans (.of_kept (State.mbFail_kept ..))

theorem execNetPlaceWrite_keeps (v : Word64) (s : State) : Keeps s (s.ofNext (execNetPlaceWrite v s)) := by
  simp only [execNetPlaceWrite, State.ofNext_next]
  split
  · exact s.writePlace_keeps _ _
  · exact .refl s

theorem execBar2Read_keeps (off : BitVec 40) (len : Nat) (errs : List (Nat × SymErr)) (s : State) :
    Keeps s (s.ofNext (execBar2Read off len errs s)) := by
  simp only [execBar2Read, State.ofNext_next]
  split
  · exact s.hostArrive_keeps _
  · exact .refl s

theorem execBar2Write_keeps (off : BitVec 40) (data : List Byte) (ep : Bool) (s : State) (errs : List (Nat × SymErr)) :
    Keeps s (s.ofNext (execBar2Write off data ep s errs)) := by
  simp only [execBar2Write, State.ofNext_next]
  split
  · exact s.hostArrive_keeps _
  · exact .refl s

theorem execHostwinBudgetRefill_keeps (s : State) : Keeps s (s.ofNext (execHostwinBudgetRefill s)) :=
  (Keeps.of_kept s.refillBudget_kept).trans (State.hostPump_keeps _)

theorem execRegisterWrite_keeps (off : BitVec 28) (size4 : Bool) (v : Word64) (fromHost : Bool) (s : State) :
    Keeps s (s.ofNext (execRegisterWrite off size4 v fromHost s)) := by
  refine Keeps.trans ?_ (State.hostPump_keeps _)
  split
  · exact s.hostArrive_keeps _
  · exact s.bar0Write_keeps _ _ _ _

/-! The resets that clear the placement are held when they end -/

/-- What every step keeps: the fuses, and a locked placement outside POR and MOD. -/
def Holds (s t : State) : Prop := Fuses s t ∧ (s.flag netPlace NET_PLACE_LOCK = true → t.heldReset = true ∨ t.rd netPlace = s.rd netPlace)

theorem Holds.of_keeps {s t : State} (h : Keeps s t) : Holds s t := ⟨⟨h.slot1, h.svnMin⟩, fun hl => .inr (h.place hl)⟩

theorem Holds.of_held {s t : State} (h1 : t.fw.slot1 = s.fw.slot1) (hm : t.fw.svnMin = s.fw.svnMin) (hh : t.heldReset = true) : Holds s t :=
  ⟨⟨fun _ => h1, hm.ge⟩, fun _ => .inl hh⟩

theorem Holds.trans_keeps {s t u : State} (h : Keeps s t) (h' : Holds t u) : Holds s u := by
  obtain ⟨⟨h1, hm⟩, hp⟩ := h'
  refine ⟨⟨fun hs => (h1 (by rw [h.slot1 hs]; exact hs)).trans (h.slot1 hs), h.svnMin.trans hm⟩, fun hl => ?_⟩
  have hr := h.place hl
  exact (hp (by rw [State.flag, State.fld, hr]; exact hl)).imp_right (·.trans hr)

end Sys2Proof.Machine
end

section
/-!
POR and MOD, which clear the placement, and every step (R522, R559).
-/

namespace Sys2Proof.Machine

/-- A reset of registers touches the registers only. -/
theorem State.resetRegs_eq (s : State) (r : Rst) (scope : Nat → Bool) : ∃ m, s.resetRegs r scope = { s with regs := m } := by
  unfold State.resetRegs
  generalize s.regs.map (·.1) = l
  induction l generalizing s with
  | nil => exact ⟨s.regs, rfl⟩
  | cons off l ih =>
    rw [List.foldl_cons]
    split
    · split
      · obtain ⟨m, hm⟩ := ih (s.wr off _)
        exact ⟨m, hm⟩
      · exact ih s
    · exact ih s

@[simp] theorem State.resetRegs_fw (s : State) (r : Rst) (scope : Nat → Bool) : (s.resetRegs r scope).fw = s.fw := by
  obtain ⟨m, hm⟩ := s.resetRegs_eq r scope
  rw [hm]

@[simp] theorem State.cleared_fw (s : State) : s.cleared.fw = s.fw.reboot := rfl

@[simp] theorem State.ownRoute_fw (s : State) : s.ownRoute.fw = s.fw := rfl

@[simp] theorem State.setInit_fw (s : State) (l : List Nat) : (s.setInit l).fw = s.fw := by
  unfold State.setInit
  induction l generalizing s with
  | nil => rfl
  | cons n l ih => rw [List.foldl_cons, ih, State.setFld_fw]

@[simp] theorem State.clearedRegs_fw (s : State) : s.clearedRegs.fw = s.fw := by simp [State.clearedRegs]

@[simp] theorem State.latchStraps_fw (s : State) (straps : BitVec 4) : (s.latchStraps straps).fw = s.fw := rfl

@[simp] theorem State.showPins_fw (s : State) : s.showPins.fw = s.fw := rfl

@[simp] theorem State.showPins_pwr (s : State) : s.showPins.pwr = s.pwr := rfl

theorem State.porBegin_fw (s : State) : s.porBegin.fw = s.fw.reboot := by simp [State.porBegin]

theorem State.porBegin_pwr (s : State) : s.porBegin.pwr = { PwrSt.reset with por := true } := rfl

theorem State.modBegin_fw (s : State) (pins : Nat) : (s.modBegin pins).fw = s.fw.reboot := by simp [State.modBegin]

theorem State.modBegin_mod (s : State) (pins : Nat) : (s.modBegin pins).pwr.mod = true := rfl

theorem State.porBegin_holds (s : State) : Holds s s.porBegin := by
  refine .of_held ?_ ?_ ?_
  · rw [State.porBegin_fw]; rfl
  · rw [State.porBegin_fw]; rfl
  · rw [State.heldReset, State.porBegin_pwr]; rfl

theorem State.modBegin_holds (s : State) (pins : Nat) : Holds s (s.modBegin pins) := by
  refine .of_held ?_ ?_ ?_
  · rw [State.modBegin_fw]; rfl
  · rw [State.modBegin_fw]; rfl
  · rw [State.heldReset, State.modBegin_mod, Bool.or_true]

theorem execPor_holds (s : State) : Holds s (s.ofNext (execPor s)) := s.porBegin_holds

theorem execModReset_holds (s : State) : Holds s (s.ofNext (execModReset s)) := by
  simp only [execModReset, State.ofNext_next]
  split
  · exact .of_keeps (.refl s)
  · exact .trans_keeps (.of_kept (s.take_kept 1)) (State.modBegin_holds _ _)

theorem execPorAfterCrossing_holds (s : State) : Holds s (s.ofNext (execPorAfterCrossing s)) := by
  simp only [execPorAfterCrossing, State.ofNext_next]
  split
  · split
    · exact s.porBegin_holds
    · exact .of_keeps (.refl s)
  · exact .of_keeps (.refl s)

theorem execRailFault_holds (r : Fin 20) (meas : BitVec 10) (s : State) : Holds s (s.ofNext (execRailFault r meas s)) := by
  unfold execRailFault
  rw [State.ofNext_next]
  extract_lets set m t u
  have ht : Keeps s t := .of_kept (by simp [t])
  have hu : Keeps s u := .of_kept (by simp [u, t])
  split
  · exact .of_keeps (.refl s)
  · split
    · exact .of_keeps ht
    · split
      · exact .trans_keeps hu u.porBegin_holds
      · exact .of_keeps hu

/-- Every command but POR and MOD, and a rail fault, which may be one, keeps the fuses and a locked placement. -/
theorem exec_holds (i : Instr) (s : State) : Holds s (s.ofNext (exec i s)) := by
  cases i
  case por => exact execPor_holds s
  case modReset => exact execModReset_holds s
  case porAfterCrossing => exact execPorAfterCrossing_holds s
  case railFault r meas => exact execRailFault_holds r meas s
  case netPlaceWrite v => exact .of_keeps (execNetPlaceWrite_keeps v s)
  case ctlPostData c v => exact .of_keeps (s.post2_keeps c v)
  case bar2Read off len errs => exact .of_keeps (execBar2Read_keeps off len errs s)
  case bar2Write off data ep errs => exact .of_keeps (execBar2Write_keeps off data ep s errs)
  case hostwinBudgetRefill => exact .of_keeps (execHostwinBudgetRefill_keeps s)
  case registerWrite off size4 v fromHost => exact .of_keeps (execRegisterWrite_keeps off size4 v fromHost s)
  case setPlace m => exact .of_keeps (execSetPlace_keeps m s)
  case update m flashOk errs => exact .of_keeps (execUpdate_keeps m flashOk s errs)
  case ownerKey m => exact .of_keeps (execOwnerKey_keeps m s)
  all_goals exact .of_keeps (.of_kept (by simp [exec]))

theorem step_holds (s t : State) (h : step s = .next t) : Holds s t := by
  unfold step at h
  split at h
  · cases h
    exact .of_keeps s.idleTick_keeps
  · next i rest _ =>
    have he := exec_holds i { s with pending := rest }
    rw [h] at he
    exact he

end Sys2Proof.Machine
end

section
/-!
A write to the locked placement (R9).
-/

namespace Sys2Proof.Machine

theorem State.rd_wr_rd (s : State) (o r : Nat) : (s.wr o (s.rd o)).rd r = s.rd r := by
  by_cases h : r = o
  · rw [h, State.rd_wr_same]
  · exact State.rd_wr_other _ _ _ _ h

theorem State.takesWrites_netPlace {s : State} (h : s.heldReset = false) : s.takesWrites netPlace = true := by
  simp [State.takesWrites, h, onComputeDie, netPlace]

/-- A write to the locked placement only counts (R9). -/
theorem execNetPlaceWrite_locked (v : Word64) {s : State} (hh : s.heldReset = false) (hl : s.flag netPlace NET_PLACE_LOCK = true) :
    execNetPlaceWrite v s = .next ((s.wr netPlace (s.rd netPlace)).bump safLockViolCount SAF_LOCK_VIOL_COUNT_COUNT).nextCycle := by
  have hm : accMask (fun f => decide (f.acc = .rwl)) RegKind.netPlace.fields &&& ~~~0 ≠ 0#64 := by decide
  have hv : s.lockViolated .netPlace (~~~0) = true := by
    rw [State.lockViolated, State.locked_netPlace, hl, Bool.true_and]
    exact decide_eq_true hm
  rw [execNetPlaceWrite, if_pos (State.takesWrites_netPlace hh), State.writePlace, State.locked_netPlace, hl, if_pos rfl,
    State.writePlain_netPlace_locked s v _ hl, if_pos hv]

theorem State.fld_bump_same (s : State) (off : Nat) (f : Fld) (hf : f.lo + f.w ≤ 64) : (s.bump off f).fld off f = bumped s off f := by
  have hp : 0 < 2 ^ f.w := Nat.two_pow_pos _
  refine (State.fld_setFld_same _ _ _ _ hf).trans ?_
  rw [Nat.mod_eq_of_lt]
  · rfl
  · omega

theorem locked_write_counts (v : Word64) {s : State} (hh : s.heldReset = false) (hl : s.flag netPlace NET_PLACE_LOCK = true) :
    Completes (.netPlaceWrite v) s fun t => t.rd netPlace = s.rd netPlace ∧
      t.fld safLockViolCount SAF_LOCK_VIOL_COUNT_COUNT = bumped s safLockViolCount SAF_LOCK_VIOL_COUNT_COUNT ∧
      OnlyRegs (fun off => off = safLockViolCount) s t := by
  have hr (r : Nat) (h : r ≠ safLockViolCount) :
      (((s.wr netPlace (s.rd netPlace)).bump safLockViolCount SAF_LOCK_VIOL_COUNT_COUNT).nextCycle).rd r = s.rd r := by
    rw [State.nextCycle_rd]
    exact (State.rd_setFld_other _ _ _ _ _ h).trans (s.rd_wr_rd _ _)
  refine ⟨_, execNetPlaceWrite_locked v hh hl, hr _ (by decide), ?_, hr, rfl⟩
  rw [State.nextCycle_fld, State.fld_bump_same _ _ _ (by decide)]
  simp only [bumped, State.fld, State.rd_wr_rd]

end Sys2Proof.Machine
end

section
open Sys2Proof Machine

/-- Settles O60: every command keeps the fuses and a locked placement, by cases on the command; only POR and MOD clear a placement, and they are
held when they end (`exec_holds`); a write to a locked placement is counted and leaves it (`locked_write_counts`). -/
theorem fusesAndPlacementHold : Obligations.FusesAndPlacementHold :=
  fun s t => ⟨fun h => step_holds s t h, fun v hh hl => locked_write_counts v hh hl⟩

end

section
/-!
The state after power-on reset (R10).
-/

namespace Sys2Proof.Machine

/-- A key that a map does not list holds its default. -/
theorem kget_of_notMem {α : Type} (d : Nat → α) (k : Nat) (m : KMap α) (h : k ∉ m.map (·.1)) : kget d m k = d k := by
  induction m with
  | nil => rfl
  | cons x m ih =>
    simp only [List.map_cons, List.mem_cons, not_or] at h
    rw [kget, if_neg (Ne.symm h.1), ih h.2]

theorem reset_keys : State.reset.regs.map (·.1) = (List.range 8).map chStatus ++ [netRoute 0, netUnsStat, brdPin] := rfl

theorem reset_rd (off : Nat) (hn : ∀ n : Fin 8, off ≠ chStatus n) (h : off ∉ [netRoute 0, netUnsStat, brdPin]) :
    State.reset.rd off = regReset off := by
  refine kget_of_notMem _ _ _ ?_
  rw [reset_keys, List.mem_append, not_or]
  refine ⟨fun hm => ?_, h⟩
  obtain ⟨n, hr, he⟩ := List.mem_map.mp hm
  exact hn ⟨n, List.mem_range.mp hr⟩ he.symm

theorem reset_chan (n : Fin 8) : State.reset.chan n = Chan.reset := by revert n; decide +kernel

theorem reset_inv : State.reset.Inv := by
  refine ⟨by decide +kernel, by decide +kernel, by decide +kernel, fun n => ?_⟩
  rw [reset_chan]
  exact ⟨by decide +kernel, by decide +kernel, by decide +kernel, by decide +kernel, by decide +kernel, by decide +kernel⟩

end Sys2Proof.Machine
end

section
open Sys2Proof Machine

/-- Settles O58: the registers that POR writes are listed in `State.reset` (`reset_keys`), any other holds its reset value; the rest is evaluated. -/
theorem resetState : Obligations.ResetState :=
  ⟨reset_rd, fun n => ⟨by revert n; decide +kernel, reset_chan n⟩, by decide +kernel, by decide +kernel, by decide +kernel, by decide +kernel,
    by decide +kernel, rfl, rfl, rfl, rfl, reset_inv⟩
end

section
/-!
The relation `OnlyRegs`: operations that touch the registers at some offsets and nothing else, one after another.
-/

namespace Sys2Proof.Machine

theorem OnlyRegs.of_eq {p : Nat → Prop} (s : State) : OnlyRegs p s s := ⟨fun _ _ => rfl, rfl⟩

theorem OnlyRegs.mono {p q : Nat → Prop} {s t : State} (h : OnlyRegs p s t) (hpq : ∀ off, p off → q off) : OnlyRegs q s t :=
  ⟨fun off ho => h.1 off fun hp => ho (hpq off hp), h.2⟩

theorem OnlyRegs.trans {p : Nat → Prop} {s t u : State} (h : OnlyRegs p s t) (h' : OnlyRegs p t u) : OnlyRegs p s u := by
  refine ⟨fun off ho => (h'.1 off ho).trans (h.1 off ho), ?_⟩
  have e := h'.2
  rw [h.2] at e
  exact e

theorem OnlyRegs.fld {p : Nat → Prop} {s t : State} (h : OnlyRegs p s t) {off : Nat} (ho : ¬ p off) (f : Fld) : t.fld off f = s.fld off f := by
  rw [State.fld, h.1 off ho, State.fld]

section
variable {p : Nat → Prop} {s t : State}

theorem OnlyRegs.ch (h : OnlyRegs p s t) : t.ch = s.ch := by rw [h.2]

theorem OnlyRegs.mem (h : OnlyRegs p s t) : t.mem = s.mem := by rw [h.2]

theorem OnlyRegs.net (h : OnlyRegs p s t) : t.net = s.net := by rw [h.2]

theorem OnlyRegs.lnk (h : OnlyRegs p s t) : t.lnk = s.lnk := by rw [h.2]

theorem OnlyRegs.saf (h : OnlyRegs p s t) : t.saf = s.saf := by rw [h.2]

theorem OnlyRegs.fw (h : OnlyRegs p s t) : t.fw = s.fw := by rw [h.2]

theorem OnlyRegs.host (h : OnlyRegs p s t) : t.host = s.host := by rw [h.2]

theorem OnlyRegs.pwr (h : OnlyRegs p s t) : t.pwr = s.pwr := by rw [h.2]

theorem OnlyRegs.chan (h : OnlyRegs p s t) (n : Fin 8) : t.chan n = s.chan n := by rw [State.chan, State.chan]; simp only [h.ch]

theorem OnlyRegs.link (h : OnlyRegs p s t) (l : Fin 24) : t.link l = s.link l := by rw [State.link, State.link]; simp only [h.lnk]

end

theorem OnlyRegs.ite {p : Nat → Prop} {c : Prop} [Decidable c] {s t u : State} (ht : OnlyRegs p s t) (hu : OnlyRegs p s u) :
    OnlyRegs p s (if c then t else u) := by
  split
  · exact ht
  · exact hu

theorem State.wr_onlyRegs (s : State) (o : Nat) (v : Word64) : OnlyRegs (fun off => off = o) s (s.wr o v) :=
  ⟨fun _ ho => State.rd_wr_other _ _ _ _ ho, rfl⟩

theorem State.setFld_onlyRegs (s : State) (o : Nat) (f : Fld) (x : Nat) : OnlyRegs (fun off => off = o) s (s.setFld o f x) :=
  s.wr_onlyRegs o _

theorem State.setFlag_onlyRegs (s : State) (o : Nat) (f : Fld) : OnlyRegs (fun off => off = o) s (s.setFlag o f) :=
  (s.setFld_onlyRegs o f 1).trans ⟨fun _ _ => rfl, rfl⟩

theorem State.bump_onlyRegs (s : State) (o : Nat) (f : Fld) : OnlyRegs (fun off => off = o) s (s.bump o f) := s.setFld_onlyRegs o f _

theorem State.nextCycle_onlyRegs (p : Nat → Prop) (s : State) : OnlyRegs p s s.nextCycle := ⟨fun _ _ => rfl, rfl⟩

/-- A fold of operations that each touch registers at offsets in `p` only. -/
theorem OnlyRegs.foldl {α : Type} {p : Nat → Prop} (f : State → α → State) (l : List α) (h : ∀ s, ∀ x ∈ l, OnlyRegs p s (f s x)) (s : State) :
    OnlyRegs p s (l.foldl f s) := by
  induction l generalizing s with
  | nil => exact .of_eq s
  | cons x l ih =>
    rw [List.foldl_cons]
    exact (h s x List.mem_cons_self).trans (ih (fun s y hy => h s y (List.mem_cons_of_mem x hy)) (f s x))

theorem State.setInit_onlyRegs (s : State) (l : List Nat) : OnlyRegs (fun off => ∃ n ∈ l, off = chStatus n) s (s.setInit l) :=
  .foldl _ l (fun s n hn => (s.setFld_onlyRegs _ _ _).mono fun _ ho => ⟨n, hn, ho⟩) s

theorem State.ownRoute_onlyRegs (s : State) :
    OnlyRegs (fun off => off = netRoute (s.fld netPlace NET_PLACE_DEVICE_ID) ∨ off = netUnsStat) s s.ownRoute :=
  ((s.wr_onlyRegs _ _).mono fun _ => .inl).trans ((State.setFld_onlyRegs _ _ _ _).mono fun _ => .inr)

theorem State.showPins_onlyRegs (s : State) : OnlyRegs (fun off => off = brdPin) s s.showPins :=
  (((s.setFld_onlyRegs _ _ _).trans (State.setFld_onlyRegs _ _ _ _)).trans (State.setFld_onlyRegs _ _ _ _)).trans (State.setFld_onlyRegs _ _ _ _)

theorem State.latchStraps_onlyRegs (s : State) (straps : BitVec 4) : OnlyRegs (fun off => off = brdStrap ∨ off = brdI3c) s (s.latchStraps straps) :=
  ((s.setFld_onlyRegs _ _ _).mono fun _ => .inl).trans ((State.setFld_onlyRegs _ _ _ _).mono fun _ => .inr)

theorem State.resetMsix_onlyRegs (s : State) : OnlyRegs (fun off => (∃ i < 8, off = msixTable i) ∨ off = msixPba) s s.resetMsix :=
  (OnlyRegs.foldl _ _ (fun s i hi => (s.wr_onlyRegs _ _).mono fun _ ho => .inl ⟨i, List.mem_range.mp hi, ho⟩) s).trans
    ((State.wr_onlyRegs _ _ _).mono fun _ => .inr)

theorem State.selfRefresh_onlyRegs (s : State) (on : Bool) :
    OnlyRegs (fun off => ∃ c < 128, off = mcChStatus c) { s with mem := { s.mem with selfRefresh := on } } (s.selfRefresh on) := by
  exact OnlyRegs.foldl _ _ (fun s c hc => .ite ((s.setFld_onlyRegs _ _ _).mono fun _ ho => ⟨c, List.mem_range.mp hc, ho⟩) (.of_eq s)) _

end Sys2Proof.Machine
end

section
namespace Sys2Proof.Machine

/-! ### A register after a reset (R15) -/

theorem resetWord_default (r : Rst) (fs : List FieldDef) (d : Word64) : resetWord r fs d d = d := by
  refine BitVec.eq_of_getLsbD_eq fun i hi => ?_
  simp only [resetWord, BitVec.getLsbD_or, BitVec.getLsbD_and, BitVec.getLsbD_not, hi, decide_true, Bool.true_and]
  cases d.getLsbD i <;> simp

theorem resetWord_idem (r : Rst) (fs : List FieldDef) (d v : Word64) : resetWord r fs d (resetWord r fs d v) = resetWord r fs d v := by
  refine BitVec.eq_of_getLsbD_eq fun i hi => ?_
  simp only [resetWord, BitVec.getLsbD_or, BitVec.getLsbD_and, BitVec.getLsbD_not, hi, decide_true, Bool.true_and]
  cases (accMask (fun f => rstClears r f.clr) fs).getLsbD i <;> simp

/-- A reset that clears no field of a register leaves it. -/
theorem resetWord_none {r : Rst} {fs : List FieldDef} (h : accMask (fun f => rstClears r f.clr) fs = 0#64) (d v : Word64) :
    resetWord r fs d v = v := by
  unfold resetWord
  extract_lets m
  rw [show m = 0#64 from h, BitVec.and_zero, BitVec.or_zero]
  exact BitVec.and_allOnes

/-- A reset that clears every field of a register returns it to its reset value. -/
theorem resetWord_all {r : Rst} {fs : List FieldDef} (h : accMask (fun f => rstClears r f.clr) fs = BitVec.allOnes 64) (d v : Word64) :
    resetWord r fs d v = d := by
  unfold resetWord
  extract_lets m
  rw [show m = BitVec.allOnes 64 from h, BitVec.not_allOnes, BitVec.and_zero, BitVec.zero_or, BitVec.and_allOnes]

/-- A register after a fold of operations on one register each, where one twice on the same register does what it does once. -/
theorem foldl_rd (f : State → Nat → State) (g : Word64 → Word64) (hg : ∀ v, g (g v) = g v) (off : Nat) (hs : ∀ s, (f s off).rd off = g (s.rd off))
    (ho : ∀ s o, o ≠ off → (f s o).rd off = s.rd off) (l : List Nat) (s : State) :
    (l.foldl f s).rd off = if off ∈ l then g (s.rd off) else s.rd off := by
  induction l generalizing s with
  | nil => rfl
  | cons o l ih =>
    rw [List.foldl_cons, ih]
    by_cases h : o = off
    · subst h
      simp only [hs, hg, ite_self, List.mem_cons_self, if_true]
    · simp only [ho s o h, List.mem_cons, Ne.symm h, false_or]

/-- What a reset of registers does to one of them; a register that is not listed holds its reset value already. -/
theorem State.resetRegs_rd (s : State) (r : Rst) (scope : Nat → Bool) {off : Nat} {k : RegKind} {i j : Nat} (hl : locate off = some (k, i, j)) :
    (s.resetRegs r scope).rd off = if scope off then resetWord r k.fields (regReset off) (s.rd off) else s.rd off := by
  unfold State.resetRegs
  rw [foldl_rd _ (fun v => if scope off then resetWord r k.fields (regReset off) v else v) (fun v => ?_) off (fun s => ?_) (fun s o ho => ?_)]
  · by_cases hm : off ∈ s.regs.map (·.1)
    · rw [if_pos hm]
    · have hd : s.rd off = regReset off := kget_of_notMem _ _ _ hm
      rw [if_neg hm, hd, resetWord_default, ite_self]
  · split
    · exact resetWord_idem ..
    · rfl
  · simp only [hl]
    split
    · exact s.rd_wr_same _ _
    · rfl
  · split
    · split
      · exact s.rd_wr_other _ _ _ ho.symm
      · rfl
    · rfl

end Sys2Proof.Machine
end

section
namespace Sys2Proof.Machine

/-! ### POR and MOD -/

theorem getF_bit (v : Word64) (i : Nat) : getF v ⟨i, 1⟩ = (v.getLsbD i).toNat := by
  rw [getF, BitVec.getLsbD, Nat.toNat_testBit, pow_one]

/-- A bit that a reset does not clear. -/
theorem getF_resetWord_bit {r : Rst} {fs : List FieldDef} {i : Nat} (h : (accMask (fun f => rstClears r f.clr) fs).getLsbD i = false)
    (hi : i < 64) (d v : Word64) : getF (resetWord r fs d v) ⟨i, 1⟩ = getF v ⟨i, 1⟩ := by
  rw [getF_bit, getF_bit]
  simp only [resetWord, BitVec.getLsbD_or, BitVec.getLsbD_and, BitVec.getLsbD_not, h, hi, decide_true, Bool.not_false, Bool.and_true, Bool.and_false,
    Bool.or_false]

theorem chStatus_inj {m n : Nat} (h : chStatus m = chStatus n) : m = n := by
  simp only [chStatus] at h
  omega

theorem State.setInit_state (s : State) (l : List Nat) (n : Nat) :
    (s.setInit l).fld (chStatus n) CH_STATUS_STATE = if n ∈ l then stInit else s.fld (chStatus n) CH_STATUS_STATE := by
  unfold State.setInit
  induction l generalizing s with
  | nil => rfl
  | cons m l ih =>
    rw [List.foldl_cons, ih]
    by_cases h : n = m
    · subst h
      rw [State.fld_setFld_same _ _ _ _ (by decide), if_pos List.mem_cons_self]
      exact ite_self _
    · rw [State.fld_setFld_other _ _ _ _ _ _ fun e => h (chStatus_inj e)]
      simp only [List.mem_cons, h, false_or]

theorem State.showPins_fld (s : State) (f : Fld) (h : f.lo + f.w ≤ 2 ∨ 6 ≤ f.lo) : s.showPins.fld brdPin f = s.fld brdPin f := by
  have hd (i : Nat) (hi : 2 ≤ i ∧ i < 6) : i + 1 ≤ f.lo ∨ f.lo + f.w ≤ i := by omega
  unfold State.showPins
  extract_lets
  rw [State.fld_setFld_field _ _ _ _ _ (by decide) (hd 5 (by decide)), State.fld_setFld_field _ _ _ _ _ (by decide) (hd 4 (by decide)),
    State.fld_setFld_field _ _ _ _ _ (by decide) (hd 3 (by decide)), State.fld_setFld_field _ _ _ _ _ (by decide) (hd 2 (by decide))]

/-- The registers that POR and MOD write beside their reset values. -/
def ClearedReg (off : Nat) : Prop := (∃ n : Fin 8, off = chStatus n) ∨ off = netRoute 0 ∨ off = netUnsStat

theorem State.clearedRegs_onlyRegs (s : State) (h : s.fld netPlace NET_PLACE_DEVICE_ID = 0) : OnlyRegs ClearedReg s s.clearedRegs := by
  have hi := s.setInit_onlyRegs (List.range 8)
  have ho := (s.setInit (List.range 8)).ownRoute_onlyRegs
  rw [hi.fld (fun ⟨n, _, e⟩ => channelRegs_ne_netPlace.2.1 n e.symm), h] at ho
  exact ((hi.mono fun off ⟨n, hn, e⟩ => .inl ⟨⟨n, List.mem_range.mp hn⟩, e⟩).trans (ho.mono fun off e => .inr e)).trans
    (State.nextCycle_onlyRegs _ _)

theorem State.clearedRegs_init (s : State) (n : Fin 8) : s.clearedRegs.fld (chStatus n) CH_STATUS_STATE = stInit := by
  have ho := (s.setInit (List.range 8)).ownRoute_onlyRegs
  have hn : ¬ (chStatus n = netRoute ((s.setInit (List.range 8)).fld netPlace NET_PLACE_DEVICE_ID) ∨ chStatus n = netUnsStat) := by
    simp only [chStatus, netRoute, netUnsStat]
    omega
  rw [State.clearedRegs, State.nextCycle_fld, ho.fld hn, State.setInit_state, if_pos (List.mem_range.mpr n.isLt)]

theorem reset_netPlace {r : Rst} (h : r ∈ [.por, .mod]) (d v : Word64) : resetWord r RegKind.netPlace.fields d v = d :=
  resetWord_all (by revert h; cases r <;> decide) d v

/-- What POR and MOD clear: everything but the registers, of which the fields with such a reset return to their reset values. -/
theorem State.cleared_placement (s : State) {r : Rst} (h : r ∈ [.por, .mod]) :
    (s.resetRegs r fun _ => true).cleared.fld netPlace NET_PLACE_DEVICE_ID = 0 := by
  have e : (s.resetRegs r fun _ => true).rd netPlace = regReset netPlace := by
    rw [s.resetRegs_rd r _ locate_at_netPlace, if_pos rfl, reset_netPlace h]
  change getF ((s.resetRegs r fun _ => true).rd netPlace) _ = 0
  rw [e]
  decide

/-- What POR and MOD have cleared, before the straps, the pins and the record of resets. -/
def State.restart (s : State) (r : Rst) : State := (s.resetRegs r fun _ => true).cleared.clearedRegs

/-- What holds after POR and MOD, where the registers at offsets in `p` are written beside. -/
structure Restarted (r : Rst) (p : Nat → Prop) (s t : State) : Prop where
  mem : t.mem = State.reset.mem
  net : t.net = State.reset.net
  lnk : t.lnk = State.reset.lnk
  chan : ∀ n : Fin 8, t.chan n = Chan.reset
  init : ∀ n : Fin 8, t.fld (chStatus n) CH_STATUS_STATE = stInit
  fw : t.fw = s.fw.reboot
  regs : ∀ off k i j, locate off = some (k, i, j) → ¬ ClearedReg off → ¬ p off → t.rd off = resetWord r k.fields (regReset off) (s.rd off)

theorem Restarted.of_onlyRegs {r : Rst} (h : r ∈ [.por, .mod]) {p : Nat → Prop} (hp : ∀ n : Fin 8, ¬ p (chStatus n)) {s t : State} (b : BrdSt)
    (q : PwrSt) (ht : OnlyRegs p { s.restart r with brd := b, pwr := q } t) : Restarted r p s t := by
  have hr (off : Nat) (k : RegKind) (i j : Nat) (hl : locate off = some (k, i, j)) :
      (s.resetRegs r fun _ => true).cleared.rd off = resetWord r k.fields (regReset off) (s.rd off) :=
    (s.resetRegs_rd r _ hl).trans (if_pos rfl)
  have hf : (s.resetRegs r fun _ => true).cleared.fw = s.fw.reboot := congrArg FwSt.reboot (s.resetRegs_fw r _)
  have hc := ((s.resetRegs r fun _ => true).cleared).clearedRegs_onlyRegs (s.cleared_placement h)
  have hi := ((s.resetRegs r fun _ => true).cleared).clearedRegs_init
  unfold State.restart at ht
  generalize s.resetRegs r (fun _ => true) = u at *
  generalize u.cleared.clearedRegs = v at *
  exact {
    mem := ht.mem.trans hc.mem
    net := ht.net.trans hc.net
    lnk := ht.lnk.trans hc.lnk
    chan := fun n => (ht.chan n).trans ((hc.chan n).trans (reset_chan n))
    init := fun n => (ht.fld (hp n) _).trans (hi n)
    fw := ht.fw.trans (hc.fw.trans hf)
    regs := fun off k i j hl h1 h2 => (ht.1 off h2).trans ((hc.1 off h1).trans (hr off k i j hl)) }

theorem State.porBegin_onlyRegs (s : State) : ∃ b, OnlyRegs (fun off => off = brdStrap ∨ off = brdI3c ∨ off = brdPin)
    { s.restart .por with brd := b, pwr := { PwrSt.reset with por := true } } s.porBegin := by
  obtain ⟨b, hb⟩ : ∃ b, s.porBegin = ({ (s.restart .por).latchStraps (BitVec.ofNat 4 (s.fld brdStrap ⟨0, 4⟩)) with
    brd := b, pwr := { PwrSt.reset with por := true } } : State).showPins.nextCycle := ⟨_, rfl⟩
  rw [hb]
  generalize s.restart .por = u
  have hl := u.latchStraps_onlyRegs (BitVec.ofNat 4 (s.fld brdStrap ⟨0, 4⟩))
  generalize u.latchStraps _ = v at hl ⊢
  have hu : OnlyRegs (fun off => off = brdStrap ∨ off = brdI3c ∨ off = brdPin) { u with brd := b, pwr := { PwrSt.reset with por := true } }
      { v with brd := b, pwr := { PwrSt.reset with por := true } } :=
    ⟨fun off ho => hl.1 off fun h => ho (h.imp_right .inl), by rw [hl.2]⟩
  exact ⟨b, (hu.trans ((State.showPins_onlyRegs _).mono fun _ h => .inr (.inr h))).trans (State.nextCycle_onlyRegs _ _)⟩

theorem State.porBegin_restarted (s : State) : Restarted .por (fun off => off = brdStrap ∨ off = brdI3c ∨ off = brdPin) s s.porBegin :=
  let ⟨b, hb⟩ := s.porBegin_onlyRegs
  .of_onlyRegs (by decide) (by decide) b _ hb

theorem State.latchStraps_straps (s : State) (straps : BitVec 4) : (s.latchStraps straps).fld brdStrap ⟨0, 4⟩ = straps.toNat := by
  unfold State.latchStraps
  extract_lets
  rw [State.fld_setFld_other _ _ _ _ _ _ (by decide), State.fld_setFld_same _ _ _ _ (by decide)]
  exact Nat.mod_eq_of_lt straps.isLt

theorem State.latchStraps_addr (s : State) (straps : BitVec 4) :
    (s.latchStraps straps).fld brdI3c BRD_I3C_STATIC_ADDR = 0x58 + (if bit straps.toNat 2 then straps.toNat % 4 else 0) := by
  have hs : (s.setFld brdStrap ⟨0, 4⟩ straps.toNat).fld brdStrap ⟨0, 4⟩ = straps.toNat :=
    (State.fld_setFld_same _ _ _ _ (by decide)).trans (Nat.mod_eq_of_lt straps.isLt)
  have hlt := straps.isLt
  unfold State.latchStraps
  extract_lets u x y
  have hx : x = straps.toNat % 2 := by
    simp only [State.fld, getF, u, x, BRD_STRAP_SLOT_X] at hs ⊢
    omega
  have hy : y = straps.toNat / 2 % 2 := by
    simp only [State.fld, getF, u, y, BRD_STRAP_SLOT_Y] at hs ⊢
    omega
  have hc : u.flag brdStrap BRD_STRAP_CARRIER = bit straps.toNat 2 := by
    have e : u.fld brdStrap BRD_STRAP_CARRIER = straps.toNat / 4 % 2 := by
      simp only [State.fld, getF, u, BRD_STRAP_CARRIER] at hs ⊢
      omega
    rw [State.flag, e, bit]
    exact decide_eq_decide.mpr (by omega)
  rw [State.fld_setFld_same _ _ _ _ (by decide), hc, hx, hy]
  refine (Nat.mod_eq_of_lt ?_).trans ?_
  · simp only [BRD_I3C_STATIC_ADDR]
    split <;> omega
  · split <;> omega

theorem State.porBegin_straps (s : State) : s.porBegin.fld brdStrap ⟨0, 4⟩ = s.fld brdStrap ⟨0, 4⟩ := by
  rw [State.porBegin, State.nextCycle_fld, (State.showPins_onlyRegs _).fld (by decide)]
  refine (State.latchStraps_straps _ _).trans ((BitVec.toNat_ofNat _ _).trans (Nat.mod_mod _ _))

/-- MOD's own writes: which pin asks for it, the record of resets, and the pins. -/
theorem State.modBegin_eq (s : State) (pins : Nat) : ∃ q, q.mod = true ∧ s.modBegin pins =
    ((((({ s.restart .mod with pwr := q }.setFld brdPin BRD_PIN_RESET_IN (pins % 2)).setFld brdPin BRD_PIN_PERST_IN (pins / 2 % 2)).setFld pwrReset
      PWR_RESET_LAST 1).bump pwrReset PWR_RESET_MODS).showPins).nextCycle := ⟨_, rfl, rfl⟩

theorem State.modBegin_onlyRegs (s : State) (pins : Nat) : ∃ q, OnlyRegs (fun off => off = brdPin ∨ off = pwrReset)
    { s.restart .mod with brd := (s.restart .mod).brd, pwr := q } (s.modBegin pins) := by
  obtain ⟨q, -, h⟩ := s.modBegin_eq pins
  rw [h]
  refine ⟨q, .trans (.trans (.trans (.trans (.trans ?_ ((State.setFld_onlyRegs _ _ _ _).mono fun _ => .inl))
    ((State.setFld_onlyRegs _ _ _ _).mono fun _ => .inr)) ((State.bump_onlyRegs _ _ _).mono fun _ => .inr))
    ((State.showPins_onlyRegs _).mono fun _ => .inl)) (State.nextCycle_onlyRegs _ _)⟩
  exact (State.setFld_onlyRegs _ _ _ _).mono fun _ => .inl

theorem State.modBegin_restarted (s : State) (pins : Nat) : Restarted .mod (fun off => off = brdPin ∨ off = pwrReset) s (s.modBegin pins) :=
  let ⟨q, hq⟩ := s.modBegin_onlyRegs pins
  .of_onlyRegs (by decide) (by decide) _ q hq

end Sys2Proof.Machine
end

section
namespace Sys2Proof.Machine

/-- What POR leaves (R14, R559). -/
theorem por_resets (s : State) : Completes .por s fun t =>
    t.pwr = { PwrSt.reset with por := true } ∧ t.mem = State.reset.mem ∧ t.net = State.reset.net ∧ t.lnk = State.reset.lnk ∧
      (∀ n : Fin 8, t.chan n = Chan.reset ∧ t.fld (chStatus n) CH_STATUS_STATE = stInit) ∧
      t.fw.flash = s.fw.flash ∧ t.fw.retired = s.fw.retired ∧ t.fw.ledgerFlash = s.fw.ledgerFlash ∧ t.fw.slot1 = s.fw.slot1 ∧
      t.fw.svnMin = s.fw.svnMin ∧ t.fld brdJtag BRD_JTAG_DEBUG_LOCK = s.fld brdJtag BRD_JTAG_DEBUG_LOCK ∧
      t.fld brdStrap ⟨0, 4⟩ = s.fld brdStrap ⟨0, 4⟩ ∧
      ∀ off k i j, locate off = some (k, i, j) → (∀ n : Fin 8, off ≠ chStatus n) → off ∉ [netRoute 0, netUnsStat, brdStrap, brdI3c, brdPin] →
        t.rd off = resetWord .por k.fields (regReset off) (s.rd off) := by
  have h := s.porBegin_restarted
  refine ⟨s.porBegin, rfl, s.porBegin_pwr, h.mem, h.net, h.lnk, fun n => ⟨h.chan n, h.init n⟩, ?_, ?_, ?_, ?_, ?_, ?_, s.porBegin_straps, ?_⟩
  · rw [h.fw]; rfl
  · rw [h.fw]; rfl
  · rw [h.fw]; rfl
  · rw [h.fw]; rfl
  · rw [h.fw]; rfl
  · have hc : ¬ ClearedReg brdJtag := by
      rintro (⟨n, e⟩ | e | e)
      · revert n; decide
      · exact absurd e (by decide)
      · exact absurd e (by decide)
    rw [State.fld, h.regs brdJtag .brdJtag 0 0 (by decide) hc (by decide)]
    exact getF_resetWord_bit (by decide) (by decide) _ _
  · intro off k i j hl hn hoff
    simp only [List.mem_cons, List.not_mem_nil, or_false, not_or] at hoff
    obtain ⟨h1, h2, h3, h4, h5⟩ := hoff
    exact h.regs off k i j hl (by rintro (⟨n, e⟩ | e | e); exacts [hn n e, h1 e, h2 e]) (by rintro (e | e | e); exacts [h3 e, h4 e, h5 e])

theorem resetWord_pwrReset {r : Rst} (h : r ∈ [.mod, .hot, .soft]) (d v : Word64) : resetWord r RegKind.pwrReset.fields d v = v :=
  resetWord_none (by revert h; cases r <;> decide) d v

theorem State.restart_pwrReset (s : State) : (s.restart .mod).rd pwrReset = s.rd pwrReset := by
  have h : Restarted .mod (fun _ => False) s (s.restart .mod) :=
    .of_onlyRegs (by decide) (by simp) (s.restart .mod).brd (s.restart .mod).pwr (.of_eq _)
  rw [h.regs pwrReset .pwrReset 0 0 (by decide) ?_ id, resetWord_pwrReset (by decide)]
  rintro (⟨n, e⟩ | e | e)
  · revert n; decide
  · exact absurd e (by decide)
  · exact absurd e (by decide)

theorem State.flag_eq_true {s : State} {off : Nat} {f : Fld} (h : s.fld off f ≠ 0) : s.flag off f = true := decide_eq_true h

/-- The record of resets and the pins after MOD (R527, R559). -/
theorem State.modBegin_record (s : State) (pins : Nat) : (s.modBegin pins).fld pwrReset PWR_RESET_LAST = 1 ∧
    (s.modBegin pins).fld pwrReset PWR_RESET_MODS = bumped s pwrReset PWR_RESET_MODS ∧
    (s.modBegin pins).fld brdPin BRD_PIN_RESET_IN = pins % 2 ∧ (s.modBegin pins).fld brdPin BRD_PIN_PERST_IN = pins / 2 % 2 := by
  obtain ⟨q, -, h⟩ := s.modBegin_eq pins
  have hr : ({ s.restart .mod with pwr := q } : State).fld pwrReset PWR_RESET_MODS = s.fld pwrReset PWR_RESET_MODS :=
    congrArg (getF · PWR_RESET_MODS) s.restart_pwrReset
  rw [h]
  generalize ({ s.restart .mod with pwr := q } : State) = u at hr ⊢
  refine ⟨?_, ?_, ?_, ?_⟩
  · rw [State.nextCycle_fld, (State.showPins_onlyRegs _).fld (by decide)]
    exact (State.fld_setFld_field _ _ _ _ _ (by decide) (by decide)).trans (State.fld_setFld_same _ _ _ _ (by decide))
  · rw [State.nextCycle_fld, (State.showPins_onlyRegs _).fld (by decide), State.fld_bump_same _ _ _ (by decide), bumped, bumped,
      State.fld_setFld_field _ _ _ _ _ (by decide) (by decide), State.fld_setFld_other _ _ _ _ _ _ (by decide),
      State.fld_setFld_other _ _ _ _ _ _ (by decide), hr]
  · rw [State.nextCycle_fld, State.showPins_fld _ _ (by decide), (State.bump_onlyRegs _ _ _).fld (by decide),
      State.fld_setFld_other _ _ _ _ _ _ (by decide), State.fld_setFld_field _ _ _ _ _ (by decide) (by decide),
      State.fld_setFld_same _ _ _ _ (by decide)]
    exact Nat.mod_mod _ _
  · rw [State.nextCycle_fld, State.showPins_fld _ _ (by decide), (State.bump_onlyRegs _ _ _).fld (by decide),
      State.fld_setFld_other _ _ _ _ _ _ (by decide), State.fld_setFld_same _ _ _ _ (by decide)]
    exact Nat.mod_mod _ _

/-- What MOD leaves (R14, R522, R523, R559). -/
theorem mod_resets (s : State) (hh : s.heldReset = false) : Completes .modReset s fun t =>
    t.pwr.mod = true ∧ t.mem = State.reset.mem ∧ t.net = State.reset.net ∧ t.lnk = State.reset.lnk ∧
      (∀ n : Fin 8, t.chan n = Chan.reset ∧ t.fld (chStatus n) CH_STATUS_STATE = stInit) ∧
      t.fw.flash = s.fw.flash ∧ t.fw.slot1 = s.fw.slot1 ∧ t.fw.svnMin = s.fw.svnMin ∧
      t.fld pwrReset PWR_RESET_LAST = 1 ∧ t.fld pwrReset PWR_RESET_MODS = bumped s pwrReset PWR_RESET_MODS ∧
      (t.flag brdPin BRD_PIN_RESET_IN = true ∨ t.flag brdPin BRD_PIN_PERST_IN = true) ∧
      ∀ off k i j, locate off = some (k, i, j) → (∀ n : Fin 8, off ≠ chStatus n) → off ∉ [netRoute 0, netUnsStat, brdPin, pwrReset] →
        t.rd off = resetWord .mod k.fields (regReset off) (s.rd off) := by
  have h := (s.take 1).modBegin_restarted (s.pick 3 + 1)
  obtain ⟨hlast, hmods, hres, hper⟩ := (s.take 1).modBegin_record (s.pick 3 + 1)
  have hp : s.pick 3 < 3 := Nat.mod_lt _ (by decide)
  refine ⟨_, congrArg Host.Outcome.next (if_neg (by rw [hh]; decide)), State.modBegin_mod _ _, h.mem, h.net, h.lnk,
    fun n => ⟨h.chan n, h.init n⟩, ?_, ?_, ?_, hlast, hmods, ?_, ?_⟩
  · rw [h.fw]; rfl
  · rw [h.fw]; rfl
  · rw [h.fw]; rfl
  · rcases Nat.lt_or_ge (s.pick 3) 1 with h0 | h0
    · exact .inl (State.flag_eq_true (by omega))
    · exact .inr (State.flag_eq_true (by omega))
  · intro off k i j hl hn hoff
    simp only [List.mem_cons, List.not_mem_nil, or_false, not_or] at hoff
    obtain ⟨h1, h2, h3, h4⟩ := hoff
    exact h.regs off k i j hl (by rintro (⟨n, e⟩ | e | e); exacts [hn n e, h1 e, h2 e]) (by rintro (e | e); exacts [h3 e, h4 e])

theorem State.flag_eq_false {s : State} {off : Nat} {f : Fld} (h : s.fld off f = 0) : s.flag off f = false := by
  rw [State.flag, h]
  rfl

/-- The end of MOD latches the straps (R560, R578). -/
theorem mod_releases (s : State) (straps : BitVec 4) (hm : s.pwr.mod = true) (hp : s.pwr.por = false) :
    Completes (.modResetRelease straps) s fun t =>
      t.pwr.mod = false ∧ t.flag brdPin BRD_PIN_RESET_IN = false ∧ t.flag brdPin BRD_PIN_PERST_IN = false ∧ t.fld brdStrap ⟨0, 4⟩ = straps.toNat ∧
        t.fld brdI3c BRD_I3C_STATIC_ADDR = 0x58 + (if bit straps.toNat 2 then straps.toNat % 4 else 0) := by
  refine ⟨_, congrArg Host.Outcome.next (if_pos (by rw [hm, hp]; rfl)), rfl, ?_, ?_, ?_, ?_⟩
  · refine State.flag_eq_false ?_
    rw [State.showPins_fld _ _ (by decide), (State.latchStraps_onlyRegs _ _).fld (by decide), State.modPwr_fld,
      State.fld_setFld_field _ _ _ _ _ (by decide) (by decide), State.fld_setFld_same _ _ _ _ (by decide)]
    rfl
  · refine State.flag_eq_false ?_
    rw [State.showPins_fld _ _ (by decide), (State.latchStraps_onlyRegs _ _).fld (by decide), State.modPwr_fld,
      State.fld_setFld_same _ _ _ _ (by decide)]
    rfl
  · rw [(State.showPins_onlyRegs _).fld (by decide), State.latchStraps_straps]
  · rw [(State.showPins_onlyRegs _).fld (by decide), State.latchStraps_addr]

/-- A glitch on a reset pin is counted (R578). -/
theorem glitch_counts (s : State) (p : Bool) (hh : s.heldReset = false) : Completes (.resetGlitch p) s fun t =>
    t.fld brdPin BRD_PIN_GLITCHES = bumped s brdPin BRD_PIN_GLITCHES ∧ OnlyRegs (fun off => off = brdPin) s t :=
  ⟨_, congrArg Host.Outcome.next (if_neg (by rw [hh]; decide)), s.fld_bump_same _ _ (by decide), s.bump_onlyRegs _ _⟩

end Sys2Proof.Machine
end

section
namespace Sys2Proof.Machine

/-! ### HOT and SOFT -/

/-- What a link's going down does to time leaves of a state. -/
structure TimDown (s t : State) : Prop where
  rd : ∀ off, off ∉ [timCtl, timStat, ctlHostAlert, msixPba] → t.rd off = s.rd off
  ch : t.ch = s.ch
  mem : t.mem = s.mem
  fw : t.fw = s.fw
  saf : t.saf = s.saf
  pwr : t.pwr = s.pwr
  source : ∀ l : Fin 24, (t.link l).source = (s.link l).source

theorem TimDown.refl (s : State) : TimDown s s := ⟨fun _ _ => rfl, rfl, rfl, rfl, rfl, rfl, fun _ => rfl⟩

theorem TimDown.trans {s t u : State} (h : TimDown s t) (h' : TimDown t u) : TimDown s u where
  rd off ho := (h'.rd off ho).trans (h.rd off ho)
  ch := h'.ch.trans h.ch
  mem := h'.mem.trans h.mem
  fw := h'.fw.trans h.fw
  saf := h'.saf.trans h.saf
  pwr := h'.pwr.trans h.pwr
  source l := (h'.source l).trans (h.source l)

theorem TimDown.foldl {α : Type} (f : State → α → State) (l : List α) (h : ∀ s x, TimDown s (f s x)) (s : State) : TimDown s (l.foldl f s) := by
  induction l generalizing s with
  | nil => exact .refl s
  | cons x l ih => exact (h s x).trans (ih (f s x))

theorem TimDown.ite {c : Prop} [Decidable c] {s t u : State} (ht : TimDown s t) (hu : TimDown s u) : TimDown s (if c then t else u) := by
  split
  · exact ht
  · exact hu

theorem TimDown.of_onlyRegs {p : Nat → Prop} {s t : State} (h : OnlyRegs p s t) (hp : ∀ off, p off → off ∈ [timCtl, timStat, ctlHostAlert, msixPba]) :
    TimDown s t where
  rd off ho := h.1 off fun hp' => ho (hp off hp')
  ch := h.ch
  mem := h.mem
  fw := h.fw
  saf := h.saf
  pwr := h.pwr
  source l := by rw [h.link]

theorem TimDown.modTim (s : State) (f : TimSt → TimSt) : TimDown s (s.modTim f) := ⟨fun _ _ => rfl, rfl, rfl, rfl, rfl, rfl, fun _ => rfl⟩

theorem State.sendVector_timDown (s : State) (v : Nat) : TimDown s (s.sendVector v) := by
  unfold State.sendVector
  extract_lets u
  have hu : TimDown s u := ⟨fun _ _ => rfl, rfl, rfl, rfl, rfl, rfl, fun _ => rfl⟩
  refine .ite (.ite (hu.trans (.of_onlyRegs (u.setFld_onlyRegs _ _ _) (by simp))) ?_) hu
  exact ⟨fun _ _ => rfl, rfl, rfl, rfl, rfl, rfl, fun _ => rfl⟩

theorem State.alert_timDown (s : State) (bits : List Nat) : TimDown s (s.alert bits) := by
  unfold State.alert
  extract_lets rising again t u
  have ht : TimDown s t := .foldl _ _ (fun s b => .of_onlyRegs (s.setFlag_onlyRegs _ _) (by simp)) s
  have hu : TimDown t u := by
    refine .foldl _ again (fun s b => ?_) t
    exact ⟨fun _ _ => rfl, rfl, rfl, rfl, rfl, rfl, fun _ => rfl⟩
  exact (ht.trans hu).trans (.foldl _ _ State.sendVector_timDown u)

theorem State.showTim_timDown (s : State) : TimDown s s.showTim := by
  unfold State.showTim
  extract_lets new old t u
  have ht : TimDown s t := .of_onlyRegs (s.setFld_onlyRegs _ _ _) (by simp)
  have hu : TimDown s u := .ite ht (ht.trans (.of_onlyRegs (t.setFlag_onlyRegs _ _) (by simp)))
  exact .ite ht (.ite (hu.trans (u.alert_timDown _)) hu)

theorem State.goTim_timDown (s : State) (st : Nat) : TimDown s (s.goTim st) := by
  unfold State.goTim
  exact .ite s.showTim_timDown ((TimDown.modTim s _).trans (State.showTim_timDown _))

theorem State.dropAcquire_timDown (s : State) : TimDown s s.dropAcquire :=
  (TimDown.of_onlyRegs (s.setFld_onlyRegs _ _ _) (by simp)).trans (.modTim _ _)

theorem State.setLink_timDown (s : State) (l : Fin 24) (x : LinkSt) (h : x.source = (s.link l).source) : TimDown s (s.setLink l x) where
  rd _ _ := rfl
  ch := rfl
  mem := rfl
  fw := rfl
  saf := rfl
  pwr := rfl
  source m := by
    simp only [State.link, State.setLink, Vector.getElem_set]
    split
    · next e => rw [h, State.link, Fin.ext e]
    · rfl

theorem State.timLinkDown_timDown (s : State) (l : Fin 24) : TimDown s (s.timLinkDown l) := by
  unfold State.timLinkDown
  extract_lets _ t u
  have ht : TimDown s t := s.setLink_timDown l _ rfl
  have hu : TimDown s u := ht.trans (.modTim t _)
  exact .ite ((hu.trans u.dropAcquire_timDown).trans (State.goTim_timDown _ _)) hu

/-- What holds after the part of a reset that HOT and SOFT share (R14, R15, R121, R293, R336), outside STANDBY. -/
structure CoreReset (r : Rst) (s t : State) : Prop where
  mem : t.mem.bytes = s.mem.bytes ∧ t.mem.selfRefresh = true ∧ t.mem.hostq = []
  fw : t.fw = s.fw.reboot
  record : t.rd pwrReset = s.rd pwrReset
  saf : t.fld safStat SAF_STAT_STATE = (if s.fld safStat SAF_STAT_STATE = 2 then 2 else 0)
  chan : ∀ n : Fin 8, t.chan n = (s.chan n).keepMem
  init : ∀ n : Fin 8, t.fld (chStatus n) CH_STATUS_STATE = (if s.fld (chStatus n) CH_STATUS_STATE = stInit then stInit else stIdle)
  link : ∀ l : Fin 24, t.link l = { LinkSt.reset with source := (s.link l).source }
  route : t.rd (netRoute (s.fld netPlace NET_PLACE_DEVICE_ID)) = 6
  regs : ∀ off k a b, locate off = some (k, a, b) → (0x01000000 ≤ off ∧ off < 0x01800000) ∨ (0x03000000 ≤ off ∧ off < 0x05000000) →
    (∀ n : Fin 8, off ≠ chStatus n) → off ≠ netRoute (s.fld netPlace NET_PLACE_DEVICE_ID) → off ≠ netUnsStat →
    t.rd off = resetWord r k.fields (regReset off) (s.rd off)

/-- HOT and SOFT's common part in three steps: time, the registers, and the rest with the registers it writes. -/
theorem State.resetCore_eq (s : State) (r : Rst) (h2 : s.fld pwrState PWR_STATE_STATE ≠ 2) :
    ∃ u v w : State, TimDown s u ∧ v = u.resetRegs r (fun _ => true) ∧
      (w.regs = v.regs ∧ w.ch = v.ch.map Chan.keepMem ∧ w.mem.bytes = v.mem.bytes ∧ w.mem.hostq = [] ∧ w.lnk = v.lnk.map LinkSt.cleared ∧
        w.fw = v.fw.reboot) ∧
      s.resetCore r = ((((w.setFld safStat SAF_STAT_STATE (if s.fld safStat SAF_STAT_STATE = 2 then 2 else 0)).selfRefresh true).setInit
        s.inInit).ownRoute).showPins := by
  unfold State.resetCore
  rw [if_neg h2]
  have hu : TimDown s ((fins 24).foldl (fun s l => s.timLinkDown l) s) := .foldl _ _ State.timLinkDown_timDown s
  extract_lets a st init u v _ _ _ _ _ w x
  have hv : v = u.resetRegs r fun _ => true := rfl
  clear_value v
  exact ⟨u, v, w, hu, hv, ⟨rfl, rfl, rfl, rfl, rfl, rfl⟩, rfl⟩

/-- The registers that HOT and SOFT write beside the reset values; `d` is the device's own number. -/
def CoreReg (d off : Nat) : Prop :=
  off = safStat ∨ (∃ c < 128, off = mcChStatus c) ∨ (∃ n : Fin 8, off = chStatus n) ∨ off = netRoute d ∨ off = netUnsStat ∨ off = brdPin

theorem State.resetRegs_onlyRegs (s : State) (r : Rst) (scope : Nat → Bool) : OnlyRegs (fun _ => True) s (s.resetRegs r scope) := by
  obtain ⟨m, hm⟩ := s.resetRegs_eq r scope
  rw [hm]
  exact ⟨fun _ h => absurd trivial h, rfl⟩

/-- The steps of `State.resetCore` after the reset of the registers, on the state it starts from. -/
theorem State.resetCore_tail (w : State) (x : Nat) (l : List Nat) (hl : ∀ n ∈ l, n < 8) :
    OnlyRegs (CoreReg (w.fld netPlace NET_PLACE_DEVICE_ID)) { w with mem := { w.mem with selfRefresh := true } }
      (((((w.setFld safStat SAF_STAT_STATE x).selfRefresh true).setInit l).ownRoute).showPins) := by
  have h1 : OnlyRegs (fun off => off = safStat) { w with mem := { w.mem with selfRefresh := true } }
      { w.setFld safStat SAF_STAT_STATE x with mem := { w.mem with selfRefresh := true } } := ⟨(w.setFld_onlyRegs _ _ _).1, rfl⟩
  have h2 := (w.setFld safStat SAF_STAT_STATE x).selfRefresh_onlyRegs true
  generalize (w.setFld safStat SAF_STAT_STATE x).selfRefresh true = y at h2 ⊢
  have h3 := y.setInit_onlyRegs l
  generalize y.setInit l = z at h3 ⊢
  have h4 := z.ownRoute_onlyRegs
  have hp : z.fld netPlace NET_PLACE_DEVICE_ID = w.fld netPlace NET_PLACE_DEVICE_ID := by
    rw [h3.fld (fun ⟨n, _, e⟩ => channelRegs_ne_netPlace.2.1 n e.symm), h2.fld (by simp only [netPlace, mcChStatus]; omega)]
    exact h1.fld (by decide) _
  rw [hp] at h4
  exact ((((h1.mono fun _ h => .inl h).trans (h2.mono fun _ h => .inr (.inl h))).trans
    (h3.mono fun _ ⟨n, hn, h⟩ => .inr (.inr (.inl ⟨⟨n, hl n hn⟩, h⟩)))).trans
    (h4.mono fun _ h => .inr (.inr (.inr (h.imp_right .inl))))).trans
    (z.ownRoute.showPins_onlyRegs.mono fun _ h => .inr (.inr (.inr (.inr (.inr h)))))

theorem State.deviceId_lt (s : State) : s.fld netPlace NET_PLACE_DEVICE_ID < 4096 := Nat.mod_lt _ (by decide)

theorem State.ownRoute_rd (s : State) : s.ownRoute.rd (netRoute (s.fld netPlace NET_PLACE_DEVICE_ID)) = 6 := by
  have hd := s.deviceId_lt
  unfold State.ownRoute
  refine (State.rd_setFld_other _ _ _ _ _ ?_).trans (State.rd_wr_same _ _ _)
  simp only [netRoute, netUnsStat]
  omega

/-- What the tail of `State.resetCore` writes: the state of SAF_STAT, INIT and the own route (R121, R293). -/
theorem State.resetCore_shown (w : State) (x : Nat) (l : List Nat) (hl : ∀ n ∈ l, n < 8) :
    let t := ((((w.setFld safStat SAF_STAT_STATE x).selfRefresh true).setInit l).ownRoute).showPins
    t.fld safStat SAF_STAT_STATE = x % 2 ^ 2 ∧
      (∀ n : Fin 8, t.fld (chStatus n) CH_STATUS_STATE = if n.val ∈ l then stInit else w.fld (chStatus n) CH_STATUS_STATE) ∧
      t.rd (netRoute (w.fld netPlace NET_PLACE_DEVICE_ID)) = 6 := by
  intro t
  have h1 := w.setFld_onlyRegs safStat SAF_STAT_STATE x
  have hx : (w.setFld safStat SAF_STAT_STATE x).fld safStat SAF_STAT_STATE = x % 2 ^ 2 := State.fld_setFld_same _ _ _ _ (by decide)
  have h2 := (w.setFld safStat SAF_STAT_STATE x).selfRefresh_onlyRegs true
  have h3 := ((w.setFld safStat SAF_STAT_STATE x).selfRefresh true).setInit_onlyRegs l
  have hi := ((w.setFld safStat SAF_STAT_STATE x).selfRefresh true).setInit_state l
  have h4 := (((w.setFld safStat SAF_STAT_STATE x).selfRefresh true).setInit l).ownRoute_onlyRegs
  have h6 := (((w.setFld safStat SAF_STAT_STATE x).selfRefresh true).setInit l).ownRoute_rd
  have h5 := ((((w.setFld safStat SAF_STAT_STATE x).selfRefresh true).setInit l).ownRoute).showPins_onlyRegs
  have hd : (((w.setFld safStat SAF_STAT_STATE x).selfRefresh true).setInit l).fld netPlace NET_PLACE_DEVICE_ID =
      w.fld netPlace NET_PLACE_DEVICE_ID := by
    rw [h3.fld (fun ⟨n, _, e⟩ => channelRegs_ne_netPlace.2.1 n e.symm), h2.fld (by simp only [netPlace, mcChStatus]; omega)]
    exact h1.fld (by decide) _
  have hlt := w.deviceId_lt
  rw [hd] at h4 h6
  refine ⟨?_, fun n => ?_, ?_⟩
  · have hn : ¬ ∃ n ∈ l, safStat = chStatus n := by
      rintro ⟨n, hn, e⟩
      have := hl n hn
      simp only [safStat, chStatus] at e
      omega
    rw [h5.fld (by decide), h4.fld (by simp only [safStat, netRoute, netUnsStat]; omega), h3.fld hn,
      h2.fld (by simp only [safStat, mcChStatus]; omega)]
    exact hx
  · rw [h5.fld (by simp only [chStatus, brdPin]; omega), h4.fld (by simp only [chStatus, netRoute, netUnsStat]; omega), hi]
    congr 1
    rw [h2.fld (by simp only [chStatus, mcChStatus]; omega)]
    exact h1.fld (by simp only [chStatus, safStat]; omega) _
  · rw [h5.1 _ (by simp only [netRoute, brdPin]; omega)]
    exact h6

theorem pwrReset_not_coreReg (d : Nat) (hd : d < 4096): ¬ CoreReg d pwrReset := by
  simp only [CoreReg, pwrReset, safStat, mcChStatus, chStatus, netRoute, netUnsStat, brdPin]
  omega

theorem State.mem_inInit (s : State) (n : Fin 8) : n.val ∈ s.inInit ↔ s.fld (chStatus n) CH_STATUS_STATE = stInit := by
  simp [State.inInit]

theorem resetWord_chStatus {r : Rst} (h : r ∈ [.hot, .soft]) (d v : Word64) : resetWord r RegKind.chStatus.fields d v = d :=
  resetWord_all (by revert h; cases r <;> decide) d v

theorem locate_chStatus (n : Fin 8) : locate (chStatus n) = some (.chStatus, n.val, 0) := by revert n; decide

theorem regReset_chStatus (n : Fin 8) : getF (regReset (chStatus n)) CH_STATUS_STATE = stIdle := by revert n; decide +kernel

theorem State.resetCore_spec (s : State) {r : Rst} (hr : r ∈ [.hot, .soft]) (h2 : s.fld pwrState PWR_STATE_STATE ≠ 2) :
    CoreReset r s (s.resetCore r) := by
  obtain ⟨u, v, w, hu, hv, ⟨hregs, hch, hbytes, hq, hlnk, hfw⟩, he⟩ := s.resetCore_eq r h2
  have hvo : OnlyRegs (fun _ => True) u v := hv ▸ u.resetRegs_onlyRegs r _
  have hwr (off : Nat) (k : RegKind) (i j : Nat) (hl : locate off = some (k, i, j)) (ho : off ∉ [timCtl, timStat, ctlHostAlert, msixPba]) :
      w.rd off = resetWord r k.fields (regReset off) (s.rd off) := by
    rw [State.rd, hregs, ← hu.rd off ho, hv]
    exact (u.resetRegs_rd r _ hl).trans (if_pos rfl)
  have hd : w.fld netPlace NET_PLACE_DEVICE_ID = s.fld netPlace NET_PLACE_DEVICE_ID := by
    rw [State.fld, hwr _ _ _ _ locate_at_netPlace (by decide), resetWord_netPlace (by revert hr; cases r <;> decide), State.fld]
  have ht := w.resetCore_tail (if s.fld safStat SAF_STAT_STATE = 2 then 2 else 0) s.inInit
    (fun n hn => List.mem_range.mp (List.mem_filter.mp hn).1)
  rw [← he, hd] at ht
  have hst (n : Fin 8) : w.fld (chStatus n) CH_STATUS_STATE = stIdle := by
    rw [State.fld, hwr _ _ _ _ (locate_chStatus n) (by revert n; decide), resetWord_chStatus hr, regReset_chStatus]
  obtain ⟨hs, hi, hro⟩ := w.resetCore_shown (if s.fld safStat SAF_STAT_STATE = 2 then 2 else 0) s.inInit
    (fun n hn => List.mem_range.mp (List.mem_filter.mp hn).1)
  rw [← he] at hs hi hro
  exact {
    mem := by
      rw [ht.mem]
      exact ⟨by rw [hbytes, hvo.mem, hu.mem], rfl, hq⟩
    fw := by rw [ht.fw]; exact hfw.trans (by rw [hvo.fw, hu.fw])
    record := by
      rw [ht.1 pwrReset (pwrReset_not_coreReg _ s.deviceId_lt)]
      exact (hwr _ .pwrReset 0 0 (by decide) (by decide)).trans (resetWord_pwrReset (by revert hr; cases r <;> decide) _ _)
    saf := hs.trans (by split <;> rfl)
    chan := fun n => by
      rw [ht.chan, State.chan, State.chan]
      simp only [hch, Vector.getElem_map, hvo.ch, hu.ch]
    init := fun n => by
      simp only [hi, State.mem_inInit, hst]
    link := fun l => by
      rw [ht.link, ← hu.source l, State.link, State.link]
      simp only [hlnk, Vector.getElem_map, hvo.lnk, LinkSt.cleared]
    route := by
      rw [← hd]
      exact hro
    regs := fun off k a b hl hb hn hroute huns => by
      rw [ht.1 off ?_]
      · exact hwr off k a b hl (by
          simp only [timCtl, timStat, ctlHostAlert, msixPba, List.mem_cons, List.not_mem_nil, or_false, not_or]
          omega)
      · rintro (e | ⟨c, hc, e⟩ | ⟨n, e⟩ | e | e | e)
        · simp only [safStat] at e; omega
        · simp only [mcChStatus] at e; omega
        · exact hn n e
        · exact hroute e
        · exact huns e
        · simp only [brdPin] at e; omega }

/-- What HOT and SOFT leave, with the record of resets (R527) and the function's state (R508). -/
def WarmReset (s : State) (r : Rst) (last : Nat) (cnt : Fld) (t : State) : Prop :=
  t.mem.bytes = s.mem.bytes ∧ t.mem.selfRefresh = true ∧ t.mem.hostq = [] ∧ t.fw = s.fw.reboot ∧
    t.fld pwrReset PWR_RESET_LAST = last ∧ t.fld pwrReset cnt = bumped s pwrReset cnt ∧ t.host.d3 = false ∧
    t.fld safStat SAF_STAT_STATE = (if s.fld safStat SAF_STAT_STATE = 2 then 2 else 0) ∧
    (∀ n : Fin 8, t.chan n = (s.chan n).keepMem ∧
      t.fld (chStatus n) CH_STATUS_STATE = (if s.fld (chStatus n) CH_STATUS_STATE = stInit then stInit else stIdle)) ∧
    (∀ l : Fin 24, t.link l = { LinkSt.reset with source := (s.link l).source }) ∧
    t.rd (netRoute (s.fld netPlace NET_PLACE_DEVICE_ID)) = 6 ∧
    ∀ off k a b, locate off = some (k, a, b) → (0x01000000 ≤ off ∧ off < 0x01800000) ∨ (0x03000000 ≤ off ∧ off < 0x05000000) →
      (∀ n : Fin 8, off ≠ chStatus n) → off ≠ netRoute (s.fld netPlace NET_PLACE_DEVICE_ID) → off ≠ netUnsStat →
      t.rd off = resetWord r k.fields (regReset off) (s.rd off)

/-- The registers that a reset writes last: the MSI-X table, and the record of resets. -/
def LastReg (off : Nat) : Prop := (∃ i < 8, off = msixTable i) ∨ off = msixPba ∨ off = pwrReset

theorem not_lastReg {off : Nat} (h : 0x01000000 ≤ off) (hp : off ≠ pwrReset) : ¬ LastReg off := by
  rintro (⟨i, hi, e⟩ | e | e)
  · simp only [msixTable] at e; omega
  · simp only [msixPba] at e; omega
  · exact hp e

theorem CoreReset.recorded {r : Rst} {s u v : State} (h : CoreReset r s u) {x : HostSt} (hx : x.d3 = false)
    (hv : OnlyRegs (fun off => (∃ i < 8, off = msixTable i) ∨ off = msixPba) { u with host := x } v) {last : Nat} (hl : last < 8) {cnt : Fld}
    (hc : PWR_RESET_LAST.lo + PWR_RESET_LAST.w ≤ cnt.lo ∧ cnt.lo + cnt.w ≤ 64) :
    WarmReset s r last cnt ((v.setFld pwrReset PWR_RESET_LAST last).bump pwrReset cnt).nextCycle := by
  have ht : OnlyRegs LastReg { u with host := x } ((v.setFld pwrReset PWR_RESET_LAST last).bump pwrReset cnt).nextCycle :=
    (((hv.mono fun _ h => h.imp_right .inl).trans ((v.setFld_onlyRegs _ _ _).mono fun _ h => .inr (.inr h))).trans
      ((State.bump_onlyRegs _ _ _).mono fun _ h => .inr (.inr h))).trans (State.nextCycle_onlyRegs _ _)
  have hr : v.rd pwrReset = s.rd pwrReset := (hv.1 pwrReset (by simp only [pwrReset, msixTable, msixPba]; omega)).trans h.record
  have hlast : ((v.setFld pwrReset PWR_RESET_LAST last).bump pwrReset cnt).nextCycle.fld pwrReset PWR_RESET_LAST = last :=
    (State.fld_setFld_field _ _ _ _ _ hc.2 (.inr hc.1)).trans ((State.fld_setFld_same _ _ _ _ (by decide)).trans (Nat.mod_eq_of_lt hl))
  have hcnt : ((v.setFld pwrReset PWR_RESET_LAST last).bump pwrReset cnt).nextCycle.fld pwrReset cnt = bumped s pwrReset cnt := by
    rw [State.nextCycle_fld, State.fld_bump_same _ _ _ hc.2, bumped, bumped, State.fld_setFld_field _ _ _ _ _ (by decide) (.inl hc.1),
      State.fld, State.fld, hr]
  generalize ((v.setFld pwrReset PWR_RESET_LAST last).bump pwrReset cnt).nextCycle = t at ht hlast hcnt ⊢
  have hreg (off : Nat) (ho : 0x01000000 ≤ off) (hp : off ≠ pwrReset) : t.rd off = u.rd off := ht.1 off (not_lastReg ho hp)
  have hfld (off : Nat) (f : Fld) (ho : 0x01000000 ≤ off) (hp : off ≠ pwrReset) : t.fld off f = u.fld off f :=
    congrArg (getF · f) (hreg off ho hp)
  obtain ⟨hb, hs, hq⟩ := h.mem
  refine ⟨?_, ?_, ?_, ht.fw.trans h.fw, hlast, hcnt, ?_, (hfld _ _ (by decide) (by decide)).trans h.saf, fun n => ⟨(ht.chan n).trans (h.chan n), ?_⟩,
    fun l => (ht.link l).trans (h.link l), ?_, fun off k a b hl' hrange hn hroute huns => ?_⟩
  · rw [ht.mem]; exact hb
  · rw [ht.mem]; exact hs
  · rw [ht.mem]; exact hq
  · rw [ht.host]; exact hx
  · exact (hfld _ _ (by simp only [chStatus]; omega) (by simp only [chStatus, pwrReset]; omega)).trans (h.init n)
  · have hd := s.deviceId_lt
    exact (hreg _ (by simp only [netRoute]; omega) (by simp only [netRoute, pwrReset]; omega)).trans h.route
  · exact (hreg off (by omega) (by simp only [pwrReset]; omega)).trans (h.regs off k a b hl' hrange hn hroute huns)

theorem hot_resets (s : State) (hh : s.heldReset = false) (h2 : s.fld pwrState PWR_STATE_STATE ≠ 2) :
    Completes .hotReset s (WarmReset s .hot 2 PWR_RESET_HOTS) := by
  refine ⟨s.hot, rfl, ?_⟩
  unfold State.hot
  rw [if_neg (by rw [hh]; decide)]
  exact (s.resetCore_spec (by decide) h2).recorded rfl (.of_eq _) (by decide) (by decide)

/-- A function-level reset after the common part: the MSI-X table and the function's state return too. -/
def State.flrTail (u : State) : State :=
  (({ u.resetMsix with host := u.host.cleared u.host.bar2 }.setFld pwrReset PWR_RESET_LAST 3).bump pwrReset PWR_RESET_SOFTS).nextCycle

theorem State.soft_eq (s : State) (hh : s.heldReset = false) : s.soft true = (s.resetCore .soft).flrTail :=
  if_neg (by rw [hh]; decide)

theorem CoreReset.flr {s u : State} (h : CoreReset .soft s u) : WarmReset s .soft 3 PWR_RESET_SOFTS u.flrTail := by
  have hm := u.resetMsix_onlyRegs
  exact h.recorded (x := u.host.cleared u.host.bar2) (v := { u.resetMsix with host := u.host.cleared u.host.bar2 }) rfl
    ⟨hm.1, by rw [hm.2]⟩ (by decide) (by decide)

theorem soft_resets (s : State) (hh : s.heldReset = false) (h2 : s.fld pwrState PWR_STATE_STATE ≠ 2) :
    Completes .flr s (WarmReset s .soft 3 PWR_RESET_SOFTS) := by
  refine ⟨s.soft true, rfl, ?_⟩
  rw [s.soft_eq hh]
  exact (s.resetCore_spec (by decide) h2).flr

/-- While POR or MOD is held, a weaker reset is absorbed (R522). -/
theorem weaker_absorbed (s : State) (hh : s.heldReset = true) :
    s.hot = s ∧ s.soft true = s ∧ Completes .modReset s fun t => t = s :=
  ⟨if_pos hh, if_pos hh, s, congrArg Host.Outcome.next (if_pos hh), rfl⟩

end Sys2Proof.Machine
end

section
open Sys2Proof Machine

/-- Settles O50: what a reset leaves of each register is known (`State.resetRegs_rd`); POR and MOD clear the rest (`Restarted`),
HOT and SOFT keep the memories (`CoreReset`, `WarmReset`); what follows touches only named registers (`OnlyRegs`). -/
theorem deviceResets : Obligations.DeviceResets := by
  intro s
  refine ⟨por_resets s, mod_resets s, fun straps => mod_releases s straps, fun i r last cnt hi => ?_, fun hh => (weaker_absorbed s hh).2.2,
    fun p hh => glitch_counts s p hh⟩
  simp only [List.mem_cons, List.not_mem_nil, or_false, Prod.mk.injEq] at hi
  rcases hi with ⟨rfl, rfl, rfl, rfl⟩ | ⟨rfl, rfl, rfl, rfl⟩
  · exact ⟨fun hh => ⟨_, rfl, (weaker_absorbed s hh).1⟩, hot_resets s⟩
  · exact ⟨fun hh => ⟨_, rfl, (weaker_absorbed s hh).2.1⟩, soft_resets s⟩
end

section
/-!
What raises a safety cause or a host alert leaves alone (R413, R506): device memory, the network's traffic, the host's completion, and every
register but those of the cause itself.
-/

namespace Sys2Proof.Machine

/-- Registers at offsets in `p` may differ, and anything but device memory, the network's traffic and the completion sent to the host. -/
structure MemNetFrame (p : Nat → Prop) (s t : State) : Prop where
  rd : ∀ off, ¬ p off → t.rd off = s.rd off
  mem : t.mem = s.mem
  net : t.net = s.net
  cpl : t.host.cpl = s.host.cpl

theorem MemNetFrame.refl {p : Nat → Prop} (s : State) : MemNetFrame p s s := ⟨fun _ _ => rfl, rfl, rfl, rfl⟩

theorem MemNetFrame.trans {p : Nat → Prop} {s t u : State} (h : MemNetFrame p s t) (h' : MemNetFrame p t u) : MemNetFrame p s u where
  rd off ho := (h'.rd off ho).trans (h.rd off ho)
  mem := h'.mem.trans h.mem
  net := h'.net.trans h.net
  cpl := h'.cpl.trans h.cpl

theorem MemNetFrame.mono {p q : Nat → Prop} {s t : State} (h : MemNetFrame p s t) (hpq : ∀ off, p off → q off) : MemNetFrame q s t :=
  ⟨fun off ho => h.rd off fun hp => ho (hpq off hp), h.mem, h.net, h.cpl⟩

theorem MemNetFrame.ite {p : Nat → Prop} {c : Prop} [Decidable c] {s t u : State} (ht : MemNetFrame p s t) (hu : MemNetFrame p s u) :
    MemNetFrame p s (if c then t else u) := by
  split
  · exact ht
  · exact hu

theorem MemNetFrame.foldl {α : Type} {p : Nat → Prop} (f : State → α → State) (l : List α) (h : ∀ s x, MemNetFrame p s (f s x)) (s : State) :
    MemNetFrame p s (l.foldl f s) := by
  induction l generalizing s with
  | nil => exact .refl s
  | cons x l ih => exact (h s x).trans (ih (f s x))

theorem MemNetFrame.of_onlyRegs {p q : Nat → Prop} {s t : State} (h : OnlyRegs q s t) (hq : ∀ off, q off → p off) : MemNetFrame p s t :=
  ⟨fun off ho => h.1 off fun h' => ho (hq off h'), h.mem, h.net, by rw [h.host]⟩

theorem MemNetFrame.fld {p : Nat → Prop} {s t : State} (h : MemNetFrame p s t) {off : Nat} (ho : ¬ p off) (f : Fld) : t.fld off f = s.fld off f := by
  rw [State.fld, h.rd off ho, State.fld]

theorem MemNetFrame.flag {p : Nat → Prop} {s t : State} (h : MemNetFrame p s t) {off : Nat} (ho : ¬ p off) (f : Fld) : t.flag off f = s.flag off f := by
  rw [State.flag, h.fld ho, State.flag]

theorem State.setFld_memNet {p : Nat → Prop} (s : State) {o : Nat} (f : Fld) (x : Nat) (h : p o) : MemNetFrame p s (s.setFld o f x) :=
  .of_onlyRegs (s.setFld_onlyRegs o f x) fun _ e => e ▸ h

theorem State.setFlag_memNet {p : Nat → Prop} (s : State) {o : Nat} (f : Fld) (h : p o) : MemNetFrame p s (s.setFlag o f) :=
  .of_onlyRegs (s.setFlag_onlyRegs o f) fun _ e => e ▸ h

theorem State.wr_memNet {p : Nat → Prop} (s : State) {o : Nat} (v : Word64) (h : p o) : MemNetFrame p s (s.wr o v) :=
  .of_onlyRegs (s.wr_onlyRegs o v) fun _ e => e ▸ h

theorem MemNetFrame.modSaf {p : Nat → Prop} (s : State) (x : SafSt) : MemNetFrame p s { s with saf := x } := ⟨fun _ _ => rfl, rfl, rfl, rfl⟩

/-! ### Host alerts (R505, R506) -/

theorem State.sendVector_memNet (s : State) (v : Nat) : MemNetFrame (fun off => off = msixPba) s (s.sendVector v) := by
  unfold State.sendVector
  extract_lets u
  have hu : MemNetFrame (fun off => off = msixPba) s u := ⟨fun _ _ => rfl, rfl, rfl, rfl⟩
  refine .ite (.ite (hu.trans (u.setFld_memNet _ _ rfl)) (hu.trans ?_)) hu
  exact ⟨fun _ _ => rfl, rfl, rfl, rfl⟩

/-- An alert raises its bits; besides them only a pending vector shows. -/
theorem State.alert_after (s : State) (bits : List Nat) :
    MemNetFrame (fun off => off = msixPba) (bits.foldl (fun s b => s.setFlag ctlHostAlert (bitF b)) s) (s.alert bits) := by
  unfold State.alert
  extract_lets rising again t u
  have hu : MemNetFrame (fun off => off = msixPba) t u := by
    refine .foldl _ again (fun s _ => ?_) t
    exact ⟨fun _ _ => rfl, rfl, rfl, rfl⟩
  exact hu.trans (.foldl _ _ State.sendVector_memNet u)

theorem State.alert_memNet (s : State) (bits : List Nat) : MemNetFrame (fun off => off = ctlHostAlert ∨ off = msixPba) s (s.alert bits) :=
  (MemNetFrame.foldl _ bits (fun s _ => s.setFlag_memNet _ (.inl rfl)) s).trans ((s.alert_after bits).mono fun _ => .inr)

theorem State.flag_setFlag_same (s : State) (o b : Nat) (hb : b < 64) : (s.setFlag o (bitF b)).flag o (bitF b) = true := by
  have h : (s.setFlag o (bitF b)).fld o (bitF b) = 1 := State.fld_setFld_same _ _ _ _ hb
  rw [State.flag, h]
  rfl

theorem State.alert_flag (s : State) {b : Nat} (hb : b < 64) : (s.alert [b]).flag ctlHostAlert (bitF b) = true :=
  ((s.alert_after [b]).flag (by decide) _).trans (s.flag_setFlag_same _ b hb)

/-! ### A channel stops at a cue (R124) -/

/-- The registers of the channel blocks. -/
def ChanReg (off : Nat) : Prop := 0x01000000 ≤ off ∧ off < 0x02000000

theorem chStatus_chanReg (n : Fin 8) : ChanReg (chStatus n) := by simp only [ChanReg, chStatus]; omega

theorem chCtl_chanReg (n : Fin 8) : ChanReg (chCtl n) := by simp only [ChanReg, chCtl]; omega

theorem chNqStatus_chanReg (n : Fin 8) {q : Nat} (hq : q < 16) : ChanReg (chNqStatus n q) := by simp only [ChanReg, chNqStatus]; omega

theorem chQCount_chanReg (n : Fin 8) (f : QueF) : ChanReg (chQCount n f.q.toNat) := by
  have := f.q.isLt
  simp only [ChanReg, chQCount]
  omega

theorem State.setChan_memNet (p : Nat → Prop) (s : State) (n : Fin 8) (c : Chan) : MemNetFrame p s (s.setChan n c) := ⟨fun _ _ => rfl, rfl, rfl, rfl⟩

theorem State.endRun_memNet (s : State) (n : Fin 8) : MemNetFrame ChanReg s (s.endRun n) := by
  unfold State.endRun
  extract_lets t
  have ht : MemNetFrame ChanReg s t := by
    simp only [t]
    split
    · exact .foldl _ _ (fun s f => s.setFld_memNet _ _ (chQCount_chanReg n f)) s
    · exact .refl s
  exact ht.trans (t.setChan_memNet _ n _)

theorem State.stopRegs_memNet (s : State) (n : Fin 8) (st : Nat) : MemNetFrame ChanReg s (s.stopRegs n st) :=
  ((((s.setFld_memNet _ _ (chStatus_chanReg n)).trans (State.setFld_memNet _ _ _ (chCtl_chanReg n))).trans
    (State.setFld_memNet _ _ _ (chCtl_chanReg n))).trans (State.setFld_memNet _ _ _ (chStatus_chanReg n))).trans
    (State.setFld_memNet _ _ _ (chStatus_chanReg n))

theorem State.showQueues_memNet (s : State) (n : Fin 8) : MemNetFrame ChanReg s (s.showQueues n) := by
  refine .foldl _ _ (fun s q => ?_) s
  have h (k : Nat) (hk : k < 16) (f : Fld) (x : Nat) (s : State) : MemNetFrame ChanReg s (s.setFld (chNqStatus n k) f x) :=
    s.setFld_memNet _ _ (chNqStatus_chanReg n hk)
  exact (((h q (by omega) _ _ s).trans (h q (by omega) _ _ _)).trans (h (8 + q) (by omega) _ _ _)).trans (h (8 + q) (by omega) _ _ _)

theorem State.stopCue_memNet (s : State) (n : Fin 8) (cue : Nat) : MemNetFrame ChanReg s (s.stopCue n cue) :=
  (((s.endRun_memNet n).trans (State.setChan_memNet _ _ n _)).trans (State.stopRegs_memNet _ n _)).trans (State.showQueues_memNet _ n)

theorem State.setStopAtCue_memNet (s : State) (n : Fin 8) : MemNetFrame ChanReg s (s.setStopAtCue n) := by
  have h (x : Nat) : MemNetFrame ChanReg s (s.setFld (chCtl n) CH_CTL_STOP_AT_CUE x) := s.setFld_memNet _ _ (chCtl_chanReg n)
  unfold State.setStopAtCue
  refine .ite ?_ (h 0)
  dsimp only
  split
  · split
    · exact (h 1).trans (State.stopCue_memNet _ n _)
    · exact h 1
  · exact h 1

/-! ### A cause (R413, R417, R432) -/

/-- The registers that a raised cause writes, SAF_FAULT apart. -/
def CauseReg (off : Nat) : Prop := ChanReg off ∨ off ∈ [safStat, safFirst, safFirstTick, safNotice, safInt, ctlHostAlert, msixPba]

theorem causeReg_of_alert (off : Nat) (h : off = ctlHostAlert ∨ off = msixPba) : CauseReg off := .inr (by rcases h with rfl | rfl <;> simp)

theorem State.enterCurtain_memNet (s : State) (nt : Notice) : MemNetFrame CauseReg s (s.enterCurtain nt) := by
  unfold State.enterCurtain
  extract_lets t _ u
  have ht : MemNetFrame CauseReg s t := s.setFld_memNet _ _ (.inr (by simp))
  have hu : MemNetFrame CauseReg t u := ⟨fun _ _ => rfl, rfl, rfl, rfl⟩
  exact (ht.trans hu).trans (.foldl _ _ (fun s n => .ite ((s.setStopAtCue_memNet n).mono fun _ => .inl) (.refl s)) u)

theorem State.intFault_memNet (s : State) (code : Nat) : MemNetFrame CauseReg s (s.intFault code) := by
  have h : CauseReg safInt := .inr (by simp)
  exact .ite (.refl s) (((s.setFlag_memNet _ h).trans (State.setFld_memNet _ _ _ h)).trans (State.setFld_memNet _ _ _ h))

theorem State.fillFirst_memNet (s : State) (code unit detail org : Nat) : MemNetFrame CauseReg s (s.fillFirst code unit detail org) := by
  have h : CauseReg safFirst := .inr (by simp)
  exact (((((s.setFld_memNet _ _ h).trans (State.setFld_memNet _ _ _ h)).trans (State.setFld_memNet _ _ _ h)).trans
    (State.setFld_memNet _ _ _ h)).trans (State.setFlag_memNet _ _ h)).trans (State.wr_memNet _ _ (.inr (by simp)))

/-- The registers that a raised cause writes. -/
def CauseOrFault (off : Nat) : Prop := CauseReg off ∨ off = safFault

theorem causeOrFault_safStat : CauseOrFault safStat := .inl (.inr (by simp))

theorem causeOrFault_safNotice : CauseOrFault safNotice := .inl (.inr (by simp))

theorem State.dropNotice_memNet (s : State) : MemNetFrame CauseOrFault s s.dropNotice := by
  unfold State.dropNotice
  split
  · extract_lets t u _
    have ht : MemNetFrame CauseOrFault s t := s.setFld_memNet _ _ causeOrFault_safStat
    have hu : MemNetFrame CauseOrFault s u := .ite (ht.trans (t.setFld_memNet _ _ (.inr rfl))) ht
    clear_value u
    have hw := u.wr_memNet 0 causeOrFault_safNotice
    exact .ite ((hu.trans hw).trans (.modSaf _ _)) hu
  · exact .refl s

/-- Raising a cause: a notice of the same cycle yields, the cause's bit is set, and the rest leaves SAF_FAULT alone. -/
theorem State.raiseCause_eq (s : State) (code unit detail : Nat) (origin : Option Notice) : ∃ u,
    MemNetFrame CauseOrFault s u ∧
      MemNetFrame CauseReg (u.setFlag safFault (bitF (causeBit code unit))) (s.raiseCause code unit detail origin) := by
  unfold State.raiseCause
  extract_lets was same own fill u v w _ x y _ z
  have hu : MemNetFrame CauseOrFault s u := .ite s.dropNotice_memNet (.refl s)
  clear_value u
  have hw : MemNetFrame CauseReg v w := v.fillFirst_memNet _ _ _ _
  have hx : MemNetFrame CauseReg v x := .ite (hw.trans (.modSaf _ _)) (.refl v)
  clear_value x
  have hy : MemNetFrame CauseReg x y := ((x.alert_memNet [0]).mono causeReg_of_alert).trans (State.intFault_memNet _ code)
  clear_value y
  have hz : MemNetFrame CauseReg y z := .ite (.modSaf _ _) (.refl y)
  clear_value z
  have hvz := (hx.trans hy).trans hz
  exact ⟨u, hu, .ite (hvz.trans (z.enterCurtain_memNet _)) hvz⟩

theorem State.raiseCause_memNet (s : State) (code unit detail : Nat) (origin : Option Notice) :
    MemNetFrame CauseOrFault s (s.raiseCause code unit detail origin) := by
  obtain ⟨u, hu, h⟩ := s.raiseCause_eq code unit detail origin
  exact (hu.trans (u.setFlag_memNet _ (.inr rfl))).trans (h.mono fun _ => .inl)

theorem State.raiseCause_flag (s : State) {code unit : Nat} (detail : Nat) (origin : Option Notice) (h : causeBit code unit < 64) :
    (s.raiseCause code unit detail origin).flag safFault (bitF (causeBit code unit)) = true := by
  obtain ⟨u, -, hu⟩ := s.raiseCause_eq code unit detail origin
  refine (hu.flag ?_ _).trans (u.flag_setFlag_same _ _ h)
  simp [CauseReg, ChanReg, safStat, safFirst, safFirstTick, safNotice, safInt, ctlHostAlert, msixPba, safFault]

end Sys2Proof.Machine
end

section
/-!
Accesses that the arbiters grant at once (R192, R193): what they leave of a state.
-/

namespace Sys2Proof.Machine

/-- Only the arbiters and the registers that count and show their grants differ. -/
def OnlyArbs (s t : State) : Prop := (∀ off, ¬ ArbRegs off → t.rd off = s.rd off) ∧ t = { s with regs := t.regs, arbs := t.arbs }

theorem OnlyArbs.refl (s : State) : OnlyArbs s s := ⟨fun _ _ => rfl, rfl⟩

theorem OnlyArbs.trans {s t u : State} (h : OnlyArbs s t) (h' : OnlyArbs t u) : OnlyArbs s u := by
  refine ⟨fun off ho => (h'.1 off ho).trans (h.1 off ho), ?_⟩
  have e := h'.2
  rw [h.2] at e
  exact e

section
variable {s t : State}

theorem OnlyArbs.mem (h : OnlyArbs s t) : t.mem = s.mem := by rw [h.2]

theorem OnlyArbs.net (h : OnlyArbs s t) : t.net = s.net := by rw [h.2]

theorem OnlyArbs.host (h : OnlyArbs s t) : t.host = s.host := by rw [h.2]

end

theorem ArbRegs.lower {off : Nat} (h : ArbRegs off) : 0x02010000 ≤ off := by
  obtain ⟨a, k, h⟩ := h
  cases a <;> simp only [arbStatOf, arbCntOf, arbLongestOf, arbStatM, arbStatB, arbCntM, arbCntB, arbLongestM, arbLongestB] at h <;> omega

theorem State.setFld_onlyArbs (s : State) {o : Nat} (f : Fld) (x : Nat) (h : ArbRegs o) : OnlyArbs s (s.setFld o f x) :=
  ⟨fun _ ho => State.rd_setFld_other _ _ _ _ _ fun e => ho (e ▸ h), rfl⟩

theorem arbRegs_stat (a : ArbId) : ArbRegs (arbStatOf a) := ⟨a, 0, .inl rfl⟩

theorem State.setArb_onlyArbs (s : State) (a : ArbId) (x : Arb) : OnlyArbs s (s.setArb a x) := by
  have h (s : State) (f : Fld) (y : Nat) := s.setFld_onlyArbs f y (arbRegs_stat a)
  unfold State.setArb
  extract_lets u mask
  have hu : OnlyArbs s u := ⟨fun _ _ => rfl, rfl⟩
  exact hu.trans ((((h u _ _).trans (h _ _ _)).trans (h _ _ _)).trans (h _ _ _))

/-- An arbiter after one of them is set. -/
theorem State.setArb_arb (s : State) (a b : ArbId) (x : Arb) : (s.setArb a x).arb b = if arbKey b = arbKey a then x else s.arb b := by
  unfold State.arb
  split
  · next h => rw [h]; exact kget_kset_same _ _ _ _
  · next h => exact kget_kset_other _ _ _ _ _ h

theorem State.setArb_arb_same (s : State) (a : ArbId) (x : Arb) : (s.setArb a x).arb a = x := by rw [State.setArb_arb, if_pos rfl]

/-- A requester as it stands in an arbiter, where nobody holds or asks and it is not masked. -/
structure Arb.FreeFor (x : Arb) (k : Fin 10) : Prop where
  holder : x.holder = none
  masked : x.reqs[k].masked = false
  asking : ∀ j : Fin 10, x.reqs[j].asking = false

theorem Arb.FreeFor.of_set {x y : Arb} {k j : Fin 10} (hx : x.FreeFor j) (hh : y.holder = none)
    (hr : y.reqs = x.reqs.set k ⟨false, 0, none, false⟩) : y.FreeFor j := by
  have hget (i : Fin 10) : y.reqs[i] = if k.val = i.val then ⟨false, 0, none, false⟩ else x.reqs[i] := by
    simp only [hr, Fin.getElem_fin, Vector.getElem_set]
  refine ⟨hh, ?_, fun i => ?_⟩
  · rw [hget]
    split
    · rfl
    · exact hx.masked
  · rw [hget]
    split
    · rfl
    · exact hx.asking i

/-- A requester raises its request at an arbiter that is free for it. -/
def Arb.raised (x : Arb) (k : Fin 10) : Arb := { x with reqs := x.reqs.set k { x.reqs[k] with asking := true, wait := some 0 } }

theorem State.arbRaise_free {s : State} {a : ArbId} {k : Fin 10} (hk : k.val < arbSize a) (h : (s.arb a).FreeFor k) :
    s.arbRaise a k = s.setArb a ((s.arb a).raised k) := by
  unfold State.arbRaise
  refine if_neg ?_
  rintro (hs | hm | ha | hh)
  · omega
  · exact Bool.false_ne_true (h.masked.symm.trans hm)
  · exact Bool.false_ne_true ((h.asking k).symm.trans ha)
  · exact absurd (h.holder.symm.trans hh) (by simp)

theorem Arb.raised_get (x : Arb) (k j : Fin 10) :
    (x.raised k).reqs[j] = if k = j then { x.reqs[k] with asking := true, wait := some 0 } else x.reqs[j] := by
  simp only [Arb.raised, Fin.getElem_fin, Vector.getElem_set, Fin.ext_iff]

theorem Arb.raised_set (x : Arb) (k : Fin 10) (y : ArbReq) : (x.raised k).reqs.set k y = x.reqs.set k y := Vector.set_set _ _

/-- The one that asks is the only one ready. -/
theorem Arb.FreeFor.ready {x : Arb} {k : Fin 10} (h : x.FreeFor k) : (x.raised k).ready = [k] := by
  have e (j : Fin 10) : ((x.raised k).reqs[j].asking && !(x.raised k).reqs[j].masked) = decide (j = k) := by
    rw [Arb.raised_get]
    split
    · next hj =>
      rw [h.masked, hj]
      exact (decide_eq_true rfl).symm
    · next hj =>
      rw [h.asking j, Bool.false_and]
      exact (decide_eq_false (Ne.symm hj)).symm
  unfold Arb.ready
  simp only [e]
  clear h e
  revert k
  decide

theorem State.arbPick_one (s : State) (a : ArbId) {x : Arb} {k : Fin 10} (h : x.ready = [k]) :
    s.arbPick a x = some (k, decide (s.arbN a ≤ x.since + 1)) := by
  simp only [State.arbPick, h, bestOf, Option.map_some]

/-- The one requester of a round wins: no other gains a level. -/
theorem State.arbGrant_one {s : State} {a : ArbId} {k : Fin 10} (reserved : Bool)
    (h : ∀ j : Fin 10, j ≠ k → (s.arb a).reqs[j].asking = false) : ∃ t n, OnlyArbs s t ∧ t.arbs = s.arbs ∧
      s.arbGrant a k reserved = t.setArb a ⟨some k.val, (s.arb a).reqs.set k ⟨false, 0, none, false⟩, n⟩ := by
  have hcnt : ArbRegs (arbCntOf a k) := ⟨a, k, .inr (.inl rfl)⟩
  have hlong : ArbRegs (arbLongestOf a k) := ⟨a, k, .inr (.inr rfl)⟩
  unfold State.arbGrant
  extract_lets x r t u v reqs
  have ht : OnlyArbs s t ∧ t.arbs = s.arbs := ⟨s.setFld_onlyArbs _ _ hcnt, rfl⟩
  have hu : OnlyArbs s u ∧ u.arbs = s.arbs := by
    simp only [u]
    split
    · exact ⟨ht.1.trans (t.setFld_onlyArbs _ _ hcnt), rfl⟩
    · exact ht
  have hreqs : reqs = x.reqs := by
    refine List.foldl_fixed' (fun j => if_neg ?_) _
    rintro ⟨hj, ha, -⟩
    rw [show x.reqs[j].asking = false from h j hj] at ha
    cases ha
  rw [hreqs]
  exact ⟨v, _, hu.1.trans (u.setFld_onlyArbs _ _ hlong), hu.2, rfl⟩

theorem State.grants.freeFor {s : State} {x : Fin 10 × ArbId} (h : s.grants x) : (s.arb x.2).FreeFor x.1 := ⟨h.2.1, h.2.2.1, h.2.2.2.1⟩

theorem OnlyArbs.memUsable {s t : State} (h : OnlyArbs s t) : t.memUsable = s.memUsable := by
  have hr : ¬ ArbRegs mcStatus := fun hr => absurd hr.lower (by decide)
  rw [State.memUsable, State.flag, State.fld, h.1 _ hr, h.mem]
  rfl

theorem State.grants.of_freeFor {s t : State} {x : Fin 10 × ArbId} (h : s.grants x) (hu : t.memUsable = s.memUsable)
    (hf : (t.arb x.2).FreeFor x.1) : t.grants x :=
  ⟨h.1, hf.holder, hf.masked, hf.asking, fun c hc => hu.trans (h.2.2.2.2 c hc)⟩

/-- Raising a request where nobody asks, its grant and its drop: the arbiter is free again, with the requester as at its start. -/
theorem State.arbServed {s : State} {a : ArbId} {k : Fin 10} (hk : k.val < arbSize a) (h : (s.arb a).FreeFor k) (reserved : Bool) : ∃ x : Arb,
    OnlyArbs s (((s.arbRaise a k).arbGrant a k reserved).arbDrop a) ∧ x.holder = none ∧ x.reqs = (s.arb a).reqs.set k ⟨false, 0, none, false⟩ ∧
      ∀ b, (((s.arbRaise a k).arbGrant a k reserved).arbDrop a).arb b = if arbKey b = arbKey a then x else s.arb b := by
  rw [State.arbRaise_free hk h]
  have hva : (s.setArb a ((s.arb a).raised k)).arb a = (s.arb a).raised k := s.setArb_arb_same _ _
  obtain ⟨u, n, huo, hua, hg⟩ := State.arbGrant_one (s := s.setArb a ((s.arb a).raised k)) (a := a) (k := k) reserved fun j hj => by
    rw [hva, Arb.raised_get, if_neg (Ne.symm hj)]
    exact h.asking j
  rw [hg, hva, Arb.raised_set]
  refine ⟨⟨none, (s.arb a).reqs.set k ⟨false, 0, none, false⟩, n⟩,
    (((s.setArb_onlyArbs a _).trans huo).trans (u.setArb_onlyArbs a _)).trans (State.setArb_onlyArbs _ a _), rfl, rfl, fun b => ?_⟩
  rw [State.arbDrop, State.setArb_arb, State.setArb_arb_same]
  split
  · rfl
  · next hb => rw [State.setArb_arb, if_neg hb, State.arb, hua, ← State.arb, State.setArb_arb, if_neg hb]

/-- An access that is granted at once: the arbiter is free again after it, for everyone it was free for. -/
theorem State.arbAccess_granted {s : State} {k : Fin 10} {a : ArbId} (h : s.grants (k, a)) : ∃ t, s.arbAccess k a = (t, true) ∧ OnlyArbs s t ∧
    ∀ y, s.grants y → t.grants y := by
  have hf := h.freeFor
  have hraise := State.arbRaise_free h.1 hf
  have hva : (s.arbRaise a k).arb a = (s.arb a).raised k := by rw [hraise, State.setArb_arb_same]
  have hpick := State.arbPick_one (s.arbRaise a k) a hf.ready
  generalize decide ((s.arbRaise a k).arbN a ≤ ((s.arb a).raised k).since + 1) = reserved at hpick
  obtain ⟨x, ho, hx, hr, hb⟩ := State.arbServed h.1 hf reserved
  refine ⟨_, ?_, ho, fun y hy => hy.of_freeFor ho.memUsable ?_⟩
  · obtain ⟨-, hh, hm, -, hu⟩ := h
    unfold State.arbAccess
    simp only [hm, hh, hva, hpick, Bool.false_eq_true, if_false, reduceCtorEq, if_true]
    refine if_neg ?_
    cases a with
    | mem c => rw [hu c rfl]; exact Bool.false_ne_true
    | bank n b => exact Bool.false_ne_true
  · rw [hb]
    split
    · next e =>
      have he : s.arb a = s.arb y.2 := by rw [State.arb, State.arb, e]
      exact hy.freeFor.of_set hx (hr.trans (by rw [he]))
    · exact hy.freeFor

/-- Accesses that are granted at once, one after another. -/
theorem State.arbAccesses_granted {s : State} {l : List (Fin 10 × ArbId)} (h : Granted s l) : ∃ t, s.arbAccesses l = (t, true) ∧ OnlyArbs s t := by
  obtain ⟨t, ht, ho⟩ : ∃ t, l.foldl (fun (acc : State × Bool) x => let r := acc.1.arbAccess x.1 x.2; (r.1, acc.2 && r.2)) (s, true) = (t, true) ∧
      OnlyArbs s t := by
    induction l generalizing s with
    | nil => exact ⟨s, rfl, .refl s⟩
    | cons x l ih =>
      obtain ⟨u, hu, hsu, hgr⟩ := State.arbAccess_granted (h x List.mem_cons_self)
      obtain ⟨t, ht, hut⟩ := ih (s := u) fun y hy => hgr y (h y (List.mem_cons_of_mem x hy))
      exact ⟨t, by rw [List.foldl_cons, hu]; exact ht, hsu.trans hut⟩
  refine ⟨t, ?_, ho⟩
  unfold State.arbAccesses
  extract_lets r
  have hr : r = (t, true) := ht
  rw [hr]
  rfl

end Sys2Proof.Machine
end

section
/-!
Reads and writes of device memory (R178, R182, R189, R190): what they give depends on the contents of memory alone, and what they leave alone.
-/

namespace Sys2Proof.Machine

/-- The contents of device memory: bytes, poison, and where the pages lie. -/
structure SameContents (m m' : MemSt) : Prop where
  bytes : m'.bytes = m.bytes
  poison : m'.poison = m.poison
  remap : m'.remap = m.remap

theorem SameContents.refl (m : MemSt) : SameContents m m := ⟨rfl, rfl, rfl⟩

theorem SameContents.of_eq {m m' : MemSt} (h : m' = m) : SameContents m m' := h ▸ .refl m

theorem SameContents.symm {m m' : MemSt} (h : SameContents m m') : SameContents m' m := ⟨h.bytes.symm, h.poison.symm, h.remap.symm⟩

theorem SameContents.trans {m m' m'' : MemSt} (h : SameContents m m') (h' : SameContents m' m'') : SameContents m m'' :=
  ⟨h'.bytes.trans h.bytes, h'.poison.trans h.poison, h'.remap.trans h.remap⟩

theorem SameContents.memMap {s t : State} (h : SameContents s.mem t.mem) (a : Nat) : t.memMap a = s.memMap a := by
  simp only [State.memMap, h.remap]

theorem SameContents.setPoison {m m' : MemSt} (h : SameContents m m') (c sec : Nat) (p : Bool) :
    SameContents (m.setPoison c sec p) (m'.setPoison c sec p) :=
  ⟨h.bytes, by simp only [MemSt.setPoison, h.poison], h.remap⟩

theorem SameContents.store {m m' : MemSt} (h : SameContents m m') (c sec i : Nat) (b : List Byte) :
    SameContents (m.store c sec i b) (m'.store c sec i b) := by
  have hs : SameContents { m with bytes := ksets memDefault m.bytes (memKey c sec i) b }
      { m' with bytes := ksets memDefault m'.bytes (memKey c sec i) b } := ⟨by rw [h.bytes], h.poison, h.remap⟩
  unfold MemSt.store
  split
  · exact hs.setPoison _ _ _
  · exact hs

/-- What accesses to device memory leave alone: the network's traffic, the host's state, and the host requests that wait. -/
structure MemOnly (s t : State) : Prop where
  net : t.net = s.net
  host : t.host = s.host
  hostq : t.mem.hostq = s.mem.hostq

theorem MemOnly.refl (s : State) : MemOnly s s := ⟨rfl, rfl, rfl⟩

theorem MemOnly.trans {s t u : State} (h : MemOnly s t) (h' : MemOnly t u) : MemOnly s u :=
  ⟨h'.net.trans h.net, h'.host.trans h.host, h'.hostq.trans h.hostq⟩

theorem MemOnly.foldl {α : Type} (f : State → α → State) (l : List α) (h : ∀ s x, MemOnly s (f s x)) (s : State) : MemOnly s (l.foldl f s) := by
  induction l generalizing s with
  | nil => exact .refl s
  | cons x l ih => exact (h s x).trans (ih (f s x))

/-- A sector read leaves the contents of memory and what `MemOnly` names. -/
theorem State.readSector_leaves (s : State) (c sec : Nat) (e : SymErr) :
    SameContents s.mem (s.readSector c sec e).1.mem ∧ MemOnly s (s.readSector c sec e).1 := by
  unfold State.readSector
  dsimp only
  split <;> exact ⟨⟨rfl, rfl, rfl⟩, rfl, rfl, rfl⟩

/-- A sector read gives what the contents of memory give. -/
theorem State.readSector_congr {s t : State} (h : SameContents s.mem t.mem) (c sec : Nat) (e : SymErr) :
    (t.readSector c sec e).2 = (s.readSector c sec e).2 := by
  have hp : t.mem.poisoned c sec = s.mem.poisoned c sec := by rw [MemSt.poisoned, h.poison, MemSt.poisoned]
  have hs : t.mem.sector c sec = s.mem.sector c sec := by rw [MemSt.sector, h.bytes, MemSt.sector]
  unfold State.readSector
  rw [hp, hs]
  dsimp only
  split <;> rfl

/-! ### Reads -/

/-- One sector of a read, after those before it. -/
def readOne (errs : List (Nat × SymErr)) (acc : State × List Byte × List Nat) (x : Nat × Nat) : State × List Byte × List Nat :=
  let (s, b, bad) := acc
  let (c, sec) := s.memMap x.1
  match s.readSector c sec (errOf errs x.2) with
  | (s, some d) => (s, b ++ d, bad)
  | (s, none) => (s, b ++ List.replicate 32 0, bad ++ [c])

/-- The sectors of a read, one after another. -/
def State.readAll (s : State) (a len : Nat) (errs : List (Nat × SymErr)) : State × List Byte × List Nat :=
  (sectorsOf a len).zipIdx.foldl (readOne errs) (s, [], [])

theorem State.memRead_eq (s : State) (a len : Nat) (errs : List (Nat × SymErr)) :
    s.memRead a len errs = ((s.readAll a len errs).1, ((s.readAll a len errs).2.1.drop (a % 32)).take len, (s.readAll a len errs).2.2) := rfl

theorem readOne_leaves (errs : List (Nat × SymErr)) (acc : State × List Byte × List Nat) (x : Nat × Nat) :
    SameContents acc.1.mem (readOne errs acc x).1.mem ∧ MemOnly acc.1 (readOne errs acc x).1 := by
  obtain ⟨s, b, bad⟩ := acc
  have h := s.readSector_leaves (s.memMap x.1).1 (s.memMap x.1).2 (errOf errs x.2)
  simp only [readOne]
  split <;> next e => rw [e] at h; exact h

theorem readOne_congr (errs : List (Nat × SymErr)) {acc acc' : State × List Byte × List Nat} (h : SameContents acc.1.mem acc'.1.mem)
    (h2 : acc'.2 = acc.2) (x : Nat × Nat) : (readOne errs acc' x).2 = (readOne errs acc x).2 := by
  obtain ⟨s, b, bad⟩ := acc
  obtain ⟨t, b', bad'⟩ := acc'
  cases h2
  have hr := State.readSector_congr h (s.memMap x.1).1 (s.memMap x.1).2 (errOf errs x.2)
  simp only [readOne, h.memMap x.1]
  generalize t.readSector (s.memMap x.1).1 (s.memMap x.1).2 (errOf errs x.2) = y at hr ⊢
  generalize s.readSector (s.memMap x.1).1 (s.memMap x.1).2 (errOf errs x.2) = z at hr ⊢
  obtain ⟨u, o⟩ := y
  obtain ⟨v, o'⟩ := z
  cases hr
  cases o <;> rfl

theorem State.memRead_leaves (s : State) (a len : Nat) (errs : List (Nat × SymErr)) :
    SameContents s.mem (s.memRead a len errs).1.mem ∧ MemOnly s (s.memRead a len errs).1 := by
  rw [State.memRead_eq, State.readAll]
  generalize (sectorsOf a len).zipIdx = l
  suffices h : ∀ acc : State × List Byte × List Nat, SameContents acc.1.mem (l.foldl (readOne errs) acc).1.mem ∧
      MemOnly acc.1 (l.foldl (readOne errs) acc).1 from h (s, [], [])
  induction l with
  | nil => exact fun acc => ⟨.refl _, .refl _⟩
  | cons x l ih =>
    intro acc
    obtain ⟨hc, hm⟩ := readOne_leaves errs acc x
    obtain ⟨hc', hm'⟩ := ih (readOne errs acc x)
    exact ⟨hc.trans hc', hm.trans hm'⟩

/-- What a read gives, and which of its sectors cannot be read, follows from the contents of memory. -/
theorem State.memRead_congr {s t : State} (h : SameContents s.mem t.mem) (a len : Nat) (errs : List (Nat × SymErr)) :
    (t.memRead a len errs).2 = (s.memRead a len errs).2 := by
  suffices hr : (t.readAll a len errs).2 = (s.readAll a len errs).2 by simp only [State.memRead_eq, hr]
  unfold State.readAll
  generalize (sectorsOf a len).zipIdx = l
  suffices hl : ∀ acc acc' : State × List Byte × List Nat, SameContents acc.1.mem acc'.1.mem → acc'.2 = acc.2 →
      (l.foldl (readOne errs) acc').2 = (l.foldl (readOne errs) acc).2 from hl _ _ h rfl
  induction l with
  | nil => exact fun _ _ _ h2 => h2
  | cons x l ih =>
    intro acc acc' hc h2
    exact ih _ _ (((readOne_leaves errs acc x).1.symm.trans hc).trans (readOne_leaves errs acc' x).1) (readOne_congr errs hc h2 x)

/-! ### Writes -/

theorem State.markDirty_leaves (s : State) (a len : Nat) : SameContents s.mem (s.markDirty a len).mem ∧ MemOnly s (s.markDirty a len) := by
  unfold State.markDirty
  split
  · exact ⟨.refl _, .refl s⟩
  · exact ⟨⟨rfl, rfl, rfl⟩, rfl, rfl, rfl⟩

theorem MemSt.store_hostq (m : MemSt) (c sec i : Nat) (b : List Byte) : (m.store c sec i b).hostq = m.hostq := by
  unfold MemSt.store
  split <;> rfl

theorem State.mergeSector_memOnly (s : State) (c sec i : Nat) (b : List Byte) (e : SymErr) : MemOnly s (s.mergeSector c sec i b e) := by
  have h := (s.readSector_leaves c sec e).2
  unfold State.mergeSector
  split <;> next e => rw [e] at h; exact ⟨h.net, h.host, (MemSt.store_hostq _ _ _ _ _).trans h.hostq⟩

theorem State.mergeSector_congr {s t : State} (h : SameContents s.mem t.mem) (c sec i : Nat) (b : List Byte) (e : SymErr) :
    SameContents (s.mergeSector c sec i b e).mem (t.mergeSector c sec i b e).mem := by
  have hr := State.readSector_congr h c sec e
  have hc := ((s.readSector_leaves c sec e).1.symm.trans h).trans (t.readSector_leaves c sec e).1
  unfold State.mergeSector
  generalize t.readSector c sec e = y at hr hc ⊢
  generalize s.readSector c sec e = z at hr hc ⊢
  obtain ⟨u, o⟩ := y
  obtain ⟨v, o'⟩ := z
  cases hr
  cases o with
  | some d => exact hc.store _ _ _ _
  | none => exact (hc.store _ _ _ _).setPoison _ _ _

/-- One sector of a write. -/
def State.writeOne (a : Nat) (b : List Byte) (errs : List (Nat × SymErr)) (s : State) (x : Nat × Nat) : State :=
  let lo := max a x.1
  let hi := min (a + b.length) (x.1 + 32)
  let (c, sec) := s.memMap x.1
  let d := (b.drop (lo - a)).take (hi - lo)
  if d.length = 32 then { s with mem := s.mem.store c sec 0 d } else s.mergeSector c sec (lo - x.1) d (errOf errs x.2)

theorem State.memStore_eq (s : State) (a : Nat) (b : List Byte) (errs : List (Nat × SymErr)) :
    s.memStore a b errs = (sectorsOf a b.length).zipIdx.foldl (State.writeOne a b errs) s := rfl

theorem State.memWrite_memOnly (s : State) (a : Nat) (b : List Byte) (errs : List (Nat × SymErr)) : MemOnly s (s.memWrite a b errs) := by
  refine MemOnly.trans ?_ ((s.memStore a b errs).markDirty_leaves a b.length).2
  rw [State.memStore_eq]
  refine .foldl _ _ (fun s x => ?_) s
  unfold State.writeOne
  dsimp only
  split
  · exact ⟨rfl, rfl, MemSt.store_hostq _ _ _ _ _⟩
  · exact s.mergeSector_memOnly _ _ _ _ _

/-- What a write leaves in memory follows from its contents. -/
theorem State.memWrite_congr {s t : State} (h : SameContents s.mem t.mem) (a : Nat) (b : List Byte) (errs : List (Nat × SymErr)) :
    SameContents (s.memWrite a b errs).mem (t.memWrite a b errs).mem := by
  refine (State.markDirty_leaves _ a b.length).1.symm.trans (SameContents.trans ?_ (State.markDirty_leaves _ a b.length).1)
  rw [State.memStore_eq, State.memStore_eq]
  generalize (sectorsOf a b.length).zipIdx = l
  induction l generalizing s t with
  | nil => exact h
  | cons x l ih =>
    refine ih ?_
    simp only [State.writeOne, h.memMap x.1]
    split
    · exact h.store _ _ _ _
    · exact State.mergeSector_congr h _ _ _ _ _

/-! ### Poison (R503) -/

/-- One sector becomes poison. -/
def State.poisonOne (s : State) (x : Nat) : State := { s with mem := s.mem.setPoison (s.memMap x).1 (s.memMap x).2 true }

theorem State.memPoison_eq (s : State) (a len : Nat) : s.memPoison a len = ((sectorsOf a len).foldl State.poisonOne s).markDirty a len := rfl

theorem MemSt.poisoned_setPoison (m : MemSt) (c sec c' sec' : Nat) (h : m.poisoned c' sec' = true) : (m.setPoison c sec true).poisoned c' sec' = true := by
  unfold MemSt.poisoned MemSt.setPoison
  by_cases hk : c' * 2 ^ 28 + sec' = c * 2 ^ 28 + sec
  · rw [hk]
    exact kget_kset_same _ _ _ _
  · rw [kget_kset_other _ _ _ _ _ hk]
    exact h

theorem State.poisonAll_keeps (l : List Nat) (s : State) (c sec : Nat) (h : s.mem.poisoned c sec = true) :
    (l.foldl State.poisonOne s).mem.poisoned c sec = true := by
  induction l generalizing s with
  | nil => exact h
  | cons x l ih => exact ih _ (s.mem.poisoned_setPoison _ _ _ _ h)

theorem State.poisonAll_poisons (l : List Nat) (s : State) : ∀ x ∈ l, (l.foldl State.poisonOne s).mem.poisoned (s.memMap x).1 (s.memMap x).2 = true := by
  induction l generalizing s with
  | nil => exact fun _ h => absurd h List.not_mem_nil
  | cons y l ih =>
    intro x hx
    rcases List.mem_cons.mp hx with rfl | hx
    · exact State.poisonAll_keeps l _ _ _ (kget_kset_same _ _ _ _)
    · exact ih (s.poisonOne y) x hx

/-- Poison reaches every sector of a write. -/
theorem State.memPoison_poisons (s : State) (a len : Nat) :
    ∀ x ∈ sectorsOf a len, (s.memPoison a len).mem.poisoned (s.memMap x).1 (s.memMap x).2 = true := by
  intro x hx
  rw [State.memPoison_eq, MemSt.poisoned, (State.markDirty_leaves _ a len).1.poison]
  exact State.poisonAll_poisons _ s x hx

end Sys2Proof.Machine
end

section
/-!
Lending (R202 to R206).
-/

namespace Sys2Proof.Machine

theorem State.dropLend_lend (s : State) (r : LendReq) : (s.dropLend r).net.lend = s.net.lend.erase r := rfl

theorem State.dropLend_replies (s : State) (r : LendReq) : (s.dropLend r).net.replies = s.net.replies := rfl

/-- A request that may go, with its lanes and arbiters free for it, is taken and carried out. -/
theorem State.lendGo_granted {s : State} {read : Bool} {r : LendReq} (carryOut : LendReq → State → State) (hr : nextLend read s.net.lend = some r)
    (hb : r.bad = false) (hm : inMem r.addr (8 * r.words) = true) (hu : s.memUsable = true)
    (hl : s.net.laneFree 0 (s.net.lend.findIdx fun e => decide (e = r)) = true)
    (hg : Granted s (s.bridgeArbs r.addr (8 * r.words) (!read))) :
    ∃ t, OnlyArbs s t ∧ s.lendGo read carryOut = carryOut r (t.dropLend r) := by
  obtain ⟨t, ht, ho⟩ := State.arbAccesses_granted hg
  refine ⟨t, ho, ?_⟩
  unfold State.lendGo
  simp only [hr, hb, hm, hu, hl, ht, Bool.not_true, Bool.or_self, Bool.false_eq_true, if_false]

/-- A request outside the permitted operations is refused (R205). -/
theorem State.lendGo_bad {s : State} {read : Bool} {r : LendReq} (carryOut : LendReq → State → State) (hr : nextLend read s.net.lend = some r)
    (hb : r.bad = true) : s.lendGo read carryOut = (s.dropLend r).lendFault MC_LEND_STAT_BAD_OP := by
  unfold State.lendGo
  simp only [hr, hb, if_true]

/-- A request out of range, or while memory takes none, is refused (R182, R210). -/
theorem State.lendGo_range {s : State} {read : Bool} {r : LendReq} (carryOut : LendReq → State → State) (hr : nextLend read s.net.lend = some r)
    (hb : r.bad = false) (hm : inMem r.addr (8 * r.words) = false ∨ s.memUsable = false) :
    s.lendGo read carryOut = (s.dropLend r).lendFault MC_LEND_STAT_RANGE := by
  have h : (!inMem r.addr (8 * r.words) || !s.memUsable) = true := by
    rcases hm with h | h
    · rw [h, Bool.not_false, Bool.true_or]
    · rw [h, Bool.not_false, Bool.or_true]
  unfold State.lendGo
  simp only [hr, hb, h, Bool.false_eq_true, if_false, if_true]

theorem not_causeOrFault_mcLendStat : ¬ CauseOrFault mcLendStat := by
  simp [CauseOrFault, CauseReg, ChanReg, safStat, safFirst, safFirstTick, safNotice, safInt, ctlHostAlert, msixPba, safFault, mcLendStat]

/-- A lending fault counts, raises LENDING and leaves memory (R205, R414). -/
theorem State.lendFault_counts (s : State) {f : Fld} (hf : f.lo + f.w ≤ 64) : (s.lendFault f).fld mcLendStat f = bumped s mcLendStat f ∧
    (s.lendFault f).flag safFault (bitF 9) = true ∧ (s.lendFault f).mem = s.mem := by
  have h := (s.bump mcLendStat f).raiseCause_memNet 3 33 0 none
  exact ⟨(h.fld not_causeOrFault_mcLendStat f).trans (s.fld_bump_same _ _ hf), State.raiseCause_flag _ 0 none (by decide), h.mem⟩

theorem nth_append_right (a b : List Byte) (i : Nat) : nth 0 (a ++ b) (a.length + i) = nth 0 b i := by
  rw [nth, List.getElem?_append_right (Nat.le_add_right _ _), Nat.add_sub_cancel_left, nth]

theorem nth_slice (l : List Byte) {i n : Nat} (h : i < n) : nth 0 (slice l 0 n) i = nth 0 l i := by
  rw [nth, slice, List.getElem?_map, List.getElem?_range h, Option.map_some, Option.getD_some, Nat.zero_add]

theorem length_leBytes (n x : Nat) : (leBytes n x).length = n := by
  induction n generalizing x with
  | zero => rfl
  | succ n ih => rw [leBytes, List.length_cons, ih]

/-- The words of a reply stand behind its two header words (R203). -/
theorem LendReq.reply_data (r : LendReq) (hb : r.bad = false) (d : List Byte) (inTime : Bool) {i : Nat} (hi : i < 8 * r.words) :
    nth 0 (r.reply d inTime).data (16 + i) = nth 0 d i := by
  have hw : r.words ≤ 27 := by
    have h := of_decide_eq_false hb
    omega
  have hlen : (leBytes 2 (3 + 256 * (r.words - 1)) ++ leBytes 6 0 ++ leBytes 8 r.addr).length = 16 := by
    simp only [List.length_append, length_leBytes]
  refine (nth_slice _ (by omega)).trans ?_
  rw [← hlen, nth_append_right]

/-- A lending WRITE is stored. -/
theorem lendWrite_stores {s t : State} {r : LendReq} (h : OnlyArbs s t) (d : List Byte) :
    ((t.dropLend r).memWrite r.addr d []).mem.bytes = (s.memWrite r.addr d []).mem.bytes ∧
      ((t.dropLend r).memWrite r.addr d []).net.lend = s.net.lend.erase r := by
  have hc : SameContents s.mem (t.dropLend r).mem := .of_eq h.mem
  refine ⟨(State.memWrite_congr hc _ _ _).bytes, ?_⟩
  rw [(State.memWrite_memOnly _ _ _ _).net, State.dropLend_lend, h.net]

/-- What a READ does once it is taken (R203). -/
def readReply (inTime : Bool) (r : LendReq) (s : State) : State :=
  match s.memRead r.addr (8 * r.words) [] with
  | (s, d, []) => s.setNet { s.net with replies := s.net.replies ++ [r.reply d inTime] }
  | (s, _, c :: _) => (s.bump mcLendStat MC_LEND_STAT_LATE).raiseCause 2 c 0 none

theorem execLendRead_eq (inTime : Bool) (s : State) : execLendRead [] inTime s = .next (s.lendGo true (readReply inTime)) := rfl

/-- A READ of sectors that can be read leaves its reply. -/
theorem readReply_reads {s t : State} {r : LendReq} (h : OnlyArbs s t) (hr : (s.memRead r.addr (8 * r.words) []).2.2 = []) (inTime : Bool) :
    (readReply inTime r (t.dropLend r)).net.replies = s.net.replies ++ [r.reply (s.memRead r.addr (8 * r.words) []).2.1 inTime] := by
  have hc := State.memRead_congr (s := s) (t := t.dropLend r) (.of_eq h.mem) r.addr (8 * r.words) []
  have hn := ((t.dropLend r).memRead_leaves r.addr (8 * r.words) []).2.net
  unfold readReply
  generalize (t.dropLend r).memRead r.addr (8 * r.words) [] = x at hc hn ⊢
  obtain ⟨u, d, bad⟩ := x
  rw [← hc] at hr ⊢
  cases hr
  change u.net.replies ++ [r.reply d inTime] = _
  rw [show u.net = (t.dropLend r).net from hn, State.dropLend_replies, h.net]

/-- A READ of a sector that cannot be read leaves none, and raises MEMORY. -/
theorem readReply_fails {s t : State} {r : LendReq} (h : OnlyArbs s t) (hr : (s.memRead r.addr (8 * r.words) []).2.2 ≠ []) (inTime : Bool) :
    (readReply inTime r (t.dropLend r)).net.replies = s.net.replies ∧ (readReply inTime r (t.dropLend r)).flag safFault (bitF 8) = true := by
  have hc := State.memRead_congr (s := s) (t := t.dropLend r) (.of_eq h.mem) r.addr (8 * r.words) []
  have hn := ((t.dropLend r).memRead_leaves r.addr (8 * r.words) []).2.net
  unfold readReply
  generalize (t.dropLend r).memRead r.addr (8 * r.words) [] = x at hc hn ⊢
  obtain ⟨u, d, bad⟩ := x
  rw [← hc] at hr
  cases bad with
  | nil => exact absurd rfl hr
  | cons c l =>
    refine ⟨?_, State.raiseCause_flag (code := 2) (unit := c) _ 0 none (show 8 < 64 by decide)⟩
    have hf := ((u.bump mcLendStat MC_LEND_STAT_LATE).raiseCause_memNet 2 c 0 none).net
    calc ((u.bump mcLendStat MC_LEND_STAT_LATE).raiseCause 2 c 0 none).net.replies = u.net.replies := congrArg NetSt.replies hf
      _ = (t.dropLend r).net.replies := congrArg NetSt.replies hn
      _ = s.net.replies := by rw [State.dropLend_replies, h.net]

theorem lend_granted {s : State} {read : Bool} {r : LendReq} (hr : nextLend read s.net.lend = some r) (hb : r.bad = false)
    (hm : inMem r.addr (8 * r.words) = true) (hu : s.memUsable = true)
    (hl : s.net.laneFree 0 (s.net.lend.findIdx fun e => decide (e = r)) = true) (hg : Granted s (s.bridgeArbs r.addr (8 * r.words) (!read))) :
    (read = false → Completes (.lendWrite []) s fun t =>
      t.mem.bytes = (s.memWrite r.addr (slice r.data 16 (8 * r.words)) []).mem.bytes ∧ t.net.lend = s.net.lend.erase r) ∧
    (read = true → (s.memRead r.addr (8 * r.words) []).2.2 = [] → ∀ inTime, Completes (.lendRead [] inTime) s fun t => ∃ p : LendReply,
      t.net.replies = s.net.replies ++ [p] ∧ p.circuit = r.replyCircuit ∧ p.slot = r.slot + r.replySlots ∧ p.ready = inTime ∧
      (∀ i, i < 8 * r.words → nth 0 p.data (16 + i) = nth 0 (s.memRead r.addr (8 * r.words) []).2.1 i)) ∧
    (read = true → (s.memRead r.addr (8 * r.words) []).2.2 ≠ [] → ∀ inTime, Completes (.lendRead [] inTime) s fun t =>
      t.net.replies = s.net.replies ∧ t.flag safFault (bitF 8) = true) := by
  refine ⟨?_, ?_, ?_⟩
  · rintro rfl
    obtain ⟨t, ho, ht⟩ := State.lendGo_granted (fun r s => s.memWrite r.addr (slice r.data 16 (8 * r.words)) []) hr hb hm hu hl hg
    exact ⟨_, congrArg Host.Outcome.next ht, lendWrite_stores ho _⟩
  · rintro rfl hread inTime
    obtain ⟨t, ho, ht⟩ := State.lendGo_granted (readReply inTime) hr hb hm hu hl hg
    exact ⟨_, (execLendRead_eq inTime s).trans (congrArg Host.Outcome.next ht), _, readReply_reads ho hread inTime, rfl, rfl, rfl,
      fun i hi => r.reply_data hb _ inTime hi⟩
  · rintro rfl hread inTime
    obtain ⟨t, ho, ht⟩ := State.lendGo_granted (readReply inTime) hr hb hm hu hl hg
    exact ⟨_, (execLendRead_eq inTime s).trans (congrArg Host.Outcome.next ht), readReply_fails ho hread inTime⟩

theorem lend_refused {s : State} {r : LendReq} (hr : nextLend false s.net.lend = some r) :
    (r.bad = true → Completes (.lendWrite []) s fun t =>
      t.fld mcLendStat MC_LEND_STAT_BAD_OP = bumped s mcLendStat MC_LEND_STAT_BAD_OP ∧ t.flag safFault (bitF 9) = true ∧ t.mem = s.mem) ∧
    (r.bad = false → inMem r.addr (8 * r.words) = false ∨ s.memUsable = false → Completes (.lendWrite []) s fun t =>
      t.fld mcLendStat MC_LEND_STAT_RANGE = bumped s mcLendStat MC_LEND_STAT_RANGE ∧ t.flag safFault (bitF 9) = true ∧ t.mem = s.mem) :=
  ⟨fun hb => ⟨_, congrArg Host.Outcome.next (State.lendGo_bad _ hr hb), (s.dropLend r).lendFault_counts (by decide)⟩,
    fun hb hm => ⟨_, congrArg Host.Outcome.next (State.lendGo_range _ hr hb hm), (s.dropLend r).lendFault_counts (by decide)⟩⟩

/-- A reply leaves those that wait for their slot. -/
def State.takeReply (s : State) (r : LendReply) : State := s.setNet { s.net with replies := s.net.replies.erase r }

theorem execLendReplyDepart_eq {s : State} {r : LendReply} (hr : s.net.replies.find? (fun r => decide (r.slot ≤ s.slotNow)) = some r) :
    execLendReplyDepart s = .next (if r.ready then
      (s.takeReply r).setNet { (s.takeReply r).net with enter := klAdd s.net.enter 33 ⟨r.circuit, r.slot, 0, r.data⟩ }
    else (s.takeReply r).lendFault MC_LEND_STAT_LATE) := by
  unfold execLendReplyDepart
  simp only [hr]
  rfl

theorem reply_departs {s : State} {r : LendReply} (hr : s.net.replies.find? (fun r => decide (r.slot ≤ s.slotNow)) = some r) :
    (r.ready = true → Completes .lendReplyDepart s fun t =>
      t.net.enter = klAdd s.net.enter 33 ⟨r.circuit, r.slot, 0, r.data⟩ ∧ t.net.replies = s.net.replies.erase r ∧ t.regs = s.regs) ∧
    (r.ready = false → Completes .lendReplyDepart s fun t =>
      t.fld mcLendStat MC_LEND_STAT_LATE = bumped s mcLendStat MC_LEND_STAT_LATE ∧ t.flag safFault (bitF 9) = true) := by
  refine ⟨fun h => ⟨_, (execLendReplyDepart_eq hr).trans (congrArg _ (if_pos h)), rfl, rfl, rfl⟩,
    fun h => ⟨_, (execLendReplyDepart_eq hr).trans (congrArg _ (if_neg (by rw [h]; exact Bool.false_ne_true))), ?_⟩⟩
  obtain ⟨hc, hf, -⟩ := (s.takeReply r).lendFault_counts (f := MC_LEND_STAT_LATE) (by decide)
  exact ⟨hc, hf⟩

end Sys2Proof.Machine
end

section
/-!
A host request that nothing is ahead of (R207, R209, R503): it is admitted, and goes at once.
-/

namespace Sys2Proof.Machine

/-- A host request with its bytes taken from the budget (R209). -/
def HostReq.accepted (r : HostReq) : HostReq := { r with admitted := true }

/-- A host request arrives behind those that wait. -/
def State.queued (s : State) (r : HostReq) : State := { s with mem := { s.mem with hostq := s.mem.hostq ++ [r] } }

/-- The only host request that waits is admitted. -/
def State.admitted (s : State) (r : HostReq) : State := { s.hostAdmit r with mem := { (s.hostAdmit r).mem with hostq := [r.accepted] } }

theorem State.hostStep_accepts {s : State} {r : HostReq} (hq : s.mem.hostq = [r]) (hb : r.bar0 = false) (ha : r.admitted = false)
    (hh : s.hostHeld = false) : s.hostStep = (s.admitted r, true) := by
  unfold State.hostStep
  simp only [hq, hb, ha, hh, State.admitted, HostReq.accepted, Bool.false_eq_true, if_false]

theorem State.hostStep_go {s t : State} {r : HostReq} (hq : s.mem.hostq = [r.accepted]) (hb : r.bar0 = false) (hgo : s.hostGo r.accepted = (t, true)) :
    s.hostStep = (t.hostTake 0, true) := by
  have hb' : r.accepted.bar0 = false := hb
  have ha' : r.accepted.admitted = true := rfl
  unfold State.hostStep
  simp only [hq, hb', ha', hgo, Bool.false_eq_true, if_false, if_true]

/-- A host request that comes with nothing held goes at once, when it may. -/
theorem State.hostArrive_eq {s t : State} {r : HostReq} (hh : s.heldReset = false) (hd : s.host.d3 = false) (hq : s.mem.hostq = [])
    (hl : s.hostHeld = false) (hb : r.bar0 = false) (ha : r.admitted = false) (hgo : ((s.queued r).admitted r).hostGo r.accepted = (t, true)) :
    s.hostArrive r = t.hostTake 0 := by
  have hq' : (s.queued r).mem.hostq = [r] := by rw [State.queued, hq, List.nil_append]
  have h1 : (s.queued r).hostStep = ((s.queued r).admitted r, true) := State.hostStep_accepts hq' hb ha hl
  have h2 : ((s.queued r).admitted r).hostStep = (t.hostTake 0, true) := State.hostStep_go rfl hb hgo
  have hp : (s.queued r).hostPump = t.hostTake 0 := by
    rw [State.hostPump, hq']
    simp only [List.length_singleton, Nat.mul_one, State.hostSteps, h1, h2]
  unfold State.hostArrive
  rw [hh, hd, if_neg Bool.false_ne_true, if_neg Bool.false_ne_true]
  exact hp

/-- What admission leaves of a state; the request joins the lanes that `mask` names. -/
structure AdmittedFrom (s t : State) (mask : Nat) : Prop where
  regs : t.regs = s.regs
  arbs : t.arbs = s.arbs
  host : t.host = s.host
  contents : SameContents s.mem t.mem
  awake : t.mem.selfRefresh = s.mem.selfRefresh
  hostq : t.mem.hostq.length = 1
  lane : t.net.lane = s.net.lane ++ [(2, mask)]

theorem State.admitted_from (s : State) (r : HostReq) :
    AdmittedFrom s ((s.queued r).admitted r) (if inMem (s.hostAddr r.off) r.len then s.lanesOf (s.hostAddr r.off) r.len else 0) := by
  unfold State.admitted State.hostAdmit
  split <;> exact ⟨rfl, rfl, rfl, ⟨rfl, rfl, rfl⟩, rfl, rfl, rfl⟩

section
variable {s t : State} {mask : Nat}

theorem AdmittedFrom.rd (h : AdmittedFrom s t mask) (off : Nat) : t.rd off = s.rd off := by rw [State.rd, h.regs, State.rd]

theorem AdmittedFrom.fld (h : AdmittedFrom s t mask) (off : Nat) (f : Fld) : t.fld off f = s.fld off f := by rw [State.fld, h.rd, State.fld]

theorem AdmittedFrom.memUsable (h : AdmittedFrom s t mask) : t.memUsable = s.memUsable := by
  simp only [State.memUsable, State.flag, h.fld, h.awake]

theorem AdmittedFrom.hostAddr (h : AdmittedFrom s t mask) (off : Nat) : t.hostAddr off = s.hostAddr off := by
  simp only [State.hostAddr, h.fld, h.host]

theorem AdmittedFrom.bridgeArbs (h : AdmittedFrom s t mask) (a len : Nat) (w : Bool) : t.bridgeArbs a len w = s.bridgeArbs a len w := by
  simp only [State.bridgeArbs, State.memArbs, h.contents.memMap]

theorem AdmittedFrom.granted (h : AdmittedFrom s t mask) {l : List (Fin 10 × ArbId)} (hg : Granted s l) : Granted t l := by
  intro x hx
  obtain ⟨hk, hh, hm, ha, hu⟩ := hg x hx
  have e : t.arb x.2 = s.arb x.2 := by rw [State.arb, h.arbs, State.arb]
  exact ⟨hk, by rw [e]; exact hh, by rw [e]; exact hm, by rw [e]; exact ha, fun c hc => h.memUsable.trans (hu c hc)⟩

end

/-- The last to join the lanes is free to go when nothing of its kind waits, and nothing that waits takes a lane of its own. -/
theorem NetSt.laneFree_last {x : NetSt} {l : List (Nat × Nat)} {kind mask : Nat} (hl : x.lane = l ++ [(kind, mask)])
    (h : ∀ e ∈ l, e.1 ≠ kind ∧ e.2 &&& mask = 0) : x.laneFree kind 0 = true := by
  have hlast : nth (3, 0) x.lane l.length = (kind, mask) := by rw [hl, nth, List.getElem?_concat_length, Option.getD_some]
  have hpos : x.lanePos kind 0 = l.length := by
    have hfirst : (List.range l.length).filter (fun p => decide ((nth (3, 0) x.lane p).1 = kind)) = [] := by
      refine List.filter_eq_nil_iff.mpr fun p hp => ?_
      have hp := List.mem_range.mp hp
      have e : nth (3, 0) x.lane p = l[p] := by rw [hl, nth, List.getElem?_append_left hp, List.getElem?_eq_getElem hp, Option.getD_some]
      rw [e, decide_eq_true_eq]
      exact (h _ (List.getElem_mem hp)).1
    have hlen : x.lane.length = l.length + 1 := by rw [hl, List.length_append, List.length_singleton]
    rw [NetSt.lanePos, hlen, List.range_succ, List.filter_append, hfirst, List.nil_append, List.filter_singleton, hlast]
    simp [nth]
  unfold NetSt.laneFree
  dsimp only
  rw [hpos, hlast, hl, List.take_left, List.all_eq_true]
  exact fun e he => decide_eq_true (h e he).2

/-! ### An admitted request goes -/

/-- The host request in front leaves the lanes. -/
def State.leaveFront (s : State) : State := s.setNet (s.net.leaveLane 2 0)

theorem State.hostGo_refused {s : State} {r : HostReq} (hm : inMem (s.hostAddr r.off) r.len = false) :
    s.hostGo r = (s.leaveFront.hostRefused r, true) := by
  unfold State.hostGo
  dsimp only
  rw [if_pos (by rw [hm, Bool.not_false, Bool.or_true])]
  rfl

theorem State.hostGo_granted {s : State} {r : HostReq} (hu : s.memUsable = true) (hm : inMem (s.hostAddr r.off) r.len = true)
    (hl : s.net.laneFree 2 0 = true) (hg : Granted s (s.bridgeArbs (s.hostAddr r.off) r.len (r.write && !r.ep))) :
    ∃ t, OnlyArbs s t ∧ s.hostGo r = (t.leaveFront.hostAccess r, true) := by
  obtain ⟨t, ht, ho⟩ := State.arbAccesses_granted hg
  refine ⟨t, ho, ?_⟩
  unfold State.hostGo
  simp only [hu, hm, hl, ht, Bool.not_true, Bool.or_self, Bool.false_eq_true, if_false]
  rfl

/-- A host access that goes at once: the state in which memory is accessed has the contents and the addresses of the state before. -/
theorem State.hostArrive_access {s : State} {r : HostReq} (hh : s.heldReset = false) (hd : s.host.d3 = false) (hq : s.mem.hostq = [])
    (hl : s.hostHeld = false) (hb : r.bar0 = false) (ha : r.admitted = false) (hu : s.memUsable = true)
    (hm : inMem (s.hostAddr r.off) r.len = true) (hfree : ∀ e ∈ s.net.lane, e.1 ≠ 2 ∧ e.2 &&& s.lanesOf (s.hostAddr r.off) r.len = 0)
    (hg : Granted s (s.bridgeArbs (s.hostAddr r.off) r.len (r.write && !r.ep))) :
    ∃ t : State, SameContents s.mem t.mem ∧ t.mem.hostq.length = 1 ∧ t.hostAddr r.off = s.hostAddr r.off ∧
      s.hostArrive r = (t.hostAccess r.accepted).hostTake 0 := by
  have hf := s.admitted_from r
  rw [if_pos hm] at hf
  generalize hv : (s.queued r).admitted r = v at hf
  have hoff : v.hostAddr r.accepted.off = s.hostAddr r.off := hf.hostAddr r.off
  obtain ⟨t, ho, hgo⟩ := State.hostGo_granted (s := v) (r := r.accepted) (hf.memUsable.trans hu) (by rw [hoff]; exact hm)
    (NetSt.laneFree_last hf.lane hfree) (by rw [hoff, hf.bridgeArbs]; exact hf.granted hg)
  have hreg : ¬ ArbRegs mcHostwin := fun hr => absurd hr.lower (by decide)
  refine ⟨t.leaveFront, hf.contents.trans (.of_eq ho.mem), ?_, ?_, State.hostArrive_eq hh hd hq hl hb ha (by rw [hv]; exact hgo)⟩
  · change t.mem.hostq.length = 1
    rw [ho.mem]
    exact hf.hostq
  · rw [← hf.hostAddr]
    change t.hostAddr r.off = v.hostAddr r.off
    simp only [State.hostAddr, State.fld, ho.1 _ hreg, ho.host]

theorem State.hostTake_hostq {s : State} (h : s.mem.hostq.length = 1) : (s.hostTake 0).mem.hostq = [] := by
  obtain ⟨r, hr⟩ := List.length_eq_one_iff.mp h
  rw [State.hostTake, hr]
  rfl

/-! ### What an access does (R503, R507) -/

theorem State.hostAccess_write {s t : State} {r : HostReq} (hw : r.write = true) (hp : r.ep = false) (hc : SameContents s.mem t.mem) :
    (t.hostAccess r).mem.bytes = (s.memWrite (t.hostAddr r.off) r.data r.errs).mem.bytes ∧ (t.hostAccess r).mem.hostq = t.mem.hostq := by
  have e : t.hostAccess r = t.memWrite (t.hostAddr r.off) r.data r.errs := by
    unfold State.hostAccess
    dsimp only
    rw [hw, hp, if_pos rfl, if_neg Bool.false_ne_true]
  rw [e]
  exact ⟨(State.memWrite_congr hc _ _ _).bytes, (State.memWrite_memOnly _ _ _ _).hostq⟩

theorem State.hostAccess_poisoned {s t : State} {r : HostReq} (hw : r.write = true) (hp : r.ep = true) (hc : SameContents s.mem t.mem) :
    (t.hostAccess r).flag ctlHostAlert (bitF 25) = true ∧
      ∀ x ∈ sectorsOf (t.hostAddr r.off) r.len, (t.hostAccess r).mem.poisoned (s.memMap x).1 (s.memMap x).2 = true := by
  have e : t.hostAccess r = ((t.memPoison (t.hostAddr r.off) r.len).aerLog 9).alert [25] := by
    unfold State.hostAccess
    dsimp only
    rw [hw, hp, if_pos rfl, if_pos rfl]
  rw [e]
  refine ⟨State.alert_flag _ (by decide), fun x hx => ?_⟩
  rw [(State.alert_memNet _ [25]).mem, ← hc.memMap x]
  exact t.memPoison_poisons _ _ x hx

theorem State.hostAccess_read {s t : State} {r : HostReq} (hw : r.write = false) (hc : SameContents s.mem t.mem) :
    (t.hostAccess r).mem.bytes = s.mem.bytes ∧
      ((s.memRead (t.hostAddr r.off) r.len r.errs).2.2 = [] →
        (t.hostAccess r).host.cpl = some (0, (s.memRead (t.hostAddr r.off) r.len r.errs).2.1)) ∧
      ((s.memRead (t.hostAddr r.off) r.len r.errs).2.2 ≠ [] → ∃ d, (t.hostAccess r).host.cpl = some (2, d)) := by
  have hr := State.memRead_congr hc (t.hostAddr r.off) r.len r.errs
  have hb := hc.bytes.symm.trans (t.memRead_leaves (t.hostAddr r.off) r.len r.errs).1.bytes.symm
  unfold State.hostAccess
  dsimp only
  rw [hw, if_neg Bool.false_ne_true, ← hr]
  generalize t.memRead (t.hostAddr r.off) r.len r.errs = x at hb ⊢
  obtain ⟨u, d, bad⟩ := x
  cases bad with
  | nil => exact ⟨hb.symm, fun _ => rfl, fun h => absurd rfl h⟩
  | cons c l => exact ⟨hb.symm, fun h => absurd h (List.cons_ne_nil c l), fun _ => ⟨d, rfl⟩⟩

/-- A host write outside memory is counted and alerted, and a read answered so (R503, R507). -/
theorem State.hostRefused_spec (s : State) (r : HostReq) : (s.hostRefused r).mem = s.mem ∧
    (r.write = false → (s.hostRefused r).host.cpl = some (1, []) ∧ (s.hostRefused r).flag ctlHostAlert (bitF 24) = true) ∧
    (r.write = true → (s.hostRefused r).fld ctlPcieStat CTL_PCIE_STAT_DROPPED_WRITES = bumped s ctlPcieStat CTL_PCIE_STAT_DROPPED_WRITES) := by
  unfold State.hostRefused
  cases hw : r.write
  · have h := ((s.complete 1 []).aerLog 8).alert_memNet [24]
    exact ⟨h.mem, fun _ => ⟨h.cpl, State.alert_flag _ (by decide)⟩, fun h => absurd h Bool.false_ne_true⟩
  · have h := ((s.bump ctlPcieStat CTL_PCIE_STAT_DROPPED_WRITES).aerLog 8).alert_memNet [25]
    exact ⟨h.mem, fun h => absurd h.symm Bool.false_ne_true, fun _ => (h.fld (by decide) _).trans (s.fld_bump_same _ _ (by decide))⟩

/-! ### BAR2 (R207, R209, R503) -/

/-- A request that BAR2 brings: its offset lies in the window, and nothing is held (R209, R502). -/
structure AtOnce (s : State) (off : BitVec 40) (len : Nat) : Prop where
  held : s.heldReset = false
  d3 : s.host.d3 = false
  hostq : s.mem.hostq = []
  rate : s.hostHeld = false
  window : s.inBar2 off.toNat len = true

/-- The requests of BAR2. -/
def readReq (off : BitVec 40) (len : Nat) : HostReq := ⟨false, false, off.toNat, len, [], false, [], false⟩
def writeReq (off : BitVec 40) (b : List Byte) (ep : Bool) : HostReq := ⟨false, true, off.toNat, b.length, b, ep, [], false⟩

section
variable {s : State} {off : BitVec 40}

theorem AtOnce.execRead {len : Nat} (h : AtOnce s off len) : execBar2Read off len [] s = .next (s.hostArrive (readReq off len)) :=
  congrArg _ (if_pos h.window)

theorem AtOnce.execWrite {b : List Byte} (h : AtOnce s off b.length) (ep : Bool) :
    execBar2Write off b ep s [] = .next (s.hostArrive (writeReq off b ep)) :=
  congrArg _ (if_pos h.window)

/-- An access within memory whose lanes are free. -/
structure InReach (s : State) (a len : Nat) : Prop where
  usable : s.memUsable = true
  inMem : inMem a len = true
  lanes : ∀ e ∈ s.net.lane, e.1 ≠ 2 ∧ e.2 &&& s.lanesOf a len = 0

theorem AtOnce.access {len : Nat} (h : AtOnce s off len) (hi : InReach s (s.hostAddr off.toNat) len) {r : HostReq} (hb : r.bar0 = false)
    (ha : r.admitted = false) (ho : r.off = off.toNat) (hl : r.len = len)
    (hg : Granted s (s.bridgeArbs (s.hostAddr off.toNat) len (r.write && !r.ep))) :
    ∃ t : State, SameContents s.mem t.mem ∧ t.mem.hostq.length = 1 ∧ t.hostAddr off.toNat = s.hostAddr off.toNat ∧
      s.hostArrive r = (t.hostAccess r.accepted).hostTake 0 := by
  subst hl
  rw [← ho] at hi hg ⊢
  exact State.hostArrive_access h.held h.d3 h.hostq h.rate hb ha hi.usable hi.inMem hi.lanes hg

theorem bar2Write_stores {b : List Byte} (h : AtOnce s off b.length) (hi : InReach s (s.hostAddr off.toNat) b.length)
    (hg : Granted s (s.bridgeArbs (s.hostAddr off.toNat) b.length true)) : Completes (.bar2Write off b false []) s fun t =>
      t.mem.bytes = (s.memWrite (s.hostAddr off.toNat) b []).mem.bytes ∧ t.mem.hostq = [] := by
  obtain ⟨t, hc, hq, ha, ht⟩ := h.access hi (r := writeReq off b false) rfl rfl rfl rfl hg
  obtain ⟨hb, hq'⟩ := State.hostAccess_write (r := (writeReq off b false).accepted) rfl rfl hc
  rw [show t.hostAddr (writeReq off b false).accepted.off = s.hostAddr off.toNat from ha] at hb
  exact ⟨_, (h.execWrite false).trans (congrArg _ ht), hb, State.hostTake_hostq ((congrArg List.length hq').trans hq)⟩

theorem bar2Write_poisons {b : List Byte} (h : AtOnce s off b.length) (hi : InReach s (s.hostAddr off.toNat) b.length)
    (hg : Granted s (s.bridgeArbs (s.hostAddr off.toNat) b.length false)) : Completes (.bar2Write off b true []) s fun t =>
      t.flag ctlHostAlert (bitF 25) = true ∧
        ∀ x ∈ sectorsOf (s.hostAddr off.toNat) b.length, t.mem.poisoned (s.memMap x).1 (s.memMap x).2 = true := by
  obtain ⟨t, hc, -, ha, ht⟩ := h.access hi (r := writeReq off b true) rfl rfl rfl rfl hg
  have hp := State.hostAccess_poisoned (r := (writeReq off b true).accepted) rfl rfl hc
  rw [show t.hostAddr (writeReq off b true).accepted.off = s.hostAddr off.toNat from ha] at hp
  exact ⟨_, (h.execWrite true).trans (congrArg _ ht), hp⟩

theorem bar2Read_answers {len : Nat} (h : AtOnce s off len) (hi : InReach s (s.hostAddr off.toNat) len)
    (hg : Granted s (s.bridgeArbs (s.hostAddr off.toNat) len false)) :
    ((s.memRead (s.hostAddr off.toNat) len []).2.2 = [] → Completes (.bar2Read off len []) s fun t =>
      t.host.cpl = some (0, (s.memRead (s.hostAddr off.toNat) len []).2.1) ∧ t.mem.bytes = s.mem.bytes) ∧
    ((s.memRead (s.hostAddr off.toNat) len []).2.2 ≠ [] → Completes (.bar2Read off len []) s fun t =>
      (∃ d, t.host.cpl = some (2, d)) ∧ t.mem.bytes = s.mem.bytes) := by
  obtain ⟨t, hc, -, ha, ht⟩ := h.access hi (r := readReq off len) rfl rfl rfl rfl hg
  obtain ⟨hb, hok, hbad⟩ := State.hostAccess_read (r := (readReq off len).accepted) rfl hc
  rw [show t.hostAddr (readReq off len).accepted.off = s.hostAddr off.toNat from ha] at hok hbad
  have he := h.execRead.trans (congrArg _ ht)
  exact ⟨fun hr => ⟨_, he, hok hr, hb⟩, fun hr => ⟨_, he, hbad hr, hb⟩⟩

theorem AtOnce.refused {len : Nat} (h : AtOnce s off len) (hm : inMem (s.hostAddr off.toNat) len = false) {r : HostReq} (hb : r.bar0 = false)
    (ha : r.admitted = false) (ho : r.off = off.toNat) (hl : r.len = len) :
    ∃ t : State, t.regs = s.regs ∧ t.mem.bytes = s.mem.bytes ∧ s.hostArrive r = (t.hostRefused r.accepted).hostTake 0 := by
  rw [← ho, ← hl] at hm
  have hf := s.admitted_from r
  have hgo : ((s.queued r).admitted r).hostGo r.accepted = (((s.queued r).admitted r).leaveFront.hostRefused r.accepted, true) :=
    State.hostGo_refused (by rw [hf.hostAddr]; exact hm)
  exact ⟨((s.queued r).admitted r).leaveFront, hf.regs, hf.contents.bytes, State.hostArrive_eq h.held h.d3 h.hostq h.rate hb ha hgo⟩

theorem bar2_outside {b : List Byte} (h : AtOnce s off b.length) (hm : inMem (s.hostAddr off.toNat) b.length = false) :
    (Completes (.bar2Read off b.length []) s fun t =>
      t.host.cpl = some (1, []) ∧ t.flag ctlHostAlert (bitF 24) = true ∧ t.mem.bytes = s.mem.bytes) ∧
    (Completes (.bar2Write off b false []) s fun t =>
      t.fld ctlPcieStat CTL_PCIE_STAT_DROPPED_WRITES = bumped s ctlPcieStat CTL_PCIE_STAT_DROPPED_WRITES ∧ t.mem.bytes = s.mem.bytes) := by
  constructor
  · obtain ⟨t, -, hb, ht⟩ := h.refused hm (r := readReq off b.length) rfl rfl rfl rfl
    obtain ⟨hmem, hr, -⟩ := t.hostRefused_spec (readReq off b.length).accepted
    obtain ⟨hc, ha⟩ := hr rfl
    exact ⟨_, h.execRead.trans (congrArg _ ht), hc, ha, (congrArg MemSt.bytes hmem).trans hb⟩
  · obtain ⟨t, hregs, hb, ht⟩ := h.refused hm (r := writeReq off b false) rfl rfl rfl rfl
    obtain ⟨hmem, -, hw⟩ := t.hostRefused_spec (writeReq off b false).accepted
    refine ⟨_, (h.execWrite false).trans (congrArg _ ht), (hw rfl).trans ?_, (congrArg MemSt.bytes hmem).trans hb⟩
    simp only [bumped, State.fld, State.rd, hregs]

end

/-- With nothing held, the refill of the budget lets nothing else happen (R209). -/
theorem budget_refills {s : State} (hr : s.flag mcHostwin MC_HOSTWIN_RATE_EN = true) (hq : s.mem.hostq = []) :
    Completes .hostwinBudgetRefill s fun t =>
      let us := (s.now - s.mem.refill) / 1000
      t.mem.refill = s.mem.refill + 1000 * us ∧ t.mem.bytes = s.mem.bytes ∧
        t.mem.budget = min (s.fld mcHostwin MC_HOSTWIN_RATE : Int) (s.mem.budget + (s.fld mcHostwin MC_HOSTWIN_RATE : Int) * (us : Nat)) := by
  have hq' : s.refillBudget.mem.hostq = [] := by
    unfold State.refillBudget
    split <;> exact hq
  have hp : s.refillBudget.hostPump = s.refillBudget := by
    rw [State.hostPump, hq']
    rfl
  refine ⟨s.refillBudget, congrArg _ hp, ?_⟩
  unfold State.refillBudget
  dsimp only
  rw [if_pos hr]
  exact ⟨rfl, rfl, rfl⟩

end Sys2Proof.Machine
end

section
open Sys2Proof Machine

/-- Settles O23: an access that is granted at once leaves all but the arbiters (`State.arbAccesses_granted`), and what it reads and writes follows
from the contents of memory alone (`State.memRead_congr`, `State.memWrite_congr`); a host request with nothing held is admitted and goes in the same
step (`State.hostArrive_eq`), and a fault or an alert leaves memory and the network's traffic (`MemNetFrame`). -/
theorem lendingAndHostAccess : Obligations.LendingAndHostAccess := by
  intro s
  refine ⟨fun read r hr hb hm hu hl hg => lend_granted hr hb hm hu hl hg, fun r hr => lend_refused hr, fun r hr => reply_departs hr,
    fun off b hh hd hq hl hw hu => ?_, fun hr hq => budget_refills hr hq⟩
  have h : AtOnce s off b.length := ⟨hh, hd, hq, hl, hw⟩
  refine ⟨fun hm hfree => ?_, bar2_outside h⟩
  have hi : InReach s (s.hostAddr off.toNat) b.length := ⟨hu, hm, hfree⟩
  exact ⟨bar2Write_stores h hi, fun hg => ⟨bar2Write_poisons h hi hg, bar2Read_answers h hi hg⟩⟩
end

section
/-!
A mailbox's command begins, runs and ends (R456 to R465).
-/

namespace Sys2Proof.Machine

/-! ### A command ends -/

theorem kget_ksets_below {α : Type} [DecidableEq α] (d : Nat → α) (vs : List α) (k k' : Nat) (h : k' < k) (mp : KMap α) :
    kget d (ksets d mp k vs) k' = kget d mp k' := by
  induction vs generalizing k mp with
  | nil => rfl
  | cons v vs ih => rw [ksets, ih (k + 1) (by omega), kget_kset_other _ _ _ _ _ (by omega)]

/-- A key written holds its value. -/
theorem kget_ksets {d : Nat → Byte} (vs : List Byte) (k : Nat) (mp : KMap Byte) {i : Nat} (h : i < vs.length) :
    kget d (ksets d mp k vs) (k + i) = nth 0 vs i := by
  induction vs generalizing k i mp with
  | nil => exact absurd h (Nat.not_lt_zero i)
  | cons v vs ih =>
    cases i with
    | zero =>
      exact (kget_ksets_below d vs (k + 1) k (Nat.lt_succ_self k) _).trans (kget_kset_same d mp k v)
    | succ i =>
      rw [ksets, show k + (i + 1) = k + 1 + i by omega, ih (k + 1) _ (Nat.lt_of_succ_lt_succ h)]
      rfl

/-- Registers other than a mailbox's status are the same. -/
def SameBut (m : Fin 16) (s t : State) : Prop := ∀ off, off ≠ mbStatus m → t.rd off = s.rd off

theorem SameBut.trans {m : Fin 16} {s t u : State} (h : SameBut m s t) (h' : SameBut m t u) : SameBut m s u :=
  fun off ho => (h' off ho).trans (h off ho)

theorem SameBut.fld {m : Fin 16} {s t : State} (h : SameBut m s t) {off : Nat} (ho : off ≠ mbStatus m) (f : Fld) : t.fld off f = s.fld off f := by
  rw [State.fld, h off ho, State.fld]

theorem SameBut.flag {m : Fin 16} {s t : State} (h : SameBut m s t) {off : Nat} (ho : off ≠ mbStatus m) (f : Fld) : t.flag off f = s.flag off f := by
  rw [State.flag, h.fld ho, State.flag]

theorem SameBut.regBytes {m : Fin 16} {s t : State} (h : SameBut m s t) {off : Nat} (ho : off ≠ mbStatus m) : t.regBytes off = s.regBytes off := by
  rw [State.regBytes, h off ho, State.regBytes]

theorem State.setFld_sameBut (s : State) (m : Fin 16) (f : Fld) (x : Nat) : SameBut m s (s.setFld (mbStatus m) f x) :=
  fun _ ho => State.rd_setFld_other _ _ _ _ _ ho

/-- No register below the mailboxes, or above them, is a mailbox's status. -/
theorem ne_mbStatus {off : Nat} (h : off < 0x00100000 ∨ 0x01000000 ≤ off) (m : Fin 16) : off ≠ mbStatus m := by
  simp only [mbStatus]
  omega

/-- A mailbox's status shows a command's end (R459). -/
def State.showEnd (s : State) (m : Fin 16) (code : Nat) : State :=
  (s.setFld (mbStatus m) MB_STATUS_ERROR code).setFld (mbStatus m) MB_STATUS_STATE (if code = 0 then 3 else 4)

/-- A mailbox gives back the device lock, if it is its own (R462). -/
def State.giveBack (s : State) (m : Fin 16) : State := if s.fw.lock = some m.val then { s with fw := { s.fw with lock := none } } else s

theorem State.mbEnd_eq (s : State) (m : Fin 16) (code : Nat) : s.mbEnd m code = (s.showEnd m code).giveBack m := rfl

theorem State.giveBack_leaves (s : State) (m : Fin 16) : (s.giveBack m).regs = s.regs ∧ (s.giveBack m).fw.mbmem = s.fw.mbmem ∧
    (s.giveBack m).fw.lock ≠ some m.val := by
  unfold State.giveBack
  split
  · exact ⟨rfl, rfl, nofun⟩
  · next hl => exact ⟨rfl, rfl, hl⟩

theorem State.showEnd_shows (s : State) (m : Fin 16) {code : Nat} (h : code < 2 ^ 16) : (s.showEnd m code).mbState m = (if code = 0 then 3 else 4) ∧
    (s.showEnd m code).fld (mbStatus m) MB_STATUS_ERROR = code := by
  constructor
  · refine (State.fld_setFld_same _ _ _ _ (by decide)).trans ?_
    split <;> rfl
  · refine (State.fld_setFld_field _ _ _ _ _ (by decide) (.inl (by decide))).trans ?_
    exact (State.fld_setFld_same _ _ _ _ (by decide)).trans (Nat.mod_eq_of_lt h)

/-- Ending a command (R459, R462, R465). -/
theorem State.mbEnd_ends (s : State) (m : Fin 16) {code : Nat} (h : code < 2 ^ 16) :
    Ended (s.mbEnd m code) m code ∧ SameBut m s (s.mbEnd m code) ∧ (s.mbEnd m code).fw.mbmem = s.fw.mbmem := by
  obtain ⟨hst, herr⟩ := s.showEnd_shows m h
  have hu : SameBut m s (s.showEnd m code) := (s.setFld_sameBut m _ _).trans (State.setFld_sameBut _ m _ _)
  have hm : (s.showEnd m code).fw.mbmem = s.fw.mbmem := rfl
  rw [State.mbEnd_eq]
  generalize s.showEnd m code = u at *
  obtain ⟨hr, hb, hl⟩ := u.giveBack_leaves m
  have hrd (off : Nat) : (u.giveBack m).rd off = u.rd off := by rw [State.rd, hr, State.rd]
  refine ⟨⟨?_, ?_, hl⟩, fun off ho => (hrd off).trans (hu off ho), hb.trans hm⟩
  · rw [State.mbState, State.fld, hrd]
    exact hst
  · rw [State.fld, hrd]
    exact herr

/-- Ending a command with a result (R456, R459). -/
theorem State.mbFail_ends (s : State) (m : Fin 16) (b : List Byte) {code : Nat} (h : code < 2 ^ 16) :
    Ended (s.mbFail m b code) m code ∧ Window (s.mbFail m b code) m b ∧ SameBut m s (s.mbFail m b code) := by
  obtain ⟨he, hs, hm⟩ := (s.mbWrite m 0 b).mbEnd_ends m h
  refine ⟨he, fun i hi => ?_, SameBut.trans (fun off ho => ?_) hs⟩
  · rw [State.mbFail, hm]
    exact kget_ksets b (0x4000 * m.val + 0x2000 + 0) _ hi
  · exact State.rd_setFld_other _ _ _ _ _ ho

/-! ### A command begins, or goes on -/

theorem State.onCmd_ready {s : State} {m : Fin 16} {c : Cmd} (h : Ready s m c) (start cont : State → State) :
    s.onCmd m c start cont = start (started s m c) := by
  obtain ⟨hheld, hmode, hop, hrole, hst, hpow, hmem, hinit, hargs, ha1, ha2, hrun, hlock⟩ := h
  have hnone : (s.roleCore c.role).isNone = false := by rw [← Option.not_isSome, hrole]; rfl
  have hwait : ¬ (s.mbState m ≠ 1 ∨ (c.standby = false ∧ (s.fld pwrState PWR_STATE_STATE = 1 ∨ s.pwr.change.isSome = true)) ∨
      s.waitsMem c = true) := by
    rintro (h | ⟨hs, h | h⟩ | h)
    · exact h hst
    · exact (hpow hs).1 h
    · rw [(hpow hs).2.1] at h
      exact absurd h Bool.false_ne_true
    · exact Bool.false_ne_true (hmem.symm.trans h)
  have hgate : (!c.standby && s.pwr.gated) = false := by
    cases hs : c.standby
    · rw [(hpow hs).2.2]; rfl
    · rfl
  have hinit' : ¬ (c.op = 0x0020 ∧ s.flag mcStatus MC_STATUS_INIT_DONE = false) := fun h => by
    rw [hinit h.1] at h
    exact absurd h.2.symm Bool.false_ne_true
  have ha1' : ¬ (c.armed = 1 ∧ s.flag safCtl SAF_CTL_ARMED = true) := fun h => Bool.false_ne_true ((ha1 h.1).symm.trans h.2)
  have ha2' : ¬ (c.armed = 2 ∧ s.flag safCtl SAF_CTL_ARMED = false) := fun h => Bool.false_ne_true (h.2.symm.trans (ha2 h.1))
  have hrun' : (c.noRun && s.anyRunning) = false := by
    cases hs : c.noRun
    · rfl
    · rw [hrun hs]; rfl
  have hlock' : (c.lock && !s.lockFree m) = false := by
    cases hs : c.lock
    · rfl
    · rw [hlock hs]; rfl
  have hhere : ¬ (s.heldReset || decide (s.fld ctlBoot CTL_BOOT_MODE ≠ 0 ∨ s.mbOp m ≠ c.op) || (s.roleCore c.role).isNone) = true := by
    rw [hheld, hnone, hmode, hop]
    simp
  unfold State.onCmd
  rw [if_neg hhere, if_neg (by rw [hst]; decide), if_neg hwait, if_neg (by rw [hgate]; exact Bool.false_ne_true), if_neg hinit',
    if_neg (by rw [hargs]; exact Bool.false_ne_true), if_neg ha1', if_neg ha2', if_neg (by rw [hrun']; exact Bool.false_ne_true),
    if_neg (by rw [hlock']; exact Bool.false_ne_true)]
  rfl

theorem State.onCmd_runs {s : State} {m : Fin 16} {c : Cmd} (h : Runs s m c) (start cont : State → State) : s.onCmd m c start cont = cont s := by
  obtain ⟨hheld, hmode, hop, hrole, hst⟩ := h
  have hnone : (s.roleCore c.role).isNone = false := by rw [← Option.not_isSome, hrole]; rfl
  have hhere : ¬ (s.heldReset || decide (s.fld ctlBoot CTL_BOOT_MODE ≠ 0 ∨ s.mbOp m ≠ c.op) || (s.roleCore c.role).isNone) = true := by
    rw [hheld, hnone, hmode, hop]
    simp
  unfold State.onCmd
  rw [if_neg hhere, if_pos hst]

/-- What the start of a command leaves: its arguments, and the registers but for STATE of its mailbox. -/
structure StartedFrom (m : Fin 16) (s t : State) : Prop where
  regs : SameBut m s t
  state : t.mbState m = 2
  held : t.heldReset = s.heldReset
  gated : t.pwr.gated = s.pwr.gated
  cmd : t.fw.mb[m].cmd = s.fw.mb[m].cmd
  retired : t.fw.retired = s.fw.retired

theorem started_from (s : State) (m : Fin 16) (c : Cmd) : StartedFrom m s (started s m c) := by
  have hcmd (s : State) : ((s.setFld (mbStatus m) MB_STATUS_STATE 2).modMb m fun x => { x with since := s.now }).fw.mb[m].cmd = s.fw.mb[m].cmd := by
    simp [State.modMb]
  have hst (s : State) : (s.setFld (mbStatus m) MB_STATUS_STATE 2).fld (mbStatus m) MB_STATUS_STATE = 2 := State.fld_setFld_same _ _ _ _ (by decide)
  unfold started
  split
  · exact ⟨fun off ho => State.rd_setFld_other _ _ _ _ _ ho, hst _, rfl, rfl, hcmd _, rfl⟩
  · exact ⟨s.setFld_sameBut m _ _, hst _, rfl, rfl, hcmd _, rfl⟩

theorem StartedFrom.arg {m : Fin 16} {s t : State} (h : StartedFrom m s t) (off n : Nat) : t.arg m off n = s.arg m off n := by
  rw [State.arg, h.cmd, State.arg]

/-! ### IDENTIFY and GET_SURVEY (R360, R466) -/

theorem SameBut.identity {m : Fin 16} {s t : State} (h : SameBut m s t) : t.identity = s.identity := by
  have e {off : Nat} (ho : off < 0x00100000 ∨ 0x01000000 ≤ off) : t.regBytes off = s.regBytes off := h.regBytes (ne_mbStatus ho m)
  simp only [State.identity, e (off := ctlChipId) (by decide), e (off := ctlFwVersion) (by decide), e (off := ctlBoot) (by decide),
    e (off := netPlace) (by decide), e (off := safStat) (by decide), e (off := timStat) (by decide)]

theorem SameBut.surveyTable {m : Fin 16} {s t : State} (h : SameBut m s t) : t.surveyTable = s.surveyTable := by
  have e {off : Nat} (ho : off < 0x00100000 ∨ 0x01000000 ≤ off) (f : Fld) : t.fld off f = s.fld off f := h.fld (ne_mbStatus ho m) f
  have hplace := e (off := netPlace) (by decide)
  refine congrArg (fun f => (List.range 24).flatMap f) (funext fun l => ?_)
  have hmap := e (off := netPortMap l) (by simp only [netPortMap]; omega)
  have hpeer := e (off := lnkPeer l) (by simp only [lnkPeer]; omega)
  have hstat := e (off := lnkStatus l) (by simp only [lnkStatus]; omega)
  have hhop := e (off := netPortHop l) (by simp only [netPortHop]; omega)
  have hsurv := e (off := lnkSurvey l) (by simp only [lnkSurvey]; omega)
  have hup : t.lstate l = s.lstate l := hstat _
  have hok : t.peerOk l = s.peerOk l := decide_eq_decide.mpr (by rw [hpeer, hpeer, hmap, hmap])
  simp only [State.surveyRecord, hplace, hmap, hpeer, hstat, hhop, hsurv, hup, hok]

/-- A command that ends at once with a result that its start leaves. -/
theorem State.atOnce_done {s : State} {m : Fin 16} {c : Cmd} (h : Ready s m c) (f : State → List Byte)
    (hf : ∀ t, SameBut m s t → f t = f s) : Ended (s.atOnce m c fun s => s.mbDone m (f s)) m 0 ∧
      Window (s.atOnce m c fun s => s.mbDone m (f s)) m (f s) := by
  obtain ⟨he, hw, -⟩ := (started s m c).mbFail_ends m (f s) (code := 0) (by decide)
  rw [State.atOnce, State.onCmd_ready h, hf _ (started_from s m c).regs]
  exact ⟨he, hw⟩

theorem identify_answers {s : State} {m : Fin 16} (h : Ready s m cIdentify) :
    Completes (.identify m) s fun t => Ended t m 0 ∧ Window t m s.identity := by
  have hmode : ¬ s.fld ctlBoot CTL_BOOT_MODE = 2 := by rw [h.2.1]; decide
  exact ⟨_, congrArg Host.Outcome.next (if_neg hmode), State.atOnce_done h State.identity fun _ ht => ht.identity⟩

theorem getSurvey_answers {s : State} {m : Fin 16} (h : Ready s m cGetSurvey) :
    Completes (.getSurvey m) s fun t => Ended t m 0 ∧ Window t m s.surveyTable :=
  ⟨_, rfl, State.atOnce_done h State.surveyTable fun _ ht => ht.surveyTable⟩

/-- IDENTIFY of the boot ROM (R485). -/
theorem identify_rom {s : State} {m : Fin 16} (hh : s.heldReset = false) (hmode : s.fld ctlBoot CTL_BOOT_MODE = 2) (hm : m.val = 0)
    (hop : s.mbOp m = 0x0001) (hst : s.mbState m = 1) :
    (leAt s.fw.mb[m].cmd 2 2 = 0 ∧ leAt s.fw.mb[m].cmd 8 8 = 0 ∧ leAt s.fw.mb[m].cmd 4 4 = 0 → Completes (.identify m) s fun t =>
      Ended t m 0 ∧ Window t m s.identity) ∧
    (leAt s.fw.mb[m].cmd 4 4 ≠ 0 → Completes (.identify m) s fun t => Ended t m 3) := by
  have he : execIdentify m s = .next (if leAt s.fw.mb[m].cmd 2 2 = 0 ∧ leAt s.fw.mb[m].cmd 8 8 = 0 ∧ leAt s.fw.mb[m].cmd 4 4 = 0 then
      (s.setFld (mbStatus m) MB_STATUS_STATE 2).mbDone m (s.setFld (mbStatus m) MB_STATUS_STATE 2).identity else s.mbEnd m 3) := by
    unfold execIdentify State.onRom
    rw [if_pos hmode, if_neg (by rw [hh, hmode, hst, hm, hop]; decide)]
  have hs := s.setFld_sameBut m MB_STATUS_STATE 2
  obtain ⟨hend, hwin, -⟩ := (s.setFld (mbStatus m) MB_STATUS_STATE 2).mbFail_ends m s.identity (code := 0) (by decide)
  refine ⟨fun h => ⟨_, he.trans (congrArg _ (if_pos h)), ?_⟩, fun h => ⟨_, he.trans (congrArg _ (if_neg fun hz => h hz.2.2)), ?_⟩⟩
  · rw [hs.identity]
    exact ⟨hend, hwin⟩
  · exact (s.mbEnd_ends m (by decide)).1

end Sys2Proof.Machine
end

section
/-!
Writes by access type (R8), and the placement (R9, R31, R35, R466).
-/

namespace Sys2Proof.Machine

/-! ### Words that agree under a mask -/

/-- A write of the bits in `m` leaves them as written. -/
theorem masked_xor (old v m : Word64) : (v ^^^ ((old &&& ~~~m) ||| (v &&& m))) &&& m = 0 := by
  refine BitVec.eq_of_getLsbD_eq fun i hi => ?_
  simp only [BitVec.getLsbD_and, BitVec.getLsbD_xor, BitVec.getLsbD_or, BitVec.getLsbD_not, hi, decide_true, Bool.true_and]
  cases m.getLsbD i <;> simp

/-- Two words agree on a field whose bits are in a mask on which they agree. -/
theorem getF_eq_of_masked {v w m : Word64} (h : (v ^^^ w) &&& m = 0) {f : Fld} (hf : ∀ i < f.w, m.getLsbD (f.lo + i) = true) :
    getF w f = getF v f := by
  refine Nat.eq_of_testBit_eq fun i => ?_
  simp only [getF, Nat.testBit_mod_two_pow, Nat.testBit_div_two_pow]
  by_cases hi : i < f.w
  · have hb : (((v ^^^ w) &&& m).getLsbD (f.lo + i)) = false := by rw [h]; exact BitVec.getLsbD_zero
    rw [BitVec.getLsbD_and, BitVec.getLsbD_xor, hf i hi, Bool.and_true] at hb
    have e : w.getLsbD (f.lo + i) = v.getLsbD (f.lo + i) := (bne_eq_false_iff_eq.mp hb).symm
    simp only [BitVec.getLsbD, Nat.add_comm f.lo i] at e
    rw [e]
  · simp only [hi, decide_false, Bool.false_and]

/-- A field apart from the mask may be set without harm. -/
theorem masked_setF {v w m : Word64} (h : (v ^^^ w) &&& m = 0) {f : Fld} (x : Nat) (hf : f.lo + f.w ≤ 64)
    (hm : ∀ i < 64, m.getLsbD i = true → i < f.lo ∨ f.lo + f.w ≤ i) : (v ^^^ setF w f x) &&& m = 0 := by
  refine BitVec.eq_of_getLsbD_eq fun i hi => ?_
  have hb : ((v ^^^ w) &&& m).getLsbD i = false := by rw [h]; exact BitVec.getLsbD_zero
  rw [BitVec.getLsbD_and, BitVec.getLsbD_xor] at hb
  refine Eq.trans ?_ (BitVec.getLsbD_zero (w := 64) (i := i)).symm
  rw [BitVec.getLsbD_and, BitVec.getLsbD_xor]
  cases hmi : m.getLsbD i
  · rw [Bool.and_false]
  · have e : (getF (setF w f x) ⟨i, 1⟩) = getF w ⟨i, 1⟩ := getF_setF_other _ _ _ _ hf ((hm i hi hmi).symm)
    rw [getF_bit, getF_bit] at e
    rw [Function.LeftInverse.injective Bool.ofNat_toNat e, ← hmi]
    exact hb

/-! ### NET_PLACE (R9, R34, R35) -/

/-- The fields of NET_PLACE that LOCK holds. -/
def placeMask : Word64 := accMask (fun f => decide (f.acc = .rwl)) RegKind.netPlace.fields

theorem placeTaken_iff (v w : Word64) : placeTaken v w = true ↔ (v ^^^ w) &&& placeMask = 0 := decide_eq_true_iff

/-- What NET_PLACE holds after a write while it is not locked. -/
theorem writeWord_netPlace_open (before old v : Word64) :
    writeWord RegKind.netPlace.fields false before old v (~~~0) = (old &&& ~~~placeMask) ||| (v &&& placeMask) := by
  have hrw : accMask (fun f => decide (f.acc = .rw) || (decide (f.acc = .rwl) && !false)) RegKind.netPlace.fields = placeMask := by decide
  have hc : accMask (fun f => decide (f.acc = .w1c)) RegKind.netPlace.fields = 0#64 := by decide
  have hs : accMask (fun f => decide (f.acc = .w1s)) RegKind.netPlace.fields = 0#64 := by decide
  have hm : placeMask &&& ~~~(0 : Word64) = placeMask := by decide
  simp only [writeWord, hrw, hc, hs, hm, BitVec.zero_and, BitVec.or_zero, BitVec.not_zero, BitVec.and_allOnes]

/-- A placement as written. -/
structure Placed (v w : Word64) : Prop where
  taken : (v ^^^ w) &&& placeMask = 0

theorem Placed.of_write (old v : Word64) : Placed v ((old &&& ~~~placeMask) ||| (v &&& placeMask)) := ⟨masked_xor old v placeMask⟩

theorem Placed.placeTaken {v w : Word64} (h : Placed v w) : placeTaken v w = true := (placeTaken_iff v w).mpr h.taken

theorem Placed.field {v w : Word64} (h : Placed v w) {f : Fld} (hf : ∀ i < f.w, placeMask.getLsbD (f.lo + i) = true) : getF w f = getF v f :=
  getF_eq_of_masked h.taken hf

theorem Placed.lock {v w : Word64} (h : Placed v w) : getF w NET_PLACE_LOCK = getF v NET_PLACE_LOCK := h.field (by decide)

theorem Placed.badPlace {v w : Word64} (h : Placed v w) (s : State) : s.badPlace w = s.badPlace v := by
  simp only [State.badPlace, h.field (f := NET_PLACE_SIZE_X_M1) (by decide), h.field (f := NET_PLACE_SIZE_Y_M1) (by decide),
    h.field (f := NET_PLACE_SIZE_Z_M1) (by decide), h.field (f := NET_PLACE_X) (by decide), h.field (f := NET_PLACE_Y) (by decide),
    h.field (f := NET_PLACE_Z) (by decide)]

/-- PLACE_ERR is no part of the placement. -/
theorem Placed.placeErr {v w : Word64} (h : Placed v w) (x : Nat) : Placed v (setF w NET_PLACE_PLACE_ERR x) :=
  ⟨masked_setF h.taken x (by decide) (by decide)⟩

/-- A placement that is not locked differs from one that locks. -/
theorem not_placeTaken_of_lock {v w : Word64} (hv : getF v NET_PLACE_LOCK = 1) (hw : getF w NET_PLACE_LOCK = 0) : placeTaken v w = false := by
  rw [← Bool.not_eq_true]
  intro h
  have e := Placed.lock ⟨(placeTaken_iff v w).mp h⟩
  omega

section
variable {s : State} {v : Word64}

/-- A plain write to NET_PLACE while it is not locked. -/
theorem State.writePlain_netPlace_open (hl : s.flag netPlace NET_PLACE_LOCK = false) :
    s.writePlain netPlace v (~~~0) = (s.wr netPlace ((s.rd netPlace &&& ~~~placeMask) ||| (v &&& placeMask))).nextCycle := by
  have hviol : s.lockViolated .netPlace (~~~0) = false := by rw [State.lockViolated, State.locked_netPlace, hl, Bool.false_and]
  unfold State.writePlain
  simp only [locate_at_netPlace, hviol, State.locked_netPlace, hl, writeWord_netPlace_open, Bool.false_eq_true, if_false]

/-- The cases of a write to NET_PLACE that is not locked: refused by R35, locking, or leaving it open. -/
theorem State.writePlace_open (hl : s.flag netPlace NET_PLACE_LOCK = false) : s.writePlace v (~~~0) =
    if getF v NET_PLACE_LOCK = 1 then
      if s.badPlace v then s.setFlag netPlace NET_PLACE_PLACE_ERR
      else (s.writePlain netPlace v (~~~0)).setFld netPlace NET_PLACE_PLACE_ERR 0
    else s.writePlain netPlace v (~~~0) := by
  have hp := Placed.of_write (s.rd netPlace) v
  have hlk : s.locked .netPlace = false := s.locked_netPlace.trans hl
  unfold State.writePlace
  rw [hlk, if_neg Bool.false_ne_true, writeWord_netPlace_open]
  dsimp only
  rw [hp.lock, hp.badPlace]

theorem State.writePlain_netPlace_placed (hl : s.flag netPlace NET_PLACE_LOCK = false) :
    Placed v ((s.writePlain netPlace v (~~~0)).rd netPlace) ∧ OnlyRegs (fun off => off = netPlace) s (s.writePlain netPlace v (~~~0)) := by
  rw [State.writePlain_netPlace_open hl]
  refine ⟨?_, (s.wr_onlyRegs _ _).trans (State.nextCycle_onlyRegs _ _)⟩
  rw [State.nextCycle_rd, State.rd_wr_same]
  exact .of_write _ _

/-- A write that R35 refuses only sets PLACE_ERR. -/
theorem State.writePlace_refused (hl : s.flag netPlace NET_PLACE_LOCK = false) (hv : getF v NET_PLACE_LOCK = 1) (hb : s.badPlace v = true) :
    (s.writePlace v (~~~0)).rd netPlace = setF (s.rd netPlace) NET_PLACE_PLACE_ERR 1 ∧
      OnlyRegs (fun off => off = netPlace) s (s.writePlace v (~~~0)) := by
  rw [State.writePlace_open hl, if_pos hv, if_pos hb]
  exact ⟨s.rd_setFld_same _ _ _, s.setFlag_onlyRegs _ _⟩

/-- A write that locks a placement R35 allows. -/
theorem State.writePlace_locks (hl : s.flag netPlace NET_PLACE_LOCK = false) (hv : getF v NET_PLACE_LOCK = 1) (hb : s.badPlace v = false) :
    Placed v ((s.writePlace v (~~~0)).rd netPlace) ∧ (s.writePlace v (~~~0)).flag netPlace NET_PLACE_PLACE_ERR = false ∧
      OnlyRegs (fun off => off = netPlace) s (s.writePlace v (~~~0)) := by
  obtain ⟨hp, ho⟩ := State.writePlain_netPlace_placed (v := v) hl
  rw [State.writePlace_open hl, if_pos hv, if_neg (by rw [hb]; exact Bool.false_ne_true)]
  refine ⟨?_, ?_, ho.trans (State.setFld_onlyRegs _ _ _ _)⟩
  · rw [State.rd_setFld_same]
    exact hp.placeErr 0
  · rw [State.flag, State.fld_setFld_same _ _ _ _ (by decide)]
    rfl

/-- A write that leaves the placement open. -/
theorem State.writePlace_leaves_open (hl : s.flag netPlace NET_PLACE_LOCK = false) (hv : getF v NET_PLACE_LOCK = 0) :
    Placed v ((s.writePlace v (~~~0)).rd netPlace) ∧ OnlyRegs (fun off => off = netPlace) s (s.writePlace v (~~~0)) := by
  rw [State.writePlace_open hl, if_neg (by rw [hv]; decide)]
  exact State.writePlain_netPlace_placed hl

/-- A write to the locked placement leaves it. -/
theorem State.writePlace_locked (hl : s.flag netPlace NET_PLACE_LOCK = true) : (s.writePlace v (~~~0)).rd netPlace = s.rd netPlace := by
  unfold State.writePlace
  rw [if_pos ((State.locked_netPlace s).trans hl), State.writePlain_netPlace_locked s v _ hl, State.nextCycle_rd]
  split
  · exact (State.rd_setFld_other _ _ _ _ _ (by decide)).trans (s.rd_wr_rd _ _)
  · exact s.rd_wr_rd _ _

theorem netPlaceWrite_completes (ht : s.takesWrites netPlace = true) {P : State → Prop} (h : P (s.writePlace v (~~~0))) :
    Completes (.netPlaceWrite v) s P :=
  ⟨_, congrArg Host.Outcome.next (if_pos ht), h⟩

theorem Placed.locked {t : State} (h : Placed v (t.rd netPlace)) (hv : getF v NET_PLACE_LOCK = 1) : t.flag netPlace NET_PLACE_LOCK = true := by
  rw [State.flag, State.fld, h.lock, hv]
  rfl

theorem netPlaceWrite_effects (ht : s.takesWrites netPlace = true) :
    (s.flag netPlace NET_PLACE_LOCK = false → getF v NET_PLACE_LOCK = 1 → s.badPlace v = true →
      Completes (.netPlaceWrite v) s fun t => t.rd netPlace = setF (s.rd netPlace) NET_PLACE_PLACE_ERR 1 ∧
        OnlyRegs (fun off => off = netPlace) s t) ∧
    (s.flag netPlace NET_PLACE_LOCK = false → getF v NET_PLACE_LOCK = 1 → s.badPlace v = false →
      Completes (.netPlaceWrite v) s fun t => placeTaken v (t.rd netPlace) = true ∧ t.flag netPlace NET_PLACE_PLACE_ERR = false ∧
        t.flag netPlace NET_PLACE_LOCK = true ∧ OnlyRegs (fun off => off = netPlace) s t) ∧
    (s.flag netPlace NET_PLACE_LOCK = false → getF v NET_PLACE_LOCK = 0 →
      Completes (.netPlaceWrite v) s fun t => placeTaken v (t.rd netPlace) = true ∧ OnlyRegs (fun off => off = netPlace) s t) := by
  refine ⟨fun hl hv hb => netPlaceWrite_completes ht (State.writePlace_refused hl hv hb), fun hl hv hb => netPlaceWrite_completes ht ?_,
    fun hl hv => netPlaceWrite_completes ht ?_⟩
  · obtain ⟨hp, he, ho⟩ := State.writePlace_locks hl hv hb
    exact ⟨hp.placeTaken, he, hp.locked hv, ho⟩
  · obtain ⟨hp, ho⟩ := State.writePlace_leaves_open hl hv
    exact ⟨hp.placeTaken, ho⟩

/-! ### SET_PLACE (R466) -/

theorem State.fwWrite_netPlace (hh : s.heldReset = false) : s.fwWrite netPlace v = s.writePlace v (~~~0) := by
  unfold State.fwWrite State.regWrite
  rw [State.takesWrites_netPlace hh, locate_at_netPlace]
  rfl

end

/-- A write to the placement that a command makes. -/
def State.placeWritten (s : State) (m : Fin 16) (v : Word64) : State := (started s m cSetPlace).writePlace v (~~~0)

/-- SET_PLACE ends with NET_PLACE as it then stands, and with REFUSED_BY_DEVICE where that is not what it was to hold. -/
theorem setPlace_ends {s : State} {m : Fin 16} (h : Ready s m cSetPlace) {v : Word64} (hv : BitVec.ofNat 64 (s.arg m 0 8) = v) :
    ∃ t, exec (.setPlace m) s = .next t ∧ t.rd netPlace = (s.placeWritten m v).rd netPlace ∧
      Ended t m (if placeTaken v (t.rd netPlace) then 0 else 0xF) ∧ Window t m (t.regBytes netPlace) := by
  have hs := started_from s m cSetPlace
  have he : exec (.setPlace m) s = .next ((s.placeWritten m v).mbFail m ((s.placeWritten m v).regBytes netPlace)
      (if placeTaken v ((s.placeWritten m v).rd netPlace) then 0 else 0xF)) := by
    change execSetPlace m s = _
    unfold execSetPlace State.atOnce
    rw [State.onCmd_ready h]
    dsimp only
    rw [hs.arg, hv, State.fwWrite_netPlace (hs.held.trans h.1)]
    rfl
  generalize s.placeWritten m v = u at he ⊢
  obtain ⟨hend, hwin, hsame⟩ := u.mbFail_ends m (u.regBytes netPlace) (code := if placeTaken v (u.rd netPlace) then 0 else 0xF)
    (by split <;> decide)
  have hrd := hsame netPlace (ne_mbStatus (by decide) m)
  refine ⟨_, he, hrd, ?_, ?_⟩
  · rw [hrd]
    exact hend
  · rw [hsame.regBytes (ne_mbStatus (by decide) m)]
    exact hwin

theorem setPlace_answers {s : State} {m : Fin 16} (h : Ready s m cSetPlace) {v : Word64} (hv : BitVec.ofNat 64 (s.arg m 0 8) = v) :
    (s.flag netPlace NET_PLACE_LOCK = false → getF v NET_PLACE_LOCK = 0 ∨ s.badPlace v = false → Completes (.setPlace m) s fun t =>
      Ended t m 0 ∧ placeTaken v (t.rd netPlace) = true ∧ Window t m (t.regBytes netPlace)) ∧
    (s.flag netPlace NET_PLACE_LOCK = false → getF v NET_PLACE_LOCK = 1 → s.badPlace v = true → Completes (.setPlace m) s fun t =>
      Ended t m 0xF ∧ t.flag netPlace NET_PLACE_PLACE_ERR = true ∧ Window t m (t.regBytes netPlace)) ∧
    (s.flag netPlace NET_PLACE_LOCK = true → placeTaken v (s.rd netPlace) = false → Completes (.setPlace m) s fun t =>
      Ended t m 0xF ∧ t.rd netPlace = s.rd netPlace ∧ Window t m (s.regBytes netPlace)) := by
  obtain ⟨t, he, hrd, hend, hwin⟩ := setPlace_ends h hv
  have hs := (started_from s m cSetPlace).regs
  have hflag (f : Fld) : (started s m cSetPlace).flag netPlace f = s.flag netPlace f := hs.flag (ne_mbStatus (by decide) m) f
  have hbad : (started s m cSetPlace).badPlace v = s.badPlace v := by
    rw [State.badPlace, hs.flag (ne_mbStatus (by decide) m), State.badPlace]
  have hplace := hs netPlace (ne_mbStatus (by decide) m)
  refine ⟨fun hl hok => ⟨t, he, ?_⟩, fun hl hlk hb => ⟨t, he, ?_⟩, fun hl hno => ⟨t, he, ?_⟩⟩
  · have hp : Placed v (t.rd netPlace) := by
      rw [hrd]
      by_cases hlk : getF v NET_PLACE_LOCK = 1
      · have hb := hok.resolve_left (by omega)
        exact (State.writePlace_locks ((hflag _).trans hl) hlk (hbad.trans hb)).1
      · have hlk : getF v NET_PLACE_LOCK = 0 := by
          have : getF v NET_PLACE_LOCK < 2 := Nat.mod_lt _ (by decide)
          omega
        exact (State.writePlace_leaves_open ((hflag _).trans hl) hlk).1
    rw [hp.placeTaken, if_pos rfl] at hend
    exact ⟨hend, hp.placeTaken, hwin⟩
  · have hw := (State.writePlace_refused ((hflag _).trans hl) hlk (hbad.trans hb)).1
    have ht : t.rd netPlace = setF (s.rd netPlace) NET_PLACE_PLACE_ERR 1 := by rw [hrd, ← hplace]; exact hw
    have hopen : getF (t.rd netPlace) NET_PLACE_LOCK = 0 := by
      rw [ht, getF_setF_other _ _ _ _ (by decide) (by decide)]
      exact not_not.mp (of_decide_eq_false hl)
    rw [not_placeTaken_of_lock hlk hopen, if_neg Bool.false_ne_true] at hend
    refine ⟨hend, ?_, hwin⟩
    rw [State.flag, State.fld, ht, getF_setF_same _ _ _ (by decide)]
    rfl
  · have ht : t.rd netPlace = s.rd netPlace := by
      rw [hrd, State.placeWritten, State.writePlace_locked ((hflag _).trans hl), hplace]
    rw [ht, hno, if_neg Bool.false_ne_true] at hend
    rw [State.regBytes, ht] at hwin
    exact ⟨hend, ht, hwin⟩

end Sys2Proof.Machine
end

section
/-!
SET_PORTS on one link that is OFF (R361, R362, R365, R366, R466): what each of its steps leaves.
-/

namespace Sys2Proof.Machine

/-! ### Registers of the links -/

theorem locate_lnkCtl (l : Fin 24) : locate (lnkCtl l) = some (.lnkCtl, l.val, 0) := by revert l; decide

theorem locate_netPortMap (l : Fin 24) : locate (netPortMap l) = some (.netPortMap, l.val, 0) := by revert l; decide

/-- A register on the network die takes writes (R501). -/
theorem State.takesWrites_of {s : State} (hh : s.heldReset = false) {off : Nat} (h : 0x02180000 ≤ off) : s.takesWrites off = true := by
  have hoff : onComputeDie off = false := decide_eq_false (by omega)
  rw [State.takesWrites, hh, hoff, Bool.and_false]
  rfl

theorem finOr_val (l : Fin 24) : (finOr (by decide) l.val : Fin 24) = l := Fin.ext (Nat.mod_eq_of_lt l.isLt)

/-- A plain write touches its register, and no field of a register that is never locked is a locked one. -/
theorem State.writePlain_eq {s : State} {off i j : Nat} {k : RegKind} (hl : locate off = some (k, i, j)) (hk : k ≠ .netPlace) (v m : Word64) :
    s.writePlain off v m = (s.wr off (writeWord k.fields false (s.beforeRd off) (s.rd off) v m)).nextCycle := by
  have hlk : s.locked k = false := by rw [State.locked, decide_eq_false hk, Bool.false_and]
  have hviol : s.lockViolated k m = false := by rw [State.lockViolated, hlk, Bool.false_and]
  unfold State.writePlain
  simp only [hl, hlk, hviol, Bool.false_eq_true, if_false]

theorem State.writePlain_onlyRegs {s : State} {off i j : Nat} {k : RegKind} (hl : locate off = some (k, i, j)) (hk : k ≠ .netPlace) (v m : Word64) :
    OnlyRegs (fun o => o = off) s (s.writePlain off v m) := by
  rw [State.writePlain_eq hl hk]
  exact (s.wr_onlyRegs _ _).trans (State.nextCycle_onlyRegs _ _)

/-! ### EN cleared on a link that has none -/

/-- Clearing EN writes that bit alone. -/
theorem writeWord_clearEn (before old : Word64) : writeWord RegKind.lnkCtl.fields false before old (setF 0 LNK_CTL_EN 0)
    (setF 0 LNK_CTL_EN (2 ^ LNK_CTL_EN.w - 1)) = old &&& ~~~1#64 := by
  have hm : setF 0 LNK_CTL_EN (2 ^ LNK_CTL_EN.w - 1) = 1#64 := by decide
  have hv : setF 0 LNK_CTL_EN 0 = 0#64 := by decide
  have hrw : accMask (fun f => decide (f.acc = .rw) || (decide (f.acc = .rwl) && !false)) RegKind.lnkCtl.fields &&& 1#64 = 1#64 := by decide
  simp only [writeWord, hm, hv, hrw, BitVec.zero_and, BitVec.and_zero, BitVec.or_zero, BitVec.not_zero, BitVec.and_allOnes]

theorem getF_clearEn (old : Word64) : getF (old &&& ~~~1#64) LNK_CTL_EN = 0 := by
  rw [show LNK_CTL_EN = ⟨0, 1⟩ from rfl, getF_bit, BitVec.getLsbD_and]
  simp

/-- The registers that show a link's hop: its own, and EFF_TIMEOUT (R318). -/
def HopReg (l off : Nat) : Prop := off = netPortHop l ∨ off = lnkStatus l

theorem State.showHop_onlyRegs (s : State) (l : Nat) : OnlyRegs (HopReg l) s (s.showHop l) :=
  (((s.setFld_onlyRegs _ _ _).mono fun _ => .inl).trans ((State.setFld_onlyRegs _ _ _ _).mono fun _ => .inl)).trans
    ((State.setFld_onlyRegs _ _ _ _).mono fun _ => .inr)

theorem State.showHop_lstate (s : State) (l : Nat) : (s.showHop l).lstate l = s.lstate l := by
  have hne : lnkStatus l ≠ netPortHop l := by simp only [lnkStatus, netPortHop]; omega
  unfold State.lstate State.showHop
  extract_lets d m ok u v
  rw [State.fld_setFld_field _ _ _ _ _ (by decide) (.inr (by decide))]
  exact (State.fld_setFld_other _ _ _ _ _ _ hne).trans (State.fld_setFld_other _ _ _ _ _ _ hne)

/-- A write to LNK_CTL by which EN stays 0, and which asks neither for retraining nor for a width, is a plain one. -/
theorem State.writeLnkCtl_still {s : State} {l : Fin 24} {v m : Word64} (hen : s.flag (lnkCtl l) LNK_CTL_EN = false)
    (hen' : ((s.writePlain (lnkCtl l) v m).showHop l).flag (lnkCtl l) LNK_CTL_EN = false) (hr : getF (v &&& m) LNK_CTL_RETRAIN = 0)
    (hw : getF (v &&& m) LNK_CTL_WIDTH_GO = 0) : s.writeLnkCtl l v m = (s.writePlain (lnkCtl l) v m).showHop l := by
  unfold State.writeLnkCtl
  dsimp only
  rw [hen, hen', if_neg (by rw [hw]; decide), if_neg fun h => by rw [hr] at h; exact absurd h.1 (by decide)]

/-- Firmware's write of EN 0 (R365), by access type alone. -/
def State.enCleared (s : State) (l : Fin 24) : State :=
  s.writePlain (lnkCtl l) (setF 0 LNK_CTL_EN 0) (setF 0 LNK_CTL_EN (2 ^ LNK_CTL_EN.w - 1))

theorem State.enCleared_onlyRegs (s : State) (l : Fin 24) : OnlyRegs (fun off => off = lnkCtl l) s (s.enCleared l) :=
  State.writePlain_onlyRegs (locate_lnkCtl l) (by decide) _ _

theorem State.enCleared_rd (s : State) (l : Fin 24) : (s.enCleared l).rd (lnkCtl l) = s.rd (lnkCtl l) &&& ~~~1#64 := by
  rw [State.enCleared, State.writePlain_eq (locate_lnkCtl l) (by decide), writeWord_clearEn, State.nextCycle_rd, State.rd_wr_same]

theorem State.enCleared_flag (s : State) (l : Fin 24) : ((s.enCleared l).showHop l).flag (lnkCtl l) LNK_CTL_EN = false := by
  have hhop : ¬ HopReg l (lnkCtl l) := by simp only [HopReg, lnkCtl, netPortHop, lnkStatus]; omega
  rw [State.flag, (State.showHop_onlyRegs _ _).fld hhop, State.fld, State.enCleared_rd, getF_clearEn]
  rfl

theorem State.clearEn_eq {s : State} (hh : s.heldReset = false) {l : Fin 24} (hen : s.flag (lnkCtl l) LNK_CTL_EN = false) :
    s.fwField (lnkCtl l) LNK_CTL_EN 0 = (s.enCleared l).showHop l := by
  unfold State.fwField State.regWrite
  rw [State.takesWrites_of hh (by simp only [lnkCtl]; omega), locate_lnkCtl]
  simp only [Bool.not_true, Bool.false_eq_true, if_false, State.writeKind, finOr_val]
  exact State.writeLnkCtl_still hen (s.enCleared_flag l) (by decide) (by decide)

/-- The link stays OFF, and only registers that its hop and its EN stand in change. -/
theorem State.clearEn_off {s : State} (hh : s.heldReset = false) {l : Fin 24} (hen : s.flag (lnkCtl l) LNK_CTL_EN = false) :
    OnlyRegs (fun off => off = lnkCtl l ∨ HopReg l off) s (s.fwField (lnkCtl l) LNK_CTL_EN 0) ∧
      (s.fwField (lnkCtl l) LNK_CTL_EN 0).flag (lnkCtl l) LNK_CTL_EN = false ∧ (s.fwField (lnkCtl l) LNK_CTL_EN 0).lstate l = s.lstate l := by
  rw [State.clearEn_eq hh hen]
  refine ⟨((s.enCleared_onlyRegs l).mono fun _ => .inl).trans ((State.showHop_onlyRegs _ _).mono fun _ => .inr), s.enCleared_flag l,
    (State.showHop_lstate _ _).trans ?_⟩
  exact (s.enCleared_onlyRegs l).fld (by simp only [lnkStatus, lnkCtl]; omega) LNK_STATUS_STATE

/-! ### The port map (R361, R362) -/

/-- The fields of NET_PORT_MAP. -/
def mapMask : Word64 := accMask (fun f => decide (f.acc = .rw)) RegKind.netPortMap.fields

theorem writeWord_netPortMap (before old v : Word64) :
    writeWord RegKind.netPortMap.fields false before old v (~~~0) = (old &&& ~~~mapMask) ||| (v &&& mapMask) := by
  have hrw : accMask (fun f => decide (f.acc = .rw) || (decide (f.acc = .rwl) && !false)) RegKind.netPortMap.fields = mapMask := by decide
  have hc : accMask (fun f => decide (f.acc = .w1c)) RegKind.netPortMap.fields = 0#64 := by decide
  have hs : accMask (fun f => decide (f.acc = .w1s)) RegKind.netPortMap.fields = 0#64 := by decide
  have hm : mapMask &&& ~~~(0 : Word64) = mapMask := by decide
  simp only [writeWord, hrw, hc, hs, hm, BitVec.zero_and, BitVec.or_zero, BitVec.not_zero, BitVec.and_allOnes]

/-- A duplicated write of a link's map, while it is OFF, sets the map and counts the commit (R362, R454). -/
theorem State.dupWrite_map {s : State} (hh : s.heldReset = false) {l : Fin 24} (hoff : s.lstate l = lsOff) (v : Word64) :
    OnlyRegs (fun off => off = netPortMap l ∨ off = ctlPostStat) s (s.dupWrite (netPortMap l) v) ∧
      ((s.dupWrite (netPortMap l) v).rd (netPortMap l) ^^^ v) &&& mapMask = 0 ∧
      (s.dupWrite (netPortMap l) v).fld ctlPostStat CTL_POST_STAT_COMMITS = (s.fld ctlPostStat CTL_POST_STAT_COMMITS + 1) % 2 ^ 32 := by
  have hw : s.fwWrite (netPortMap l) v = s.writePlain (netPortMap l) v (~~~0) := by
    unfold State.fwWrite State.regWrite
    rw [State.takesWrites_of hh (by simp only [netPortMap]; omega), locate_netPortMap]
    exact if_pos hoff
  have ho : OnlyRegs (fun off => off = netPortMap l) s (s.writePlain (netPortMap l) v (~~~0)) :=
    State.writePlain_onlyRegs (locate_netPortMap l) (by decide) _ _
  have hrd : (s.writePlain (netPortMap l) v (~~~0)).rd (netPortMap l) = (s.rd (netPortMap l) &&& ~~~mapMask) ||| (v &&& mapMask) := by
    rw [State.writePlain_eq (locate_netPortMap l) (by decide), writeWord_netPortMap, State.nextCycle_rd, State.rd_wr_same]
  have hne : netPortMap l ≠ ctlPostStat := by simp only [netPortMap, ctlPostStat]; omega
  unfold State.dupWrite State.commits State.wrapAdd
  rw [hw]
  refine ⟨(ho.mono fun _ => .inl).trans ((State.setFld_onlyRegs _ _ _ _).mono fun _ => .inr), ?_, ?_⟩
  · rw [State.rd_setFld_other _ _ _ _ _ hne, hrd, BitVec.xor_comm]
    exact masked_xor _ _ _
  · rw [State.fld_setFld_same _ _ _ _ (by decide), ho.fld hne.symm]
    rfl

/-! ### The lanes of a link restored from the retirement list (R336, R366) -/

/-- The registers in which the lanes and lasers of a link are kept. -/
def LaneReg (l off : Nat) : Prop := off = lnkLaneCtl l ∨ off = lnkLaneMap l ∨ (0x04808200 ≤ off ∧ off < 0x05000000)

theorem State.putMap_onlyRegs (s : State) (l base : Nat) (mp : List Nat) : OnlyRegs (LaneReg l) s (s.putMap l base mp) :=
  .foldl _ _ (fun s _ _ => (s.setFld_onlyRegs _ _ _).mono fun _ h => .inr (.inl h)) s

theorem State.mapFailed_onlyRegs (s : State) (l : Nat) : OnlyRegs (LaneReg l) s (s.mapFailed l) := by
  unfold State.mapFailed
  extract_lets f place
  have hplace (s : State) (base from_ : Nat) : OnlyRegs (LaneReg l) s (place s base from_) := by
    simp only [place]
    split
    · exact s.putMap_onlyRegs _ _ _
    · exact .of_eq s
  exact .ite ((hplace s _ _).trans (hplace _ _ _)) (.of_eq s)

/-- A record of one of the link's lanes, or of a laser that there is, applied. -/
theorem State.applyRecord_onlyRegs (s : State) (l : Fin 24) (r : Retired) (hk : r.kind = 5 ∨ r.kind = 6) (hu : r.unit = l)
    (hi : r.kind = 6 → r.index < 10) : OnlyRegs (LaneReg l) s (s.applyRecord r) := by
  unfold State.applyRecord
  rcases hk with hk | hk
  · simp only [hk, hu]
    exact ((s.wr_onlyRegs _ _).mono fun _ h => .inl h).trans (State.mapFailed_onlyRegs _ _)
  · have hi := hi hk
    simp only [hk, hu]
    refine .ite ((s.setFld_onlyRegs _ _ _).mono fun off h => .inr (.inr ?_)) (.of_eq s)
    have hl := l.isLt
    simp only [lnkLaser] at h
    omega

theorem State.restoreLanes_onlyRegs (s : State) (l : Fin 24) (h : ∀ r ∈ s.fw.retired, r.kind = 6 → r.index < 10) :
    OnlyRegs (LaneReg l) s (s.restoreLanes l) := by
  refine .foldl _ _ (fun t r hr => ?_) s
  obtain ⟨hm, hd⟩ := List.mem_filter.mp hr
  obtain ⟨hk, hu⟩ := of_decide_eq_true hd
  exact t.applyRecord_onlyRegs l r hk hu (h r hm)

end Sys2Proof.Machine
end

section
/-!
SET_PORTS (R360, R365, R464, R466): its wait for the enabled links, its end, and the whole of it on one link that is OFF.
-/

namespace Sys2Proof.Machine

/-! ### The wait for the enabled links (R464) -/

/-- Every link that is enabled and has a role is UP. -/
def State.allUp (s : State) : Prop :=
  ∀ l : Fin 24, s.flag (lnkCtl l) LNK_CTL_EN = true → s.fld (netPortMap l) NET_PORT_MAP_ROLE ≠ 0 → s.lstate l = lsUp

theorem State.allUp_iff (s : State) : ((List.range 24).all fun l =>
    !(s.flag (lnkCtl l) LNK_CTL_EN && decide (s.fld (netPortMap l) NET_PORT_MAP_ROLE ≠ 0)) || decide (s.lstate l = lsUp)) = true ↔ s.allUp := by
  have hl (l : Nat) : (!(s.flag (lnkCtl l) LNK_CTL_EN && decide (s.fld (netPortMap l) NET_PORT_MAP_ROLE ≠ 0)) || decide (s.lstate l = lsUp)) = true ↔
      (s.flag (lnkCtl l) LNK_CTL_EN = true → s.fld (netPortMap l) NET_PORT_MAP_ROLE ≠ 0 → s.lstate l = lsUp) := by
    simp only [Bool.or_eq_true, Bool.not_eq_true', Bool.and_eq_false_imp, decide_eq_true_eq, decide_eq_false_iff_not]
    tauto
  simp only [List.all_eq_true, List.mem_range, hl]
  exact ⟨fun h l => h l l.isLt, fun h l hlt => h ⟨l, hlt⟩⟩

theorem State.waitPorts_up {s : State} (h : s.allUp) (m : Fin 16) : s.waitPorts m = s.endPorts m := if_pos (s.allUp_iff.mpr h)

theorem State.waitPorts_down {s : State} (h : ¬ s.allUp) (m : Fin 16) : s.waitPorts m = s := if_neg fun hu => h (s.allUp_iff.mp hu)

/-- Two states agree on the wait when they agree on each link that is enabled in one of them. -/
theorem State.allUp_congr {s t : State} (hen : ∀ l : Fin 24, t.flag (lnkCtl l) LNK_CTL_EN = s.flag (lnkCtl l) LNK_CTL_EN)
    (hl : ∀ l : Fin 24, s.flag (lnkCtl l) LNK_CTL_EN = true →
      t.fld (netPortMap l) NET_PORT_MAP_ROLE = s.fld (netPortMap l) NET_PORT_MAP_ROLE ∧ t.lstate l = s.lstate l) : t.allUp ↔ s.allUp := by
  refine forall_congr' fun l => ?_
  rw [hen l]
  refine imp_congr_right fun h => ?_
  rw [(hl l h).1, (hl l h).2]

theorem lnkCtl_ne_mbStatus (l : Nat) (m : Fin 16) : lnkCtl l ≠ mbStatus m := ne_mbStatus (.inr (by simp only [lnkCtl]; omega)) m

theorem lnkStatus_ne_mbStatus (l : Nat) (m : Fin 16) : lnkStatus l ≠ mbStatus m := ne_mbStatus (.inr (by simp only [lnkStatus]; omega)) m

theorem netPortMap_ne_mbStatus (l : Nat) (m : Fin 16) : netPortMap l ≠ mbStatus m := ne_mbStatus (.inr (by simp only [netPortMap]; omega)) m

theorem SameBut.allUp {m : Fin 16} {s t : State} (h : SameBut m s t) : t.allUp ↔ s.allUp :=
  State.allUp_congr (fun l => h.flag (lnkCtl_ne_mbStatus l m) _) fun l _ =>
    ⟨h.fld (netPortMap_ne_mbStatus l m) _, h.fld (lnkStatus_ne_mbStatus l m) _⟩

/-! ### The end (R360, R466) -/

/-- SET_PORTS on a link that is not UP has nothing to survey. -/
theorem State.applySurvey_off {s : State} {l : Nat} (h : s.lstate l = lsOff) : s.applySurvey l = s :=
  if_pos (by rw [h]; decide)

/-- With the survey of the moved links applied, SET_PORTS ends with the table. -/
theorem State.endPorts_ends (s : State) (m : Fin 16) : ∃ u, u = (maskList 24 s.fw.mb[m].aux).foldl State.applySurvey s ∧
    Ended (s.endPorts m) m 0 ∧ Window (s.endPorts m) m (s.endPorts m).surveyTable ∧ SameBut m u (s.endPorts m) := by
  refine ⟨_, rfl, ?_⟩
  rw [State.endPorts]
  generalize (maskList 24 s.fw.mb[m].aux).foldl State.applySurvey s = u
  obtain ⟨he, hw, hs⟩ := u.mbFail_ends m u.surveyTable (code := 0) (by decide)
  refine ⟨he, ?_, hs⟩
  exact hs.surveyTable.symm ▸ hw

/-- SET_PORTS that goes on (R464). -/
theorem setPorts_runs {s : State} {m : Fin 16} (h : Runs s m cSetPorts) :
    (s.allUp → Completes (.setPorts m) s fun t => Ended t m 0 ∧ Window t m t.surveyTable) ∧
    (¬ s.allUp → Completes (.setPorts m) s fun t => t = s) := by
  have he : exec (.setPorts m) s = .next (s.waitPorts m) := congrArg Host.Outcome.next (State.onCmd_runs h _ _)
  refine ⟨fun hu => ⟨_, he, ?_⟩, fun hu => ⟨_, he, State.waitPorts_down hu m⟩⟩
  obtain ⟨-, -, hend, hwin, -⟩ := s.endPorts_ends m
  rw [State.waitPorts_up hu]
  exact ⟨hend, hwin⟩

/-! ### The links it changes -/

/-- The mailbox keeps the links that SET_PORTS changes. -/
def State.keepMoves (s : State) (m : Fin 16) (moves : List Nat) : State := s.modMb m fun x => { x with aux := sumNat (moves.map (2 ^ ·)) }

theorem State.keepMoves_fw (s : State) (m : Fin 16) (moves : List Nat) : (s.keepMoves m moves).fw.mb[m].aux = sumNat (moves.map (2 ^ ·)) ∧
    (s.keepMoves m moves).fw.mb[m].cmd = s.fw.mb[m].cmd := by
  constructor <;> simp [State.keepMoves, State.modMb]

theorem StartedFrom.portArg {m : Fin 16} {s t : State} (h : StartedFrom m s t) (l : Nat) : t.portArg m l = s.portArg m l :=
  congrArg (BitVec.ofNat 64) (h.arg _ _)

theorem StartedFrom.enArg {m : Fin 16} {s t : State} (h : StartedFrom m s t) (l : Nat) : t.enArg m l = s.enArg m l :=
  congrArg (bit · l) (h.arg _ _)

theorem StartedFrom.portMoves {m : Fin 16} {s t : State} (h : StartedFrom m s t) : t.portMoves m = s.portMoves m := by
  unfold State.portMoves
  refine congrArg (fun f => (List.range 24).filter f) (funext fun l => ?_)
  rw [h.enArg, h.portArg, h.regs.flag (lnkCtl_ne_mbStatus l m), h.regs _ (netPortMap_ne_mbStatus l m)]

/-- Keeping the links leaves what the start of the command leaves. -/
theorem StartedFrom.keepMoves {m : Fin 16} {s t : State} (h : StartedFrom m s t) (moves : List Nat) : StartedFrom m s (t.keepMoves m moves) where
  regs := h.regs
  state := h.state
  held := h.held
  gated := h.gated
  cmd := (t.keepMoves_fw m moves).2.trans h.cmd
  retired := h.retired

/-- SET_PORTS has started, and keeps the links it changes. -/
def State.portsBegun (s : State) (m : Fin 16) : State := (started s m cSetPorts).keepMoves m (s.portMoves m)

theorem State.portsBegun_from (s : State) (m : Fin 16) : StartedFrom m s (s.portsBegun m) := (started_from s m cSetPorts).keepMoves _

theorem State.portsBegun_aux (s : State) (m : Fin 16) : (s.portsBegun m).fw.mb[m].aux = sumNat ((s.portMoves m).map (2 ^ ·)) :=
  (State.keepMoves_fw _ _ _).1

/-! ### Nothing to change -/

theorem setPorts_nil_exec {s : State} {m : Fin 16} (h : Ready s m cSetPorts) (hm : s.portMoves m = []) :
    exec (.setPorts m) s = .next ((s.portsBegun m).waitPorts m) := by
  refine congrArg Host.Outcome.next ((State.onCmd_ready h _ _).trans ?_)
  unfold State.beginPorts
  rw [(started_from s m cSetPorts).portMoves, State.portsBegun, hm]
  rfl

theorem setPorts_nil {s : State} {m : Fin 16} (h : Ready s m cSetPorts) (hm : s.portMoves m = []) :
    (s.allUp → Completes (.setPorts m) s fun t => Ended t m 0 ∧ Window t m s.surveyTable) ∧
    (¬ s.allUp → Completes (.setPorts m) s fun t => t.mbState m = 2) := by
  have he := setPorts_nil_exec h hm
  have hs := s.portsBegun_from m
  refine ⟨fun hu => ⟨_, he, ?_⟩, fun hu => ⟨_, he, ?_⟩⟩
  · have hnone : maskList 24 (s.portsBegun m).fw.mb[m].aux = [] := by
      rw [State.portsBegun_aux, hm]
      decide
    obtain ⟨u, hfold, hend, hwin, hsame⟩ := (s.portsBegun m).endPorts_ends m
    rw [hnone] at hfold
    subst hfold
    rw [State.waitPorts_up (hs.regs.allUp.mpr hu), ← (hs.regs.trans hsame).surveyTable]
    exact ⟨hend, hwin⟩
  · rw [State.waitPorts_down fun h => hu (hs.regs.allUp.mp h)]
    exact hs.state

/-! ### One link that is OFF -/

/-- The registers that a new map of a link that is OFF may change. -/
def MovedReg (l off : Nat) : Prop := off = lnkCtl l ∨ HopReg l off ∨ off = netPortMap l ∨ off = ctlPostStat ∨ LaneReg l off

/-- Steps 2 and 4 of R365 on one link. -/
def State.moveLink (s : State) (m : Fin 16) (l : Fin 24) : State :=
  ((s.fwField (lnkCtl l) LNK_CTL_EN 0).dupWrite (netPortMap l) (s.portArg m l)).restoreLanes l

/-- What the change of map leaves of a link that is OFF and has EN 0. -/
structure LinkMoved (m : Fin 16) (l : Fin 24) (s t : State) : Prop where
  only : OnlyRegs (MovedReg l) s t
  map : (t.rd (netPortMap l) ^^^ s.portArg m l) &&& mapMask = 0
  en : t.flag (lnkCtl l) LNK_CTL_EN = false
  off : t.lstate l = lsOff
  commits : t.fld ctlPostStat CTL_POST_STAT_COMMITS = (s.fld ctlPostStat CTL_POST_STAT_COMMITS + 1) % 2 ^ 32

theorem State.moveLink_moved {s : State} (m : Fin 16) {l : Fin 24} (hh : s.heldReset = false) (hen : s.flag (lnkCtl l) LNK_CTL_EN = false)
    (hoff : s.lstate l = lsOff) (hr : ∀ r ∈ s.fw.retired, r.kind = 6 → r.index < 10) : LinkMoved m l s (s.moveLink m l) := by
  have hl := l.isLt
  obtain ⟨hoE, henE, hlE⟩ := State.clearEn_off hh hen
  unfold State.moveLink
  generalize s.fwField (lnkCtl l) LNK_CTL_EN 0 = u at *
  have hheld : u.heldReset = false := by rw [State.heldReset, hoE.pwr]; exact hh
  obtain ⟨hoD, hmapD, hcD⟩ := State.dupWrite_map hheld (hlE.trans hoff) (s.portArg m l)
  have hoR := State.restoreLanes_onlyRegs (u.dupWrite (netPortMap l) (s.portArg m l)) l (by rw [hoD.fw, hoE.fw]; exact hr)
  generalize u.dupWrite (netPortMap l) (s.portArg m l) = v at *
  generalize v.restoreLanes l = w at *
  have hctl : ¬ LaneReg l (lnkCtl l) ∧ lnkCtl l ≠ netPortMap l ∧ lnkCtl l ≠ ctlPostStat := by
    simp only [LaneReg, lnkCtl, lnkLaneCtl, lnkLaneMap, netPortMap, ctlPostStat]; omega
  have hst : ¬ LaneReg l (lnkStatus l) ∧ lnkStatus l ≠ netPortMap l ∧ lnkStatus l ≠ ctlPostStat := by
    simp only [LaneReg, lnkStatus, lnkLaneCtl, lnkLaneMap, netPortMap, ctlPostStat]; omega
  have hmap : ¬ LaneReg l (netPortMap l) := by simp only [LaneReg, lnkLaneCtl, lnkLaneMap, netPortMap]; omega
  have hpost : ¬ LaneReg l ctlPostStat ∧ ¬ (ctlPostStat = lnkCtl l ∨ HopReg l ctlPostStat) := by
    simp only [LaneReg, HopReg, lnkCtl, lnkLaneCtl, lnkLaneMap, ctlPostStat, netPortHop, lnkStatus]; omega
  constructor
  case only =>
    refine ((hoE.mono fun off h => ?_).trans (hoD.mono fun off h => ?_)).trans (hoR.mono fun off h => ?_)
    · exact h.imp_right .inl
    · exact .inr (.inr (h.imp_right .inl))
    · exact .inr (.inr (.inr (.inr h)))
  case map => rw [hoR.1 _ hmap]; exact hmapD
  case en =>
    rw [State.flag, hoR.fld hctl.1, hoD.fld (not_or.mpr hctl.2)]
    exact henE
  case off => exact ((hoR.fld hst.1 _).trans (hoD.fld (not_or.mpr hst.2) _)).trans (hlE.trans hoff)
  case commits =>
    rw [hoR.fld hpost.1, hcD, hoE.fld hpost.2]

/-- The other links are as they were. -/
theorem LinkMoved.allUp {m : Fin 16} {l : Fin 24} {s t : State} (h : LinkMoved m l s t) (hen : s.flag (lnkCtl l) LNK_CTL_EN = false) :
    t.allUp ↔ s.allUp := by
  have hl := l.isLt
  have hother (k : Fin 24) (hk : k ≠ l) : ¬ MovedReg l (lnkCtl k) ∧ ¬ MovedReg l (netPortMap k) ∧ ¬ MovedReg l (lnkStatus k) := by
    have hk' : k.val ≠ l.val := fun e => hk (Fin.ext e)
    have hlt := k.isLt
    simp only [MovedReg, HopReg, LaneReg, lnkCtl, netPortMap, lnkStatus, netPortHop, ctlPostStat, lnkLaneCtl, lnkLaneMap]
    omega
  refine State.allUp_congr (fun k => ?_) fun k hk => ?_
  · by_cases e : k = l
    · rw [e, h.en, hen]
    · rw [State.flag, h.only.fld (hother k e).1, State.flag]
  · have e : k ≠ l := fun e => by
      rw [e, hen] at hk
      exact Bool.false_ne_true hk
    exact ⟨h.only.fld (hother k e).2.1 _, h.only.fld (hother k e).2.2 _⟩

theorem OnlyRegs.portArg {p : Nat → Prop} {s t : State} (h : OnlyRegs p s t) (m : Fin 16) (l : Nat) : t.portArg m l = s.portArg m l := by
  simp only [State.portArg, State.arg, h.fw]

theorem OnlyRegs.enArg {p : Nat → Prop} {s t : State} (h : OnlyRegs p s t) (m : Fin 16) (l : Nat) : t.enArg m l = s.enArg m l := by
  simp only [State.enArg, State.arg, h.fw]

/-- SET_PORTS on a link that it does not enable begins with the change of its map. -/
theorem setPorts_one_exec {s : State} {m : Fin 16} {l : Fin 24} (h : Ready s m cSetPorts) (hm : s.portMoves m = [l.val])
    (hea : s.enArg m l = false) (hen : (s.portsBegun m).flag (lnkCtl l) LNK_CTL_EN = false)
    (hu : LinkMoved m l (s.portsBegun m) ((s.portsBegun m).moveLink m l)) :
    exec (.setPorts m) s = .next (((s.portsBegun m).moveLink m l).waitPorts m) := by
  have hb := s.portsBegun_from m
  have hheld : (s.portsBegun m).heldReset = false := hb.held.trans h.1
  have harg := (State.clearEn_off hheld hen).1.portArg m l
  have hena : ((s.portsBegun m).moveLink m l).enArg m l = false := (hu.only.enArg m l).trans ((hb.enArg l).trans hea)
  refine congrArg Host.Outcome.next ((State.onCmd_ready h _ _).trans ?_)
  rw [State.beginPorts, (started_from s m cSetPorts).portMoves]
  rw [State.moveLink, State.portsBegun, hm] at *
  rw [State.keepMoves] at *
  simp only [List.foldl_cons, List.foldl_nil, harg, hena, Bool.false_eq_true, if_false]

/-- The kept set of one link. -/
theorem maskList_one (l : Fin 24) : maskList 24 (sumNat ([l.val].map (2 ^ ·))) = [l.val] := by revert l; decide

theorem setPorts_one {s : State} {m : Fin 16} {l : Fin 24} (h : Ready s m cSetPorts) (hr : ∀ r ∈ s.fw.retired, r.kind = 6 → r.index < 10)
    (hm : s.portMoves m = [l.val]) (hea : s.enArg m l = false) (hen : s.flag (lnkCtl l) LNK_CTL_EN = false) (hoff : s.lstate l = lsOff) :
    Completes (.setPorts m) s fun t =>
      (t.rd (netPortMap l) ^^^ s.portArg m l) &&& mapMask = 0 ∧ t.flag (lnkCtl l) LNK_CTL_EN = false ∧
        t.fld ctlPostStat CTL_POST_STAT_COMMITS = (s.fld ctlPostStat CTL_POST_STAT_COMMITS + 1) % 2 ^ 32 ∧
        (s.allUp → Ended t m 0 ∧ Window t m t.surveyTable) ∧ (¬ s.allUp → t.mbState m = 2) := by
  have hb := s.portsBegun_from m
  have henB : (s.portsBegun m).flag (lnkCtl l) LNK_CTL_EN = false := (hb.regs.flag (lnkCtl_ne_mbStatus l m) _).trans hen
  have hmv : LinkMoved m l (s.portsBegun m) ((s.portsBegun m).moveLink m l) := State.moveLink_moved m (hb.held.trans h.1) henB
    ((hb.regs.fld (lnkStatus_ne_mbStatus l m) _).trans hoff) (by rw [hb.retired]; exact hr)
  have he := setPorts_one_exec h hm hea henB hmv
  have haux := s.portsBegun_aux m
  rw [hm] at haux
  generalize s.portsBegun m = b at *
  generalize b.moveLink m l = u at *
  have hup : u.allUp ↔ s.allUp := (hmv.allUp henB).trans hb.regs.allUp
  have hpost : ctlPostStat ≠ mbStatus m := ne_mbStatus (by decide) m
  have hmap := hmv.map
  have hcom := hmv.commits
  rw [hb.portArg] at hmap
  rw [hb.regs.fld hpost] at hcom
  refine ⟨_, he, ?_⟩
  by_cases hall : s.allUp
  · obtain ⟨w, hfold, hend, hwin, hsame⟩ := u.endPorts_ends m
    rw [hmv.only.fw, haux, maskList_one, List.foldl_cons, List.foldl_nil, State.applySurvey_off hmv.off] at hfold
    subst hfold
    rw [State.waitPorts_up (hup.mpr hall)]
    refine ⟨?_, (hsame.flag (lnkCtl_ne_mbStatus l m) _).trans hmv.en, (hsame.fld hpost _).trans hcom, fun _ => ⟨hend, hwin⟩, fun hn => absurd hall hn⟩
    rw [hsame _ (netPortMap_ne_mbStatus l m)]
    exact hmap
  · rw [State.waitPorts_down fun hu => hall (hup.mp hu)]
    refine ⟨hmap, hmv.en, hcom, fun hu => absurd hu hall, fun _ => ?_⟩
    have hmb : ¬ MovedReg l (mbStatus m) := by
      simp only [MovedReg, HopReg, LaneReg, lnkCtl, netPortMap, lnkStatus, netPortHop, ctlPostStat, lnkLaneCtl, lnkLaneMap, mbStatus]
      omega
    exact (hmv.only.fld hmb _).trans hb.state

end Sys2Proof.Machine
end

section
open Sys2Proof Machine

/-- Settles O44: each command ends by the mailbox's rules; SET_PORTS on one link that is OFF writes registers of that link and COMMITS alone, so
the other links decide whether it ends. -/
theorem placementCommands : Obligations.PlacementCommands := by
  intro s m
  refine ⟨identify_answers, fun hh hmode hm hop hst => identify_rom hh hmode hm hop hst, fun h => setPlace_answers h rfl, ⟨fun h => ⟨?_, ?_, ?_⟩,
    setPorts_runs⟩, getSurvey_answers, fun _ ht => netPlaceWrite_effects ht⟩
  · exact fun hm => (setPorts_nil h hm).1
  · exact fun hm => (setPorts_nil h hm).2
  · exact fun l hr hm hea hen hoff => setPorts_one h hr hm hea hen hoff

end

section
/-!
The vector and special-function units (R66, R91, R95, R143): an operation alone in its bundle puts in flight what its unit computes from the registers
as they stand at issue, and an operation inside another's issue interval puts 1024 open lanes in flight.
-/

namespace Sys2Proof.Machine

/-! ### Reaching issue -/

/-- A bundle of one legal slot that is no branch is legal. -/
theorem Bundle.legal_oneSlot {c : Chan} {o : Op} (h : o.legal c = true) (hb : o.isBranch = false) : Bundle.legal c (oneSlot o) = true := by
  have hfma : ([o].filter Op.isFma).length ≤ 1 := List.length_filter_le _ _
  simp [Bundle.legal, oneSlot, h, hb, hfma]

theorem State.bundleFaults_vec (s : State) (n : Fin 8) {o : VOp} {f : VecF} (h : vecLegal o f = true) :
    s.bundleFaults n (oneSlot (.vec o f)) = [] :=
  State.bundleFaults_plain _ _ _ (Bundle.legal_oneSlot h rfl) (fun _ => rfl) rfl (by simp) (by simp)

theorem State.bundleFaults_sf (s : State) (n : Fin 8) (o : SfOp) {f : SfF} (h : f.rsv = 0) : s.bundleFaults n (oneSlot (.sf o f)) = [] :=
  State.bundleFaults_plain _ _ _ (Bundle.legal_oneSlot (decide_eq_true h) rfl) (fun _ => rfl) rfl (by simp) (by simp)

/-- The detector looks for hazards only in rehearsal mode (R160). -/
theorem State.issueHazard_none_of_not_rehearsing {s : State} {n : Fin 8} (h : s.rehearsing n = false) (b : Bundle) : s.issueHazard n b = none := by
  rw [State.issueHazard, h, if_neg Bool.false_ne_true]

theorem State.issueHazard_none_of_opHazard {s : State} {n : Fin 8} {o : Op} (h : (s.chan n).opHazard o = none) :
    s.issueHazard n (oneSlot o) = none := by
  simp [State.issueHazard, oneSlot, h]

/-- A slot that is alone, and meets neither fault nor hazard, takes effect, and the program counter moves on. -/
theorem State.slotIssue_one {u : Issue} {o : Op} {s : State} (h : Alone u s) (hc : (oneSlot o).cue? = none) (hw : (oneSlot o).waits = [])
    (he : (oneSlot o).ends? = none) (hf : (s.atIssue u.ch).bundleFaults u.ch (oneSlot o) = [])
    (hz : (s.atIssue u.ch).issueHazard u.ch (oneSlot o) = none) (hr : ((s.atIssue u.ch).issueSlot u.ch o [] []).running u.ch = true) :
    s.slotIssue u o = ((s.atIssue u.ch).issueSlot u.ch o [] []).advance u.ch := by
  rw [State.slotIssue_alone u o s h hc hw]
  change (s.atIssue u.ch).issueNow u.ch (oneSlot o) = _
  have hn : (oneSlot o).errs = [] := rfl
  have ho : (oneSlot o).ops = [o] := rfl
  have hs : (oneSlot o).sramErrs = [] := rfl
  unfold State.issueNow
  simp [Chan.readRegs, State.readPatched, hn, hf, hz, State.unpatch, State.issueAll, ho, hs, hr, he]

@[simp] theorem State.atIssue_latA1 (s : State) (n : Fin 8) : (s.atIssue n).latA1 n = s.latA1 n := by
  have hid : ctlChipId ≠ chStatus n := by unfold ctlChipId chStatus; omega
  rw [State.latA1, State.isB0, State.atIssue_fld s n _ _ hid, State.atIssue_chan]
  rfl

@[simp] theorem State.atIssue_rehearsing (s : State) (n : Fin 8) : (s.atIssue n).rehearsing n = s.rehearsing n := by
  rw [State.rehearsing, State.atIssue_running, State.atIssue_chan]
  rfl

@[simp] theorem State.atIssue_unitBusy (s : State) (n : Fin 8) (k : Nat) : ((s.atIssue n).chan n).unitBusy k = (s.chan n).unitBusy k := by
  rw [State.atIssue_chan]
  rfl

/-! ### Units and their issue intervals (R143) -/

theorem State.running_of_rd {s t : State} {n : Nat} (h : t.rd (chStatus n) = s.rd (chStatus n)) : t.running n = s.running n := by
  unfold State.running State.fld
  rw [h]

@[simp] theorem State.takeUnit_rd (s : State) (n : Fin 8) (k i r : Nat) : (s.takeUnit n k i).rd r = s.rd r := by
  unfold State.takeUnit
  dsimp only
  split <;> rfl

/-- Taking a unit touches nothing of the channel but the times until which its units are busy. -/
theorem State.takeUnit_chan (s : State) (n : Fin 8) (k i : Nat) : ∃ b, (s.takeUnit n k i).chan n = { s.chan n with busyUntil := b } := by
  unfold State.takeUnit
  dsimp only
  split
  · exact ⟨_, rfl⟩
  · exact ⟨_, State.setChan_chan_same _ _ _⟩

@[simp] theorem State.takeUnit_v (s : State) (n : Fin 8) (k i : Nat) : ((s.takeUnit n k i).chan n).v = (s.chan n).v := by
  obtain ⟨b, hb⟩ := s.takeUnit_chan n k i
  rw [hb]
  rfl

@[simp] theorem State.takeUnit_cycle (s : State) (n : Fin 8) (k i : Nat) : ((s.takeUnit n k i).chan n).cycle = (s.chan n).cycle := by
  obtain ⟨b, hb⟩ := s.takeUnit_chan n k i
  rw [hb]

@[simp] theorem State.takeUnit_latA1 (s : State) (n : Fin 8) (k i : Nat) : (s.takeUnit n k i).latA1 n = s.latA1 n := by
  obtain ⟨b, hb⟩ := s.takeUnit_chan n k i
  unfold State.latA1 State.isB0 State.fld
  rw [State.takeUnit_rd, hb]

/-- No issue interval of the unit of a vector operation, where it has one, lasts into the present cycle. -/
def Chan.vecFree (c : Chan) (o : VOp) (slot : Nat) : Prop := ∀ k ∈ vecUnit o slot, c.unitBusy k = false

theorem Chan.vecFree_none {c : Chan} {o : VOp} {slot : Nat} (h : vecUnit o slot = none) : c.vecFree o slot := by
  simp [Chan.vecFree, h]

theorem Chan.vecFree_some {c : Chan} {o : VOp} {slot k : Nat} (h : vecUnit o slot = some k) (hb : c.unitBusy k = false) : c.vecFree o slot := by
  simp [Chan.vecFree, h, hb]

theorem Chan.opHazard_vec {c : Chan} {o : VOp} {f : VecF} (h : c.vecFree o f.slot) : c.opHazard (.vec o f) = none := by
  unfold Chan.vecFree at h
  cases hk : vecUnit o f.slot with
  | none => simp [Chan.opHazard, Op.units, Op.tiles, hk]
  | some k => simp [Chan.opHazard, Op.units, Op.tiles, hk, h k (by simp [hk])]

/-- The state in which the unit of a vector operation has been taken for its issue interval. -/
def State.vecTaken (s : State) (n : Fin 8) (o : VOp) (f : VecF) : State :=
  match vecUnit o f.slot with
  | none => s
  | some k => s.takeUnit n k (vecInterval o (s.intA1 n))

theorem State.vecTaken_same (s : State) (n : Fin 8) (o : VOp) (f : VecF) :
    (∀ r, (s.vecTaken n o f).rd r = s.rd r) ∧ ((s.vecTaken n o f).chan n).v = (s.chan n).v ∧
      ((s.vecTaken n o f).chan n).cycle = (s.chan n).cycle ∧ (s.vecTaken n o f).latA1 n = s.latA1 n := by
  unfold State.vecTaken
  split <;> simp

/-- What a vector operation reads at its issue is as it was before its slot arrived. -/
theorem State.vecTaken_atIssue (s : State) (n : Fin 8) (o : VOp) (f : VecF) :
    ((s.atIssue n).vecTaken n o f).running n = s.running n ∧
      ((s.atIssue n).vecTaken n o f).rd (chArithFlags n) = s.rd (chArithFlags n) ∧
      (((s.atIssue n).vecTaken n o f).chan n).v = (s.chan n).v ∧ (((s.atIssue n).vecTaken n o f).chan n).cycle = (s.chan n).cycle ∧
      ((s.atIssue n).vecTaken n o f).latA1 n = s.latA1 n := by
  obtain ⟨hrd, hv, hcyc, hlat⟩ := (s.atIssue n).vecTaken_same n o f
  rw [State.running_of_rd (hrd _), State.atIssue_running, hrd, State.atIssue_rd _ _ _ (chStatus_ne_chArithFlags n n), hv, hcyc, hlat,
    State.atIssue_latA1, State.atIssue_chan]
  exact ⟨rfl, rfl, rfl, rfl, rfl⟩

theorem State.issueVec_free {s : State} {n : Fin 8} {o : VOp} {f : VecF} (h : (s.chan n).vecFree o f.slot) :
    s.issueVec n o f = (s.vecTaken n o f).vecDefined n o f := by
  unfold Chan.vecFree at h
  unfold State.issueVec State.vecTaken
  cases hk : vecUnit o f.slot with
  | none => rfl
  | some k => simp [h k (by simp [hk])]

theorem State.issueVec_busy {s : State} {n : Fin 8} {o : VOp} {f : VecF} {k : Nat} (hk : vecUnit o f.slot = some k)
    (hb : (s.chan n).unitBusy k = true) :
    s.issueVec n o f = (s.vecTaken n o f).vecUndefined n o f (3 + f.slot.val) (vecLatency o f.mx (s.latA1 n)) := by
  simp [State.issueVec, State.vecTaken, hk, hb]

/-! ### Lane-wise operations -/

theorem exec_vec (o : VOp) (u : Issue) (f : VecF) (s : State) : exec (o.instr u f) s = .next (s.slotIssue u (.vec o f)) := by
  cases o <;> rfl

/-- All that a vector operation does, once its unit is taken, is to put the lanes `lanes` of the vector registers in flight. -/
def VOp.Gives (o : VOp) (f : VecF) (lanes : (Nat → List (BitVec 32)) → List Lane) : Prop :=
  ∀ (t : State) (n : Fin 8),
    t.vecDefined n o f = t.vecResult n (3 + f.slot.val) (vecLatency o f.mx (t.latA1 n)) f.vd.toNat (lanes (t.chan n).v)

section
variable {u : Issue} {f : VecF} {s : State} (o : VOp)

/-- Such an operation, alone in its bundle and with its unit free, puts the lanes of the registers at its issue in flight. -/
theorem completes_lanes {lanes : (Nat → List (BitVec 32)) → List Lane} (h : Alone u s) (hfree : (s.chan u.ch).vecFree o f.slot)
    (hg : o.Gives f lanes) (hl : vecLegal o f = true) :
    Completes (o.instr u f) s fun t => VecOut s t u.ch (vecLatency o f.mx (s.latA1 u.ch)) f.vd.toNat (lanes (s.chan u.ch).v) := by
  refine ⟨_, exec_vec o u f s, ?_⟩
  obtain ⟨hrun, hflags, hv, hcyc, hlat⟩ := s.vecTaken_atIssue u.ch o f
  have he : (s.atIssue u.ch).issueVec u.ch o f = ((s.atIssue u.ch).vecTaken u.ch o f).vecResult u.ch (3 + f.slot.val)
      (vecLatency o f.mx (s.latA1 u.ch)) f.vd.toNat (lanes (s.chan u.ch).v) := by
    rw [State.issueVec_free fun k hk => (s.atIssue_unitBusy u.ch k).trans (hfree k hk), hg, hlat, hv]
  have hout := State.vecResult_out ((s.atIssue u.ch).vecTaken u.ch o f) u.ch (3 + f.slot.val) (vecLatency o f.mx (s.latA1 u.ch))
    f.vd.toNat (lanes (s.chan u.ch).v)
  rw [VecOut, hcyc, hflags] at hout
  rw [State.slotIssue_vec u o f s h hl (Chan.opHazard_vec hfree) (by rw [he, State.vecResult_running, hrun]; exact h.1), he]
  exact VecOut.advance hout

/-- The same of an operation on each lane of one register. -/
theorem completes_lanes1 {g : BitVec 32 → Lane} (h : Alone u s) (hfree : (s.chan u.ch).vecFree o f.slot)
    (hg : o.Gives f fun v => (v f.va.toNat).map g) (hl : vecLegal o f = true) :
    Completes (o.instr u f) s fun t => VecOut s t u.ch (vecLatency o f.mx (s.latA1 u.ch)) f.vd.toNat ((vOf s u f.va).map g) :=
  completes_lanes o h hfree hg hl

/-- The same of an operation on each pair of lanes of two registers. -/
theorem completes_lanes2 {g : BitVec 32 → BitVec 32 → Lane} (h : Alone u s) (hfree : (s.chan u.ch).vecFree o f.slot)
    (hg : o.Gives f fun v => List.zipWith g (v f.va.toNat) (v f.vb.toNat)) (hl : vecLegal o f = true) :
    Completes (o.instr u f) s fun t =>
      VecOut s t u.ch (vecLatency o f.mx (s.latA1 u.ch)) f.vd.toNat (List.zipWith g (vOf s u f.va) (vOf s u f.vb)) :=
  completes_lanes o h hfree hg hl

/-- The same of an operation on the lanes of three registers. -/
theorem completes_lanes3 (g : BitVec 32 → BitVec 32 → BitVec 32 → Lane) (h : Alone u s) (hfree : (s.chan u.ch).vecFree o f.slot)
    (hg : o.Gives f fun v => lanes2i (fun i x y => g x y (nth 0 (v f.vc.toNat) i)) (v f.va.toNat) (v f.vb.toNat))
    (hl : vecLegal o f = true) :
    Completes (o.instr u f) s fun t => VecOut s t u.ch (vecLatency o f.mx (s.latA1 u.ch)) f.vd.toNat
      (lanes2i (fun i x y => g x y (nth 0 (vOf s u f.vc) i)) (vOf s u f.va) (vOf s u f.vb)) :=
  completes_lanes o h hfree hg hl

end

/-! ### A divide unit inside its issue interval (R113, R143) -/

/-- VDIV on a busy unit puts open lanes in flight, at its latency. -/
theorem State.vecUndefined_vdiv_lands (s : State) (n : Fin 8) (f : VecF) (slot lat : Nat) :
    ∃ l, l.length = 1024 ∧ Lands (s.vecUndefined n .vdiv f slot lat) n ((s.chan n).cycle + lat) (.vreg f.vd.toNat l) :=
  ⟨_, by rw [List.length_map, List.length_range], State.after_lands _ _ _ _ _ _⟩

theorem State.vecUndefined_vdiv_running (s : State) (n : Fin 8) (f : VecF) (slot lat : Nat) :
    (s.vecUndefined n .vdiv f slot lat).running n = s.running n :=
  State.running_of_rd (State.addFlags_rd_other s n _ _ (chStatus_ne_chArithFlags n n).symm)

theorem completes_vdiv_busy {u : Issue} {f : VecF} {s : State} (h : Alone u s) (hl : vecLegal .vdiv f = true)
    (hb : (s.chan u.ch).unitBusy (divUnit f.slot) = true) (hr : s.rehearsing u.ch = false) :
    Completes (.vdiv u f) s fun t => ∃ l, l.length = 1024 ∧
      Lands t u.ch ((s.chan u.ch).cycle + vecLatency .vdiv f.mx (s.latA1 u.ch)) (.vreg f.vd.toNat l) := by
  refine ⟨_, exec_vec .vdiv u f s, ?_⟩
  obtain ⟨hrun, -, -, hcyc, -⟩ := s.vecTaken_atIssue u.ch .vdiv f
  have he : (s.atIssue u.ch).issueSlot u.ch (.vec .vdiv f) [] [] = _ :=
    State.issueVec_busy (o := .vdiv) rfl ((s.atIssue_unitBusy u.ch _).trans hb)
  have hz := State.issueHazard_none_of_not_rehearsing ((s.atIssue_rehearsing u.ch).trans hr) (oneSlot (.vec .vdiv f))
  obtain ⟨l, hlen, hland⟩ := ((s.atIssue u.ch).vecTaken u.ch .vdiv f).vecUndefined_vdiv_lands u.ch f (3 + f.slot.val)
    (vecLatency .vdiv f.mx ((s.atIssue u.ch).latA1 u.ch))
  rw [State.slotIssue_one h rfl rfl rfl (State.bundleFaults_vec _ _ hl) hz (by rw [he, State.vecUndefined_vdiv_running, hrun]; exact h.1), he]
  rw [hcyc, State.atIssue_latA1] at hland
  exact ⟨l, hlen, State.advance_lands _ _ _ _ (by rw [State.atIssue_latA1]; exact hland)⟩

/-! ### Special functions (R67, R95) -/

/-- The command of a special function. -/
def SfOp.instr (o : SfOp) (u : Issue) (f : SfF) : Instr :=
  match o with
  | .recip => .recip u f
  | .rsqrt => .rsqrt u f
  | .exp => .exp u f
  | .log => .log u f
  | .tanh => .tanh u f

theorem exec_sf (o : SfOp) (u : Issue) (f : SfF) (s : State) : exec (o.instr u f) s = .next (s.slotIssue u (.sf o f)) := by
  cases o <;> rfl

/-- A special function, alone in its bundle, puts its value of each lane in flight. -/
theorem completes_sf {u : Issue} {f : SfF} {s : State} (o : SfOp) (h : Alone u s) (hf : f.rsv = 0) :
    Completes (o.instr u f) s fun t => VecOut s t u.ch (sfLatency o (s.latA1 u.ch)) f.vd.toNat ((vOf s u f.va).map (sfLane o)) := by
  refine ⟨_, exec_sf o u f s, ?_⟩
  have he : (s.atIssue u.ch).issueSlot u.ch (.sf o f) [] [] =
      (s.atIssue u.ch).vecResult u.ch 5 (sfLatency o (s.latA1 u.ch)) f.vd.toNat ((vOf s u f.va).map (sfLane o)) := by
    change (s.atIssue u.ch).issueSf u.ch o f = _
    rw [State.issueSf, State.atIssue_latA1, State.atIssue_chan]
    rfl
  have hrun : ((s.atIssue u.ch).issueSlot u.ch (.sf o f) [] []).running u.ch = true := by
    rw [he, State.vecResult_running, State.atIssue_running]
    exact h.1
  rw [State.slotIssue_one h rfl rfl rfl (State.bundleFaults_sf _ _ o hf) (State.issueHazard_none_of_opHazard rfl) hrun, he]
  exact (State.vecResult_out ..).atIssue.advance

end Sys2Proof.Machine
end

section
open Sys2Proof Machine

/-- Settles O1: each operation reaches issue alone on a free unit, where its result is that of its lanes (`completes_lanes`, `completes_sf`); on a
divide unit still inside an issue interval, the open lanes land all the same (`completes_vdiv_busy`). -/
theorem vectorFloatResults : Obligations.VectorFloatResults := by
  intro u f s h
  refine ⟨?vadd, ?vsub, ?vmul, ?vfma, ?vdiv, ?vsqrt, ?busy, fun g hg => ⟨?recip, ?rsqrt, ?exp, ?log, ?tanh⟩⟩
  case vadd => exact completes_lanes2 .vadd h (Chan.vecFree_none rfl) fun _ _ => rfl
  case vsub => exact completes_lanes2 .vsub h (Chan.vecFree_none rfl) fun _ _ => rfl
  case vmul => exact completes_lanes2 .vmul h (Chan.vecFree_none rfl) fun _ _ => rfl
  case vfma => exact completes_lanes3 .vfma (laneFma (rmodeOf f.mode) Config.fmaNanInvalid) h (Chan.vecFree_none rfl) fun _ _ => rfl
  case vdiv => exact fun hl hb => completes_lanes2 .vdiv h (Chan.vecFree_some rfl hb) (fun _ _ => rfl) hl
  case vsqrt => exact fun hl hb => completes_lanes1 .vsqrt h (Chan.vecFree_some rfl hb) (fun _ _ => rfl) hl
  case busy => exact fun hl hb hr => completes_vdiv_busy h hl hb hr
  case recip => exact completes_sf .recip h hg
  case rsqrt => exact completes_sf .rsqrt h hg
  case exp => exact completes_sf .exp h hg
  case log => exact completes_sf .log h hg
  case tanh => exact completes_sf .tanh h hg

/-- Settles O2: with the unit of its slot free, each operation's result is that of its lanes (`completes_lanes`), which the model computes as stated. -/
theorem vectorIntegerResults : Obligations.VectorIntegerResults := by
  intro u f s h hb
  refine ⟨?vmax, ?vmin, ?vcmp, ?vsel, ?viadd, ?visub, ?viand, ?vior, ?vixor, ?vishl, ?vishr⟩
  case vmax => exact completes_lanes2 .vmax h (Chan.vecFree_some rfl hb) fun _ _ => rfl
  case vmin => exact completes_lanes2 .vmin h (Chan.vecFree_some rfl hb) fun _ _ => rfl
  case vcmp => exact completes_lanes2 .vcmp h (Chan.vecFree_some rfl hb) fun _ _ => rfl
  case vsel => exact completes_lanes3 .vsel laneSel h (Chan.vecFree_some rfl hb) fun _ _ => rfl
  case viadd => exact completes_lanes2 .viadd h (Chan.vecFree_some rfl hb) fun _ _ => rfl
  case visub => exact completes_lanes2 .visub h (Chan.vecFree_some rfl hb) fun _ _ => rfl
  case viand => exact completes_lanes2 .viand h (Chan.vecFree_some rfl hb) fun _ _ => rfl
  case vior => exact completes_lanes2 .vior h (Chan.vecFree_some rfl hb) fun _ _ => rfl
  case vixor => exact completes_lanes2 .vixor h (Chan.vecFree_some rfl hb) fun _ _ => rfl
  case vishl => exact completes_lanes2 .vishl h (Chan.vecFree_some rfl hb) fun _ _ => rfl
  case vishr => exact completes_lanes2 .vishr h (Chan.vecFree_some rfl hb) fun _ _ => rfl

end

section
/-!
The relation `OnlyChan`: operations that touch one channel, the registers at some offsets and the counter of free values, one after another, and
`SameMemories`, which their channel keeps.
-/

namespace Sys2Proof.Machine

theorem OnlyChan.of_eq {n : Fin 8} {p : Nat → Prop} (s : State) : OnlyChan n p s s := ⟨fun _ _ => rfl, fun _ _ => rfl, rfl⟩

theorem OnlyChan.mono {n : Fin 8} {p q : Nat → Prop} {s t : State} (h : OnlyChan n p s t) (hpq : ∀ off, p off → q off) : OnlyChan n q s t :=
  ⟨fun off ho => h.1 off fun hp => ho (hpq off hp), h.2⟩

theorem OnlyChan.trans {n : Fin 8} {p : Nat → Prop} {s t u : State} (h : OnlyChan n p s t) (h' : OnlyChan n p t u) : OnlyChan n p s u := by
  refine ⟨fun off ho => (h'.1 off ho).trans (h.1 off ho), fun m hm => (h'.2.1 m hm).trans (h.2.1 m hm), ?_⟩
  have e := h'.2.2
  rw [h.2.2] at e
  exact e

theorem OnlyRegs.onlyChan {p : Nat → Prop} {s t : State} (n : Fin 8) (h : OnlyRegs p s t) : OnlyChan n p s t := by
  refine ⟨h.1, fun m _ => h.chan m, ?_⟩
  rw [h.2]

/-- A fold of operations that each keep to a channel and to registers at offsets in `p`. -/
theorem OnlyChan.foldl {α : Type} {n : Fin 8} {p : Nat → Prop} (f : State → α → State) (l : List α)
    (h : ∀ s, ∀ x ∈ l, OnlyChan n p s (f s x)) (s : State) : OnlyChan n p s (l.foldl f s) := by
  induction l generalizing s with
  | nil => exact .of_eq s
  | cons x l ih =>
    rw [List.foldl_cons]
    exact (h s x List.mem_cons_self).trans (ih (fun s y hy => h s y (List.mem_cons_of_mem x hy)) (f s x))

theorem State.setChan_onlyChan (p : Nat → Prop) (s : State) (n : Fin 8) (c : Chan) : OnlyChan n p s (s.setChan n c) :=
  ⟨fun _ _ => rfl, fun m hm => State.setChan_chan_other s n m c hm, rfl⟩

theorem State.take_onlyChan (n : Fin 8) (p : Nat → Prop) (s : State) (k : Nat) : OnlyChan n p s (s.take k) := ⟨fun _ _ => rfl, fun _ _ => rfl, rfl⟩

theorem State.schedule_onlyChan (p : Nat → Prop) (s : State) (n : Fin 8) (f : Flight) : OnlyChan n p s (s.schedule n f) :=
  (s.setChan_onlyChan p n _).trans (State.take_onlyChan n p _ _)

theorem State.after_onlyChan (p : Nat → Prop) (s : State) (n : Fin 8) (slot k ord : Nat) (ev : Ev) : OnlyChan n p s (s.after n slot k ord ev) :=
  s.schedule_onlyChan p n _

theorem State.orBits_onlyRegs (s : State) (o : Nat) (m : Word64) : OnlyRegs (fun off => off = o) s (s.orBits o m) :=
  (s.wr_onlyRegs o _).trans ⟨fun _ _ => rfl, rfl⟩

theorem State.addFlags_onlyRegs (s : State) (n : Nat) (f : AFlags) : OnlyRegs (fun off => off = chArithFlags n) s (s.addFlags n f) :=
  s.orBits_onlyRegs _ _

theorem State.takeUnit_onlyChan (p : Nat → Prop) (s : State) (n : Fin 8) (k i : Nat) : OnlyChan n p s (s.takeUnit n k i) := by
  unfold State.takeUnit
  dsimp only
  split
  · exact .of_eq s
  · exact s.setChan_onlyChan p n _

theorem State.showHold_onlyRegs (s : State) (n : Fin 8) (a b : Bool) : OnlyRegs (fun off => off = chStatus n) s (s.showHold n a b) :=
  (s.setFld_onlyRegs _ _ _).trans (State.setFld_onlyRegs _ _ _ _)

theorem State.atIssue_onlyChan (s : State) (n : Fin 8) : OnlyChan n (fun off => off = chStatus n) s (s.atIssue n) :=
  (s.setChan_onlyChan _ n _).trans ((State.showHold_onlyRegs _ n _ _).onlyChan n)

theorem State.advance_onlyChan (s : State) (n : Fin 8) : OnlyChan n (fun off => off = chStatus n) s (s.advance n) :=
  (s.setChan_onlyChan _ n _).trans ((State.setFld_onlyRegs _ _ _ _).onlyChan n)

/-! ### The memories of a channel -/

theorem SameMemories.of_eq (c : Chan) : SameMemories c c := ⟨rfl, rfl, rfl, rfl, rfl, rfl, rfl, rfl, rfl, rfl, rfl, rfl⟩

theorem SameMemories.trans {c d e : Chan} (h : SameMemories c d) (h' : SameMemories d e) : SameMemories c e := by
  obtain ⟨h1, h2, h3, h4, h5, h6, h7, h8, h9, h10, h11, h12⟩ := h
  obtain ⟨g1, g2, g3, g4, g5, g6, g7, g8, g9, g10, g11, g12⟩ := h'
  exact ⟨g1.trans h1, g2.trans h2, g3.trans h3, g4.trans h4, g5.trans h5, g6.trans h6, g7.trans h7, g8.trans h8, g9.trans h9, g10.trans h10,
    g11.trans h11, g12.trans h12⟩

/-- An operation that keeps to a channel and to registers at offsets in `p`, and changes none of the channel's memories. -/
def Frames (n : Fin 8) (p : Nat → Prop) (s t : State) : Prop := OnlyChan n p s t ∧ SameMemories (s.chan n) (t.chan n)

theorem Frames.of_eq {n : Fin 8} {p : Nat → Prop} (s : State) : Frames n p s s := ⟨.of_eq s, .of_eq _⟩

theorem Frames.trans {n : Fin 8} {p : Nat → Prop} {s t u : State} (h : Frames n p s t) (h' : Frames n p t u) : Frames n p s u :=
  ⟨h.1.trans h'.1, h.2.trans h'.2⟩

theorem Frames.mono {n : Fin 8} {p q : Nat → Prop} {s t : State} (h : Frames n p s t) (hpq : ∀ off, p off → q off) : Frames n q s t :=
  ⟨h.1.mono hpq, h.2⟩

theorem Frames.rd {n : Fin 8} {p : Nat → Prop} {s t : State} (h : Frames n p s t) {off : Nat} (ho : ¬ p off) : t.rd off = s.rd off := h.1.1 off ho

theorem State.atIssue_frames (s : State) (n : Fin 8) : Frames n (fun off => off = chStatus n) s (s.atIssue n) :=
  ⟨s.atIssue_onlyChan n, by rw [State.atIssue_chan]; exact .of_eq _⟩

theorem State.advance_frames (s : State) (n : Fin 8) : Frames n (fun off => off = chStatus n) s (s.advance n) := by
  refine ⟨s.advance_onlyChan n, ?_⟩
  unfold State.advance
  rw [State.setFld_chan, State.setChan_chan_same]
  exact .of_eq _

theorem State.after_frames (p : Nat → Prop) (s : State) (n : Fin 8) (slot k ord : Nat) (ev : Ev) : Frames n p s (s.after n slot k ord ev) := by
  refine ⟨s.after_onlyChan p n slot k ord ev, ?_⟩
  unfold State.after State.schedule
  rw [State.take_chan, State.setChan_chan_same]
  exact .of_eq _

theorem State.addFlags_frames (s : State) (n : Fin 8) (f : AFlags) : Frames n (fun off => off = chArithFlags n) s (s.addFlags n f) :=
  ⟨(s.addFlags_onlyRegs n f).onlyChan n, .of_eq _⟩

theorem State.takeUnit_frames (p : Nat → Prop) (s : State) (n : Fin 8) (k i : Nat) : Frames n p s (s.takeUnit n k i) := by
  obtain ⟨b, hb⟩ := s.takeUnit_chan n k i
  refine ⟨s.takeUnit_onlyChan p n k i, ?_⟩
  rw [hb]
  exact .of_eq _

theorem Frames.foldl {α : Type} {n : Fin 8} {p : Nat → Prop} (f : State → α → State) (l : List α)
    (h : ∀ s x, Frames n p s (f s x)) (s : State) : Frames n p s (l.foldl f s) := by
  induction l generalizing s with
  | nil => exact .of_eq s
  | cons x l ih => exact (h s x).trans (ih (f s x))

/-! ### The frame of the vector and special-function units (R91, R95) -/

theorem State.vecTaken_frames (p : Nat → Prop) (s : State) (n : Fin 8) (o : VOp) (f : VecF) : Frames n p s (s.vecTaken n o f) := by
  unfold State.vecTaken
  split
  · exact .of_eq s
  · exact s.takeUnit_frames p n _ _

/-- Flags, then a result in flight. -/
theorem State.addFlags_after_frames (s : State) (n : Fin 8) (fl : AFlags) (slot k ord : Nat) (ev : Ev) :
    Frames n (fun off => off = chArithFlags n) s ((s.addFlags n fl).after n slot k ord ev) :=
  (s.addFlags_frames n fl).trans (State.after_frames _ _ n _ _ _ _)

/-- What a vector operation other than XFILL and XRESET does beside taking its unit: it adds flags and puts results in flight. -/
theorem State.vecDefined_frames (s : State) (n : Fin 8) {o : VOp} (f : VecF) (hf : o ≠ .xfill) (hr : o ≠ .xreset) :
    Frames n (fun off => off = chArithFlags n) s (s.vecDefined n o f) := by
  cases o
  case xfill => exact absurd rfl hf
  case xreset => exact absurd rfl hr
  case vwadd => exact (s.addFlags_frames n _).trans (.foldl _ _ (fun t r => t.after_frames _ n _ _ _ _) _)
  case vshuf | vbcast | vmovs | xread => exact s.after_frames _ n _ _ _ _
  all_goals exact s.addFlags_after_frames n _ _ _ _ _

end Sys2Proof.Machine
end

section
/-!
The rest of the vector unit (R91 to R94, R119): conversions, wide partials, lane movement and the expert slot table. What an operation computes, it
computes from the registers as they stood before its slot arrived.
-/

namespace Sys2Proof.Machine

/-- The state in which a vector operation that is alone computes its results: at issue, with its unit taken. -/
def State.vecReady (s : State) (n : Fin 8) (o : VOp) (f : VecF) : State := (s.atIssue n).vecTaken n o f

theorem State.vecReady_frames (s : State) (n : Fin 8) (o : VOp) (f : VecF) : Frames n (fun off => off = chStatus n) s (s.vecReady n o f) :=
  (s.atIssue_frames n).trans (State.vecTaken_frames _ _ n o f)

section
variable (s : State) (n : Fin 8) (o : VOp) (f : VecF)

@[simp] theorem State.vecReady_running : (s.vecReady n o f).running n = s.running n := (s.vecTaken_atIssue n o f).1

@[simp] theorem State.vecReady_v : ((s.vecReady n o f).chan n).v = (s.chan n).v := (s.vecTaken_atIssue n o f).2.2.1

@[simp] theorem State.vecReady_cycle : ((s.vecReady n o f).chan n).cycle = (s.chan n).cycle := (s.vecTaken_atIssue n o f).2.2.2.1

@[simp] theorem State.vecReady_latA1 : (s.vecReady n o f).latA1 n = s.latA1 n := (s.vecTaken_atIssue n o f).2.2.2.2

theorem State.vecReady_rd {r : Nat} (h : r ≠ chStatus n) : (s.vecReady n o f).rd r = s.rd r := (s.vecReady_frames n o f).rd h

/-- Beside the times until which its units are busy, the channel is as at issue. -/
theorem State.vecReady_chan : ∃ b, (s.vecReady n o f).chan n = { (s.atIssue n).chan n with busyUntil := b } := by
  unfold State.vecReady State.vecTaken
  split
  · exact ⟨_, rfl⟩
  · exact State.takeUnit_chan _ n _ _

@[simp] theorem State.vecReady_s : ((s.vecReady n o f).chan n).s = (s.chan n).s := by
  obtain ⟨b, hb⟩ := s.vecReady_chan n o f
  rw [hb, State.atIssue_chan]
  rfl

@[simp] theorem State.vecReady_xLanded : ((s.vecReady n o f).chan n).xLanded = (s.chan n).xLanded := by
  obtain ⟨b, hb⟩ := s.vecReady_chan n o f
  rw [hb, State.atIssue_chan]
  rfl

/-- The random values of SR are those of the seed and rank at issue (R64). -/
@[simp] theorem State.vecReady_sr :
    (s.vecReady n o f).rd (chSrSeed n) = s.rd (chSrSeed n) ∧
      (s.vecReady n o f).fld (chSrRank n) CH_SR_RANK_RANK = s.fld (chSrRank n) CH_SR_RANK_RANK := by
  have hseed : chSrSeed n ≠ chStatus n := by unfold chSrSeed chStatus; omega
  have hrank : chSrRank n ≠ chStatus n := by unfold chSrRank chStatus; omega
  unfold State.fld
  exact ⟨s.vecReady_rd n o f hseed, by rw [s.vecReady_rd n o f hrank]⟩

end

theorem State.running_of_frames {n : Fin 8} {s t : State} (h : Frames n (fun off => off = chArithFlags n) s t) : t.running n = s.running n :=
  State.running_of_rd (h.rd (chStatus_ne_chArithFlags n n).symm)

section
variable {u : Issue} {o : VOp} {f : VecF} {s : State}

/-- A vector operation alone in its bundle, with its unit free, comes to what `State.vecDefined` says. -/
theorem State.slotIssue_vecReady (h : Alone u s) (hfree : (s.chan u.ch).vecFree o f.slot) (hl : vecLegal o f = true)
    (hr : ((s.vecReady u.ch o f).vecDefined u.ch o f).running u.ch = true) :
    s.slotIssue u (.vec o f) = ((s.vecReady u.ch o f).vecDefined u.ch o f).advance u.ch := by
  have he : (s.atIssue u.ch).issueVec u.ch o f = (s.vecReady u.ch o f).vecDefined u.ch o f :=
    State.issueVec_free fun k hk => (s.atIssue_unitBusy u.ch k).trans (hfree k hk)
  rw [State.slotIssue_vec u o f s h hl (Chan.opHazard_vec hfree) (by rw [he]; exact hr), he]

/-- Such an operation, where it only adds flags and puts results in flight, leaves the channel running. -/
theorem State.slotIssue_vecReady_of_frames (h : Alone u s) (hfree : (s.chan u.ch).vecFree o f.slot) (hl : vecLegal o f = true)
    (hf : o ≠ .xfill) (hr : o ≠ .xreset) :
    s.slotIssue u (.vec o f) = ((s.vecReady u.ch o f).vecDefined u.ch o f).advance u.ch := by
  refine State.slotIssue_vecReady h hfree hl ?_
  rw [State.running_of_frames (State.vecDefined_frames _ u.ch f hf hr), State.vecReady_running]
  exact h.1

/-- A vector operation other than XFILL and XRESET, whose result lands at its latency without flags. -/
theorem completes_vecPlain (h : Alone u s) (hfree : (s.chan u.ch).vecFree o f.slot) (hl : vecLegal o f = true) (hf : o ≠ .xfill) (hr : o ≠ .xreset)
    {slot lat ord : Nat} {ev : Ev} (he : (s.vecReady u.ch o f).vecDefined u.ch o f = (s.vecReady u.ch o f).after u.ch slot lat ord ev) :
    Completes (o.instr u f) s fun t => Lands t u.ch (atCycle s u lat) ev ∧ t.rd (chArithFlags u.ch) = s.rd (chArithFlags u.ch) := by
  have hne := chStatus_ne_chArithFlags u.ch u.ch
  refine ⟨_, exec_vec o u f s, ?_⟩
  rw [State.slotIssue_vecReady_of_frames h hfree hl hf hr, he]
  refine ⟨State.advance_lands _ _ _ _ ?_, ?_⟩
  · rw [atCycle, ← s.vecReady_cycle u.ch o f]
    exact State.after_lands _ _ _ _ _ _
  · rw [State.advance_rd _ _ _ hne, State.after_rd, State.vecReady_rd _ _ _ _ hne]

/-- The same of an operation that adds flags. -/
theorem completes_vecFlags (h : Alone u s) (hfree : (s.chan u.ch).vecFree o f.slot) (hl : vecLegal o f = true) (hf : o ≠ .xfill) (hr : o ≠ .xreset)
    {slot lat ord : Nat} {ev : Ev} {fl : AFlags}
    (he : (s.vecReady u.ch o f).vecDefined u.ch o f = ((s.vecReady u.ch o f).addFlags u.ch fl).after u.ch slot lat ord ev) :
    Completes (o.instr u f) s fun t =>
      Lands t u.ch (atCycle s u lat) ev ∧ t.rd (chArithFlags u.ch) = s.rd (chArithFlags u.ch) ||| fl.setWidth 64 := by
  have hne := chStatus_ne_chArithFlags u.ch u.ch
  refine ⟨_, exec_vec o u f s, ?_⟩
  rw [State.slotIssue_vecReady_of_frames h hfree hl hf hr, he]
  refine ⟨State.advance_lands _ _ _ _ ?_, ?_⟩
  · rw [atCycle, ← s.vecReady_cycle u.ch o f]
    exact State.after_lands _ _ _ _ _ _
  · rw [State.advance_rd _ _ _ hne, State.after_rd, State.addFlags_rd, State.vecReady_rd _ _ _ _ hne]

/-! ### What each operation puts in flight -/

section
variable (s : State) (u : Issue) (f : VecF)

theorem State.vecReady_vcvt :
    let r := vcvtReg f.fmt.toNat f.mx f.sat (rmodeOf f.mode) (srOf s u ((sOf s u f.sx).toNat % 2 ^ 24)) (vOf s u f.va)
    (s.vecReady u.ch .vcvt f).vecDefined u.ch .vcvt f = ((s.vecReady u.ch .vcvt f).addFlags u.ch r.2).after u.ch (3 + f.slot.val)
      (if f.mx then 8 else 6) (ordWrite (3 + f.slot.val)) (.vreg f.vd.toNat r.1) := by
  simp only [State.vecDefined, State.vecReady_v, State.vecReady_s, State.vecReady_sr]
  rfl

theorem State.vecReady_vwrnd :
    let x := wideLane (vOf s u f.va) ((s.chan u.ch).v (f.va.toNat + 1)) ((s.chan u.ch).v (f.va.toNat + 2))
    let r := vwrndReg f.fmt.toNat f.mx f.sat (rmodeOf f.mode) (srOf s u ((sOf s u f.sx).toNat % 2 ^ 24))
      (toSigned 10 (bitsOf (sOf s u f.sx).toNat 32 10)) x
    (s.vecReady u.ch .vwrnd f).vecDefined u.ch .vwrnd f = ((s.vecReady u.ch .vwrnd f).addFlags u.ch r.2).after u.ch (3 + f.slot.val)
      (if f.mx then 10 else 8) (ordWrite (3 + f.slot.val)) (.vreg f.vd.toNat r.1) := by
  simp only [State.vecDefined, State.vecReady_v, State.vecReady_s, State.vecReady_sr]
  rfl

theorem State.vecReady_vshuf :
    (s.vecReady u.ch .vshuf f).vecDefined u.ch .vshuf f = (s.vecReady u.ch .vshuf f).after u.ch (3 + f.slot.val) 5 (ordWrite (3 + f.slot.val))
      (.vreg f.vd.toNat ((vOf s u f.vb).map fun i => nth 0 (vOf s u f.va) (i.toNat % 1024))) := by
  simp only [State.vecDefined, State.vecReady_v]
  rfl

theorem State.vecReady_vrsum :
    (s.vecReady u.ch .vrsum f).vecDefined u.ch .vrsum f = ((s.vecReady u.ch .vrsum f).addFlags u.ch (vrsum (vOf s u f.va)).2).after u.ch
      (3 + f.slot.val) 40 (ordWrite (3 + f.slot.val)) (.vreg f.vd.toNat ((vrsum (vOf s u f.va)).1 :: List.replicate 1023 0)) := by
  simp only [State.vecDefined, State.vecReady_v]
  rfl

theorem State.vecReady_vbcast :
    (s.vecReady u.ch .vbcast f).vecDefined u.ch .vbcast f = (s.vecReady u.ch .vbcast f).after u.ch (3 + f.slot.val) 2 (ordWrite (3 + f.slot.val))
      (.vreg f.vd.toNat (List.replicate 1024 ((sOf s u f.sx).setWidth 32))) := by
  simp only [State.vecDefined, State.vecReady_s]
  rfl

theorem State.vecReady_vmovs :
    (s.vecReady u.ch .vmovs f).vecDefined u.ch .vmovs f = (s.vecReady u.ch .vmovs f).after u.ch (3 + f.slot.val) 3 (ordWrite (3 + f.slot.val))
      (.sreg f.sx.toNat ((nth 0 (vOf s u f.va) ((sOf s u f.sx).toNat % 1024)).setWidth 64)) := by
  simp only [State.vecDefined, State.vecReady_v, State.vecReady_s]
  rfl

end

/-- What VWADD computes: the three registers of the sums, and whether a sum wraps (R93). -/
theorem vwaddRegs_eq (x y : Nat → BitVec 96) :
    vwaddRegs x y = ((List.range 3).map fun k => (List.range 1024).map fun i => (x i + y i).extractLsb' (32 * k) 32,
      afIf ((List.range 1024).any fun i => wraps96 ((x i).toInt + (y i).toInt)) afWideWrap) := by
  unfold vwaddRegs
  dsimp only
  rw [List.any_map]
  simp only [List.map_map]
  rfl

/-- Three registers put in flight together. -/
def State.afterV3 (s : State) (n : Fin 8) (slot lat d : Nat) (r : Nat → List (BitVec 32)) : State :=
  ((s.afterV n slot lat d (r 0)).afterV n slot lat (d + 1) (r 1)).afterV n slot lat (d + 2) (r 2)

theorem State.foldl_afterV3 (s : State) (n : Fin 8) (slot lat d : Nat) (r : Nat → List (BitVec 32)) :
    ((List.range 3).map r).zipIdx.foldl (fun s x => s.afterV n slot lat (d + x.2) x.1) s = s.afterV3 n slot lat d r := rfl

theorem State.afterV3_lands (s : State) (n : Fin 8) (slot lat d : Nat) (r : Nat → List (BitVec 32)) :
    ∀ k < 3, Lands (s.afterV3 n slot lat d r) n ((s.chan n).cycle + lat) (.vreg (d + k) (r k)) := by
  have hcyc (t : State) (e : Nat) (l : List (BitVec 32)) : ((t.afterV n slot lat e l).chan n).cycle = (t.chan n).cycle := State.after_cycle ..
  have hnew (t : State) (e : Nat) (l : List (BitVec 32)) : Lands (t.afterV n slot lat e l) n ((t.chan n).cycle + lat) (.vreg e l) :=
    State.after_lands ..
  have hold {t : State} {c : Nat} {ev : Ev} (e : Nat) (l : List (BitVec 32)) (h : Lands t n c ev) : Lands (t.afterV n slot lat e l) n c ev :=
    State.after_keeps _ _ _ _ _ _ _ _ h
  intro k hk
  match k, hk with
  | 0, _ => exact hold _ _ (hold _ _ (hnew s _ _))
  | 1, _ => exact hold _ _ (hcyc s d (r 0) ▸ hnew _ _ _)
  | 2, _ => exact hcyc s d (r 0) ▸ hcyc _ (d + 1) (r 1) ▸ hnew _ _ _

theorem State.vecReady_vwadd (s : State) (u : Issue) (f : VecF) :
    let x := wideLane (vOf s u f.va) ((s.chan u.ch).v (f.va.toNat + 1)) ((s.chan u.ch).v (f.va.toNat + 2))
    let y := wideLane (vOf s u f.vb) ((s.chan u.ch).v (f.vb.toNat + 1)) ((s.chan u.ch).v (f.vb.toNat + 2))
    (s.vecReady u.ch .vwadd f).vecDefined u.ch .vwadd f =
      ((s.vecReady u.ch .vwadd f).addFlags u.ch (afIf ((List.range 1024).any fun i => wraps96 ((x i).toInt + (y i).toInt)) afWideWrap)).afterV3 u.ch
        (3 + f.slot.val) 3 f.vd.toNat fun k => (List.range 1024).map fun i => (x i + y i).extractLsb' (32 * k) 32 := by
  simp only [State.vecDefined, State.vecReady_v, vwaddRegs_eq, State.foldl_afterV3]
  rfl

/-- VWADD (R93): three registers of the sum, and WIDE_WRAP. -/
theorem completes_vwadd (h : Alone u s) (hfree : (s.chan u.ch).vecFree .vwadd f.slot) (hl : vecLegal .vwadd f = true) :
    Completes (.vwadd u f) s fun t =>
      let x := wideLane (vOf s u f.va) ((s.chan u.ch).v (f.va.toNat + 1)) ((s.chan u.ch).v (f.va.toNat + 2))
      let y := wideLane (vOf s u f.vb) ((s.chan u.ch).v (f.vb.toNat + 1)) ((s.chan u.ch).v (f.vb.toNat + 2))
      (∀ k < 3, Lands t u.ch (atCycle s u 3)
        (.vreg (f.vd.toNat + k) ((List.range 1024).map fun i => (x i + y i).extractLsb' (32 * k) 32))) ∧
        t.rd (chArithFlags u.ch) = s.rd (chArithFlags u.ch) |||
          (afIf ((List.range 1024).any fun i => wraps96 ((x i).toInt + (y i).toInt)) afWideWrap).setWidth 64 := by
  have hne := chStatus_ne_chArithFlags u.ch u.ch
  refine ⟨_, exec_vec .vwadd u f s, ?_⟩
  rw [State.slotIssue_vecReady_of_frames h hfree hl (by decide) (by decide), State.vecReady_vwadd]
  refine ⟨fun k hk => State.advance_lands _ _ _ _ ?_, ?_⟩
  · rw [atCycle, ← s.vecReady_cycle u.ch .vwadd f]
    exact State.afterV3_lands _ _ _ _ _ _ k hk
  · rw [State.advance_rd _ _ _ hne]
    exact (State.addFlags_rd _ _ _).trans (by rw [State.vecReady_rd _ _ _ _ hne])

end

end Sys2Proof.Machine
end

section
open Sys2Proof Machine

/-- Settles O3. -/
theorem vectorConversionResults : Obligations.VectorConversionResults := by
  intro u f s h hb
  have hfree {o : VOp} (ho : vecUnit o f.slot = some (slotUnit f.slot)) : (s.chan u.ch).vecFree o f.slot := Chan.vecFree_some ho hb
  refine ⟨?vcvt, ?vunpk, ?vwadd, ?vwrnd, ?vshuf, ?vrsum, ?vbcast, ?vmovs⟩
  case vcvt => exact fun hl => completes_vecFlags (o := .vcvt) h (hfree rfl) hl (by decide) (by decide) (State.vecReady_vcvt s u f)
  case vunpk => exact completes_lanes .vunpk (lanes := fun v => vunpkLanes f.fmt.toNat f.mx (v f.va.toNat)) h (hfree rfl) fun _ _ => rfl
  case vwadd => exact completes_vwadd h (hfree rfl)
  case vwrnd => exact fun hl => completes_vecFlags (o := .vwrnd) h (hfree rfl) hl (by decide) (by decide) (State.vecReady_vwrnd s u f)
  case vshuf => exact fun hl => completes_vecPlain (o := .vshuf) h (hfree rfl) hl (by decide) (by decide) (State.vecReady_vshuf s u f)
  case vrsum => exact fun hl => completes_vecFlags (o := .vrsum) h (hfree rfl) hl (by decide) (by decide) (State.vecReady_vrsum s u f)
  case vbcast => exact fun hl => completes_vecPlain (o := .vbcast) h (hfree rfl) hl (by decide) (by decide) (State.vecReady_vbcast s u f)
  case vmovs => exact fun hl => completes_vecPlain (o := .vmovs) h (hfree rfl) hl (by decide) (by decide) (State.vecReady_vmovs s u f)

end

section
/-!
Issue of an operation whose bundle raises no fault (`Issues`), and the frame of the scalar operations (R99).
-/

namespace Sys2Proof.Machine

theorem chQCount_ne_chStatus (n : Fin 8) (q : Nat) : chQCount n q ≠ chStatus n := by
  unfold chQCount chStatus; omega

theorem chQRing_ne_chStatus (n : Fin 8) (q : Nat) : chQRing n q ≠ chStatus n := by
  unfold chQRing chStatus; omega

/-- The faults of a bundle are those it has as its slots arrive. -/
@[simp] theorem State.atIssue_bundleFaults (s : State) (n : Fin 8) (b : Bundle) : (s.atIssue n).bundleFaults n b = s.bundleFaults n b := by
  unfold State.bundleFaults State.ringEntries
  simp only [s.atIssue_fld n _ _ (chQCount_ne_chStatus n _), s.atIssue_fld n _ _ (chQRing_ne_chStatus n _), State.atIssue_chan]
  rfl

@[simp] theorem State.atIssue_opHazard (s : State) (n : Fin 8) (o : Op) : ((s.atIssue n).chan n).opHazard o = (s.chan n).opHazard o :=
  s.setChan_showHold_opHazard n o

/-- An operation that `Issues` takes effect, and the program counter moves on. -/
theorem State.slotIssue_issues {u : Issue} {o : Op} {s : State} (h : Issues u o s) (hc : (oneSlot o).cue? = none) (hw : (oneSlot o).waits = [])
    (he : (oneSlot o).ends? = none) (hr : ((s.atIssue u.ch).issueSlot u.ch o [] []).running u.ch = true) :
    s.slotIssue u o = ((s.atIssue u.ch).issueSlot u.ch o [] []).advance u.ch :=
  State.slotIssue_one h.1 hc hw he ((s.atIssue_bundleFaults _ _).trans h.2.1)
    (State.issueHazard_none_of_opHazard ((s.atIssue_opHazard _ _).trans h.2.2)) hr

/-- A control operation that is no branch and keeps its encoding rules issues. -/
theorem Issues.ctl {u : Issue} {o : COp} {f : CtlF} {s : State} (h : Alone u s) (hl : ctlLegal o f = true) (hb : (Op.ctl o f).isBranch = false) :
    Issues u (.ctl o f) s :=
  ⟨h, State.bundleFaults_plain _ _ _ (Bundle.legal_oneSlot hl hb) (fun _ => rfl) rfl (by simp) (by simp), rfl⟩

/-! ### Scalar operations (R99) -/

theorem exec_ctl (o : COp) (u : Issue) (f : CtlF) (s : State) : exec (o.instr u f) s = .next (s.slotIssue u (.ctl o f)) := by
  cases o <;> rfl

/-- The result of a scalar operation, from the scalar registers (R99). -/
def scalarValue (o : COp) (f : CtlF) (r : Nat → Word64) : Word64 :=
  let a := r f.sa.toNat
  let b := r f.sb.toNat
  match o with
  | .sadd => a + b
  | .saddi => a + f.imm.signExtend 64
  | .ssub => a - b
  | .smul => a * b
  | .sand => a &&& b
  | .sor => a ||| b
  | .sxor => a ^^^ b
  | .sshl => a <<< (b.toNat % 64)
  | .sshr => a >>> (b.toNat % 64)
  | .ssra => a.sshiftRight (b.toNat % 64)
  | .slui => (r f.sd.toNat <<< 16) ||| f.imm.setWidth 64
  | .scmplt => if a.slt b then 1 else 0
  | _ => 0

/-- A scalar operation puts its result in flight, and does nothing else. -/
theorem State.issueCtl_scalar {o : COp} (ho : o ∈ scalarOps) (s : State) (n : Fin 8) (f : CtlF) :
    s.issueCtl n o f = s.scalar n f.sd (scalarValue o f (s.chan n).s) := by
  simp only [scalarOps, List.mem_cons, List.not_mem_nil, or_false] at ho
  obtain rfl | rfl | rfl | rfl | rfl | rfl | rfl | rfl | rfl | rfl | rfl | rfl := ho <;> rfl

/-- What is asked of an operation of one slot beside its faults: it carries no cue and no wait, and ends no run. -/
theorem oneSlot_scalar {o : COp} (ho : o ∈ scalarOps) (f : CtlF) :
    (oneSlot (.ctl o f)).cue? = none ∧ (oneSlot (.ctl o f)).waits = [] ∧ (oneSlot (.ctl o f)).ends? = none ∧ (Op.ctl o f).isBranch = false := by
  simp only [scalarOps, List.mem_cons, List.not_mem_nil, or_false] at ho
  obtain rfl | rfl | rfl | rfl | rfl | rfl | rfl | rfl | rfl | rfl | rfl | rfl := ho <;> exact ⟨rfl, rfl, rfl, rfl⟩

/-- A scalar operation alone in its bundle. -/
theorem State.slotIssue_scalar {u : Issue} {o : COp} {f : CtlF} {s : State} (ho : o ∈ scalarOps) (h : Alone u s) (hl : ctlLegal o f = true) :
    s.slotIssue u (.ctl o f) = ((s.atIssue u.ch).scalar u.ch f.sd (scalarValue o f (s.chan u.ch).s)).advance u.ch := by
  obtain ⟨hc, hw, he, hb⟩ := oneSlot_scalar ho f
  have hv : (s.atIssue u.ch).issueSlot u.ch (.ctl o f) [] [] = (s.atIssue u.ch).scalar u.ch f.sd (scalarValue o f (s.chan u.ch).s) := by
    change (s.atIssue u.ch).issueCtl u.ch o f = _
    rw [State.issueCtl_scalar ho, State.atIssue_chan]
    rfl
  have hrun : ((s.atIssue u.ch).scalar u.ch f.sd (scalarValue o f (s.chan u.ch).s)).running u.ch = true := (s.atIssue_running u.ch).trans h.1
  rw [State.slotIssue_issues (.ctl h hl hb) hc hw he (by rw [hv]; exact hrun), hv]

theorem State.scalar_frames (p : Nat → Prop) (s : State) (n : Fin 8) (r : BitVec 6) (v : Word64) : Frames n p s (s.scalar n r v) :=
  s.after_frames p n _ _ _ _

/-! ### The bundle address (R84, R87) -/

/-- Putting an event in flight touches nothing of its channel but what is in flight. -/
theorem State.after_chan (s : State) (n : Fin 8) (slot k ord : Nat) (ev : Ev) :
    ∃ fl, (s.after n slot k ord ev).chan n = { s.chan n with flight := fl } := by
  unfold State.after State.schedule
  rw [State.take_chan, State.setChan_chan_same]
  exact ⟨_, rfl⟩

/-- The bundle address moves on as R84 and R87 give, from where the arriving slot found it. -/
theorem State.advance_nextPC {s t : State} {u : Issue} (hpc : t.fld (chStatus u.ch) CH_STATUS_PC = s.fld (chStatus u.ch) CH_STATUS_PC)
    (htarget : (t.chan u.ch).target = (s.chan u.ch).target) (hleft : (t.chan u.ch).shadowLeft = (s.chan u.ch).shadowLeft) :
    NextPC' s (t.advance u.ch) u := by
  have hw : CH_STATUS_PC.w = 15 := rfl
  unfold NextPC' State.advance
  simp only [hpc, htarget, hleft]
  rw [State.fld_setFld_same _ _ _ _ (by decide), hw]
  cases (s.chan u.ch).target with
  | none => exact Nat.mod_mod _ _
  | some x => by_cases h1 : (s.chan u.ch).shadowLeft = 1 <;> simp [h1]

theorem State.atIssue_pc (s : State) (n : Fin 8) : (s.atIssue n).fld (chStatus n) CH_STATUS_PC = s.fld (chStatus n) CH_STATUS_PC :=
  s.atIssue_status n _ (by decide) (by decide)

/-- After an operation that only puts an event in flight, the bundle address moves on. -/
theorem State.after_nextPC (s : State) (u : Issue) (slot k ord : Nat) (ev : Ev) :
    NextPC' s (((s.atIssue u.ch).after u.ch slot k ord ev).advance u.ch) u := by
  obtain ⟨fl, hc⟩ := (s.atIssue u.ch).after_chan u.ch slot k ord ev
  exact State.advance_nextPC (s.atIssue_pc u.ch) (by rw [hc, State.atIssue_chan]) (by rw [hc, State.atIssue_chan])

/-- A scalar operation alone in its bundle has its value in flight for the next bundle. -/
theorem completes_scalar {u : Issue} {o : COp} {f : CtlF} {s : State} (h : Alone u s) (ho : o ∈ scalarOps) (hl : ctlLegal o f = true) :
    Completes (o.instr u f) s fun t =>
      Lands t u.ch (atCycle s u 1) (.sreg f.sd.toNat (scalarValue o f (s.chan u.ch).s)) ∧ NextPC' s t u := by
  refine ⟨_, exec_ctl o u f s, ?_⟩
  rw [State.slotIssue_scalar ho h hl]
  refine ⟨State.advance_lands _ _ _ _ ?_, s.after_nextPC u _ _ _ _⟩
  have hland := (s.atIssue u.ch).after_lands u.ch 11 1 (ordWrite 11) (.sreg f.sd.toNat (scalarValue o f (s.chan u.ch).s))
  rw [State.atIssue_chan] at hland
  exact hland

/-! ### The frame of operations whose results land later (R144) -/

/-- A register of CH_STATUS or CH_ARITH_FLAGS of a channel. -/
abbrev StatusOrFlags (n : Fin 8) (off : Nat) : Prop := off = chStatus n ∨ off = chArithFlags n

/-- From a slot's arrival to the move of the program counter, an operation frames what it does at issue. -/
theorem Frames.issued {n : Fin 8} {s t : State} (h : Frames n (StatusOrFlags n) (s.atIssue n) t) : Frames n (StatusOrFlags n) s (t.advance n) :=
  (((s.atIssue_frames n).mono fun _ => .inl).trans h).trans ((t.advance_frames n).mono fun _ => .inl)

theorem State.slotIssue_vec_frames {u : Issue} {o : VOp} {f : VecF} {s : State} (h : Alone u s) (hl : vecLegal o f = true) (hf : o ≠ .xfill)
    (hr : o ≠ .xreset) (hfree : (s.chan u.ch).vecFree o f.slot) : Frames u.ch (StatusOrFlags u.ch) s (s.slotIssue u (.vec o f)) := by
  rw [State.slotIssue_vecReady_of_frames h hfree hl hf hr]
  exact (((State.vecTaken_frames _ _ _ o f).trans ((State.vecDefined_frames _ _ f hf hr).mono fun _ => .inr))).issued

/-- The unit of a vector operation that meets no hazard is free. -/
theorem Chan.vecFree_of_opHazard {c : Chan} {o : VOp} {f : VecF} (h : c.opHazard (.vec o f) = none) : c.vecFree o f.slot := by
  intro k hk
  by_contra hb
  simp [Chan.opHazard, Op.units, Option.mem_def.mp hk, Bool.not_eq_false _ ▸ hb] at h

theorem State.slotIssue_sf {u : Issue} {o : SfOp} {f : SfF} {s : State} (h : Alone u s) (hf : f.rsv = 0) :
    s.slotIssue u (.sf o f) = ((s.atIssue u.ch).issueSf u.ch o f).advance u.ch := by
  refine State.slotIssue_one h rfl rfl rfl (State.bundleFaults_sf _ _ o hf) (State.issueHazard_none_of_opHazard rfl) ?_
  change ((s.atIssue u.ch).issueSf u.ch o f).running u.ch = true
  rw [State.issueSf, State.vecResult_running, State.atIssue_running]
  exact h.1

end Sys2Proof.Machine
end

section
open Sys2Proof Machine

/-- Settles O10: what a vector or special-function operation does is to add flags and put results in flight (`State.vecDefined_frames`,
`State.addFlags_after_frames`), and a scalar one puts its result in flight (`State.scalar_frames`). -/
theorem channelOperationFrame : Obligations.ChannelOperationFrame := by
  intro u s h _
  have sf (o : SfOp) {g : SfF} (hg : g.rsv = 0) : Frames u.ch (StatusOrFlags u.ch) s (s.slotIssue u (.sf o g)) := by
    rw [State.slotIssue_sf h hg]
    exact ((State.addFlags_after_frames _ _ _ _ _ _ _).mono fun _ => .inr).issued
  refine ⟨fun o f hf hr hl hz => ⟨_, exec_vec o u f s, State.slotIssue_vec_frames h hl hf hr (Chan.vecFree_of_opHazard hz)⟩, fun g hg i hi => ?_,
    fun o ho f hl => ⟨_, exec_ctl o u f s, ?_⟩⟩
  · simp only [List.mem_cons, List.not_mem_nil, or_false] at hi
    obtain rfl | rfl | rfl | rfl | rfl := hi
    · exact ⟨_, exec_sf .recip u g s, sf _ hg⟩
    · exact ⟨_, exec_sf .rsqrt u g s, sf _ hg⟩
    · exact ⟨_, exec_sf .exp u g s, sf _ hg⟩
    · exact ⟨_, exec_sf .log u g s, sf _ hg⟩
    · exact ⟨_, exec_sf .tanh u g s, sf _ hg⟩
  · rw [State.slotIssue_scalar ho h hl]
    exact (State.scalar_frames _ _ _ _ _).issued

/-- Settles O7: a scalar operation puts `scalarValue` in flight for the next cycle (`State.slotIssue_scalar`), and the bundle address moves on. -/
theorem scalarResults : Obligations.ScalarResults := by
  intro u f s h
  refine ⟨?sadd, ?saddi, ?ssub, ?smul, ?sand, ?sor, ?sxor, ?sshl, ?sshr, ?ssra, ?slui, ?scmplt⟩
  case sadd => exact completes_scalar (o := .sadd) h (by decide)
  case saddi => exact completes_scalar (o := .saddi) h (by decide)
  case ssub => exact completes_scalar (o := .ssub) h (by decide)
  case smul => exact completes_scalar (o := .smul) h (by decide)
  case sand => exact completes_scalar (o := .sand) h (by decide)
  case sor => exact completes_scalar (o := .sor) h (by decide)
  case sxor => exact completes_scalar (o := .sxor) h (by decide)
  case sshl => exact completes_scalar (o := .sshl) h (by decide)
  case sshr => exact completes_scalar (o := .sshr) h (by decide)
  case ssra => exact completes_scalar (o := .ssra) h (by decide)
  case slui => exact completes_scalar (o := .slui) h (by decide)
  case scmplt =>
    intro hl
    have hc := completes_scalar (o := .scmplt) h (by decide) hl
    simp only [scalarValue, BitVec.slt, decide_eq_true_eq] at hc
    exact hc

end

section
/-!
The expert slot table (R119).
-/

namespace Sys2Proof.Machine

/-! ### One lane of XFILL -/

theorem chXdrop_ne_chXslotStat (n : Fin 8) (e : Nat) : chXdrop n e ≠ chXslotStat n := by
  unfold chXdrop chXslotStat; omega

/-- A field below its greatest value counts one more. -/
theorem State.fld_bump_lt (s : State) {o : Nat} {f : Fld} (hf : f.lo + f.w ≤ 64) {k : Nat} (hk : k < 2 ^ f.w) (h : s.fld o f < k) :
    (s.bump o f).fld o f = s.fld o f + 1 := by
  rw [State.fld_bump_same _ _ _ hf, bumped]
  omega

theorem State.fld_lt (s : State) (o : Nat) (f : Fld) : s.fld o f < 2 ^ f.w := Nat.mod_lt _ (Nat.two_pow_pos _)

section
variable {s : State} {n : Fin 8} {x : BitVec 32}

/-- An index beyond EXPERTS counts in BAD_INDEX. -/
theorem State.xfillLane_bad (hx : x ≠ 0xFFFFFFFF) (h : s.fld (chXslotCtl n) CH_XSLOT_CTL_EXPERTS ≤ x.toNat) :
    s.xfillLane n x = (0xFFFFFFFF, s.bump (chXslotStat n) CH_XSLOT_STAT_BAD_INDEX) := by
  have hx' : x.toNat ≠ 0xFFFFFFFF := fun e => hx (BitVec.eq_of_toNat_eq e)
  simp [State.xfillLane, hx', h]

/-- The index of an expert is not the reserved one. -/
theorem xfill_known (h : x.toNat < s.fld (chXslotCtl n) CH_XSLOT_CTL_EXPERTS) :
    x.toNat ≠ 0xFFFFFFFF ∧ ¬ s.fld (chXslotCtl n) CH_XSLOT_CTL_EXPERTS ≤ x.toNat := by
  have hlt : s.fld (chXslotCtl n) CH_XSLOT_CTL_EXPERTS < 2 ^ 9 := s.fld_lt _ _
  omega

/-- Below CAP a lane gets the present FILL, which rises by one. -/
theorem State.xfillLane_fill (h : x.toNat < s.fld (chXslotCtl n) CH_XSLOT_CTL_EXPERTS)
    (hc : s.fld (chXcap n x.toNat) CH_XCAP_FILL < s.fld (chXcap n x.toNat) CH_XCAP_CAP) :
    s.xfillLane n x = (BitVec.ofNat 32 (s.fld (chXcap n x.toNat) CH_XCAP_FILL), s.bump (chXcap n x.toNat) CH_XCAP_FILL) := by
  obtain ⟨hx, he⟩ := xfill_known h
  simp [State.xfillLane, hx, he, hc]

/-- At CAP a lane is deferred or dropped. -/
theorem State.xfillLane_full (h : x.toNat < s.fld (chXslotCtl n) CH_XSLOT_CTL_EXPERTS)
    (hc : s.fld (chXcap n x.toNat) CH_XCAP_CAP ≤ s.fld (chXcap n x.toNat) CH_XCAP_FILL) :
    s.xfillLane n x =
      if s.fld (chXslotCtl n) CH_XSLOT_CTL_POLICY = 1 ∧
          s.fld (chXslotStat n) CH_XSLOT_STAT_DEFER_USED < s.fld (chXslotCtl n) CH_XSLOT_CTL_DEFER_CAP then
        (0xFFFFFFFE, (s.bump (chXslotStat n) CH_XSLOT_STAT_DEFER_USED).bump (chXdrop n x.toNat) CH_XDROP_DEFERRED)
      else (0xFFFFFFFD, s.bump (chXdrop n x.toNat) CH_XDROP_DROPPED) := by
  obtain ⟨hx, he⟩ := xfill_known h
  simp [State.xfillLane, hx, he, Nat.not_lt.mpr hc]

end

/-! ### XFILL changes the table's registers only, and depends on nothing but them -/

/-- The registers of the expert slot table that XFILL writes. -/
def XTable (n : Fin 8) (off : Nat) : Prop := off = chXslotStat n ∨ ∃ e, off = chXcap n e ∨ off = chXdrop n e

theorem not_xTable_chStatus (n : Fin 8) : ¬ XTable n (chStatus n) := by
  unfold XTable chStatus chXslotStat chXcap chXdrop
  rintro (h | ⟨e, h | h⟩) <;> omega

theorem XTable.ne_chStatus {n : Fin 8} {off : Nat} (h : XTable n off) : off ≠ chStatus n := fun e => not_xTable_chStatus n (e ▸ h)

theorem State.xfillLane_onlyRegs (s : State) (n : Fin 8) (x : BitVec 32) : OnlyRegs (XTable n) s (s.xfillLane n x).2 := by
  have stat (t : State) (f : Fld) : OnlyRegs (XTable n) t (t.bump (chXslotStat n) f) := (t.bump_onlyRegs _ f).mono fun _ => .inl
  have cap (e : Nat) : OnlyRegs (XTable n) s (s.bump (chXcap n e) CH_XCAP_FILL) := (s.bump_onlyRegs _ _).mono fun _ h => .inr ⟨e, .inl h⟩
  have drop (t : State) (e : Nat) (f : Fld) : OnlyRegs (XTable n) t (t.bump (chXdrop n e) f) := (t.bump_onlyRegs _ f).mono fun _ h => .inr ⟨e, .inr h⟩
  unfold State.xfillLane
  dsimp only
  split
  · exact .of_eq s
  · split
    · exact stat s _
    · split
      · exact cap _
      · split
        · exact (stat s _).trans (drop _ _ _)
        · exact drop s _ _

theorem State.xfill_onlyRegs (n : Fin 8) (l : List (BitVec 32)) (s : State) : OnlyRegs (XTable n) s (s.xfill n l).2 := by
  induction l generalizing s with
  | nil => exact .of_eq s
  | cons x l ih => exact (s.xfillLane_onlyRegs n x).trans (ih _)

/-- Two states agree in every register but CH_STATUS of a channel. -/
def AgreeButStatus (n : Fin 8) (s t : State) : Prop := ∀ off, off ≠ chStatus n → t.rd off = s.rd off

theorem AgreeButStatus.fld {n : Fin 8} {s t : State} (h : AgreeButStatus n s t) {off : Nat} (ho : off ≠ chStatus n) (f : Fld) :
    t.fld off f = s.fld off f := by
  rw [State.fld, h off ho, State.fld]

theorem AgreeButStatus.bump {n : Fin 8} {s t : State} (h : AgreeButStatus n s t) {o : Nat} (ho : o ≠ chStatus n) (f : Fld) :
    AgreeButStatus n (s.bump o f) (t.bump o f) := by
  intro off hoff
  unfold State.bump State.addFld
  by_cases he : off = o
  · rw [he, State.rd_setFld_same, State.rd_setFld_same, h o ho, h.fld ho]
  · rw [State.rd_setFld_other _ _ _ _ _ he, State.rd_setFld_other _ _ _ _ _ he, h off hoff]

theorem State.xfillLane_congr {n : Fin 8} {s t : State} (h : AgreeButStatus n s t) (x : BitVec 32) :
    (t.xfillLane n x).1 = (s.xfillLane n x).1 ∧ AgreeButStatus n (s.xfillLane n x).2 (t.xfillLane n x).2 := by
  have hctl : chXslotCtl n ≠ chStatus n := by unfold chXslotCtl chStatus; omega
  have hstat : chXslotStat n ≠ chStatus n := XTable.ne_chStatus (.inl rfl)
  have hcap (e : Nat) : chXcap n e ≠ chStatus n := XTable.ne_chStatus (.inr ⟨e, .inl rfl⟩)
  have hdrop (e : Nat) : chXdrop n e ≠ chStatus n := XTable.ne_chStatus (.inr ⟨e, .inr rfl⟩)
  unfold State.xfillLane
  simp only [h.fld hctl, h.fld hstat, h.fld (hcap _)]
  split
  · exact ⟨rfl, h⟩
  · split
    · exact ⟨rfl, h.bump hstat _⟩
    · split
      · exact ⟨rfl, h.bump (hcap _) _⟩
      · split
        · exact ⟨rfl, (h.bump hstat _).bump (hdrop _) _⟩
        · exact ⟨rfl, h.bump (hdrop _) _⟩

theorem State.xfill_congr {n : Fin 8} (l : List (BitVec 32)) {s t : State} (h : AgreeButStatus n s t) :
    (t.xfill n l).1 = (s.xfill n l).1 ∧ AgreeButStatus n (s.xfill n l).2 (t.xfill n l).2 := by
  induction l generalizing s t with
  | nil => exact ⟨rfl, h⟩
  | cons x l ih =>
    obtain ⟨hx, hs⟩ := State.xfillLane_congr h x
    obtain ⟨hl, ht⟩ := ih hs
    exact ⟨congrArg₂ List.cons hx hl, ht⟩

/-! ### XFILL, XRESET and XREAD at issue -/

theorem State.xLater_cycle (s : State) (n : Fin 8) (lat : Nat) : ((s.xLater n lat).chan n).cycle = (s.chan n).cycle := by
  unfold State.xLater
  rw [State.setChan_chan_same]

@[simp] theorem State.xLater_fld (s : State) (n : Fin 8) (lat r : Nat) (g : Fld) : (s.xLater n lat).fld r g = s.fld r g := rfl

@[simp] theorem State.xLater_running (s : State) (n : Fin 8) (lat k : Nat) : (s.xLater n lat).running k = s.running k := rfl

theorem State.xreset_onlyRegs (s : State) (n : Fin 8) : OnlyRegs (XTable n) s (s.xreset n) :=
  ((s.setFld_onlyRegs _ _ _).mono fun _ => .inl).trans
    (.foldl _ _ (fun t e _ => (t.setFld_onlyRegs _ _ _).mono fun _ h => .inr ⟨e, .inl h⟩) _)

/-- Clearing FILL of the experts below `k`. -/
theorem State.foldl_clearFill (n : Fin 8) (k : Nat) (s : State) :
    let t := (List.range k).foldl (fun s e => s.setFld (chXcap n e) CH_XCAP_FILL 0) s
    (∀ e < k, t.fld (chXcap n e) CH_XCAP_FILL = 0) ∧ t.fld (chXslotStat n) CH_XSLOT_STAT_DEFER_USED = s.fld (chXslotStat n) CH_XSLOT_STAT_DEFER_USED := by
  induction k with
  | zero => exact ⟨fun _ h => absurd h (Nat.not_lt_zero _), rfl⟩
  | succ k ih =>
    simp only [List.range_succ, List.foldl_append, List.foldl_cons, List.foldl_nil]
    refine ⟨fun e he => ?_, ?_⟩
    · rcases Nat.lt_succ_iff_lt_or_eq.mp he with hlt | rfl
      · have hne : chXcap n e ≠ chXcap n k := by unfold chXcap; omega
        exact (State.fld_setFld_other _ _ _ _ _ _ hne).trans (ih.1 e hlt)
      · exact State.fld_setFld_same _ _ _ _ (by decide)
    · have hne : chXslotStat n ≠ chXcap n k := by unfold chXcap chXslotStat; omega
      exact (State.fld_setFld_other _ _ _ _ _ _ hne).trans ih.2

theorem State.xreset_clears (s : State) (n : Fin 8) :
    (∀ e < 256, (s.xreset n).fld (chXcap n e) CH_XCAP_FILL = 0) ∧ (s.xreset n).fld (chXslotStat n) CH_XSLOT_STAT_DEFER_USED = 0 := by
  obtain ⟨hfill, hused⟩ := State.foldl_clearFill n 256 (s.setFld (chXslotStat n) CH_XSLOT_STAT_DEFER_USED 0)
  exact ⟨hfill, hused.trans (State.fld_setFld_same _ _ _ _ (by decide))⟩

section
variable {u : Issue} {f : VecF} {s : State}

/-- XFILL, alone in its bundle with its unit free, gives the rows of its lanes and leaves the table as they do. -/
theorem completes_xfill (h : Alone u s) (hfree : (s.chan u.ch).vecFree .xfill f.slot) (hl : vecLegal .xfill f = true) :
    Completes (.xfill u f) s fun t => Lands t u.ch (atCycle s u 12) (.vreg f.vd.toNat (s.xfill u.ch (vOf s u f.va)).1) ∧
      ∀ off, XTable u.ch off → t.rd off = (s.xfill u.ch (vOf s u f.va)).2.rd off := by
  let r := (s.vecReady u.ch .xfill f).xfill u.ch (vOf s u f.va)
  have hd : (s.vecReady u.ch .xfill f).vecDefined u.ch .xfill f = (r.2.xLater u.ch 12).afterV u.ch (3 + f.slot.val) 12 f.vd.toNat r.1 := by
    simp only [State.vecDefined, State.vecReady_v]
    rfl
  have hagree : AgreeButStatus u.ch s (s.vecReady u.ch .xfill f) := fun _ ho => s.vecReady_rd _ _ _ ho
  obtain ⟨hlist, htable⟩ := State.xfill_congr (vOf s u f.va) hagree
  have honly := State.xfill_onlyRegs u.ch (vOf s u f.va) (s.vecReady u.ch .xfill f)
  have hrun : r.2.running u.ch = true :=
    ((State.running_of_rd (honly.1 _ (not_xTable_chStatus u.ch))).trans (s.vecReady_running _ _ _)).trans h.1
  refine ⟨_, exec_vec .xfill u f s, ?_⟩
  rw [State.slotIssue_vecReady h hfree hl (by rw [hd]; exact hrun), hd]
  refine ⟨State.advance_lands _ _ _ _ ?_, fun off ho => ?_⟩
  · have hland := (r.2.xLater u.ch 12).after_lands u.ch (3 + f.slot.val) 12 (ordWrite (3 + f.slot.val)) (.vreg f.vd.toNat r.1)
    rw [State.xLater_cycle, honly.chan, State.vecReady_cycle] at hland
    rw [← hlist]
    exact hland
  · rw [State.advance_rd _ _ _ ho.ne_chStatus]
    exact htable off ho.ne_chStatus

/-- XRESET, alone in its bundle with its unit free. -/
theorem completes_xreset (h : Alone u s) (hfree : (s.chan u.ch).vecFree .xreset f.slot) (hl : vecLegal .xreset f = true) :
    Completes (.xreset u f) s fun t =>
      (∀ e < 256, t.fld (chXcap u.ch e) CH_XCAP_FILL = 0) ∧ t.fld (chXslotStat u.ch) CH_XSLOT_STAT_DEFER_USED = 0 := by
  have honly := (s.vecReady u.ch .xreset f).xreset_onlyRegs u.ch
  have hrun : ((s.vecReady u.ch .xreset f).xreset u.ch).running u.ch = true :=
    ((State.running_of_rd (honly.1 _ (not_xTable_chStatus u.ch))).trans (s.vecReady_running _ _ _)).trans h.1
  have hkeep (t : State) {off : Nat} (ho : XTable u.ch off) (g : Fld) : (t.advance u.ch).fld off g = t.fld off g := by
    rw [State.fld, State.advance_rd _ _ _ ho.ne_chStatus, State.fld]
  refine ⟨_, exec_vec .xreset u f s, ?_⟩
  have hd : (s.vecReady u.ch .xreset f).vecDefined u.ch .xreset f = ((s.vecReady u.ch .xreset f).xreset u.ch).xLater u.ch 1 := rfl
  rw [State.slotIssue_vecReady h hfree hl (by rw [hd, State.xLater_running]; exact hrun), hd]
  obtain ⟨hfill, hused⟩ := (s.vecReady u.ch .xreset f).xreset_clears u.ch
  refine ⟨fun e he => ?_, ?_⟩
  · rw [hkeep _ (.inr ⟨e, .inl rfl⟩), State.xLater_fld]
    exact hfill e he
  · rw [hkeep _ (.inl rfl), State.xLater_fld]
    exact hused

theorem State.vecReady_xread (s : State) (u : Issue) (f : VecF) :
    (s.vecReady u.ch .xread f).vecDefined u.ch .xread f = (s.vecReady u.ch .xread f).after u.ch (3 + f.slot.val) 3 (ordWrite (3 + f.slot.val))
      (.vreg f.vd.toNat ((List.range 1024).map fun e =>
        if e < 256 then BitVec.ofNat 32 (kget (fun _ => 0) (s.chan u.ch).xLanded e) else 0)) := by
  simp only [State.vecDefined, State.vecReady_xLanded]
  rfl

end

end Sys2Proof.Machine
end

section
open Sys2Proof Machine

/-- Settles O4: the registers of the table are those of the same XFILL before its slot arrived (`State.xfill_congr`); each lane follows the cases of
the algorithm (`State.xfillLane_bad`, `State.xfillLane_fill`, `State.xfillLane_full`). -/
theorem expertSlots : Obligations.ExpertSlots := by
  refine ⟨fun u s f h hb => ⟨fun hl => ?xfill, fun hl => ?xreset, fun hl => ?xread⟩, fun s n x xs => ?lane⟩
  case xfill =>
    obtain ⟨t, ht, hland, htable⟩ := completes_xfill h (Chan.vecFree_some rfl hb) hl
    exact ⟨t, ht, hland, htable _ (.inl rfl), fun e _ => ⟨htable _ (.inr ⟨e, .inl rfl⟩), htable _ (.inr ⟨e, .inr rfl⟩)⟩⟩
  case xreset => exact completes_xreset h (Chan.vecFree_some rfl hb) hl
  case xread =>
    obtain ⟨t, ht, hland, -⟩ :=
      completes_vecPlain (o := .xread) h (Chan.vecFree_some rfl hb) hl (by decide) (by decide) (State.vecReady_xread s u f)
    exact ⟨t, ht, hland⟩
  case lane =>
    refine ⟨rfl, rfl, fun hx => ?reserved, fun hx he => ?bad, fun hk hc => ?fill, fun hk hc hd => ?defer, fun hk hc hd => ?drop⟩
    case reserved => subst hx; rfl
    case bad =>
      rw [State.xfillLane_bad hx he]
      exact ⟨rfl, State.fld_bump_same _ _ _ (by decide), State.bump_onlyRegs _ _ _⟩
    case fill =>
      rw [State.xfillLane_fill hk.1 hc]
      exact ⟨rfl, State.fld_bump_lt _ (by decide) (s.fld_lt _ CH_XCAP_CAP) hc, State.bump_onlyRegs _ _ _⟩
    case defer =>
      rw [State.xfillLane_full hk.1 hc, if_pos hd]
      have hne := chXdrop_ne_chXslotStat n x.toNat
      refine ⟨rfl, ?_, ?_, ((State.bump_onlyRegs _ _ _).mono fun _ => .inl).trans ((State.bump_onlyRegs _ _ _).mono fun _ => .inr)⟩
      · rw [(State.bump_onlyRegs _ _ _).fld hne.symm]
        exact State.fld_bump_lt _ (by decide) (s.fld_lt _ CH_XSLOT_CTL_DEFER_CAP) hd.2
      · rw [State.fld_bump_same _ _ _ (by decide), bumped, (State.bump_onlyRegs _ _ _).fld hne, bumped]
    case drop =>
      rw [State.xfillLane_full hk.1 hc, if_neg hd]
      exact ⟨rfl, State.fld_bump_same _ _ _ (by decide), State.bump_onlyRegs _ _ _⟩

end

section
/-!
The memory and queue slots (R96, R97, R188): accesses put in flight, counts of queues, and stream engines started.
-/

namespace Sys2Proof.Machine

/-! ### Completing an operation that `Issues` -/

theorem State.advance_chan (s : State) (n : Fin 8) :
    ∃ k l t, (s.advance n).chan n = { s.chan n with cycle := k, shadowLeft := l, target := t } := by
  unfold State.advance
  rw [State.setFld_chan, State.setChan_chan_same]
  exact ⟨_, _, _, rfl⟩

@[simp] theorem State.advance_stream (s : State) (n : Fin 8) (q : Nat) : ((s.advance n).chan n).stream q = (s.chan n).stream q := by
  obtain ⟨k, l, t, h⟩ := s.advance_chan n
  rw [h]
  rfl

theorem State.advance_flag (s : State) (n : Fin 8) {r : Nat} (h : r ≠ chStatus n) (f : Fld) : (s.advance n).flag r f = s.flag r f := by
  rw [State.flag, State.fld, State.advance_rd _ _ _ h, State.flag, State.fld]

/-- An operation that `Issues` completes with what its slot does. -/
theorem Issues.completes {u : Issue} {o : Op} {s : State} {i : Instr} (h : Issues u o s) (hi : exec i s = .next (s.slotIssue u o))
    (hc : (oneSlot o).cue? = none) (hw : (oneSlot o).waits = []) (he : (oneSlot o).ends? = none)
    (hr : ((s.atIssue u.ch).issueSlot u.ch o [] []).rd (chStatus u.ch) = (s.atIssue u.ch).rd (chStatus u.ch)) {P : State → Prop}
    (hP : P (((s.atIssue u.ch).issueSlot u.ch o [] []).advance u.ch)) : Completes i s P := by
  have hrun : ((s.atIssue u.ch).issueSlot u.ch o [] []).running u.ch = true :=
    ((State.running_of_rd hr).trans (s.atIssue_running u.ch)).trans h.1.1
  refine ⟨_, hi, ?_⟩
  rw [State.slotIssue_issues h hc hw he hrun]
  exact hP

/-- An operation that `Issues` and puts one event in flight. -/
theorem Issues.completes_after {u : Issue} {o : Op} {s : State} {i : Instr} (h : Issues u o s) (hi : exec i s = .next (s.slotIssue u o))
    (hc : (oneSlot o).cue? = none) (hw : (oneSlot o).waits = []) (he : (oneSlot o).ends? = none) {slot k ord : Nat} {ev : Ev}
    (ho : (s.atIssue u.ch).issueSlot u.ch o [] [] = (s.atIssue u.ch).after u.ch slot k ord ev) :
    Completes i s fun t => Lands t u.ch (atCycle s u k) ev := by
  refine h.completes hi hc hw he (by rw [ho, State.after_rd]) (State.advance_lands _ _ _ _ ?_)
  rw [ho]
  have hl := (s.atIssue u.ch).after_lands u.ch slot k ord ev
  rw [State.atIssue_chan] at hl
  exact hl

theorem Issue.withSram_nil (u : Issue) : u.withSram [] = u := by
  rw [Issue.withSram, List.map_nil, List.append_nil]

/-- An operation that `Issues` keeps its encoding rules (R86). -/
theorem Issues.legal {u : Issue} {o : Op} {s : State} (h : Issues u o s) : o.legal (s.chan u.ch) = true := by
  have hf := h.2.1
  unfold State.bundleFaults at hf
  dsimp only at hf
  split at hf
  · exact absurd hf (List.cons_ne_nil _ _)
  · next hb =>
    simp only [Bundle.legal, oneSlot, Bool.not_eq_true', Bool.not_eq_false, Bool.and_eq_true, List.all_cons] at hb
    exact hb.1.1.2.1

/-! ### Stream engines of a channel -/

theorem State.setStream_stream_same (s : State) (n : Fin 8) {q : Nat} (h : q < 24) (x : Stream) : ((s.setStream n q x).chan n).stream q = x := by
  rw [State.setStream, dif_pos h, State.setChan_chan_same, Chan.stream, nth]
  simp [h]

theorem State.setStream_stream_other (s : State) (n : Fin 8) {q p : Nat} (h : p ≠ q) (x : Stream) :
    ((s.setStream n q x).chan n).stream p = (s.chan n).stream p := by
  unfold State.setStream
  split
  · rw [State.setChan_chan_same, Chan.stream, nth, Chan.stream, nth]
    simp [Ne.symm h]
  · rfl

/-- Setting a stream engine touches nothing of its channel but the engines. -/
theorem State.setStream_chan (s : State) (n : Fin 8) (q : Nat) (x : Stream) :
    ∃ v, (s.setStream n q x).chan n = { s.chan n with streams := v } := by
  unfold State.setStream
  split
  · exact ⟨_, State.setChan_chan_same _ _ _⟩
  · exact ⟨_, rfl⟩

@[simp] theorem State.setStream_rd (s : State) (n : Fin 8) (q : Nat) (x : Stream) (r : Nat) : (s.setStream n q x).rd r = s.rd r := by
  unfold State.setStream
  split <;> rfl

theorem State.setStream_onlyChan (p : Nat → Prop) (s : State) (n : Fin 8) (q : Nat) (x : Stream) : OnlyChan n p s (s.setStream n q x) := by
  unfold State.setStream
  dsimp only
  split
  · exact s.setChan_onlyChan p n _
  · exact .of_eq s

theorem State.showCount_onlyRegs (s : State) (n : Fin 8) (q : Nat) : OnlyRegs (fun off => off = chQCount n q) s (s.showCount n q) :=
  (s.setFld_onlyRegs _ _ _).trans (State.setFld_onlyRegs _ _ _ _)

@[simp] theorem State.showCount_chan (s : State) (n m : Fin 8) (q : Nat) : (s.showCount n q).chan m = s.chan m := rfl

theorem State.seErr_onlyRegs (s : State) (n : Fin 8) (q kind addr : Nat) : OnlyRegs (fun off => off = mcSeErr n) s (s.seErr n q kind addr) := by
  unfold State.seErr
  split
  · exact .of_eq s
  · exact (((s.setFlag_onlyRegs _ _).trans (State.setFld_onlyRegs _ _ _ _)).trans (State.setFld_onlyRegs _ _ _ _)).trans
      (State.setFld_onlyRegs _ _ _ _)

/-- A stop of a stream engine is on record, this one or an earlier one (R182, R217). -/
theorem State.seErr_valid (s : State) (n : Fin 8) (q kind addr : Nat) : (s.seErr n q kind addr).flag (mcSeErr n) MC_SE_ERR_VALID = true := by
  unfold State.seErr
  split
  · assumption
  · unfold State.flag
    rw [State.fld_setFld_field _ _ _ _ _ (by decide) (by decide), State.fld_setFld_field _ _ _ _ _ (by decide) (by decide),
      State.fld_setFld_field _ _ _ _ _ (by decide) (by decide), State.setFlag, State.keepSet_fld, State.fld_setFld_same _ _ _ _ (by decide)]
    decide

/-! ### QREL and QCOMMIT (R115, R155) -/

theorem State.release_rd (s : State) (n : Fin 8) (q count : Nat) {r : Nat} (h : r ≠ chQCount n q) : (s.release n q count).rd r = s.rd r := by
  rw [State.release, (State.showCount_onlyRegs _ n q).1 _ h, State.setStream_rd]

/-- The count of a queue's own side after QREL or QCOMMIT, and the change that sets out for its engine. -/
theorem State.release_stream (s : State) (n : Fin 8) {q : Nat} (count : Nat) (h : q < 24) :
    ((s.release n q count).chan n).stream q =
      if q < 16 then { (s.chan n).stream q with
        r := ((s.chan n).stream q).r + count, down := ((s.chan n).stream q).down ++ [(((s.chan n).stream q).r + count, s.now)] }
      else { (s.chan n).stream q with
        c := ((s.chan n).stream q).c + count, down := ((s.chan n).stream q).down ++ [(((s.chan n).stream q).c + count, s.now)] } := by
  rw [State.release, State.showCount_chan, State.setStream_stream_same _ _ h]

@[simp] theorem State.atIssue_stream (s : State) (n : Fin 8) (q : Nat) : ((s.atIssue n).chan n).stream q = (s.chan n).stream q := by
  rw [State.atIssue_chan]
  rfl

@[simp] theorem State.atIssue_now (s : State) (n : Fin 8) : (s.atIssue n).now = s.now := by
  have h : timNow ≠ chStatus n := by unfold timNow chStatus; omega
  rw [State.now, State.atIssue_rd _ _ _ h, State.now]

theorem completes_qrel {u : Issue} {f : QueF} {s : State} (h : Issues u (.qrel f) s) : Completes (.qrel u f) s fun t =>
    let r := ((s.chan u.ch).stream f.q.toNat).r + f.count.toNat
    ((t.chan u.ch).stream f.q.toNat).r = r ∧ (r, s.now) ∈ ((t.chan u.ch).stream f.q.toNat).down := by
  have hq : f.q.toNat < 16 := by
    have hl := h.legal
    simp only [Op.legal, Bool.and_eq_true, decide_eq_true_eq] at hl
    exact hl.1.1
  refine h.completes rfl rfl rfl rfl (State.release_rd _ _ _ _ (chQCount_ne_chStatus _ _).symm) ?_
  change _ ∧ _
  rw [State.advance_stream]
  simp only [State.issueSlot, State.release_stream _ _ _ (hq.trans (by decide)), hq, if_true, State.atIssue_stream, State.atIssue_now]
  exact ⟨trivial, List.mem_append_right _ (List.mem_singleton_self _)⟩

theorem completes_qcommit {u : Issue} {f : QueF} {s : State} (h : Issues u (.qcommit f) s) : Completes (.qcommit u f) s fun t =>
    let c := ((s.chan u.ch).stream f.q.toNat).c + f.count.toNat
    ((t.chan u.ch).stream f.q.toNat).c = c ∧ (c, s.now) ∈ ((t.chan u.ch).stream f.q.toNat).down := by
  have hq : 16 ≤ f.q.toNat ∧ f.q.toNat < 24 := by
    have hl := h.legal
    simp only [Op.legal, Bool.and_eq_true, decide_eq_true_eq] at hl
    exact hl.1.1
  refine h.completes rfl rfl rfl rfl (State.release_rd _ _ _ _ (chQCount_ne_chStatus _ _).symm) ?_
  change _ ∧ _
  rw [State.advance_stream]
  simp only [State.issueSlot, State.release_stream _ _ _ hq.2, Nat.not_lt.mpr hq.1, if_false, State.atIssue_stream, State.atIssue_now]
  exact ⟨trivial, List.mem_append_right _ (List.mem_singleton_self _)⟩

end Sys2Proof.Machine
end

section
/-!
What an access does to the arbiters whether it is granted or not (R193; log entry 68), and the descriptor that QSTART has read (R188).
-/

namespace Sys2Proof.Machine

/-! ### Accesses, granted or not -/

section
variable {s t : State}

theorem OnlyArbs.chan (h : OnlyArbs s t) (n : Fin 8) : t.chan n = s.chan n := by rw [h.2]; rfl

/-- No register below the arbiters' blocks changes. -/
theorem OnlyArbs.rd_lower (h : OnlyArbs s t) {off : Nat} (ho : off < 0x02010000) : t.rd off = s.rd off :=
  h.1 off fun hr => absurd hr.lower (Nat.not_le.mpr ho)

end

theorem chStatus_lt (n : Fin 8) : chStatus n < 0x02010000 := by
  have := n.isLt
  unfold chStatus; omega

theorem chBankMap_lt (n : Fin 8) : chBankMap n < 0x02010000 := by
  have := n.isLt
  unfold chBankMap; omega

theorem OnlyArbs.running {s t : State} (h : OnlyArbs s t) (n : Fin 8) : t.running n = s.running n :=
  State.running_of_rd (h.rd_lower (chStatus_lt n))

theorem State.bankMap_congr {s t : State} {n : Fin 8} (hr : t.running n = s.running n) (ha : (t.chan n).applied = (s.chan n).applied)
    (hm : t.rd (chBankMap n) = s.rd (chBankMap n)) : t.bankMap n = s.bankMap n := by
  rw [State.bankMap, hr, ha, hm, State.bankMap]

theorem OnlyArbs.bankMap {s t : State} (h : OnlyArbs s t) (n : Fin 8) : t.bankMap n = s.bankMap n :=
  State.bankMap_congr (h.running n) (by rw [h.chan]) (h.rd_lower (chBankMap_lt n))

theorem State.arbRaise_onlyArbs (s : State) (a : ArbId) (k : Fin 10) : OnlyArbs s (s.arbRaise a k) := by
  unfold State.arbRaise
  dsimp only
  split
  · exact .refl s
  · exact s.setArb_onlyArbs a _

theorem State.arbDrop_onlyArbs (s : State) (a : ArbId) : OnlyArbs s (s.arbDrop a) := s.setArb_onlyArbs a _

theorem State.arbGrant_onlyArbs (s : State) (a : ArbId) (k : Fin 10) (reserved : Bool) : OnlyArbs s (s.arbGrant a k reserved) := by
  have hcnt : ArbRegs (arbCntOf a k) := ⟨a, k, .inr (.inl rfl)⟩
  have hlong : ArbRegs (arbLongestOf a k) := ⟨a, k, .inr (.inr rfl)⟩
  unfold State.arbGrant
  extract_lets x r t u v reqs
  have ht : OnlyArbs s t := s.setFld_onlyArbs _ _ hcnt
  have hu : OnlyArbs s u := by
    simp only [u]
    split
    · exact ht.trans (t.setFld_onlyArbs _ _ hcnt)
    · exact ht
  exact (hu.trans (u.setFld_onlyArbs _ _ hlong)).trans (State.setArb_onlyArbs _ a _)

/-- What one access can come to: nothing, or its request raised, or, where its requester holds already, that grant given back, or a grant taken
and given back. -/
theorem State.arbAccess_cases (s : State) (k : Fin 10) (a : ArbId) :
    s.arbAccess k a = (s, false) ∨ s.arbAccess k a = (s.arbRaise a k, false) ∨
      ((s.arb a).holder = some k.val ∧ s.arbAccess k a = (s.arbDrop a, true)) ∨
      ((s.arb a).holder = none ∧ ∃ r, s.arbAccess k a = (((s.arbRaise a k).arbGrant a k r).arbDrop a, true)) := by
  unfold State.arbAccess
  extract_lets x usable t
  split
  · exact .inl rfl
  · split
    · exact .inr (.inl rfl)
    · split
      · next hh => exact .inr (.inr (.inl ⟨hh, rfl⟩))
      · split
        · next j r hh hp =>
          split
          · exact .inr (.inr (.inr ⟨hh, r, rfl⟩))
          · exact .inr (.inl rfl)
        · exact .inr (.inl rfl)

theorem State.arbAccess_onlyArbs (s : State) (k : Fin 10) (a : ArbId) : OnlyArbs s (s.arbAccess k a).1 := by
  have hraise := s.arbRaise_onlyArbs a k
  obtain h | h | ⟨-, h⟩ | ⟨-, r, h⟩ := s.arbAccess_cases k a <;> rw [h]
  · exact .refl s
  · exact hraise
  · exact s.arbDrop_onlyArbs a
  · exact (hraise.trans (State.arbGrant_onlyArbs _ _ _ _)).trans (State.arbDrop_onlyArbs _ _)

theorem OnlyArbs.foldl {α : Type} (f : State → α → State) (h : ∀ s x, OnlyArbs s (f s x)) (l : List α) (s : State) : OnlyArbs s (l.foldl f s) := by
  induction l generalizing s with
  | nil => exact .refl s
  | cons x l ih => exact (h s x).trans (ih _)

/-- One access of a command, after those before it. -/
def accessStep (acc : State × Bool) (x : Fin 10 × ArbId) : State × Bool := ((acc.1.arbAccess x.1 x.2).1, acc.2 && (acc.1.arbAccess x.1 x.2).2)

/-- The accesses of one command, one after another, before it is known whether all are granted. -/
def State.arbTries (s : State) (l : List (Fin 10 × ArbId)) : State × Bool := l.foldl accessStep (s, true)

theorem State.arbAccesses_eq (s : State) (l : List (Fin 10 × ArbId)) :
    s.arbAccesses l = if (s.arbTries l).2 then s.arbTries l else (l.foldl (fun s x => s.arbRaise x.2 x.1) s, false) := rfl

theorem foldl_accessStep_onlyArbs (l : List (Fin 10 × ArbId)) (acc : State × Bool) : OnlyArbs acc.1 (l.foldl accessStep acc).1 := by
  induction l generalizing acc with
  | nil => exact .refl _
  | cons x l ih => exact (acc.1.arbAccess_onlyArbs x.1 x.2).trans (ih _)

theorem State.arbAccesses_onlyArbs (s : State) (l : List (Fin 10 × ArbId)) : OnlyArbs s (s.arbAccesses l).1 := by
  rw [State.arbAccesses_eq]
  split
  · exact foldl_accessStep_onlyArbs l (s, true)
  · exact OnlyArbs.foldl _ (fun s x => s.arbRaise_onlyArbs _ _) l s

/-! ### An arbiter that another holds -/

/-- Another than requester `k` holds an arbiter. -/
def State.heldFrom (s : State) (a : ArbId) (k : Nat) : Prop := ∃ j, (s.arb a).holder = some j ∧ j ≠ k

theorem State.setArb_holder {s : State} {a b : ArbId} {x : Arb} (h : arbKey b = arbKey a → x.holder = (s.arb b).holder) :
    ((s.setArb a x).arb b).holder = (s.arb b).holder := by
  rw [State.setArb_arb]
  split
  · next e => exact h e
  · rfl

theorem State.arb_eq_of_key {s : State} {a b : ArbId} (h : arbKey b = arbKey a) : s.arb b = s.arb a := by
  rw [State.arb, h, State.arb]

/-- Raising a request changes no holder. -/
theorem State.arbRaise_holder (s : State) (a b : ArbId) (k : Fin 10) : ((s.arbRaise a k).arb b).holder = (s.arb b).holder := by
  unfold State.arbRaise
  dsimp only
  split
  · rfl
  · exact State.setArb_holder fun e => by rw [State.arb_eq_of_key e]

/-- An access at an arbiter that another holds is not granted, and he goes on holding it. -/
theorem State.arbAccess_held {s : State} {a : ArbId} {k : Fin 10} (h : s.heldFrom a k.val) :
    (s.arbAccess k a).2 = false ∧ ((s.arbAccess k a).1.arb a).holder = (s.arb a).holder := by
  obtain ⟨j, hj, hne⟩ := h
  obtain e | e | ⟨hh, -⟩ | ⟨hh, -⟩ := s.arbAccess_cases k a
  · rw [e]; exact ⟨rfl, rfl⟩
  · rw [e]; exact ⟨rfl, s.arbRaise_holder a a k⟩
  · exact absurd (Option.some.inj (hj.symm.trans hh)) hne
  · exact absurd (hj.symm.trans hh) (Option.some_ne_none j)

theorem State.setArb_arb_other (s : State) {a b : ArbId} (h : arbKey b ≠ arbKey a) (x : Arb) : (s.setArb a x).arb b = s.arb b := by
  rw [State.setArb_arb, if_neg h]

theorem State.arbRaise_arb_other (s : State) {a b : ArbId} (h : arbKey b ≠ arbKey a) (k : Fin 10) : (s.arbRaise a k).arb b = s.arb b := by
  unfold State.arbRaise
  dsimp only
  split
  · rfl
  · exact s.setArb_arb_other h _

theorem State.arbGrant_arb_other (s : State) {a b : ArbId} (h : arbKey b ≠ arbKey a) (k : Fin 10) (r : Bool) :
    (s.arbGrant a k r).arb b = s.arb b := by
  unfold State.arbGrant
  extract_lets x q t u v reqs
  rw [State.setArb_arb_other _ h]
  simp only [v, u]
  split <;> rfl

/-- An access leaves the other arbiters as they are. -/
theorem State.arbAccess_arb_other (s : State) {a b : ArbId} (h : arbKey b ≠ arbKey a) (k : Fin 10) : (s.arbAccess k a).1.arb b = s.arb b := by
  have hraise := s.arbRaise_arb_other h k
  obtain e | e | ⟨-, e⟩ | ⟨-, r, e⟩ := s.arbAccess_cases k a <;> rw [e]
  · exact hraise
  · exact s.setArb_arb_other h _
  · exact (State.setArb_arb_other _ h _).trans ((State.arbGrant_arb_other _ h _ _).trans hraise)

/-- Who holds an arbiter goes on holding it whatever access his rival makes. -/
theorem State.arbAccess_heldFrom {s : State} {b : ArbId} {k : Fin 10} (h : s.heldFrom b k.val) (a : ArbId) :
    (s.arbAccess k a).1.heldFrom b k.val := by
  by_cases e : arbKey b = arbKey a
  · obtain ⟨j, hj, hne⟩ := h
    have ha : (s.arb a).holder = some j := by rw [← State.arb_eq_of_key e]; exact hj
    exact ⟨j, by rw [State.arb_eq_of_key e, (State.arbAccess_held ⟨j, ha, hne⟩).2, ha], hne⟩
  · rw [State.heldFrom, s.arbAccess_arb_other e k]
    exact h

/-- Where another holds one of the arbiters of a command's accesses, or one was not granted, not all are granted. -/
theorem foldl_accessStep_held {k : Fin 10} {a : ArbId} {l : List (Fin 10 × ArbId)} (hl : ∀ x ∈ l, x.1 = k) {acc : State × Bool}
    (h : acc.1.heldFrom a k.val) (ha : acc.2 = false ∨ (k, a) ∈ l) : (l.foldl accessStep acc).2 = false := by
  induction l generalizing acc with
  | nil => exact ha.resolve_right List.not_mem_nil
  | cons x l ih =>
    obtain ⟨i, b⟩ := x
    obtain rfl : i = k := hl _ List.mem_cons_self
    refine ih (fun y hy => hl y (List.mem_cons_of_mem _ hy)) (State.arbAccess_heldFrom h b) ?_
    rcases ha with ha | ha
    · exact .inl (by rw [accessStep, ha, Bool.false_and])
    · rcases List.mem_cons.mp ha with e | ha
      · obtain ⟨-, rfl⟩ := Prod.mk.inj e
        exact .inl (by rw [accessStep, (State.arbAccess_held h).1, Bool.and_false])
      · exact .inr ha

theorem State.arbAccesses_held {s : State} {k : Fin 10} {l : List (Fin 10 × ArbId)} (hl : ∀ x ∈ l, x.1 = k) {a : ArbId} (ha : (k, a) ∈ l)
    (h : s.heldFrom a k.val) : (s.arbAccesses l).2 = false := by
  have ht : (s.arbTries l).2 = false := foldl_accessStep_held hl h (.inr ha)
  rw [State.arbAccesses_eq, ht]
  rfl

/-! ### Reading a descriptor (R188) -/

/-- What QSTART leaves of an engine before its descriptor is read. -/
def Stream.started (x : Stream) (addr : Nat) (errs : EccObs) : Stream :=
  { x with busy := true, desc := some (addr, errs), addr := 0, entries := 0, rowEntries := 1, stride := 0, issued := 0, bursts := [], redo := [],
           landed := [], counted := 0, failed := false }

theorem State.startStream_eq (s : State) (n : Fin 8) (q addr : Nat) (errs : EccObs) :
    s.startStream n q addr errs = ((s.setStream n q (((s.chan n).stream q).started addr errs)).showCount n q).readDesc n q := rfl

@[simp] theorem readWords_nil (addr : Nat) (b : List Byte) : readWords addr b [] = (b, []) := rfl

@[simp] theorem State.sramFound_nil (s : State) (n : Fin 8) (map : Word64) (pc cycle : Nat) : s.sramFound n map pc cycle [] = s := rfl

/-- Whether the 32 bytes of a descriptor break a rule of R188. -/
abbrev descBad (d : List Byte) : Prop :=
  leAt d 8 4 = 0 ∨ leAt d 12 2 = 0 ∨ leAt d 14 2 ≠ 0 ∨ leAt d 24 8 ≠ 0 ∨ leAt d 0 8 % 64 ≠ 0 ∨ toSigned 64 (leAt d 16 8) % 64 ≠ 0

theorem mcSeErr_ne_chQCount (n : Fin 8) {q : Nat} (h : q < 24) : mcSeErr n ≠ chQCount n q := by
  have := n.isLt
  unfold mcSeErr chQCount; omega

theorem mcSeErr_ne_chStatus (n : Fin 8) : mcSeErr n ≠ chStatus n := by
  have := n.isLt
  unfold mcSeErr chStatus; omega

/-- An engine with the descriptor it has taken. -/
def Stream.taken (x : Stream) (d : List Byte) : Stream :=
  { x with desc := none, addr := leAt d 0 8, entries := leAt d 8 4, rowEntries := leAt d 12 2, stride := toSigned 64 (leAt d 16 8) }

/-- The engine of a queue refuses the descriptor read, or takes it. -/
def State.judgeDesc (s : State) (n : Fin 8) (q : Nat) (d : List Byte) : State :=
  if descBad d then ((s.seErr n q 1 (leAt d 0 8)).setStream n q { (s.chan n).stream q with desc := none, busy := false }).showCount n q
  else (s.setStream n q (((s.chan n).stream q).taken d)).showCount n q

theorem State.judgeDesc_status (s : State) (n : Fin 8) (q : Nat) (d : List Byte) : (s.judgeDesc n q d).rd (chStatus n) = s.rd (chStatus n) := by
  have hq := (chQCount_ne_chStatus n q).symm
  unfold State.judgeDesc
  split
  · rw [(State.showCount_onlyRegs _ n q).1 _ hq, State.setStream_rd, (State.seErr_onlyRegs _ n q _ _).1 _ (mcSeErr_ne_chStatus n).symm]
  · rw [(State.showCount_onlyRegs _ n q).1 _ hq, State.setStream_rd]

theorem State.judgeDesc_bad (s : State) (n : Fin 8) {q : Nat} {d : List Byte} (hq : q < 24) (h : descBad d) :
    (((s.judgeDesc n q d).chan n).stream q).busy = false ∧ (s.judgeDesc n q d).flag (mcSeErr n) MC_SE_ERR_VALID = true := by
  rw [State.judgeDesc, if_pos h, State.showCount_chan, State.setStream_stream_same _ _ hq]
  refine ⟨rfl, ?_⟩
  unfold State.flag
  rw [(State.showCount_onlyRegs _ n q).fld (mcSeErr_ne_chQCount n hq), State.fld, State.setStream_rd]
  exact s.seErr_valid n q _ _

theorem State.judgeDesc_good (s : State) (n : Fin 8) {q : Nat} {d : List Byte} (hq : q < 24) (h : ¬ descBad d) :
    ((s.judgeDesc n q d).chan n).stream q = ((s.chan n).stream q).taken d := by
  rw [State.judgeDesc, if_neg h, State.showCount_chan, State.setStream_stream_same _ _ hq]

section
variable {s t : State} {n : Fin 8} {q a : Nat}

/-- A descriptor that is not granted its reading waits. -/
theorem State.readDesc_waits {errs : EccObs} (hd : ((s.chan n).stream q).desc = some (a, errs)) (h : s.arbAccesses (bankArbs 1 n a 32) = (t, false)) :
    s.readDesc n q = t := by
  unfold State.readDesc
  rw [hd]
  simp only [h]

/-- A descriptor that is granted its reading, and is read without errors, is judged. -/
theorem State.readDesc_reads (hd : ((s.chan n).stream q).desc = some (a, [])) (h : s.arbAccesses (bankArbs 1 n a 32) = (t, true)) :
    s.readDesc n q = t.judgeDesc n q ((t.chan n).sramRead (t.bankMap n) a 32) := by
  unfold State.readDesc
  rw [hd]
  simp only [h, readWords_nil, State.sramFound_nil]
  rfl

/-- Whatever comes of a descriptor that has no errors, CH_STATUS is as it was. -/
theorem State.readDesc_status (hd : ((s.chan n).stream q).desc = some (a, [])) : (s.readDesc n q).rd (chStatus n) = s.rd (chStatus n) := by
  have ht := (s.arbAccesses_onlyArbs (bankArbs 1 n a 32)).rd_lower (chStatus_lt n)
  cases hb : (s.arbAccesses (bankArbs 1 n a 32)).2 with
  | false => rw [State.readDesc_waits hd (Prod.ext rfl hb), ht]
  | true => rw [State.readDesc_reads hd (Prod.ext rfl hb), State.judgeDesc_status, ht]

end

/-- The accesses granted in one state are granted in another with the same arbiters and memory as usable. -/
theorem Granted.congr {s t : State} {l : List (Fin 10 × ArbId)} (h : Granted s l) (ha : t.arbs = s.arbs) (hu : t.memUsable = s.memUsable) :
    Granted t l := by
  intro x hx
  have hg := h x hx
  unfold State.grants State.arb at hg ⊢
  rw [ha, hu]
  exact hg

/-- QSTART's engine before its descriptor is read (R188). -/
def State.qstarted (s : State) (n : Fin 8) (q a : Nat) : State := ((s.atIssue n).setStream n q (((s.chan n).stream q).started a [])).showCount n q

section
variable (s : State) (n : Fin 8) {q : Nat} (a : Nat)

theorem State.qstarted_onlyChan : OnlyChan n (fun off => off = chStatus n ∨ off = chQCount n q) s (s.qstarted n q a) :=
  (((s.atIssue_onlyChan n).mono fun _ => .inl).trans (State.setStream_onlyChan _ _ n q _)).trans
    (((State.showCount_onlyRegs _ n q).onlyChan n).mono fun _ => .inr)

theorem State.qstarted_stream (hq : q < 24) : ((s.qstarted n q a).chan n).stream q = ((s.chan n).stream q).started a [] :=
  State.setStream_stream_same _ n hq _

theorem State.qstarted_status : (s.qstarted n q a).rd (chStatus n) = (s.atIssue n).rd (chStatus n) := by
  rw [State.qstarted, (State.showCount_onlyRegs _ n q).1 _ (chQCount_ne_chStatus n q).symm, State.setStream_rd]

theorem State.qstarted_bankMap : (s.qstarted n q a).bankMap n = s.bankMap n := by
  have hq : chBankMap n ≠ chQCount n q := by unfold chBankMap chQCount; omega
  have hs : chBankMap n ≠ chStatus n := by unfold chBankMap chStatus; omega
  obtain ⟨v, hv⟩ := (s.atIssue n).setStream_chan n q (((s.chan n).stream q).started a [])
  refine State.bankMap_congr ((State.running_of_rd (s.qstarted_status n a)).trans (s.atIssue_running n)) ?_ ?_
  · rw [State.qstarted, State.showCount_chan, hv, State.atIssue_chan]
  · exact (s.qstarted_onlyChan n a).1 _ (by rintro (h | h) <;> contradiction)

theorem State.qstarted_sram : ((s.qstarted n q a).chan n).sram = (s.chan n).sram := by
  obtain ⟨v, hv⟩ := (s.atIssue n).setStream_chan n q (((s.chan n).stream q).started a [])
  rw [State.qstarted, State.showCount_chan, hv, State.atIssue_chan]

theorem State.qstarted_arbs : (s.qstarted n q a).arbs = s.arbs := by rw [(s.qstarted_onlyChan n a).2.2]

theorem State.qstarted_memUsable (hq : q < 24) : (s.qstarted n q a).memUsable = s.memUsable := by
  have hr : mcStatus ≠ chStatus n ∧ mcStatus ≠ chQCount n q := by
    unfold mcStatus chStatus chQCount; omega
  rw [State.memUsable, State.flag, State.fld, (s.qstarted_onlyChan n a).1 _ (by rintro (h | h) <;> simp_all), (s.qstarted_onlyChan n a).2.2]
  rfl

end

section
variable {u : Issue} {f : QueF} {s : State}

theorem Issues.qstart_lt (h : Issues u (.qstart f) s) : f.q.toNat < 24 := by
  have hl := h.legal
  simp only [Op.legal, Bool.and_eq_true, decide_eq_true_eq] at hl
  exact hl.1.1.1

/-- QSTART comes to reading its descriptor, from the engine started on it. -/
theorem Issues.completes_qstart (h : Issues u (.qstart f) s) {P : State → Prop}
    (hP : P (((s.qstarted u.ch f.q.toNat ((s.chan u.ch).s f.count.toNat).toNat).readDesc u.ch f.q.toNat).advance u.ch)) :
    Completes (.qstart u f) s P := by
  have he : (s.atIssue u.ch).issueSlot u.ch (.qstart f) [] [] =
      (s.qstarted u.ch f.q.toNat ((s.chan u.ch).s f.count.toNat).toNat).readDesc u.ch f.q.toNat := by
    change (s.atIssue u.ch).startStream u.ch f.q.toNat (((s.atIssue u.ch).chan u.ch).s f.count.toNat).toNat [] = _
    rw [State.startStream_eq, State.atIssue_stream, State.atIssue_chan]
    rfl
  refine h.completes rfl rfl rfl rfl ?_ (by rw [he]; exact hP)
  rw [he, State.readDesc_status (by rw [State.qstarted_stream _ _ _ h.qstart_lt]; rfl), State.qstarted_status]

theorem completes_qstart_granted (h : Issues u (.qstart f) s) (hg : Granted s (bankArbs 1 u.ch ((s.chan u.ch).s f.count.toNat).toNat 32)) :
    Completes (.qstart u f) s fun t =>
      let d := (s.chan u.ch).sramRead (s.bankMap u.ch) ((s.chan u.ch).s f.count.toNat).toNat 32
      let x := (t.chan u.ch).stream f.q.toNat
      if descBad d then x.busy = false ∧ t.flag (mcSeErr u.ch) MC_SE_ERR_VALID = true
      else x.busy = true ∧ x.desc = none ∧ x.addr = leAt d 0 8 ∧ x.entries = leAt d 8 4 ∧ x.rowEntries = leAt d 12 2 ∧
        x.stride = toSigned 64 (leAt d 16 8) ∧ x.issued = 0 ∧ x.counted = 0 := by
  refine h.completes_qstart ?_
  have hq := h.qstart_lt
  generalize ((s.chan u.ch).s f.count.toNat).toNat = a at hg ⊢
  obtain ⟨t, ht, ho⟩ := State.arbAccesses_granted (hg.congr (s.qstarted_arbs u.ch a) (s.qstarted_memUsable u.ch a hq))
  have hstream := s.qstarted_stream u.ch a hq
  have hd : (t.chan u.ch).sramRead (t.bankMap u.ch) a 32 = (s.chan u.ch).sramRead (s.bankMap u.ch) a 32 := by
    unfold Chan.sramRead
    rw [ho.bankMap, s.qstarted_bankMap, ho.chan, s.qstarted_sram]
  rw [State.readDesc_reads (by rw [hstream]; rfl) ht, hd]
  dsimp only
  rw [State.advance_stream, State.advance_flag _ _ (mcSeErr_ne_chStatus u.ch)]
  split
  · next hb => exact t.judgeDesc_bad u.ch hq hb
  · next hb =>
    rw [t.judgeDesc_good u.ch hq hb, ho.chan, hstream]
    simp only [Stream.taken, Stream.started, and_self]

theorem completes_qstart_held (h : Issues u (.qstart f) s)
    (hh : ∃ g ∈ granules ((s.chan u.ch).s f.count.toNat).toNat 32, ∀ b : Fin 64, b.val = g % 64 →
      ∃ k, (s.arb (.bank u.ch b)).holder = some k ∧ k ≠ 1) :
    Completes (.qstart u f) s fun t =>
      ((t.chan u.ch).stream f.q.toNat).busy = true ∧
        ((t.chan u.ch).stream f.q.toNat).desc = some (((s.chan u.ch).s f.count.toNat).toNat, []) := by
  refine h.completes_qstart ?_
  have hq := h.qstart_lt
  generalize ((s.chan u.ch).s f.count.toNat).toNat = a at hh ⊢
  obtain ⟨g, hg, hb⟩ := hh
  have hstream := s.qstarted_stream u.ch a hq
  have hmem : ((1 : Fin 10), ArbId.bank u.ch ⟨g % 64, Nat.mod_lt _ (by decide)⟩) ∈ bankArbs 1 u.ch a 32 := List.mem_map.mpr ⟨g, hg, rfl⟩
  have hheld : (s.qstarted u.ch f.q.toNat a).heldFrom (.bank u.ch ⟨g % 64, Nat.mod_lt _ (by decide)⟩) (1 : Fin 10).val := by
    unfold State.heldFrom State.arb
    rw [s.qstarted_arbs]
    exact hb _ rfl
  have hno := State.arbAccesses_held (fun x hx => by obtain ⟨_, -, rfl⟩ := List.mem_map.mp hx; rfl) hmem hheld
  have ho := (s.qstarted u.ch f.q.toNat a).arbAccesses_onlyArbs (bankArbs 1 u.ch a 32)
  rw [State.readDesc_waits (by rw [hstream]; rfl) (Prod.ext rfl hno), State.advance_stream, ho.chan, hstream]
  exact ⟨rfl, rfl⟩

end

end Sys2Proof.Machine
end

section
open Sys2Proof Machine

/-- Settles O5: a memory slot puts its access in flight (`Issues.completes_after`); QREL and QCOMMIT set their stream's count
(`State.release_stream`); QSTART comes to reading its descriptor, granted (`State.readDesc_reads`) or not (`State.readDesc_waits`). -/
theorem memoryAndQueueSlots : Obligations.MemoryAndQueueSlots := by
  intro u s
  refine ⟨fun f h => ?ldv, fun f ecc => ?ecc, fun f h => ?stv, fun f h => ?lds, fun f h => ?sts, fun f h => completes_qrel h,
    fun f h => completes_qcommit h, fun f h => ⟨completes_qstart_granted h, completes_qstart_held h⟩⟩
  case ldv => exact h.completes_after (by rw [exec, execLdv, Issue.withSram_nil]) rfl rfl rfl (by rw [State.issueSlot, State.atIssue_chan, atCycle, ← Nat.add_assoc]; rfl)
  case ecc => exact ⟨by rw [exec, exec, execLdv, execLdv, Issue.withSram_nil], by rw [exec, exec, execLds, execLds, Issue.withSram_nil]⟩
  case stv => exact h.completes_after rfl rfl rfl rfl (by rw [State.issueSlot, State.atIssue_chan]; rfl)
  case lds => exact h.completes_after (by rw [exec, execLds, Issue.withSram_nil]) rfl rfl rfl (by rw [State.issueSlot, State.atIssue_chan, atCycle, ← Nat.add_assoc]; rfl)
  case sts => exact h.completes_after rfl rfl rfl rfl (by rw [State.issueSlot, State.atIssue_chan]; rfl)

end

section
/-!
The tensor-engine operations at issue (R104 to R109, R143 to R145, R147): an operation for several engines is a row of issues, one for each engine, and
what one of them puts in flight stays there while the others follow.
-/

namespace Sys2Proof.Machine

/-! ### What an issue keeps of its channel -/

/-- From `s` to `t` a channel keeps its cycle, its scalar registers, its modes, its weight tiles, what is in flight and the operations in flight; of
its units, those in `U` may have been taken. No register changes. -/
structure IssueKeeps (n : Fin 8) (U : Nat → Prop) (s t : State) : Prop where
  regs : t.regs = s.regs
  cycle : (t.chan n).cycle = (s.chan n).cycle
  sregs : (t.chan n).sregs = (s.chan n).sregs
  applied : (t.chan n).applied = (s.chan n).applied
  active : (t.chan n).active = (s.chan n).active
  standby : (t.chan n).standby = (s.chan n).standby
  flight : ∀ g ∈ (s.chan n).flight, g ∈ (t.chan n).flight
  jobs : ∀ j ∈ (s.chan n).jobs, j ∈ (t.chan n).jobs
  units : ∀ k, ¬ U k → (t.chan n).unitBusy k = (s.chan n).unitBusy k

namespace IssueKeeps

variable {n : Fin 8} {U V : Nat → Prop} {s t u : State}

theorem refl (n : Fin 8) (U : Nat → Prop) (s : State) : IssueKeeps n U s s := 
  ⟨rfl, rfl, rfl, rfl, rfl, rfl, fun _ h => h, fun _ h => h, fun _ _ => rfl⟩

theorem trans (h : IssueKeeps n U s t) (h' : IssueKeeps n U t u) : IssueKeeps n U s u where
  regs := h'.regs.trans h.regs
  cycle := h'.cycle.trans h.cycle
  sregs := h'.sregs.trans h.sregs
  applied := h'.applied.trans h.applied
  active := h'.active.trans h.active
  standby := h'.standby.trans h.standby
  flight := fun g hg => h'.flight g (h.flight g hg)
  jobs := fun j hj => h'.jobs j (h.jobs j hj)
  units := fun k hk => (h'.units k hk).trans (h.units k hk)

theorem mono (h : IssueKeeps n U s t) (hUV : ∀ k, U k → V k) : IssueKeeps n V s t :=
  { h with units := fun k hk => h.units k fun hu => hk (hUV k hu) }

theorem rd (h : IssueKeeps n U s t) (r : Nat) : t.rd r = s.rd r := by rw [State.rd, h.regs, State.rd]

theorem s_eq (h : IssueKeeps n U s t) : (t.chan n).s = (s.chan n).s := by
  funext r
  rw [Chan.s, h.sregs, Chan.s]

theorem extra (h : IssueKeeps n U s t) : (t.chan n).extra = (s.chan n).extra := by rw [Chan.extra, h.applied, Chan.extra]

theorem phys (h : IssueKeeps n U s t) (e : Nat) : (t.chan n).phys e = (s.chan n).phys e := by rw [Chan.phys, h.applied, Chan.phys]

theorem latA1 (h : IssueKeeps n U s t) : t.latA1 n = s.latA1 n := by
  rw [State.latA1, State.isB0, State.fld, h.rd, h.applied, State.latA1, State.isB0, State.fld]

theorem lands (h : IssueKeeps n U s t) {due : Nat} {ev : Ev} (hl : Lands s n due ev) : Lands t n due ev := by
  obtain ⟨g, hg, he⟩ := hl
  exact ⟨g, h.flight g hg, he⟩

theorem foldl {α : Type} {f : State → α → State} {l : List α} (h : ∀ s, ∀ x ∈ l, IssueKeeps n U s (f s x)) (s : State) :
    IssueKeeps n U s (l.foldl f s) := by
  induction l generalizing s with
  | nil => exact refl n U s
  | cons x l ih => exact (h s x List.mem_cons_self).trans (ih (fun s y hy => h s y (List.mem_cons_of_mem x hy)) _)

/-- A property of states that what follows at issue keeps. -/
def Stable (n : Fin 8) (Q : State → Prop) : Prop := ∀ U s t, IssueKeeps n U s t → Q s → Q t

/-- In a row of issues, what the issue for one member brings about holds at the end; before it, the units of the others may have been taken. -/
theorem foldl_at {α : Type} {f : State → α → State} {W : α → Nat → Prop} {Q : State → Prop} (hs : Stable n Q)
    (hk : ∀ s x, IssueKeeps n (W x) s (f s x)) {l : List α} (hnd : l.Nodup) {x : α} (hx : x ∈ l) {s : State}
    (hq : ∀ t, IssueKeeps n (fun k => ∃ y ∈ l, y ≠ x ∧ W y k) s t → Q (f t x)) : Q (l.foldl f s) := by
  induction l generalizing s with
  | nil => exact absurd hx List.not_mem_nil
  | cons y l ih =>
    obtain ⟨hy, hl⟩ := List.nodup_cons.mp hnd
    by_cases e : y = x
    · subst e
      exact hs (fun _ => True) (f s y) _ (foldl (fun s z _ => (hk s z).mono fun _ _ => trivial) _) (hq s (refl n _ s))
    · have hxl : x ∈ l := (List.mem_cons.mp hx).resolve_left (Ne.symm e)
      refine ih hl hxl fun t ht => hq t (.trans ((hk s y).mono fun k hk => ⟨y, List.mem_cons_self, e, hk⟩) (ht.mono ?_))
      rintro k ⟨z, hz, hne, hw⟩
      exact ⟨z, List.mem_cons_of_mem y hz, hne, hw⟩

theorem stable_exists {α : Type} {Q : α → State → Prop} (h : ∀ a, Stable n (Q a)) : Stable n fun t => ∃ a, Q a t :=
  fun U s t hst ⟨a, ha⟩ => ⟨a, h a U s t hst ha⟩

theorem stable_lands (n : Fin 8) (due : Nat) (ev : Ev) : Stable n fun t => Lands t n due ev := fun _ _ _ h hl => h.lands hl

end IssueKeeps

theorem State.after_issueKeeps (U : Nat → Prop) (s : State) (n : Fin 8) (slot k ord : Nat) (ev : Ev) : IssueKeeps n U s (s.after n slot k ord ev) := by
  obtain ⟨fl, hc⟩ := s.after_chan n slot k ord ev
  refine ⟨rfl, by rw [hc], by rw [hc], by rw [hc], by rw [hc], by rw [hc], fun g hg => State.schedule_mem_old _ _ _ _ hg, by rw [hc]; exact fun _ h => h, fun k _ => ?_⟩
  rw [hc]
  rfl

/-- Of a row of events put in flight, each lands. -/
theorem State.foldl_after_lands {α : Type} {l : List α} (hnd : l.Nodup) (s : State) (n : Fin 8) (slot : Nat) (k ord : α → Nat) (ev : α → Ev) {x : α}
    (hx : x ∈ l) : Lands (l.foldl (fun s x => s.after n slot (k x) (ord x) (ev x)) s) n ((s.chan n).cycle + k x) (ev x) := by
  refine IssueKeeps.foldl_at (IssueKeeps.stable_lands n _ _) (W := fun _ _ => False) (fun s y => s.after_issueKeeps _ n slot _ _ _) hnd hx fun t ht => ?_
  rw [← ht.cycle]
  exact State.after_lands _ _ _ _ _ _

theorem State.foldl_after_issueKeeps {α : Type} (U : Nat → Prop) (l : List α) (s : State) (n : Fin 8) (slot : Nat) (k ord : α → Nat) (ev : α → Ev) :
    IssueKeeps n U s (l.foldl (fun s x => s.after n slot (k x) (ord x) (ev x)) s) :=
  .foldl (fun s _ _ => s.after_issueKeeps U n slot _ _ _) s

theorem Chan.unitBusy_congr {c d : Chan} {k : Nat} (hc : d.cycle = c.cycle)
    (hb : kget (fun _ => (0, 0)) d.busyUntil k = kget (fun _ => (0, 0)) c.busyUntil k) : d.unitBusy k = c.unitBusy k := by
  rw [Chan.unitBusy, hc, hb, Chan.unitBusy]

theorem State.takeUnit_issueKeeps (s : State) (n : Fin 8) (k i : Nat) : IssueKeeps n (fun x => x = k) s (s.takeUnit n k i) := by
  unfold State.takeUnit
  dsimp only
  split
  · exact .refl n _ s
  · refine ⟨rfl, ?_, ?_, ?_, ?_, ?_, ?_, ?_, fun x hx => ?_⟩
    all_goals rw [State.setChan_chan_same]
    · exact fun _ h => h
    · exact fun _ h => h
    · exact Chan.unitBusy_congr rfl (kget_kset_other _ _ _ _ _ hx)

/-- A change of the channel that touches none of what an issue keeps. -/
theorem State.setChan_issueKeeps (U : Nat → Prop) (s : State) (n : Fin 8) {c : Chan} (hcyc : c.cycle = (s.chan n).cycle)
    (hs : c.sregs = (s.chan n).sregs) (ha : c.applied = (s.chan n).applied) (hact : c.active = (s.chan n).active)
    (hst : c.standby = (s.chan n).standby) (hf : c.flight = (s.chan n).flight) (hj : c.jobs = (s.chan n).jobs)
    (hb : c.busyUntil = (s.chan n).busyUntil) : IssueKeeps n U s (s.setChan n c) := by
  refine ⟨rfl, ?_, ?_, ?_, ?_, ?_, ?_, ?_, fun x _ => ?_⟩
  all_goals rw [State.setChan_chan_same]
  · exact hcyc
  · exact hs
  · exact ha
  · exact hact
  · exact hst
  · rw [hf]; exact fun _ h => h
  · rw [hj]; exact fun _ h => h
  · exact Chan.unitBusy_congr hcyc (by rw [hb])

theorem State.addJob_issueKeeps (U : Nat → Prop) (s : State) (n : Fin 8) (op : JobOp) (undef : List Nat) (errs : List ReadErr) :
    IssueKeeps n U s (s.addJob n op undef errs).1 := by
  unfold State.addJob
  refine ⟨rfl, ?_, ?_, ?_, ?_, ?_, ?_, ?_, fun x _ => ?_⟩
  all_goals rw [State.take_chan, State.setChan_chan_same]
  · exact fun _ h => h
  · exact fun _ h => List.mem_append_left _ h
  · rfl

/-! ### An operation in flight with its events -/

/-- An operation of the tensor engines is in flight, not undefined and without errors, and its events are: of each that `evs` names for its number,
in its cycle. -/
def InFlight (n : Fin 8) (op : JobOp) (evs : Nat → Nat → Ev → Prop) (t : State) : Prop :=
  ∃ id j, ((id, j) ∈ (t.chan n).jobs ∧ j.undef = [] ∧ j.errs = []) ∧ j.op = op ∧ ∀ due ev, evs id due ev → Lands t n due ev

theorem InFlight.stable (n : Fin 8) (op : JobOp) (evs : Nat → Nat → Ev → Prop) : IssueKeeps.Stable n (InFlight n op evs) := by
  rintro U s t h ⟨id, j, ⟨hj, hu, he⟩, ho, hl⟩
  exact ⟨id, j, ⟨h.jobs _ hj, hu, he⟩, ho, fun due ev hev => h.lands (hl due ev hev)⟩

/-- An operation just added is in flight once its events are. -/
theorem State.addJob_inFlight {U : Nat → Prop} {s t : State} {n : Fin 8} {op : JobOp} {evs : Nat → Nat → Ev → Prop}
    (h : IssueKeeps n U (s.addJob n op [] []).1 t) (hl : ∀ due ev, evs (s.addJob n op [] []).2 due ev → Lands t n due ev) : InFlight n op evs t := by
  refine ⟨_, ⟨op, [], [], [], [], s.free, [], s.fld (chStatus n) CH_STATUS_PC⟩, ⟨h.jobs _ ?_, rfl, rfl⟩, rfl, hl⟩
  rw [State.addJob, State.take_chan, State.setChan_chan_same]
  exact List.mem_append_right _ (List.mem_singleton_self _)

/-! ### Engines -/

theorem engines_nodup (grp : Nat) (mask : BitVec 8) : (engines grp mask).Nodup :=
  (List.nodup_range.filter _).map fun _ _ h => Nat.add_right_cancel h

theorem engines_lt {grp : Fin 2} {mask : BitVec 8} {e : Nat} (h : e ∈ engines grp mask) : e < 16 := by
  simp only [engines, maskList, List.mem_map, List.mem_filter, List.mem_range] at h
  obtain ⟨i, ⟨hi, -⟩, rfl⟩ := h
  have := grp.isLt
  omega

theorem teUnit_inj {kind e e' : Nat} (h : teUnit kind e = teUnit kind e') : e = e' := Nat.add_left_cancel h

/-- An operation that meets no hazard finds the units of its engines free (R143). -/
theorem Chan.units_free_of_opHazard {c : Chan} {o : Op} (h : c.opHazard o = none) : ∀ x ∈ o.units, c.unitBusy x.1 = false := by
  intro x hx
  unfold Chan.opHazard at h
  split at h
  · cases h
  · next hf => exact Bool.eq_false_iff.mpr (List.find?_eq_none.mp hf x hx)

/-- And their tiles complete (R104). -/
theorem Chan.tiles_ready_of_opHazard {c : Chan} {o : Op} (h : c.opHazard o = none) : ∀ e ∈ o.tiles, c.tileEarly e = false := by
  intro e he
  unfold Chan.opHazard at h
  split at h
  · cases h
  · exact Bool.eq_false_iff.mpr (List.find?_eq_none.mp (Option.map_eq_none_iff.mp h) e he)

/-- The unit of one engine stays free while the others of an operation are issued. -/
theorem IssueKeeps.unit_free {n : Fin 8} {kind e : Nat} {l : List Nat} {s t : State}
    (h : IssueKeeps n (fun k => ∃ y ∈ l, y ≠ e ∧ k = teUnit kind y) s t) (hb : (s.chan n).unitBusy (teUnit kind e) = false) :
    (t.chan n).unitBusy (teUnit kind e) = false := by
  refine (h.units _ ?_).trans hb
  rintro ⟨y, -, hne, hk⟩
  exact hne (teUnit_inj hk).symm

/-! ### LOADW (R104, R105) -/

section
variable (s : State) (n : Fin 8) (f : LoadwF) (e : Nat)

/-- The operation of a LOADW for one engine. -/
def loadwOp : JobOp := .loadw e (tileBytes f.fmtW.toNat) (decide (f.ss ≠ 0))

/-- The events of a LOADW for one engine: 64 reads of elements, 16 of scales where it has them, and its tile. -/
def LoadwEvents (c : Chan) (id due : Nat) (ev : Ev) : Prop :=
  (due = c.cycle + (64 + c.extra) ∧ ev = .tileDone id) ∨
    (∃ m < 64, due = c.cycle + (1 + c.extra + m) ∧ ev = .read id false m
      ((c.s f.sa.toNat).toNat + e % 8 * tileBytes f.fmtW.toNat + tileBytes f.fmtW.toNat / 64 * m) (tileBytes f.fmtW.toNat / 64)) ∨
    (f.ss ≠ 0 ∧ ∃ m < 16, due = c.cycle + (1 + c.extra + m) ∧ ev = .read id true m ((c.s f.ss.toNat).toNat + e % 8 * 1024 + 64 * m) 64)

/-- LOADW takes the unit of its engine and enters its operation. -/
def State.loadwJob (errs : List ReadErr) : State × Nat :=
  (s.takeUnit n (teUnit 0 e) 64).addJob n (loadwOp f e) (if (s.chan n).unitBusy (teUnit 0 e) then [e] else []) errs

/-- The reads of elements that a LOADW sets out, with the number of its operation. -/
def State.loadwReads (t : State) (c : Chan) (id : Nat) : State :=
  (List.range 64).foldl (fun s m => s.after n (1 + f.grp.val) (1 + c.extra + m) (ordAccess 2 false e) (.read id false m
    ((c.s f.sa.toNat).toNat + e % 8 * tileBytes f.fmtW.toNat + tileBytes f.fmtW.toNat / 64 * m) (tileBytes f.fmtW.toNat / 64))) t

/-- The reads of scales. -/
def State.loadwScales (t : State) (c : Chan) (id : Nat) : State :=
  if decide (f.ss ≠ 0) then (List.range 16).foldl (fun s m => s.after n (1 + f.grp.val) (1 + c.extra + m) (ordAccess 2 true e)
    (.read id true m ((c.s f.ss.toNat).toNat + e % 8 * 1024 + 64 * m) 64)) t
  else t

/-- The note of when the tile is complete. -/
def State.noteTile (t : State) : State :=
  t.setChan n { t.chan n with
    tileReady := kset (fun _ => (0, 0)) (t.chan n).tileReady e ((t.chan n).cycle + 64, t.fld (chStatus n) CH_STATUS_PC) }

theorem State.issueLoadw_eq (errs : List ReadErr) : s.issueLoadw n f e errs =
    ((((s.loadwJob n f e errs).1.loadwReads n f e (s.chan n) (s.loadwJob n f e errs).2).loadwScales n f e (s.chan n)
      (s.loadwJob n f e errs).2).noteTile n e).after n (1 + f.grp.val) (64 + (s.chan n).extra) ordDone (.tileDone (s.loadwJob n f e errs).2) := rfl

theorem State.loadwReads_issueKeeps (U : Nat → Prop) (t : State) (c : Chan) (id : Nat) : IssueKeeps n U t (t.loadwReads n f e c id) :=
  t.foldl_after_issueKeeps U _ n _ _ _ _

theorem State.loadwScales_issueKeeps (U : Nat → Prop) (t : State) (c : Chan) (id : Nat) : IssueKeeps n U t (t.loadwScales n f e c id) := by
  unfold State.loadwScales
  split
  · exact t.foldl_after_issueKeeps U _ n _ _ _ _
  · exact .refl n U t

theorem State.noteTile_issueKeeps (U : Nat → Prop) (t : State) : IssueKeeps n U t (t.noteTile n e) := t.setChan_issueKeeps U n rfl rfl rfl rfl rfl rfl rfl rfl

theorem State.loadwJob_issueKeeps (errs : List ReadErr) : IssueKeeps n (fun k => k = teUnit 0 e) s (s.loadwJob n f e errs).1 :=
  (s.takeUnit_issueKeeps n _ _).trans (State.addJob_issueKeeps _ _ n _ _ _)

theorem State.issueLoadw_issueKeeps (errs : List ReadErr) : IssueKeeps n (fun k => k = teUnit 0 e) s (s.issueLoadw n f e errs) := by
  rw [State.issueLoadw_eq]
  exact ((((s.loadwJob_issueKeeps n f e errs).trans (State.loadwReads_issueKeeps n f e _ _ _ _)).trans
    (State.loadwScales_issueKeeps n f e _ _ _ _)).trans (State.noteTile_issueKeeps n e _ _)).trans (State.after_issueKeeps _ _ n _ _ _ _)

/-- A LOADW on a free engine is in flight with its events. -/
theorem State.issueLoadw_inFlight (hb : (s.chan n).unitBusy (teUnit 0 e) = false) :
    InFlight n (loadwOp f e) (LoadwEvents f e (s.chan n)) (s.issueLoadw n f e []) := by
  have hj : s.loadwJob n f e [] = (s.takeUnit n (teUnit 0 e) 64).addJob n (loadwOp f e) [] [] := by rw [State.loadwJob, hb]; rfl
  have hcyc := (s.loadwJob_issueKeeps n f e []).cycle
  rw [State.issueLoadw_eq]
  rw [hj] at hcyc ⊢
  generalize hr : (s.takeUnit n (teUnit 0 e) 64).addJob n (loadwOp f e) [] [] = r at hcyc ⊢
  have hreads := State.loadwReads_issueKeeps n f e (fun _ => False) r.1 (s.chan n) r.2
  have hscales := State.loadwScales_issueKeeps n f e (fun _ => False) (r.1.loadwReads n f e (s.chan n) r.2) (s.chan n) r.2
  have hnote := State.noteTile_issueKeeps n e (fun _ => False) ((r.1.loadwReads n f e (s.chan n) r.2).loadwScales n f e (s.chan n) r.2)
  have hdone := State.after_issueKeeps (fun _ => False)
    (((r.1.loadwReads n f e (s.chan n) r.2).loadwScales n f e (s.chan n) r.2).noteTile n e) n (1 + f.grp.val) (64 + (s.chan n).extra) ordDone (.tileDone r.2)
  have hall := (hreads.trans hscales).trans hnote
  refine State.addJob_inFlight (U := fun _ => False) (by rw [hr]; exact hall.trans hdone) ?_
  rw [hr]
  rintro due ev (⟨rfl, rfl⟩ | ⟨m, hm, rfl, rfl⟩ | ⟨hss, m, hm, rfl, rfl⟩)
  · rw [← hcyc, ← hall.cycle]
    exact State.after_lands _ _ _ _ _ _
  · rw [← hcyc]
    exact ((hscales.trans hnote).trans hdone).lands
      (State.foldl_after_lands List.nodup_range r.1 n (1 + f.grp.val) (fun m => 1 + (s.chan n).extra + m) _ _ (List.mem_range.mpr hm))
  · rw [← hcyc, ← hreads.cycle]
    refine (hnote.trans hdone).lands ?_
    rw [State.loadwScales, if_pos (decide_eq_true hss)]
    exact State.foldl_after_lands List.nodup_range _ n (1 + f.grp.val) (fun m => 1 + (s.chan n).extra + m) _ _ (List.mem_range.mpr hm)

end

end Sys2Proof.Machine
end

section
/-!
LOADACC, DRAIN and PASS at issue (R106 to R109, R145), and the tensor-engine operations as a whole.
-/

namespace Sys2Proof.Machine

/-! ### LOADACC -/

section
variable (s : State) (n : Fin 8) (f : LoadaccF) (e : Nat)

/-- The operation of a LOADACC for one engine. -/
def loadaccOp : JobOp := .loadacc e (f.rowsM1.toNat + 1) f.accRow.toNat f.anchor.toInt

/-- The completions of its rows. -/
def LoadaccEvents (c : Chan) (id due : Nat) (ev : Ev) : Prop :=
  ∃ i < f.rowsM1.toNat + 1, due = c.cycle + (12 + c.extra + 3 * i) ∧ ev = .rowDone id e i

/-- LOADACC takes the unit of its engine, sets the kind of its rows and enters its operation. -/
def State.loadaccJob (errs : List ReadErr) : State × Nat :=
  let t := s.takeUnit n (teUnit 3 e) (3 * (f.rowsM1.toNat + 1))
  (t.setChan n ((t.chan n).setKind ((s.chan n).phys e) f.accRow.toNat (f.rowsM1.toNat + 1) false)).addJob n (loadaccOp f e)
    (if (s.chan n).unitBusy (teUnit 3 e) then [e] else []) errs

/-- A row's three reads and its completion. -/
def State.loadaccRow (t : State) (c : Chan) (id i : Nat) : State :=
  ((List.range 3).foldl (fun s m => s.after n (1 + f.grp.val) (1 + c.extra + 3 * i + m) (ordAccess 3 false e) (.read id false (3 * i + m)
    ((c.s f.sa.toNat).toNat + e % 8 * ((f.rowsM1.toNat + 1) * 1536) + 1536 * i + 512 * m) 512)) t).after n (1 + f.grp.val) (12 + c.extra + 3 * i)
    ordDone (.rowDone id e i)

theorem State.loadaccJob_issueKeeps (errs : List ReadErr) : IssueKeeps n (fun k => k = teUnit 3 e) s (s.loadaccJob n f e errs).1 :=
  ((s.takeUnit_issueKeeps n _ _).trans (State.setChan_issueKeeps (c := Chan.setKind _ _ _ _ _) _ _ n rfl rfl rfl rfl rfl rfl rfl rfl)).trans
    (State.addJob_issueKeeps _ _ n _ _ _)

theorem State.issueLoadacc_eq (errs : List ReadErr) : s.issueLoadacc n f e errs =
    (List.range (f.rowsM1.toNat + 1)).foldl (fun t i => t.loadaccRow n f e (s.chan n) (s.loadaccJob n f e errs).2 i)
      (s.loadaccJob n f e errs).1 := rfl

theorem State.loadaccRow_issueKeeps (U : Nat → Prop) (t : State) (c : Chan) (id i : Nat) : IssueKeeps n U t (t.loadaccRow n f e c id i) :=
  (t.foldl_after_issueKeeps U _ n _ _ _ _).trans (State.after_issueKeeps _ _ n _ _ _ _)

theorem State.issueLoadacc_issueKeeps (errs : List ReadErr) : IssueKeeps n (fun k => k = teUnit 3 e) s (s.issueLoadacc n f e errs) := by
  rw [State.issueLoadacc_eq]
  exact (s.loadaccJob_issueKeeps n f e errs).trans (.foldl (fun t i _ => t.loadaccRow_issueKeeps n f e _ _ _ _) _)

/-- A LOADACC on a free engine is in flight with its events. -/
theorem State.issueLoadacc_inFlight (hb : (s.chan n).unitBusy (teUnit 3 e) = false) :
    InFlight n (loadaccOp f e) (LoadaccEvents f e (s.chan n)) (s.issueLoadacc n f e []) := by
  have hcyc := (s.loadaccJob_issueKeeps n f e []).cycle
  rw [State.issueLoadacc_eq]
  unfold State.loadaccJob at hcyc ⊢
  simp only [hb, Bool.false_eq_true, if_false] at hcyc ⊢
  generalize hr : State.addJob _ n (loadaccOp f e) [] [] = r at hcyc ⊢
  have hrows (U : Nat → Prop) (t : State) (i : Nat) := t.loadaccRow_issueKeeps n f e U (s.chan n) r.2 i
  refine State.addJob_inFlight (U := fun _ => False) (by rw [hr]; exact .foldl (fun t i _ => hrows _ t i) _) ?_
  rw [hr]
  rintro due ev ⟨i, hi, rfl, rfl⟩
  refine IssueKeeps.foldl_at (IssueKeeps.stable_lands n _ _) (hrows fun _ => False) List.nodup_range (List.mem_range.mpr hi) fun t ht => ?_
  have hreads := t.foldl_after_issueKeeps (fun _ => False) (List.range 3) n (1 + f.grp.val) (fun m => 1 + (s.chan n).extra + 3 * i + m)
    (fun _ => ordAccess 3 false e) fun m => .read r.2 false (3 * i + m)
      (((s.chan n).s f.sa.toNat).toNat + e % 8 * ((f.rowsM1.toNat + 1) * 1536) + 1536 * i + 512 * m) 512
  rw [← hcyc, ← ht.cycle, ← hreads.cycle]
  exact State.after_lands _ _ _ _ _ _

end

/-! ### DRAIN -/

section
variable (s : State) (n : Fin 8) (f : DrainF) (e : Nat)

/-- The operation of a DRAIN for one engine. -/
def State.drainOp : JobOp :=
  .drain e f.fmtO.toNat f.mx f.mode f.sat (((s.chan n).s f.sx.toNat).toNat % 2 ^ 24) (f.rowsM1.toNat + 1) f.accRow.toNat
    (((s.chan n).s f.sa.toNat).toNat + e % 8 * ((f.rowsM1.toNat + 1) * outRowBytes f.fmtO.toNat))
    (((s.chan n).s f.ss.toNat).toNat + e % 8 * 4 * (f.rowsM1.toNat + 1)) ((s.chan n).shLive && decide (s.shadowing n = some e))

/-- The events of one row of a DRAIN: its read, and its writes, with scales where it has them, or in three parts where it is wide. -/
def DrainRowEvents (c : Chan) (id i due : Nat) (ev : Ev) : Prop :=
  (due = c.cycle + (1 + i) ∧ ev = .drainRead id i) ∨
    (f.fmtO.toNat = 11 ∧ ∃ m < 3, due = c.cycle + (8 + c.extra + 3 * i + m) ∧ ev = .drainWrite id i m) ∨
    (f.fmtO.toNat ≠ 11 ∧ due = c.cycle + (10 + c.extra + i) ∧ (ev = .drainWrite id i 0 ∨ f.mx = true ∧ ev = .drainWrite id i 9))

/-- The events of all its rows. -/
def DrainEvents (c : Chan) (id due : Nat) (ev : Ev) : Prop := ∃ i < f.rowsM1.toNat + 1, DrainRowEvents f c id i due ev

/-- DRAIN takes the unit of its engine and enters its operation. -/
def State.drainJob (errs : List ReadErr) : State × Nat :=
  (s.takeUnit n (teUnit 2 e) (if f.fmtO.toNat = 11 then 3 * (f.rowsM1.toNat + 1) else f.rowsM1.toNat + 1)).addJob n (s.drainOp n f e)
    (if (s.chan n).unitBusy (teUnit 2 e) then [e] else []) errs

/-- A row's read and its writes. -/
def State.drainRow (t : State) (c : Chan) (id i : Nat) : State :=
  let u := t.after n (1 + f.grp.val) (1 + i) ordDrainRead (.drainRead id i)
  if f.fmtO.toNat = 11 then
    (List.range 3).foldl (fun s m => s.after n (1 + f.grp.val) (8 + c.extra + 3 * i + m) (ordAccess 4 false e) (.drainWrite id i m)) u
  else
    let v := u.after n (1 + f.grp.val) (10 + c.extra + i) (ordAccess 4 false e) (.drainWrite id i 0)
    if f.mx then v.after n (1 + f.grp.val) (10 + c.extra + i) (ordAccess 4 true e) (.drainWrite id i 9) else v

theorem State.issueDrain_eq (errs : List ReadErr) : s.issueDrain n f e errs =
    (List.range (f.rowsM1.toNat + 1)).foldl (fun t i => t.drainRow n f e (s.chan n) (s.drainJob n f e errs).2 i) (s.drainJob n f e errs).1 := rfl

theorem State.drainJob_issueKeeps (errs : List ReadErr) : IssueKeeps n (fun k => k = teUnit 2 e) s (s.drainJob n f e errs).1 :=
  (s.takeUnit_issueKeeps n _ _).trans (State.addJob_issueKeeps _ _ n _ _ _)

theorem State.drainRow_issueKeeps (U : Nat → Prop) (t : State) (c : Chan) (id i : Nat) : IssueKeeps n U t (t.drainRow n f e c id i) := by
  have hread := t.after_issueKeeps U n (1 + f.grp.val) (1 + i) ordDrainRead (.drainRead id i)
  unfold State.drainRow
  dsimp only
  split
  · exact hread.trans (State.foldl_after_issueKeeps U _ _ n _ _ _ _)
  · split
    · exact (hread.trans (State.after_issueKeeps U _ n _ _ _ _)).trans (State.after_issueKeeps U _ n _ _ _ _)
    · exact hread.trans (State.after_issueKeeps U _ n _ _ _ _)

/-- The events of a row, put in flight in its own cycle of reckoning. -/
theorem State.drainRow_lands (t : State) (c : Chan) (id i : Nat) (hc : (t.chan n).cycle = c.cycle) {due : Nat} {ev : Ev}
    (h : DrainRowEvents f c id i due ev) : Lands (t.drainRow n f e c id i) n due ev := by
  have hkeep (s : State) (slot k ord : Nat) (ev : Ev) := s.after_issueKeeps (fun _ => False) n slot k ord ev
  have hread := t.after_lands n (1 + f.grp.val) (1 + i) ordDrainRead (.drainRead id i)
  unfold State.drainRow
  dsimp only
  obtain ⟨rfl, rfl⟩ | ⟨hw, m, hm, rfl, rfl⟩ | ⟨hw, rfl, hev⟩ := h
  · rw [← hc]
    split
    · exact (State.foldl_after_issueKeeps (fun _ => False) _ _ n _ _ _ _).lands hread
    · split
      · exact (hkeep _ _ _ _ _).lands ((hkeep _ _ _ _ _).lands hread)
      · exact (hkeep _ _ _ _ _).lands hread
  · rw [if_pos hw, ← hc, ← (hkeep t (1 + f.grp.val) (1 + i) ordDrainRead (.drainRead id i)).cycle]
    exact State.foldl_after_lands List.nodup_range _ n (1 + f.grp.val) (fun m => 8 + c.extra + 3 * i + m) _ _ (List.mem_range.mpr hm)
  · rw [if_neg hw, ← hc, ← (hkeep t (1 + f.grp.val) (1 + i) ordDrainRead (.drainRead id i)).cycle]
    generalize t.after n (1 + f.grp.val) (1 + i) ordDrainRead (.drainRead id i) = u
    have hwrite := u.after_lands n (1 + f.grp.val) (10 + c.extra + i) (ordAccess 4 false e) (.drainWrite id i 0)
    obtain rfl | ⟨hmx, rfl⟩ := hev
    · split
      · exact (hkeep _ _ _ _ _).lands hwrite
      · exact hwrite
    · rw [if_pos hmx, ← (hkeep u (1 + f.grp.val) (10 + c.extra + i) (ordAccess 4 false e) (.drainWrite id i 0)).cycle]
      exact State.after_lands _ _ _ _ _ _

theorem State.issueDrain_issueKeeps (errs : List ReadErr) : IssueKeeps n (fun k => k = teUnit 2 e) s (s.issueDrain n f e errs) := by
  rw [State.issueDrain_eq]
  exact (s.drainJob_issueKeeps n f e errs).trans (.foldl (fun t i _ => t.drainRow_issueKeeps n f e _ _ _ _) _)

/-- A DRAIN on a free engine is in flight with its events. -/
theorem State.issueDrain_inFlight (hb : (s.chan n).unitBusy (teUnit 2 e) = false) :
    InFlight n (s.drainOp n f e) (DrainEvents f (s.chan n)) (s.issueDrain n f e []) := by
  have hcyc := (s.drainJob_issueKeeps n f e []).cycle
  rw [State.issueDrain_eq]
  unfold State.drainJob at hcyc ⊢
  simp only [hb, Bool.false_eq_true, if_false] at hcyc ⊢
  generalize hr : State.addJob _ n (s.drainOp n f e) [] [] = r at hcyc ⊢
  have hrows (U : Nat → Prop) (t : State) (i : Nat) := t.drainRow_issueKeeps n f e U (s.chan n) r.2 i
  refine State.addJob_inFlight (U := fun _ => False) (by rw [hr]; exact .foldl (fun t i _ => hrows _ t i) _) ?_
  rw [hr]
  rintro due ev ⟨i, hi, hev⟩
  exact IssueKeeps.foldl_at (IssueKeeps.stable_lands n _ _) (hrows fun _ => False) List.nodup_range (List.mem_range.mpr hi) fun t ht =>
    t.drainRow_lands n f e _ _ _ (ht.cycle.trans hcyc) hev

end

/-! ### PASS -/

/-- The engines of a PASS whose buffers swap, each in its turn (R104, R108). -/
def Chan.passSwapped (c : Chan) (f : PassF) (l : List Nat) : Chan :=
  l.foldl (fun (c : Chan) p => (c.swapTiles p).setKind p f.accRow.toNat (f.rowsM1.toNat + 1) (is16 f.fmtA.toNat)) c

theorem Chan.passSwapped_same (f : PassF) (l : List Nat) (c : Chan) :
    ∃ a b k, c.passSwapped f l = { c with active := a, standby := b, kind := k } := by
  induction l generalizing c with
  | nil => exact ⟨_, _, _, rfl⟩
  | cons p l ih =>
    obtain ⟨a, b, k, h⟩ := ih ((c.swapTiles p).setKind p f.accRow.toNat (f.rowsM1.toNat + 1) (is16 f.fmtA.toNat))
    exact ⟨a, b, k, h⟩

/-- The buffers of an engine, the active one first. -/
def Chan.buffers (c : Chan) (p : Nat) : Tile × Tile := (kget (fun _ => tile0) c.active p, kget (fun _ => tile0) c.standby p)

/-- Of engines that are all different, each has its buffers swapped, and no other. -/
theorem Chan.passSwapped_buffers (f : PassF) {l : List Nat} (hnd : l.Nodup) (c : Chan) (p : Nat) :
    (c.passSwapped f l).buffers p = if p ∈ l then (c.buffers p).swap else c.buffers p := by
  induction l generalizing c with
  | nil => rfl
  | cons q l ih =>
    obtain ⟨hq, hl⟩ := List.nodup_cons.mp hnd
    have hstep : ((c.swapTiles q).setKind q f.accRow.toNat (f.rowsM1.toNat + 1) (is16 f.fmtA.toNat)).buffers p =
        if p = q then (c.buffers p).swap else c.buffers p := by
      unfold Chan.buffers Chan.setKind Chan.swapTiles
      dsimp only
      split
      · next e => rw [e, kget_kset_same, kget_kset_same]; rfl
      · next e => rw [kget_kset_other _ _ _ _ _ e, kget_kset_other _ _ _ _ _ e]
    rw [Chan.passSwapped, List.foldl_cons, ← Chan.passSwapped, ih hl, hstep]
    by_cases e : p = q
    · subst e
      simp [hq]
    · simp [e]

section
variable (s : State) (n : Fin 8) (f : PassF)

/-- The engine that TE16 shadows through a PASS. -/
def State.passShadow : Option Nat := (s.shadowing n).filter (engines f.grp f.eng).contains

/-- The physical engines of a PASS. -/
def State.passEngines : List Nat := (engines f.grp f.eng).map (s.chan n).phys ++ if (s.passShadow n f).isSome then [16] else []

/-- The state with the units of a PASS taken. -/
def State.passTaken : State :=
  (engines f.grp f.eng).foldl (fun s e => s.takeUnit n (teUnit 1 e) (pieceCount f.fmtA.toNat f.fmtW.toNat (f.rowsM1.toNat + 1))) s

/-- The channel of a PASS with its buffers swapped. -/
def State.passChan : Chan :=
  let c := ((s.passTaken n f).chan n).passSwapped f (s.passEngines n f)
  { c with shLive := c.shLive || (s.passShadow n f).isSome }

/-- The operation of a PASS, with the tiles that stood by. -/
def State.passOp : JobOp :=
  .pass ((engines f.grp f.eng).map fun e => (e, kget (fun _ => tile0) (s.chan n).standby ((s.chan n).phys e))) f.fmtA.toNat f.fmtW.toNat
    (f.rowsM1.toNat + 1) f.accRow.toNat f.cont f.anchor.toInt (decide (f.ss ≠ 0)) (s.passShadow n f)

/-- The engines whose result is undefined. -/
def State.passUndef : List Nat := (engines f.grp f.eng).filter fun e => (s.chan n).tileEarly e || (s.chan n).unitBusy (teUnit 1 e)

def State.passJob (errs : List ReadErr) : State × Nat :=
  ((s.passTaken n f).setChan n (s.passChan n f)).addJob n (s.passOp n f) (s.passUndef n f) errs

/-- The reads of activations. -/
def State.passReads (t : State) (c : Chan) (id : Nat) : State :=
  if (engines f.grp f.eng).isEmpty then t
  else (List.range (pieceCount f.fmtA.toNat f.fmtW.toNat (f.rowsM1.toNat + 1))).foldl (fun s p =>
    s.after n (1 + f.grp.val) (1 + c.extra + p) (ordAccess 1 false ((engines f.grp f.eng).headD 0)) (.read id false p
      ((c.s f.sa.toNat).toNat + pieceBytes f.fmtA.toNat f.fmtW.toNat * p)
      (min (pieceBytes f.fmtA.toNat f.fmtW.toNat)
        ((f.rowsM1.toNat + 1) * actRowBytes f.fmtA.toNat - pieceBytes f.fmtA.toNat f.fmtW.toNat * p)))) t

/-- The reads of their scales. -/
def State.passScales (t : State) (c : Chan) (id : Nat) : State :=
  if decide (f.ss ≠ 0) && !(engines f.grp f.eng).isEmpty then (List.range ((f.rowsM1.toNat + 1 + 7) / 8)).foldl (fun s i =>
    s.after n (1 + f.grp.val) (1 + c.extra + pieceOf f.fmtA.toNat f.fmtW.toNat (8 * i)) (ordAccess 1 true ((engines f.grp f.eng).headD 0))
      (.read id true i ((c.s f.ss.toNat).toNat + 64 * i) (min 64 (8 * (f.rowsM1.toNat + 1) - 64 * i)))) t
  else t

/-- The cycles from a PASS to the completion of its first row (R145). -/
def State.passFirst (t : State) (c : Chan) : Nat :=
  (if is16 f.fmtA.toNat then (if t.latA1 n then 276 else 270) else (if t.latA1 n then 268 else 262)) + c.extra

/-- The completions of the rows of one engine. -/
def State.passRows (t : State) (first id e : Nat) : State :=
  (List.range (f.rowsM1.toNat + 1)).foldl (fun s r =>
    s.after n (1 + f.grp.val) (first + pieceOf f.fmtA.toNat f.fmtW.toNat r) ordDone (.rowDone id e r)) t

theorem State.issuePass_eq (errs : List ReadErr) : s.issuePass n f errs =
    let r := s.passJob n f errs
    let t := (r.1.passReads n f (s.passChan n f) r.2).passScales n f (s.passChan n f) r.2
    (engines f.grp f.eng).foldl (fun t' e => t'.passRows n f (t.passFirst n f (s.passChan n f)) r.2 e) t := rfl

/-- The completions of a PASS. -/
def PassEvents (first : Nat) (c : Chan) (id due : Nat) (ev : Ev) : Prop :=
  ∃ e ∈ engines f.grp f.eng, ∃ r < f.rowsM1.toNat + 1, due = c.cycle + (first + pieceOf f.fmtA.toNat f.fmtW.toNat r) ∧ ev = .rowDone id e r

/-- The physical engines of a PASS are all different: TE16 shadows only where it replaces no engine. -/
theorem State.passEngines_nodup (h : s.shadowing n = none ∨ getF (s.chan n).applied.teMap CH_TE_MAP_REPLACE_EN = 0) : (s.passEngines n f).Nodup := by
  have hinj : ∀ x ∈ engines f.grp f.eng, ∀ y ∈ engines f.grp f.eng, (s.chan n).phys x = (s.chan n).phys y → x = y := by
    intro x hx y hy e
    have hx' := engines_lt hx
    have hy' := engines_lt hy
    unfold Chan.phys at e
    split at e <;> split at e <;> omega
  have hmap := List.Nodup.map_on hinj (engines_nodup f.grp f.eng)
  unfold State.passEngines State.passShadow
  rcases h with h | h
  · rw [h]
    simpa using hmap
  · split
    · refine List.Nodup.append hmap (List.nodup_singleton 16) ?_
      intro p hp h16
      obtain ⟨e, he, rfl⟩ := List.mem_map.mp hp
      have hlt := engines_lt he
      have h16' := List.mem_singleton.mp h16
      unfold Chan.phys at h16'
      rw [h] at h16'
      simp at h16'
      omega
    · rw [List.append_nil]
      exact hmap

end

/-! ### The operations that are issued engine by engine -/

/-- In a row of issues for the engines of an operation, each engine's unit is free at its turn where it was free at the start. -/
theorem IssueKeeps.foldl_engine {n : Fin 8} {kind grp e : Nat} {mask : BitVec 8} {g : State → Nat → State} {Q : State → Prop} {s : State}
    (hs : Stable n Q) (hk : ∀ s e, IssueKeeps n (fun k => k = teUnit kind e) s (g s e)) (he : e ∈ engines grp mask)
    (hb : (s.chan n).unitBusy (teUnit kind e) = false)
    (hq : ∀ V t, IssueKeeps n V s t → (t.chan n).unitBusy (teUnit kind e) = false → Q (g t e)) : Q ((engines grp mask).foldl g s) :=
  foldl_at hs hk (engines_nodup grp mask) he fun t ht => hq _ t ht (ht.unit_free hb)

end Sys2Proof.Machine
end

section
/-!
The tensor-engine operations as a whole: PASS in flight, and each operation alone in its bundle.
-/

namespace Sys2Proof.Machine

section
variable (s : State) (n : Fin 8) (f : PassF)

theorem State.passTaken_issueKeeps : IssueKeeps n (fun _ => True) s (s.passTaken n f) :=
  .foldl (fun s _ _ => (s.takeUnit_issueKeeps n _ _).mono fun _ _ => trivial) s

/-- The channel of a PASS whose buffers have swapped is as before in everything its events depend on. -/
theorem State.passChan_same : (s.passChan n f).cycle = (s.chan n).cycle ∧ (s.passChan n f).extra = (s.chan n).extra ∧
    (s.passChan n f).applied = (s.chan n).applied := by
  have h := s.passTaken_issueKeeps n f
  obtain ⟨a, b, k, hc⟩ := ((s.passTaken n f).chan n).passSwapped_same f (s.passEngines n f)
  unfold State.passChan Chan.extra
  rw [hc]
  exact ⟨h.cycle, by rw [h.applied], h.applied⟩

theorem State.passChan_buffers (hnd : (s.passEngines n f).Nodup) {p : Nat} (hp : p ∈ s.passEngines n f) :
    (s.passChan n f).buffers p = ((s.chan n).buffers p).swap := by
  have h := s.passTaken_issueKeeps n f
  have hb : ((s.passTaken n f).chan n).buffers p = (s.chan n).buffers p := by unfold Chan.buffers; rw [h.active, h.standby]
  have hswap := Chan.passSwapped_buffers f hnd ((s.passTaken n f).chan n) p
  rw [if_pos hp, hb] at hswap
  exact hswap

theorem State.passReads_issueKeeps (U : Nat → Prop) (t : State) (c : Chan) (id : Nat) : IssueKeeps n U t (t.passReads n f c id) := by
  unfold State.passReads
  split
  · exact .refl n U t
  · exact t.foldl_after_issueKeeps U _ n _ _ _ _

theorem State.passScales_issueKeeps (U : Nat → Prop) (t : State) (c : Chan) (id : Nat) : IssueKeeps n U t (t.passScales n f c id) := by
  unfold State.passScales
  split
  · exact t.foldl_after_issueKeeps U _ n _ _ _ _
  · exact .refl n U t

theorem State.passRows_issueKeeps (U : Nat → Prop) (t : State) (first id e : Nat) : IssueKeeps n U t (t.passRows n f first id e) :=
  t.foldl_after_issueKeeps U _ n _ _ _ _

/-- What follows the entry of a PASS among the operations in flight. -/
theorem State.issuePass_issueKeeps (errs : List ReadErr) :
    IssueKeeps n (fun _ => False) ((s.passTaken n f).setChan n (s.passChan n f)) (s.issuePass n f errs) := by
  rw [State.issuePass_eq]
  exact (((State.addJob_issueKeeps _ _ n _ _ _).trans (State.passReads_issueKeeps n f _ _ _ _)).trans (State.passScales_issueKeeps n f _ _ _ _)).trans
    (.foldl (fun t e _ => t.passRows_issueKeeps n f _ _ _ e) _)

/-- A PASS whose engines are free and whose tiles are complete is in flight with its completions. -/
theorem State.issuePass_inFlight (hu : s.passUndef n f = []) :
    InFlight n (s.passOp n f) (PassEvents f (s.passFirst n f (s.chan n)) (s.chan n)) (s.issuePass n f []) := by
  obtain ⟨hcyc, hextra, happ⟩ := s.passChan_same n f
  have hadd := State.addJob_issueKeeps (fun _ => False) ((s.passTaken n f).setChan n (s.passChan n f)) n (s.passOp n f) [] []
  rw [State.issuePass_eq]
  unfold State.passJob
  rw [hu]
  generalize hr : State.addJob _ n (s.passOp n f) [] [] = r at hadd ⊢
  dsimp only
  have hreads := State.passReads_issueKeeps n f (fun _ => False) r.1 (s.passChan n f) r.2
  have hscales := State.passScales_issueKeeps n f (fun _ => False) (r.1.passReads n f (s.passChan n f) r.2) (s.passChan n f) r.2
  generalize hy : (r.1.passReads n f (s.passChan n f) r.2).passScales n f (s.passChan n f) r.2 = y at hscales ⊢
  have hy' : IssueKeeps n (fun _ => False) r.1 y := hreads.trans hscales
  have hycyc : (y.chan n).cycle = (s.chan n).cycle := by
    rw [hy'.cycle, hadd.cycle, State.setChan_chan_same, hcyc]
  have hfirst : y.passFirst n f (s.passChan n f) = s.passFirst n f (s.chan n) := by
    have hlat : y.latA1 n = s.latA1 n := by
      have hrd (k : Nat) : y.rd k = s.rd k := by
        rw [hy'.rd, hadd.rd, State.setChan_rd, (s.passTaken_issueKeeps n f).rd]
      have ha : (y.chan n).applied = (s.chan n).applied := by
        rw [hy'.applied, hadd.applied, State.setChan_chan_same, happ]
      rw [State.latA1, State.isB0, State.fld, hrd, ha, State.latA1, State.isB0, State.fld]
    rw [State.passFirst, hlat, hextra, State.passFirst]
  rw [hfirst]
  generalize s.passFirst n f (s.chan n) = first
  have hrows (t : State) (e : Nat) := t.passRows_issueKeeps n f (fun _ => False) first r.2 e
  refine State.addJob_inFlight (U := fun _ => False) (by rw [hr]; exact hy'.trans (.foldl (fun t e _ => hrows t e) _)) ?_
  rw [hr]
  rintro due ev ⟨e, he, i, hi, rfl, rfl⟩
  refine IssueKeeps.foldl_at (IssueKeeps.stable_lands n _ _) hrows (engines_nodup _ _) he fun t ht => ?_
  rw [← hycyc, ← ht.cycle]
  exact State.foldl_after_lands List.nodup_range t n (1 + f.grp.val) (fun r => first + pieceOf f.fmtA.toNat f.fmtW.toNat r) _ _ (List.mem_range.mpr hi)

end

/-! ### Each operation alone in its bundle -/

theorem InFlight.advance {n : Fin 8} {op : JobOp} {evs : Nat → Nat → Ev → Prop} {t : State} (h : InFlight n op evs t) :
    InFlight n op evs (t.advance n) := by
  obtain ⟨id, j, ⟨hj, hu, he⟩, ho, hl⟩ := h
  obtain ⟨k, l, x, hc⟩ := t.advance_chan n
  exact ⟨id, j, ⟨by rw [hc]; exact hj, hu, he⟩, ho, fun due ev hev => State.advance_lands _ _ _ _ (hl due ev hev)⟩

theorem LoadwEvents.congr {f : LoadwF} {e : Nat} {c d : Chan} (hc : d.cycle = c.cycle) (hx : d.extra = c.extra) (hs : d.s = c.s) :
    LoadwEvents f e d = LoadwEvents f e c := by
  unfold LoadwEvents
  rw [hc, hx, hs]

theorem LoadaccEvents.congr {f : LoadaccF} {e : Nat} {c d : Chan} (hc : d.cycle = c.cycle) (hx : d.extra = c.extra) :
    LoadaccEvents f e d = LoadaccEvents f e c := by
  unfold LoadaccEvents
  rw [hc, hx]

theorem DrainEvents.congr {f : DrainF} {c d : Chan} (hc : d.cycle = c.cycle) (hx : d.extra = c.extra) : DrainEvents f d = DrainEvents f c := by
  unfold DrainEvents DrainRowEvents
  rw [hc, hx]

section
variable {u : Issue} {s : State}

theorem Issues.unit_free {o : Op} (h : Issues u o s) {k e : Nat} (he : (k, e) ∈ o.units) : ((s.atIssue u.ch).chan u.ch).unitBusy k = false := by
  rw [State.atIssue_unitBusy]
  exact Chan.units_free_of_opHazard h.2.2 _ he

/-- LOADW (R104, R105): every engine's load is in flight with its reads and its tile. -/
theorem completes_loadw {f : LoadwF} (h : Issues u (.loadw f) s) : Completes (.loadw u f) s fun t =>
    ∀ e ∈ engines f.grp f.eng, InFlight u.ch (loadwOp f e) (LoadwEvents f e (s.chan u.ch)) t := by
  have hkeeps (s : State) (e : Nat) := s.issueLoadw_issueKeeps u.ch f e []
  refine h.completes rfl rfl rfl rfl ((IssueKeeps.foldl (fun s e _ => (hkeeps s e).mono fun _ _ => trivial) _ :
    IssueKeeps u.ch (fun _ => True) _ _).rd _) fun e he => InFlight.advance ?_
  refine IssueKeeps.foldl_engine (kind := 0) (InFlight.stable _ _ _) hkeeps he (h.unit_free (List.mem_map_of_mem he)) fun V t ht hb => ?_
  have hin := t.issueLoadw_inFlight u.ch f e hb
  rw [LoadwEvents.congr ht.cycle ht.extra ht.s_eq, State.atIssue_chan] at hin
  exact hin

/-- LOADACC (R107, R108). -/
theorem completes_loadacc {f : LoadaccF} (h : Issues u (.loadacc f) s) : Completes (.loadacc u f) s fun t =>
    ∀ e ∈ engines f.grp f.eng, InFlight u.ch (loadaccOp f e) (LoadaccEvents f e (s.chan u.ch)) t := by
  have hkeeps (s : State) (e : Nat) := s.issueLoadacc_issueKeeps u.ch f e []
  refine h.completes rfl rfl rfl rfl ((IssueKeeps.foldl (fun s e _ => (hkeeps s e).mono fun _ _ => trivial) _ :
    IssueKeeps u.ch (fun _ => True) _ _).rd _) fun e he => InFlight.advance ?_
  refine IssueKeeps.foldl_engine (kind := 3) (InFlight.stable _ _ _) hkeeps he (h.unit_free (List.mem_map_of_mem he)) fun V t ht hb => ?_
  have hin := t.issueLoadacc_inFlight u.ch f e hb
  rw [LoadaccEvents.congr ht.cycle ht.extra, State.atIssue_chan] at hin
  exact hin

/-- DRAIN (R109): the operation in flight is that of some state of the same channel at its turn. -/
theorem completes_drain {f : DrainF} (h : Issues u (.drain f) s) : Completes (.drain u f) s fun t =>
    ∀ e ∈ engines f.grp f.eng, ∃ v : State, InFlight u.ch (v.drainOp u.ch f e) (DrainEvents f (s.chan u.ch)) t := by
  have hkeeps (s : State) (e : Nat) := s.issueDrain_issueKeeps u.ch f e []
  refine h.completes rfl rfl rfl rfl ((IssueKeeps.foldl (fun s e _ => (hkeeps s e).mono fun _ _ => trivial) _ :
    IssueKeeps u.ch (fun _ => True) _ _).rd _) fun e he => ?_
  have hin := IssueKeeps.foldl_engine (kind := 2) (s := s.atIssue u.ch)
    (IssueKeeps.stable_exists fun v : State => InFlight.stable u.ch (v.drainOp u.ch f e) (DrainEvents f (s.chan u.ch)))
    hkeeps he (h.unit_free (List.mem_map_of_mem he)) fun V t ht hb => by
      have hin := t.issueDrain_inFlight u.ch f e hb
      rw [DrainEvents.congr ht.cycle ht.extra, State.atIssue_chan] at hin
      exact ⟨t, hin⟩
  obtain ⟨v, hv⟩ := hin
  exact ⟨v, hv.advance⟩

theorem State.atIssue_shadowing (s : State) (n : Fin 8) : (s.atIssue n).shadowing n = s.shadowing n := by
  have hne : chShadow n ≠ chStatus n := by unfold chShadow chStatus; omega
  rw [State.shadowing, State.flag, s.atIssue_fld n _ _ hne, s.atIssue_fld n _ _ hne, State.shadowing, State.flag]

/-- PASS (R104 to R107): the buffers of its engines have swapped, and it is in flight with the completions of its rows. -/
theorem completes_pass {f : PassF} (h : Issues u (.pass f) s)
    (hsh : s.shadowing u.ch = none ∨ getF (s.chan u.ch).applied.teMap CH_TE_MAP_REPLACE_EN = 0) : Completes (.pass u f) s fun t =>
    (∀ e ∈ engines f.grp f.eng, (t.chan u.ch).buffers ((s.chan u.ch).phys e) = ((s.chan u.ch).buffers ((s.chan u.ch).phys e)).swap) ∧
      InFlight u.ch ((s.atIssue u.ch).passOp u.ch f) (PassEvents f (s.passFirst u.ch f (s.chan u.ch)) (s.chan u.ch)) t := by
  have hkeeps := (s.atIssue u.ch).issuePass_issueKeeps u.ch f []
  have hrd : ((s.atIssue u.ch).issuePass u.ch f []).rd (chStatus u.ch) = (s.atIssue u.ch).rd (chStatus u.ch) := by
    rw [hkeeps.rd, State.setChan_rd, ((s.atIssue u.ch).passTaken_issueKeeps u.ch f).rd]
  refine h.completes rfl rfl rfl rfl hrd ⟨fun e he => ?_, InFlight.advance ?_⟩
  · have hnd := (s.atIssue u.ch).passEngines_nodup u.ch f (by rw [State.atIssue_shadowing, State.atIssue_chan]; exact hsh)
    have hmem : (s.chan u.ch).phys e ∈ (s.atIssue u.ch).passEngines u.ch f := by
      rw [State.passEngines, State.atIssue_chan]
      exact List.mem_append_left _ (List.mem_map_of_mem he)
    obtain ⟨k, l, x, hc⟩ := ((s.atIssue u.ch).issuePass u.ch f []).advance_chan u.ch
    have hb := (s.atIssue u.ch).passChan_buffers u.ch f hnd hmem
    rw [State.atIssue_chan] at hb
    refine Eq.trans ?_ hb
    change (((s.atIssue u.ch).issuePass u.ch f []).advance u.ch |>.chan u.ch).buffers _ = _
    rw [hc]
    unfold Chan.buffers
    rw [hkeeps.active, hkeeps.standby, State.setChan_chan_same]
  · have hu : (s.atIssue u.ch).passUndef u.ch f = [] := by
      refine List.filter_eq_nil_iff.mpr fun e he => ?_
      have hearly : ((s.atIssue u.ch).chan u.ch).tileEarly e = false := by
        rw [State.atIssue_chan]
        exact Chan.tiles_ready_of_opHazard h.2.2 e he
      rw [hearly, h.unit_free (List.mem_map_of_mem he)]
      exact Bool.false_ne_true
    have hin := (s.atIssue u.ch).issuePass_inFlight u.ch f hu
    rw [State.passFirst, State.atIssue_latA1, State.atIssue_chan] at hin
    exact hin

end

end Sys2Proof.Machine
end

section
open Sys2Proof Machine

/-- Settles O6: each engine's operation is in flight with the events of its kind (`InFlight`), in which every result the statement names is found; the
buffers of a PASS have swapped (`completes_pass`). -/
theorem tensorEngineSchedule : Obligations.TensorEngineSchedule := by
  intro u s x inFlight
  refine ⟨fun f h => ?loadw, fun f h hsh => ?pass, fun f h hw => ?drain, fun f h hw => ?wide, fun f h => ?loadacc⟩
  case loadw =>
    obtain ⟨t, ht, hall⟩ := completes_loadw h
    refine ⟨t, ht, fun e he => ?_⟩
    obtain ⟨id, j, hj, ho, hl⟩ := hall e he
    exact ⟨id, j, hj, ho, hl _ _ (.inl ⟨rfl, rfl⟩), fun m hm => hl _ _ (.inr (.inl ⟨m, hm, rfl, rfl⟩)),
      fun hss m hm => hl _ _ (.inr (.inr ⟨hss, m, hm, rfl, rfl⟩))⟩
  case pass =>
    obtain ⟨t, ht, hbuf, id, j, hj, ho, hl⟩ := completes_pass h hsh
    refine ⟨t, ht, fun e he => Prod.mk.inj (hbuf e he), id, j, (s.atIssue u.ch).passShadow u.ch f, hj, ?_,
      fun e he r hr => hl _ _ ⟨e, he, r, Nat.lt_succ_of_le hr, rfl, rfl⟩⟩
    rw [ho, State.passOp, State.atIssue_chan]
    rfl
  case drain =>
    obtain ⟨t, ht, hall⟩ := completes_drain h
    refine ⟨t, ht, fun e he => ?_⟩
    have hne : f.fmtO.toNat ≠ 11 := fun e => hw (BitVec.eq_of_toNat_eq e)
    obtain ⟨v, id, j, hj, ho, hl⟩ := hall e he
    refine ⟨id, j, hj, ⟨_, _, _, _, _, _, _, _, _, _, ho, rfl, rfl, rfl, rfl, rfl, rfl⟩, fun i hi => ?_⟩
    have hrow {due : Nat} {ev : Ev} (hev : DrainRowEvents f (s.chan u.ch) id i due ev) := hl due ev ⟨i, Nat.lt_succ_of_le hi, hev⟩
    exact ⟨hrow (.inl ⟨rfl, rfl⟩), hrow (.inr (.inr ⟨hne, rfl, .inl rfl⟩)), fun hmx => hrow (.inr (.inr ⟨hne, rfl, .inr ⟨hmx, rfl⟩⟩))⟩
  case wide =>
    obtain ⟨t, ht, hall⟩ := completes_drain h
    refine ⟨t, ht, fun e he => ?_⟩
    have hew : f.fmtO.toNat = 11 := by rw [hw]; rfl
    obtain ⟨v, id, j, hj, -, hl⟩ := hall e he
    refine ⟨id, j, hj, fun i hi => ?_⟩
    have hrow {due : Nat} {ev : Ev} (hev : DrainRowEvents f (s.chan u.ch) id i due ev) := hl due ev ⟨i, Nat.lt_succ_of_le hi, hev⟩
    exact ⟨hrow (.inl ⟨rfl, rfl⟩), fun k hk => hrow (.inr (.inl ⟨hew, k, hk, rfl, rfl⟩))⟩
  case loadacc =>
    obtain ⟨t, ht, hall⟩ := completes_loadacc h
    refine ⟨t, ht, fun e he => ?_⟩
    obtain ⟨id, j, hj, ho, hl⟩ := hall e he
    exact ⟨id, j, hj, ho, fun i hi => hl _ _ ⟨i, Nat.lt_succ_of_le hi, rfl, rfl⟩⟩

end

section
/-!
A channel stops (R121, R124), and what that and a raised cause (R413, R417) leave unchanged.
-/

namespace Sys2Proof.Machine

/-! ### The registers of a stop -/

/-- The registers that a stop of channel `n` writes. -/
def StopReg (n : Fin 8) (off : Nat) : Prop :=
  off = chStatus n ∨ off = chCtl n ∨ (∃ q < 32, off = chQCount n q) ∨ ∃ k < 16, off = chNqStatus n k

theorem StopReg.status (n : Fin 8) : StopReg n (chStatus n) := .inl rfl

theorem StopReg.ctl (n : Fin 8) : StopReg n (chCtl n) := .inr (.inl rfl)

/-- The registers of channel `n`'s own block. -/
def BlockReg (n : Fin 8) (off : Nat) : Prop := 0x01000000 + 0x100000 * n.val ≤ off ∧ off < 0x01100000 + 0x100000 * n.val

theorem StopReg.block {n : Fin 8} {off : Nat} (h : StopReg n off) : BlockReg n off := by
  unfold StopReg chStatus chCtl chQCount chNqStatus at h
  unfold BlockReg
  obtain rfl | rfl | ⟨q, hq, rfl⟩ | ⟨k, hk, rfl⟩ := h <;> omega

theorem BlockReg.eq {n m : Fin 8} {off : Nat} (h : BlockReg n off) (h' : BlockReg m off) : n = m := by
  unfold BlockReg at h h'
  exact Fin.ext (by omega)

theorem State.noteWaits_onlyRegs (s : State) (n : Fin 8) (l : List QueF) : OnlyRegs (fun off => ∃ q < 32, off = chQCount n q) s (s.noteWaits n l) :=
  .foldl _ l (fun s f _ => (s.setFld_onlyRegs _ _ _).mono fun _ h => ⟨f.q.toNat, f.q.isLt, h⟩) s

theorem State.stopRegs_onlyRegs (s : State) (n : Fin 8) (st : Nat) : OnlyRegs (StopReg n) s (s.stopRegs n st) := by
  have h (r : Nat) (hr : StopReg n r) (f : Fld) (x : Nat) (s : State) : OnlyRegs (StopReg n) s (s.setFld r f x) :=
    (s.setFld_onlyRegs r f x).mono fun _ e => e ▸ hr
  have hs := h _ (.status n)
  have hc := h _ (.ctl n)
  exact ((((hs _ _ s).trans (hc _ _ _)).trans (hc _ _ _)).trans (hs _ _ _)).trans (hs _ _ _)

theorem State.showQueues_onlyRegs (s : State) (n : Fin 8) : OnlyRegs (fun off => ∃ k < 16, off = chNqStatus n k) s (s.showQueues n) := by
  refine .foldl _ _ (fun s q _ => ?_) s
  have h (k : Nat) (hk : k < 16) (f : Fld) (x : Nat) (s : State) : OnlyRegs (fun off => ∃ k < 16, off = chNqStatus n k) s (s.setFld (chNqStatus n k) f x) :=
    (s.setFld_onlyRegs _ f x).mono fun _ e => ⟨k, hk, e⟩
  exact (((h q (by omega) _ _ s).trans (h q (by omega) _ _ _)).trans (h (8 + q) (by omega) _ _ _)).trans (h (8 + q) (by omega) _ _ _)

@[simp] theorem State.showQueues_chan (s : State) (n m : Fin 8) : (s.showQueues n).chan m = s.chan m := (s.showQueues_onlyRegs n).chan m

@[simp] theorem State.stopRegs_chan (s : State) (n m : Fin 8) (st : Nat) : (s.stopRegs n st).chan m = s.chan m := (s.stopRegs_onlyRegs n st).chan m

theorem State.endRun_chan (s : State) (n : Fin 8) : (s.endRun n).chan n = (s.chan n).endRun := by
  unfold State.endRun
  cases (s.chan n).held with
  | none => exact State.setChan_chan_same _ _ _
  | some h =>
    rw [State.setChan_chan_same]
    exact congrArg _ ((s.noteWaits_onlyRegs n h.unmet).chan n)

theorem State.endRun_onlyChan (s : State) (n : Fin 8) : OnlyChan n (fun off => ∃ q < 32, off = chQCount n q) s (s.endRun n) := by
  unfold State.endRun
  cases (s.chan n).held with
  | none => exact s.setChan_onlyChan _ n _
  | some h => exact ((s.noteWaits_onlyRegs n h.unmet).onlyChan n).trans (State.setChan_onlyChan _ _ n _)

/-! ### The fields of a stop -/

theorem State.stopRegs_state (s : State) (n : Fin 8) (st : Nat) : (s.stopRegs n st).fld (chStatus n) CH_STATUS_STATE = st % 8 := by
  have hne : chStatus n ≠ chCtl n := by unfold chStatus chCtl; omega
  unfold State.stopRegs
  rw [State.fld_setFld_field _ _ _ _ _ (by decide) (by decide), State.fld_setFld_field _ _ _ _ _ (by decide) (by decide),
    State.fld_setFld_other _ _ _ _ _ _ hne, State.fld_setFld_other _ _ _ _ _ _ hne, State.fld_setFld_same _ _ _ _ (by decide)]
  rfl

theorem State.stopRegs_ctl (s : State) (n : Fin 8) (st : Nat) : (s.stopRegs n st).fld (chCtl n) CH_CTL_RUN = 0 ∧
    (s.stopRegs n st).fld (chCtl n) CH_CTL_STOP_AT_CUE = 0 := by
  have hne : chCtl n ≠ chStatus n := by unfold chStatus chCtl; omega
  unfold State.stopRegs
  rw [State.fld_setFld_other _ _ _ _ _ _ hne, State.fld_setFld_other _ _ _ _ _ _ hne, State.fld_setFld_field _ _ _ _ _ (by decide) (by decide),
    State.fld_setFld_same _ _ _ _ (by decide), State.fld_setFld_other _ _ _ _ _ _ hne, State.fld_setFld_other _ _ _ _ _ _ hne,
    State.fld_setFld_same _ _ _ _ (by decide)]
  exact ⟨rfl, rfl⟩

theorem State.showQueues_fld (s : State) (n : Fin 8) {r : Nat} (hr : r = chStatus n ∨ r = chCtl n) (f : Fld) :
    (s.showQueues n).fld r f = s.fld r f := by
  refine (s.showQueues_onlyRegs n).fld ?_ f
  rintro ⟨k, -, e⟩
  unfold chStatus chCtl at hr
  unfold chNqStatus at e
  omega

/-! ### The stops -/

theorem State.stopKeep_onlyChan (s : State) (n : Fin 8) (st : Nat) : OnlyChan n (StopReg n) s (s.stopKeep n st) :=
  ((s.endRun_onlyChan n).mono fun _ h => .inr (.inr (.inl h))).trans ((State.stopRegs_onlyRegs _ n st).onlyChan n)

theorem State.stopKeep_chan (s : State) (n : Fin 8) (st : Nat) : (s.stopKeep n st).chan n = (s.chan n).endRun := by
  rw [State.stopKeep, State.stopRegs_chan, State.endRun_chan]

theorem State.stopDiscard_onlyChan (s : State) (n : Fin 8) (st : Nat) : OnlyChan n (StopReg n) s (s.stopDiscard n st) :=
  ((((s.endRun_onlyChan n).mono fun _ h => .inr (.inr (.inl h))).trans (State.setChan_onlyChan _ _ n _)).trans
    ((State.stopRegs_onlyRegs _ n st).onlyChan n)).trans (((State.showQueues_onlyRegs _ n).mono fun _ h => .inr (.inr (.inr h))).onlyChan n)

theorem State.stopDiscard_chan (s : State) (n : Fin 8) (st : Nat) :
    (s.stopDiscard n st).chan n = { (s.chan n).endRun.discardRx with txq := Vector.replicate 8 [] } := by
  rw [State.stopDiscard, State.showQueues_chan, State.stopRegs_chan, State.setChan_chan_same, State.endRun_chan]

theorem State.stopDiscard_state (s : State) (n : Fin 8) (st : Nat) : (s.stopDiscard n st).fld (chStatus n) CH_STATUS_STATE = st % 8 := by
  rw [State.stopDiscard, State.showQueues_fld _ _ (.inl rfl), State.stopRegs_state]

theorem State.stopDiscard_run (s : State) (n : Fin 8) (st : Nat) : (s.stopDiscard n st).fld (chCtl n) CH_CTL_RUN = 0 := by
  rw [State.stopDiscard, State.showQueues_fld _ _ (.inr rfl), (State.stopRegs_ctl _ n st).1]

theorem State.stopCue_onlyChan (s : State) (n : Fin 8) (cue : Nat) : OnlyChan n (StopReg n) s (s.stopCue n cue) :=
  ((((s.endRun_onlyChan n).mono fun _ h => .inr (.inr (.inl h))).trans (State.setChan_onlyChan _ _ n _)).trans
    ((State.stopRegs_onlyRegs _ n _).onlyChan n)).trans (((State.showQueues_onlyRegs _ n).mono fun _ h => .inr (.inr (.inr h))).onlyChan n)

theorem State.stopCue_held (s : State) (n : Fin 8) (cue : Nat) : ((s.stopCue n cue).chan n).held = none := by
  rw [State.stopCue, State.showQueues_chan, State.stopRegs_chan, State.setChan_chan_same, State.endRun_chan]
  rfl

theorem State.stopCue_state (s : State) (n : Fin 8) (cue : Nat) : (s.stopCue n cue).fld (chStatus n) CH_STATUS_STATE = stHalted := by
  rw [State.stopCue, State.showQueues_fld _ _ (.inl rfl), State.stopRegs_state]
  rfl

theorem State.stopCue_stopAtCue (s : State) (n : Fin 8) (cue : Nat) : (s.stopCue n cue).fld (chCtl n) CH_CTL_STOP_AT_CUE = 0 := by
  rw [State.stopCue, State.showQueues_fld _ _ (.inr rfl), (State.stopRegs_ctl _ n _).2]

theorem State.setStopAtCue_onlyChan (s : State) (n : Fin 8) : OnlyChan n (StopReg n) s (s.setStopAtCue n) := by
  have h (x : Nat) : OnlyChan n (StopReg n) s (s.setFld (chCtl n) CH_CTL_STOP_AT_CUE x) :=
    ((s.setFld_onlyRegs _ _ _).mono fun _ e => e ▸ StopReg.ctl n).onlyChan n
  unfold State.setStopAtCue
  split
  · dsimp only
    split
    · split
      · exact (h 1).trans (State.stopCue_onlyChan _ n _)
      · exact h 1
    · exact h 1
  · exact h 0

/-! ### A channel that a stop elsewhere leaves alone -/

/-- Channel `n` and its registers stay. -/
def KeepsChannel (n : Fin 8) (s t : State) : Prop := (∀ off, BlockReg n off → t.rd off = s.rd off) ∧ t.chan n = s.chan n

theorem KeepsChannel.refl (n : Fin 8) (s : State) : KeepsChannel n s s := ⟨fun _ _ => rfl, rfl⟩

theorem KeepsChannel.trans {n : Fin 8} {s t u : State} (h : KeepsChannel n s t) (h' : KeepsChannel n t u) : KeepsChannel n s u :=
  ⟨fun off ho => (h'.1 off ho).trans (h.1 off ho), h'.2.trans h.2⟩

theorem KeepsChannel.fld {n : Fin 8} {s t : State} (h : KeepsChannel n s t) {off : Nat} (ho : BlockReg n off) (f : Fld) : t.fld off f = s.fld off f := by
  rw [State.fld, h.1 off ho, State.fld]

theorem KeepsChannel.flag {n : Fin 8} {s t : State} (h : KeepsChannel n s t) {off : Nat} (ho : BlockReg n off) (f : Fld) :
    t.flag off f = s.flag off f := by
  rw [State.flag, h.fld ho, State.flag]

theorem chStatus_block (n : Fin 8) : BlockReg n (chStatus n) := (StopReg.status n).block

theorem chCtl_block (n : Fin 8) : BlockReg n (chCtl n) := (StopReg.ctl n).block

theorem chFault_block (n : Fin 8) : BlockReg n (chFault n) := by unfold BlockReg chFault; omega

theorem chOverrun_block (n : Fin 8) : BlockReg n (chOverrun n) := by unfold BlockReg chOverrun; omega

theorem KeepsChannel.running {n : Fin 8} {s t : State} (h : KeepsChannel n s t) : t.running n = s.running n :=
  State.running_of_rd (h.1 _ (chStatus_block n))

/-- What keeps to another channel leaves this one alone. -/
theorem OnlyChan.keepsChannel {n m : Fin 8} (hm : n ≠ m) {s t : State} (h : OnlyChan m (StopReg m) s t) : KeepsChannel n s t :=
  ⟨fun off ho => h.1 off fun hp => hm (ho.eq hp.block), h.2.1 n hm⟩

/-- Registers at offsets in `p` may differ, and anything but the channels. -/
structure ChansFrame (p : Nat → Prop) (s t : State) : Prop where
  rd : ∀ off, ¬ p off → t.rd off = s.rd off
  ch : t.ch = s.ch

theorem ChansFrame.refl {p : Nat → Prop} (s : State) : ChansFrame p s s := ⟨fun _ _ => rfl, rfl⟩

theorem ChansFrame.trans {p : Nat → Prop} {s t u : State} (h : ChansFrame p s t) (h' : ChansFrame p t u) : ChansFrame p s u :=
  ⟨fun off ho => (h'.rd off ho).trans (h.rd off ho), h'.ch.trans h.ch⟩

theorem ChansFrame.mono {p q : Nat → Prop} {s t : State} (h : ChansFrame p s t) (hpq : ∀ off, p off → q off) : ChansFrame q s t :=
  ⟨fun off ho => h.rd off fun hp => ho (hpq off hp), h.ch⟩

theorem ChansFrame.ite {p : Nat → Prop} {c : Prop} [Decidable c] {s t u : State} (ht : ChansFrame p s t) (hu : ChansFrame p s u) :
    ChansFrame p s (if c then t else u) := by
  split
  · exact ht
  · exact hu

theorem ChansFrame.foldl {α : Type} {p : Nat → Prop} (f : State → α → State) (l : List α) (h : ∀ s x, ChansFrame p s (f s x)) (s : State) :
    ChansFrame p s (l.foldl f s) := by
  induction l generalizing s with
  | nil => exact .refl s
  | cons x l ih => exact (h s x).trans (ih (f s x))

theorem OnlyRegs.chansFrame {p : Nat → Prop} {s t : State} (h : OnlyRegs p s t) : ChansFrame p s t := ⟨h.1, h.ch⟩

theorem ChansFrame.chan {p : Nat → Prop} {s t : State} (h : ChansFrame p s t) (n : Fin 8) : t.chan n = s.chan n := by
  rw [State.chan, State.chan]
  simp only [h.ch]

theorem ChansFrame.modSaf {p : Nat → Prop} (s : State) (x : SafSt) : ChansFrame p s { s with saf := x } := ⟨fun _ _ => rfl, rfl⟩

theorem ChansFrame.keepsChannel {p : Nat → Prop} {s t : State} (h : ChansFrame p s t) {n : Fin 8} (hp : ∀ off, p off → ¬ BlockReg n off) :
    KeepsChannel n s t := ⟨fun off ho => h.rd off fun h' => hp off h' ho, h.chan n⟩

/-! ### A raised cause (R413) -/

/-- The registers that a raised cause writes before its alert. -/
def FirstReg (off : Nat) : Prop := off ∈ [safFault, safStat, safFirst, safFirstTick, safNotice]

/-- The registers that a raised cause writes up to the curtain. -/
def RaiseReg (off : Nat) : Prop := off ∈ [safFault, safStat, safFirst, safFirstTick, safNotice, safInt, ctlHostAlert, msixPba]

theorem RaiseReg.not_block {off : Nat} (h : RaiseReg off) (n : Fin 8) : ¬ BlockReg n off := by
  simp only [RaiseReg, List.mem_cons, List.not_mem_nil, or_false, safFault, safStat, safFirst, safFirstTick, safNotice, safInt, ctlHostAlert,
    msixPba] at h
  unfold BlockReg
  omega

theorem State.sendVector_chans (s : State) (v : Nat) : ChansFrame (fun off => off = msixPba) s (s.sendVector v) := by
  unfold State.sendVector
  extract_lets u
  have hu : ChansFrame (fun off => off = msixPba) s u := ⟨fun _ _ => rfl, rfl⟩
  refine .ite (.ite (hu.trans (u.setFld_onlyRegs _ _ _).chansFrame) (hu.trans ?_)) hu
  exact ⟨fun _ _ => rfl, rfl⟩

theorem State.alert_chans (s : State) (bits : List Nat) : ChansFrame (fun off => off ∈ [ctlHostAlert, msixPba]) s (s.alert bits) := by
  unfold State.alert
  extract_lets rising again t u
  have ht : ChansFrame (fun off => off ∈ [ctlHostAlert, msixPba]) s t :=
    .foldl _ bits (fun s _ => (s.setFlag_onlyRegs _ _).chansFrame.mono fun _ e => by simp [e]) s
  have hu : ChansFrame (fun off => off ∈ [ctlHostAlert, msixPba]) t u := by
    refine .foldl _ again (fun s _ => ?_) t
    exact ⟨fun _ _ => rfl, rfl⟩
  exact (ht.trans hu).trans ((ChansFrame.foldl _ _ State.sendVector_chans u).mono fun _ e => by simp [e])

theorem State.intFault_onlyRegs (s : State) (code : Nat) : OnlyRegs (fun off => off = safInt) s (s.intFault code) :=
  .ite (.of_eq s) (((s.setFlag_onlyRegs _ _).trans (State.setFld_onlyRegs _ _ _ _)).trans (State.setFld_onlyRegs _ _ _ _))

theorem State.setFld_chans {p : Nat → Prop} (s : State) {o : Nat} (h : p o) (f : Fld) (x : Nat) : ChansFrame p s (s.setFld o f x) :=
  (s.setFld_onlyRegs o f x).chansFrame.mono fun _ e => e ▸ h

theorem State.setFlag_chans {p : Nat → Prop} (s : State) {o : Nat} (h : p o) (f : Fld) : ChansFrame p s (s.setFlag o f) :=
  (s.setFlag_onlyRegs o f).chansFrame.mono fun _ e => e ▸ h

theorem State.fillFirst_chans (s : State) (code unit detail org : Nat) : ChansFrame FirstReg s (s.fillFirst code unit detail org) := by
  have h : FirstReg safFirst := by simp [FirstReg]
  exact (((((s.setFld_chans h _ _).trans (State.setFld_chans _ h _ _)).trans (State.setFld_chans _ h _ _)).trans
    (State.setFld_chans _ h _ _)).trans (State.setFlag_chans _ h _)).trans
    ((State.wr_onlyRegs _ _ _).chansFrame.mono fun _ e => by simp [e, FirstReg])

theorem State.dropNotice_chans (s : State) : ChansFrame FirstReg s s.dropNotice := by
  unfold State.dropNotice
  split
  · extract_lets t u _
    have hs : FirstReg safStat := by simp [FirstReg]
    have hf : FirstReg safFault := by simp [FirstReg]
    have ht : ChansFrame FirstReg s t := s.setFld_chans hs _ _
    have hu : ChansFrame FirstReg s u := .ite (ht.trans (t.setFld_chans hf _ _)) ht
    clear_value u
    have hw : ChansFrame FirstReg u (u.wr safNotice 0) := (u.wr_onlyRegs _ _).chansFrame.mono fun _ e => by simp [e, FirstReg]
    refine .ite ((hu.trans hw).trans ?_) hu
    exact ⟨fun _ _ => rfl, rfl⟩
  · exact .refl s

/-- A raised cause in its parts: its records, the alert and the end of an intermission in progress, and the curtain. -/
theorem State.raiseCause_parts (s : State) (code unit detail : Nat) (origin : Option Notice) : ∃ u z nt,
    ChansFrame FirstReg s u ∧ ChansFrame (fun _ => False) ((u.alert [0]).intFault code) z ∧
      (s.raiseCause code unit detail origin = z ∨ s.raiseCause code unit detail origin = z.enterCurtain nt) := by
  unfold State.raiseCause
  extract_lets was same own fill u v w _ x y _ z
  have hu : ChansFrame FirstReg s u := .ite s.dropNotice_chans (.refl s)
  clear_value u
  have hv : ChansFrame FirstReg s v := hu.trans (u.setFlag_chans (by simp [FirstReg]) _)
  clear_value v
  have hx : ChansFrame FirstReg v x := .ite ((v.fillFirst_chans _ _ _ _).trans (.modSaf _ _)) (.refl v)
  clear_value x
  have hz : ChansFrame (fun _ => False) y z := .ite (.modSaf _ _) (.refl y)
  clear_value z
  exact ⟨x, z, origin.getD z.ownNotice, hv.trans hx, hz, (ite_eq_or_eq _ _ _).symm⟩

/-- Entering the curtain: STATE of SAF_STAT, and STOP_AT_CUE of the running channels. -/
theorem State.enterCurtain_keepsChannel (s : State) (nt : Notice) {n : Fin 8} (h : s.running n = false) : KeepsChannel n s (s.enterCurtain nt) := by
  unfold State.enterCurtain
  extract_lets t _ u
  have ht : ChansFrame (fun off => off = safStat) s u := ⟨fun off ho => (s.setFld_onlyRegs safStat _ _).1 off ho, rfl⟩
  have hsafe : RaiseReg safStat := by simp [RaiseReg]
  have hu : KeepsChannel n s u := ht.keepsChannel fun _ e => e ▸ hsafe.not_block n
  clear_value u
  have hstep (s : State) (h : s.running n = false) (m : Fin 8) : KeepsChannel n s (if s.running m then s.setStopAtCue m else s) := by
    split
    · next hm => exact (s.setStopAtCue_onlyChan m).keepsChannel fun e => by rw [e, hm] at h; exact absurd h (by decide)
    · exact .refl n s
  refine hu.trans ?_
  have hur : u.running n = false := hu.running.trans h
  clear hu ht h
  generalize fins 8 = l
  induction l generalizing u with
  | nil => exact .refl n u
  | cons m l ih => exact (hstep u hur m).trans (ih _ ((hstep u hur m).running.trans hur))

/-- A raised cause leaves a channel that does not run alone. -/
theorem State.raiseCause_keepsChannel (s : State) (code unit detail : Nat) (origin : Option Notice) {n : Fin 8} (h : s.running n = false) :
    KeepsChannel n s (s.raiseCause code unit detail origin) := by
  obtain ⟨u, z, nt, hu, hz, hor⟩ := s.raiseCause_parts code unit detail origin
  have hfirst (off : Nat) (ho : FirstReg off) : RaiseReg off := by
    simp only [FirstReg, RaiseReg, List.mem_cons, List.not_mem_nil, or_false] at ho ⊢
    tauto
  have ha : ChansFrame RaiseReg u (u.alert [0]) := (u.alert_chans [0]).mono fun _ e => by
    simp only [RaiseReg, List.mem_cons, List.not_mem_nil, or_false] at e ⊢
    tauto
  have hi : ChansFrame RaiseReg (u.alert [0]) ((u.alert [0]).intFault code) :=
    (State.intFault_onlyRegs _ code).chansFrame.mono fun _ e => by simp [e, RaiseReg]
  have hall : KeepsChannel n s z :=
    (((hu.mono hfirst).trans ha).trans (hi.trans (hz.mono fun _ => False.elim))).keepsChannel fun _ ho => ho.not_block n
  rcases hor with e | e
  · rw [e]
    exact hall
  · rw [e]
    exact hall.trans (z.enterCurtain_keepsChannel nt (hall.running.trans h))

/-- Entering the curtain writes SAF_STAT and registers of channels. -/
theorem State.enterCurtain_rd (s : State) (nt : Notice) {off : Nat} (h : off ≠ safStat) (hc : ¬ ChanReg off) : (s.enterCurtain nt).rd off = s.rd off := by
  unfold State.enterCurtain
  extract_lets t _ u
  have ht : u.rd off = s.rd off := (s.setFld_onlyRegs safStat _ _).1 off h
  exact ((MemNetFrame.foldl _ _ (fun s n => .ite (s.setStopAtCue_memNet n) (.refl s)) u).rd off hc).trans ht

/-- A raised cause stands in SAF_FAULT, and the host has its alert (R413). -/
theorem State.raiseCause_raised (s : State) {code unit : Nat} (detail : Nat) (origin : Option Notice) (h : causeBit code unit < 64) :
    Raised (s.raiseCause code unit detail origin) code unit := by
  refine ⟨s.raiseCause_flag detail origin h, ?_⟩
  obtain ⟨u, z, nt, -, hz, hor⟩ := s.raiseCause_parts code unit detail origin
  have hi : z.rd ctlHostAlert = (u.alert [0]).rd ctlHostAlert :=
    (hz.rd _ id).trans ((State.intFault_onlyRegs _ code).1 ctlHostAlert (by decide))
  have hr : (s.raiseCause code unit detail origin).rd ctlHostAlert = (u.alert [0]).rd ctlHostAlert := by
    rcases hor with e | e
    · rw [e, hi]
    · rw [e, State.enterCurtain_rd z nt (by decide) (by simp [ChanReg, ctlHostAlert]), hi]
  rw [State.flag, State.fld, hr]
  exact u.alert_flag (by decide)

end Sys2Proof.Machine
end

section
/-!
A fault of a channel (R124, R129, R411).
-/

namespace Sys2Proof.Machine

/-- What of a channel stays when a fault stops it and discards its queues (R124), with the cycle of its first fault. -/
def Chan.stopped (c : Chan) (k : Option Nat) : Chan := { c.endRun.discardRx with txq := Vector.replicate 8 [], faultCycle := k }

/-- The record of a fault (R129): its bit, and which was first. -/
theorem State.recordFirst_keeps (s : State) (n : Fin 8) (b first pc engine cycle : Nat) (hb : b < 12) :
    let t := ((((s.setChan n { s.chan n with faultCycle := some cycle }).setFld (chFault n) CH_FAULT_FIRST first).setFlag (chFault n)
      CH_FAULT_FIRST_VALID).setFld (chFault n) CH_FAULT_FIRST_PC pc).setFld (chFault n) CH_FAULT_FIRST_ENGINE engine
    OnlyChan n (fun off => off = chFault n) s t ∧ t.chan n = { s.chan n with faultCycle := some cycle } ∧
      t.fld (chFault n) (bitF b) = s.fld (chFault n) (bitF b) := by
  refine ⟨(s.setChan_onlyChan _ n _).trans (OnlyRegs.onlyChan n ((((State.setFld_onlyRegs _ _ _ _).trans (State.setFlag_onlyRegs _ _ _)).trans
    (State.setFld_onlyRegs _ _ _ _)).trans (State.setFld_onlyRegs _ _ _ _))), State.setChan_chan_same _ _ _, ?_⟩
  have hlow (f : Fld) (hf : f.lo + f.w ≤ 64) (h : b + 1 ≤ f.lo) (x : Nat) (u : State) : (u.setFld (chFault n) f x).fld (chFault n) (bitF b) = u.fld (chFault n) (bitF b) :=
    State.fld_setFld_field _ _ _ _ _ hf (.inr h)
  rw [hlow _ (by decide) (by change _ ≤ 37; omega), hlow _ (by decide) (by change _ ≤ 22; omega)]
  change ((State.setFld _ _ CH_FAULT_FIRST_VALID 1)).fld (chFault n) (bitF b) = _
  rw [hlow _ (by decide) (by change _ ≤ 21; omega), hlow _ (by decide) (by change _ ≤ 16; omega)]
  rfl

/-- The state in which a fault of a channel has been recorded and the channel stopped, before its cause is raised. -/
theorem State.faultChanAt_parts (s : State) (n : Fin 8) {b : Nat} (hb : b < 12) (pc engine cycle : Nat) : ∃ u detail k,
    OnlyChan n (fun off => off = chFault n ∨ StopReg n off) s u ∧ u.chan n = (s.chan n).stopped k ∧
      u.flag (chFault n) (bitF b) = true ∧ u.fld (chStatus n) CH_STATUS_STATE = stFault ∧ u.fld (chCtl n) CH_CTL_RUN = 0 ∧
      s.faultChanAt n b pc engine cycle = u.raiseCause 1 n detail none := by
  unfold State.faultChanAt
  extract_lets none_ lower v _ w x
  have hv : OnlyRegs (fun off => off = chFault n) s v := s.setFlag_onlyRegs _ _
  have hvb : v.fld (chFault n) (bitF b) = 1 := State.fld_setFld_same _ _ _ _ (by unfold bitF; dsimp only; omega)
  have hw : OnlyChan n (fun off => off = chFault n) s w ∧ (∃ k, w.chan n = { s.chan n with faultCycle := k }) ∧
      w.fld (chFault n) (bitF b) = 1 := by
    simp only [w]
    split
    · obtain ⟨h1, h2, h3⟩ := v.recordFirst_keeps n b b pc engine cycle hb
      refine ⟨(hv.onlyChan n).trans h1, ⟨some cycle, ?_⟩, h3.trans hvb⟩
      rw [h2, hv.chan]
    · exact ⟨hv.onlyChan n, ⟨_, hv.chan n⟩, hvb⟩
  clear_value w
  obtain ⟨hreg, ⟨k, hk⟩, hbit⟩ := hw
  have hnot : ¬ StopReg n (chFault n) := by
    unfold StopReg chStatus chCtl chQCount chNqStatus chFault
    rintro (h | h | ⟨q, hq, h⟩ | ⟨q, hq, h⟩) <;> omega
  refine ⟨x, x.fld (chFault n) CH_FAULT_FIRST + 32 * x.fld (chFault n) CH_FAULT_FIRST_ENGINE, k, ?_, ?_, ?_, ?_, ?_, rfl⟩
  · exact (hreg.mono fun _ => .inl).trans ((w.stopDiscard_onlyChan n stFault).mono fun _ => .inr)
  · rw [State.stopDiscard_chan, hk]
    rfl
  · rw [State.flag, State.fld, (w.stopDiscard_onlyChan n stFault).1 _ hnot, ← State.fld, hbit]
    rfl
  · exact w.stopDiscard_state n stFault
  · exact w.stopDiscard_run n stFault

theorem State.not_running_of_state {s : State} {n st : Nat} (h : s.fld (chStatus n) CH_STATUS_STATE = st) (hst : st ≠ stRunning) :
    s.running n = false := by
  rw [State.running, h]
  exact decide_eq_false hst

/-- What a channel fault leaves (R124, R129, R411): its bit, a channel in FAULT with RUN 0, its cause in SAF_FAULT with the host's alert. -/
structure Faulted (n : Fin 8) (b : Nat) (s t : State) : Prop where
  bit : t.flag (chFault n) (bitF b) = true
  state : t.fld (chStatus n) CH_STATUS_STATE = stFault
  run : t.fld (chCtl n) CH_CTL_RUN = 0
  raised : Raised t 1 n
  chan : ∃ k, t.chan n = (s.chan n).stopped k
  rd : ∀ off, BlockReg n off → off ≠ chFault n → ¬ StopReg n off → t.rd off = s.rd off

theorem State.faultChanAt_faulted (s : State) (n : Fin 8) {b : Nat} (hb : b < 12) (pc engine cycle : Nat) :
    Faulted n b s (s.faultChanAt n b pc engine cycle) := by
  obtain ⟨u, detail, k, hreg, hchan, hbit, hstate, hrun, he⟩ := s.faultChanAt_parts n hb pc engine cycle
  have hkeep : KeepsChannel n u (s.faultChanAt n b pc engine cycle) := by
    rw [he]
    exact u.raiseCause_keepsChannel 1 n detail none (State.not_running_of_state hstate (by decide))
  refine ⟨?_, ?_, ?_, ?_, ⟨k, hkeep.2.trans hchan⟩, fun off ho hf hs => ?_⟩
  · rw [hkeep.flag (chFault_block n), hbit]
  · rw [hkeep.fld (chStatus_block n), hstate]
  · rw [hkeep.fld (chCtl_block n), hrun]
  · rw [he]
    exact u.raiseCause_raised detail none (by unfold causeBit; rw [if_pos rfl]; omega)
  · rw [hkeep.1 off ho]
    exact hreg.1 off fun h => h.elim hf hs

theorem State.faultChan_faulted (s : State) (n : Fin 8) {b : Nat} (hb : b < 12) : Faulted n b s (s.faultChan n b) :=
  s.faultChanAt_faulted n hb _ _ _

theorem Faulted.not_running {n : Fin 8} {b : Nat} {s t : State} (h : Faulted n b s t) : t.running n = false :=
  State.not_running_of_state h.state (by decide)

theorem Faulted.safFault {n : Fin 8} {b : Nat} {s t : State} (h : Faulted n b s t) : t.flag safFault (bitF n) = true := by
  have hr := h.raised.1
  unfold causeBit at hr
  rwa [if_pos rfl, Nat.mod_eq_of_lt n.isLt] at hr

end Sys2Proof.Machine
end

section
/-!
Branches, HALT, INTERMIT, SIGNAL and whole bundles (R84 to R87, R99, R121, R124).
-/

namespace Sys2Proof.Machine

/-! ### A bundle at issue -/

theorem Bundle.readRegs_of_errs {b : Bundle} (h : b.errs = []) (c : Chan) : c.readRegs b = (c, []) := by
  rw [Chan.readRegs, h]
  rfl

/-- A bundle without read errors, at issue: its faults, or its effect. -/
theorem State.issueNow_plain (s : State) (n : Fin 8) {b : Bundle} (he : b.errs = []) (hz : s.issueHazard n b = none) :
    s.issueNow n b = if s.bundleFaults n b = [] then s.issueAll n b else (s.bundleFaults n b).foldl (fun s x => s.faultChan n x) s := by
  unfold State.issueNow
  simp only [Bundle.readRegs_of_errs he, List.foldl_nil, State.readPatched, State.unpatch, he, List.isEmpty_nil, if_true, List.contains_nil,
    Bool.false_eq_true, if_false, List.append_nil, hz]
  split
  · next h => rw [if_pos h]
  · next h => rw [if_neg h]

/-- A bundle whose encoding breaks a rule faults (R86). -/
theorem State.bundleFaults_illegal (s : State) (n : Fin 8) {b : Bundle} (h : b.legal (s.chan n) = false) : s.bundleFaults n b = [0] := by
  unfold State.bundleFaults
  simp [h]

/-- A channel that runs and holds nothing brings a bundle without cues and waits to issue. -/
theorem Alone.reach {u : Issue} {s : State} (h : Alone u s) {b : Bundle} (he : b.errs = []) (hc : b.cue? = none) (hw : b.waits = []) :
    (s.setChan u.ch { s.chan u.ch with asm := [], asmHdr := 0, asmErrs := [] }).reach u.ch b = (s.atIssue u.ch).issueNow u.ch b := by
  obtain ⟨hr, hh, ha, ha', hd, hm, hu, hf⟩ := h
  unfold State.reach
  rw [State.landDue_none _ _ _ (by simpa using hf)]
  simp [hr, hc, State.tryIssue, hw, State.fetch, he, State.atIssue]

/-- A slot that is alone reaches issue as a bundle of its own. -/
theorem Alone.slotIssue {u : Issue} {s : State} (h : Alone u s) (o : Op) :
    s.slotIssue u o = (s.setChan u.ch { s.chan u.ch with asm := [], asmHdr := 0, asmErrs := [] }).reach u.ch (oneSlot o) := by
  obtain ⟨hr, hh, ha, ha', hd, hm, hu, -⟩ := h
  unfold State.slotIssue
  simp only [hr, hh, ha, hm, hd, ha', hu]
  rfl

/-- The 512 bits of a bundle come to issue (R85). -/
theorem Alone.exec_nop {u : Issue} {s : State} (h : Alone u s) (w : BitVec 512) : exec (.nop u.ch w []) s =
    .next ((s.setChan u.ch { s.chan u.ch with asm := [], asmHdr := 0, asmErrs := [] }).reach u.ch (decodeBundle w [])) := by
  obtain ⟨hr, hh, -⟩ := h
  change execNop u.ch w s [] = _
  unfold execNop
  simp [hr, hh]

theorem State.advance_running (s : State) (n : Fin 8) : (s.advance n).running n = s.running n := by
  unfold State.running State.advance
  rw [State.fld_setFld_field _ _ _ _ _ (by decide) (by decide)]
  rfl

/-! ### Branches (R87) -/

/-- The bundle address moves on by one: no target is reached yet. -/
theorem State.advance_pc_next {s t : State} {n : Fin 8} (hpc : t.rd (chStatus n) = (s.atIssue n).rd (chStatus n)) (hleft : (t.chan n).shadowLeft ≠ 1) :
    NextPC s (t.advance n) n := by
  have hw : CH_STATUS_PC.w = 15 := rfl
  unfold NextPC State.advance
  rw [State.fld_setFld_same _ _ _ _ (by decide), State.fld, hpc, ← State.fld, s.atIssue_pc, hw]
  cases (t.chan n).target with
  | none => exact Nat.mod_mod _ _
  | some x =>
    simp only [hleft, if_false]
    exact Nat.mod_mod _ _

theorem State.atIssue_shadow (s : State) (n : Fin 8) : ((s.atIssue n).chan n).shadowLeft = (s.chan n).shadowLeft ∧
    ((s.atIssue n).chan n).target = (s.chan n).target := by
  rw [State.atIssue_chan]
  exact ⟨rfl, rfl⟩

/-- The shadow of a branch is one bundle shorter, and its target goes with its last bundle. -/
theorem State.advance_shadow (s : State) (n : Fin 8) : ((s.advance n).chan n).shadowLeft = (s.chan n).shadowLeft - 1 ∧
    ((s.advance n).chan n).target = if (s.chan n).shadowLeft ≤ 1 then none else (s.chan n).target := by
  rw [State.advance, State.setFld_chan, State.setChan_chan_same]
  exact ⟨rfl, rfl⟩

/-- A branch lets two more bundles issue, and then goes to its target when it is taken. -/
theorem completes_branch {u : Issue} {o : COp} {f : CtlF} {s : State} (h : Issues u (.ctl o f) s) {taken : Bool}
    (ho : (s.atIssue u.ch).issueCtl u.ch o f = (s.atIssue u.ch).branch u.ch taken f.imm.toNat)
    (hc : (oneSlot (.ctl o f)).cue? = none) (he : (oneSlot (.ctl o f)).ends? = none) :
    Completes (o.instr u f) s fun t => (t.chan u.ch).shadowLeft = 2 ∧
      (t.chan u.ch).target = (if taken then some (f.imm.toNat % 32768) else none) ∧ NextPC s t u.ch := by
  have hs : (s.atIssue u.ch).issueSlot u.ch (.ctl o f) [] [] = (s.atIssue u.ch).branch u.ch taken f.imm.toNat := ho
  have hleft : (((s.atIssue u.ch).branch u.ch taken f.imm.toNat).chan u.ch).shadowLeft = 3 := by rw [State.branch, State.setChan_chan_same]
  have htarget : (((s.atIssue u.ch).branch u.ch taken f.imm.toNat).chan u.ch).target = if taken then some (f.imm.toNat % 32768) else none := by
    rw [State.branch, State.setChan_chan_same]
  refine h.completes (exec_ctl o u f s) hc rfl he (by rw [hs]; rfl) ?_
  rw [hs]
  refine ⟨?_, ?_, State.advance_pc_next rfl (by rw [hleft]; decide)⟩
  · rw [(State.advance_shadow _ _).1, hleft]
  · rw [(State.advance_shadow _ _).2, hleft, htarget]
    rfl

theorem completes_br {u : Issue} {f : CtlF} {s : State} (h : Issues u (.ctl .br f) s) : Completes (.br u f) s fun t =>
    (t.chan u.ch).shadowLeft = 2 ∧ (t.chan u.ch).target = some (f.imm.toNat % 32768) ∧ NextPC s t u.ch :=
  completes_branch (taken := true) h rfl rfl rfl

theorem State.atIssue_s (s : State) (n : Fin 8) (r : Nat) : ((s.atIssue n).chan n).s r = (s.chan n).s r := by
  rw [State.atIssue_chan]
  rfl

theorem completes_beqz {u : Issue} {f : CtlF} {s : State} (h : Issues u (.ctl .beqz f) s) : Completes (.beqz u f) s fun t =>
    (t.chan u.ch).shadowLeft = 2 ∧ (t.chan u.ch).target = (if sOf s u f.sa = 0 then some (f.imm.toNat % 32768) else none) ∧ NextPC s t u.ch := by
  have hb := completes_branch (taken := decide (sOf s u f.sa = 0)) h (by rw [State.issueCtl, State.atIssue_s]; rfl) rfl rfl
  simp only [decide_eq_true_eq] at hb
  exact hb

theorem completes_bnez {u : Issue} {f : CtlF} {s : State} (h : Issues u (.ctl .bnez f) s) : Completes (.bnez u f) s fun t =>
    (t.chan u.ch).shadowLeft = 2 ∧ (t.chan u.ch).target = (if sOf s u f.sa = 0 then none else some (f.imm.toNat % 32768)) ∧ NextPC s t u.ch := by
  have hb := completes_branch (taken := decide (sOf s u f.sa ≠ 0)) h (by rw [State.issueCtl, State.atIssue_s]; rfl) rfl rfl
  simp only [decide_eq_true_eq, ne_eq, ite_not] at hb
  exact hb

/-! ### HALT and INTERMIT (R121, R124) -/

theorem State.intBegin_chans (s : State) : ChansFrame (fun off => off = safInt) s s.intBegin := by
  have h (x : Nat) : ChansFrame (fun off => off = safInt) s (s.setFld safInt SAF_INT_STEP x) := (s.setFld_onlyRegs _ _ _).chansFrame
  unfold State.intBegin
  split
  · exact .refl s
  · refine .ite (.refl s) (.ite ((h 2).trans ?_) (h 1))
    exact ⟨fun _ _ => rfl, rfl⟩

theorem State.intBegin_keepsChannel (s : State) (n : Fin 8) : KeepsChannel n s s.intBegin :=
  s.intBegin_chans.keepsChannel fun off e => by
    subst e
    unfold BlockReg safInt
    omega

/-- A bundle of one slot that does nothing at issue and ends the run stops the channel. -/
theorem State.issueAll_ends {s : State} {n : Fin 8} {o : Op} {st : Nat} (ho : s.issueSlot n o [] [] = s) (hr : s.running n = true)
    (he : (oneSlot o).ends? = some st) : KeepsChannel n ((s.advance n).stopKeep n st) (s.issueAll n (oneSlot o)) := by
  have hops : (oneSlot o).ops.foldl (fun s o' => s.issueSlot n o' (oneSlot o).errs (oneSlot o).sramErrs) s = s := ho
  unfold State.issueAll
  simp only [hops, hr, if_true, he, State.advance_running, Bool.not_true, Bool.false_eq_true, if_false]
  split
  · exact State.intBegin_keepsChannel _ n
  · exact .refl n _

/-- HALT and INTERMIT stop the channel with RUN 0 and leave its queues. -/
theorem completes_ends {u : Issue} {o : COp} {f : CtlF} {s : State} {st : Nat} (h : Issues u (.ctl o f) s)
    (ho : ∀ t : State, t.issueCtl u.ch o f = t) (hc : (oneSlot (.ctl o f)).cue? = none) (he : (oneSlot (.ctl o f)).ends? = some st)
    (hst : st % 8 = st) : Completes (o.instr u f) s fun t =>
      t.fld (chStatus u.ch) CH_STATUS_STATE = st ∧ t.fld (chCtl u.ch) CH_CTL_RUN = 0 ∧ (t.chan u.ch).txq = (s.chan u.ch).txq ∧
        (t.chan u.ch).rxq = (s.chan u.ch).rxq ∧ (t.chan u.ch).rxd = (s.chan u.ch).rxd := by
  have hi : s.slotIssue u (.ctl o f) = (s.atIssue u.ch).issueAll u.ch (oneSlot (.ctl o f)) := by
    have hz := State.issueHazard_none_of_opHazard ((s.atIssue_opHazard u.ch _).trans h.2.2)
    rw [h.1.slotIssue, h.1.reach rfl hc rfl, State.issueNow_plain _ _ rfl hz, if_pos ((s.atIssue_bundleFaults _ _).trans h.2.1)]
  have hk := State.issueAll_ends (o := .ctl o f) (ho _) ((s.atIssue_running u.ch).trans h.1.1) he
  obtain ⟨k, l, tg, hadv⟩ := (s.atIssue u.ch).advance_chan u.ch
  refine ⟨_, exec_ctl o u f s, ?_⟩
  rw [hi]
  dsimp only
  rw [hk.fld (chStatus_block u.ch), hk.fld (chCtl_block u.ch), hk.2, State.stopKeep_chan, hadv, State.atIssue_chan]
  exact ⟨(State.stopRegs_state _ _ _).trans hst, (State.stopRegs_ctl _ _ _).1, rfl, rfl, rfl⟩

/-! ### SIGNAL, and bundles of 512 bits (R85, R86) -/

theorem completes_signal {u : Issue} {f : CtlF} {s : State} (h : Issues u (.ctl .signal f) s) : Completes (.signal u f) s fun t =>
    t.signals = s.signals ++ [(u.ch.val, f.imm.toNat)] ∧ NextPC' s t u :=
  h.completes rfl rfl rfl rfl rfl ⟨rfl, State.advance_nextPC (s.atIssue_pc u.ch) (s.atIssue_shadow u.ch).2 (s.atIssue_shadow u.ch).1⟩

theorem decodeBundle_empty : decodeBundle 1 [] = ⟨1, [], false, []⟩ := by decide +kernel

theorem completes_nop_empty {u : Issue} {s : State} (h : Alone u s) : Completes (.nop u.ch 1 []) s fun t =>
    (t.chan u.ch).flight = (s.chan u.ch).flight ∧ (t.chan u.ch).cycle = (s.chan u.ch).cycle + 1 ∧ NextPC' s t u := by
  have hrun : (s.atIssue u.ch).running u.ch = true := (s.atIssue_running u.ch).trans h.1
  have hz : (s.atIssue u.ch).issueHazard u.ch ⟨1, [], false, []⟩ = none := by
    unfold State.issueHazard
    split <;> rfl
  have hf : (s.atIssue u.ch).bundleFaults u.ch ⟨1, [], false, []⟩ = [] := by
    simp [State.bundleFaults, Bundle.legal, Bundle.taken, sumNat]
  have ha : (s.atIssue u.ch).issueAll u.ch ⟨1, [], false, []⟩ = (s.atIssue u.ch).advance u.ch := by
    simp [State.issueAll, hrun, Bundle.ends?]
  refine ⟨_, h.exec_nop 1, ?_⟩
  rw [decodeBundle_empty, h.reach rfl rfl rfl, State.issueNow_plain _ _ rfl hz, if_pos hf, ha]
  refine ⟨?_, ?_, State.advance_nextPC (s.atIssue_pc u.ch) (s.atIssue_shadow u.ch).2 (s.atIssue_shadow u.ch).1⟩
  · rw [State.advance, State.setFld_chan, State.setChan_chan_same, State.atIssue_chan]
  · rw [State.advance, State.setFld_chan, State.setChan_chan_same, State.atIssue_chan]

theorem completes_nop_illegal {u : Issue} {s : State} {w : BitVec 512} (h : Alone u s) (hc : (decodeBundle w []).cue? = none)
    (hw : (decodeBundle w []).waits = []) (hl : (decodeBundle w []).legal (s.chan u.ch) = false) : Completes (.nop u.ch w []) s fun t =>
      t.flag (chFault u.ch) (bitF 0) = true ∧ t.fld (chStatus u.ch) CH_STATUS_STATE = stFault ∧ t.fld (chCtl u.ch) CH_CTL_RUN = 0 ∧
        t.flag safFault (bitF u.ch) = true := by
  have hfaults : (s.atIssue u.ch).bundleFaults u.ch (decodeBundle w []) = [0] :=
    (s.atIssue_bundleFaults _ _).trans (s.bundleFaults_illegal u.ch hl)
  have hn : (s.atIssue u.ch).issueNow u.ch (decodeBundle w []) = (s.atIssue u.ch).faultChan u.ch 0 := by
    unfold State.issueNow
    simp only [Bundle.readRegs_of_errs (show (decodeBundle w []).errs = [] from rfl), List.foldl_nil, State.readPatched,
      show (decodeBundle w []).errs = [] from rfl, List.isEmpty_nil, if_true, hfaults]
    rfl
  have ht := (s.atIssue u.ch).faultChan_faulted u.ch (b := 0) (by decide)
  refine ⟨_, h.exec_nop w, ?_⟩
  rw [h.reach rfl hc hw, hn]
  exact ⟨ht.bit, ht.state, ht.run, ht.safFault⟩

end Sys2Proof.Machine
end

section
open Sys2Proof Machine

/-- Settles O8: branches (`completes_branch`), HALT and INTERMIT (`completes_ends`), SIGNAL, and bundles of 512 bits, which come to issue as their
slots do (`Alone.exec_nop`) and fault when they break an encoding rule (`completes_nop_illegal`). -/
theorem controlFlow : Obligations.ControlFlow := by
  intro u s
  refine ⟨fun f h => completes_br h, fun f h => completes_beqz h, fun f h => completes_bnez h,
    fun f h => completes_ends h (fun _ => rfl) rfl rfl rfl, fun f h => completes_ends h (fun _ => rfl) rfl rfl rfl,
    fun f h => completes_signal h, fun h => completes_nop_empty h, fun w o h hd => ⟨_, h.exec_nop w, ?_⟩,
    fun w h hc hw hl => completes_nop_illegal h hc hw hl⟩
  rw [hd, h.slotIssue]

end

section
/-!
A QWAIT larger than its ring (R115) while AVAIL suffices: the case that O9 leaves out.
-/

namespace Sys2Proof.Machine

/-- Channel 0 runs, and queue 0 shows 100 entries available where CH_Q_RING, as at reset, places a ring of 64. -/
def overfullRing : State := (State.reset.setFld (chStatus 0) CH_STATUS_STATE stRunning).setFld (chQCount 0 0) CH_Q_COUNT_AVAIL 100

/-- A QWAIT for 65 entries of queue 0. -/
def waitBeyondRing : QueF := ⟨0, 0, 65, 0, 0⟩

/-- A slot of channel 0 that is alone in its bundle. -/
def lastSlot : Issue := { ch := 0, hdr := 1, more := false, errs := [] }

theorem overfullRing_alone : Alone lastSlot overfullRing := by
  refine ⟨?_, ?_, ?_, ?_, rfl, rfl, rfl, ?_⟩ <;> decide +kernel

/-- The bundle is a channel fault, QUEUE_OVF, and the bundle address stays. -/
theorem overfullRing_faults : (overfullRing.slotIssue lastSlot (.qwait waitBeyondRing)).flag (chFault lastSlot.ch) (bitF 2) = true ∧
    (overfullRing.slotIssue lastSlot (.qwait waitBeyondRing)).fld (chStatus lastSlot.ch) CH_STATUS_PC = 0 := by
  decide +kernel

theorem overfullRing_pc : overfullRing.fld (chStatus lastSlot.ch) CH_STATUS_PC = 0 ∧ (overfullRing.chan lastSlot.ch).target = none := by decide +kernel

end Sys2Proof.Machine
end

section
open Sys2Proof Machine

/-- Refutes O9: a QWAIT whose count AVAIL covers does not pass when its ring is smaller (`overfullRing`, 100 entries shown in a ring of 64, a QWAIT
for 65): its bundle is the fault QUEUE_OVF (R115) and the bundle address stays. The statement asks of such a QWAIT only that AVAIL suffices. -/
theorem not_cueWaitAndNetworkSlots : ¬ Obligations.CueWaitAndNetworkSlots := by
  intro h
  obtain ⟨-, -, -, hpass, -⟩ := h lastSlot overfullRing overfullRing_alone
  obtain ⟨t, ht, -, hpc⟩ := hpass waitBeyondRing (by decide +kernel) (by decide +kernel)
  have he : overfullRing.slotIssue lastSlot (.qwait waitBeyondRing) = t := Host.Outcome.next.inj ht
  unfold NextPC' at hpc
  rw [← he, overfullRing_pc.2, overfullRing_pc.1] at hpc
  exact absurd (overfullRing_faults.2.symm.trans hpc) (by decide)

end

section
/-!
Results in flight land (R84, R144) on a channel that does not rehearse.
-/

namespace Sys2Proof.Machine

/-! ### The event that lands next -/

/-- The event at the head of the list in flight may land: the channel does not run, or its cycle has come. -/
def HeadDue (s : State) (n : Fin 8) (g : Flight) : Prop := s.running n = false ∨ ((s.chan n).held = none ∧ g.due ≤ (s.chan n).cycle)

/-- A command that lands the next event of a kind lands the head of the list, when that is of the kind and due. -/
theorem State.landNext_head {s : State} {n : Fin 8} {g : Flight} {rest : List Flight} (hf : (s.chan n).flight = g :: rest) (hd : HeadDue s n g)
    {p : Ev → Bool} (hp : p g.ev = true) (obs : TeObs) : s.landNext n p obs = s.landHead n g rest obs := by
  have hn : s.nextEvent n p = some g := by
    unfold State.nextEvent
    dsimp only
    rw [hf, show (g :: rest).find? (fun f => p f.ev) = some g from List.find?_cons_of_pos hp]
    rcases hd with hr | ⟨hh, hdue⟩
    · simp [hr]
    · have : ¬ (s.chan n).cycle < g.due := by omega
      simp [hh, this]
  unfold State.landNext
  rw [hn, hf, List.length_cons, Nat.mul_add]
  dsimp only
  rw [State.landUntil, hf]
  dsimp only
  rw [if_pos hp]

/-- The state once the head of the list in flight is taken out. -/
def State.headTaken (s : State) (n : Fin 8) (rest : List Flight) : State := s.setChan n { s.chan n with flight := rest }

@[simp] theorem State.headTaken_chan (s : State) (n : Fin 8) (rest : List Flight) : (s.headTaken n rest).chan n = { s.chan n with flight := rest } :=
  State.setChan_chan_same _ _ _

theorem State.headTaken_onlyChan (p : Nat → Prop) (s : State) (n : Fin 8) (rest : List Flight) : OnlyChan n p s (s.headTaken n rest) :=
  s.setChan_onlyChan p n _

/-! ### A channel that does not rehearse -/

theorem State.rehearsing_of_applied {s : State} {n : Fin 8} (h : (s.chan n).applied.rehearsal = false) : s.rehearsing n = false := by
  rw [State.rehearsing, h, Bool.and_false]

theorem State.hazard_quiet {s : State} {n : Fin 8} (h : (s.chan n).applied.rehearsal = false) (kind slotA slotB res cycle pcA pcB : Nat) :
    s.hazard n kind slotA slotB res cycle pcA pcB = s := by
  rw [State.hazard, State.rehearsing_of_applied h, Bool.false_and, if_neg Bool.false_ne_true]

theorem State.bankBusy_quiet {s : State} {n : Fin 8} (h : (s.chan n).applied.rehearsal = false) (f : Flight) (b : Nat) : s.bankBusy n f b = s := by
  rw [State.bankBusy, State.rehearsing_of_applied h, if_neg Bool.false_ne_true]

theorem State.foldl_bankBusy_quiet {s : State} {n : Fin 8} (h : (s.chan n).applied.rehearsal = false) (f : Flight) (l : List Nat) :
    l.foldl (fun s g => s.bankBusy n f (g % 64)) s = s := by
  induction l with
  | nil => rfl
  | cons g l ih => rw [List.foldl_cons, State.bankBusy_quiet h, ih]

theorem State.checkAccess_quiet {s : State} {n : Fin 8} (h : (s.chan n).applied.rehearsal = false) (f : Flight) (w : Bool) (addr len : Nat) :
    s.checkAccess n f w addr len = s := by
  rw [State.checkAccess, State.rehearsing_of_applied h, if_neg Bool.false_ne_true]

/-! ### Register results (R84) -/

/-- A register result that lands touches nothing but the channel's record of what landed in its cycle. -/
theorem State.regLand_quiet {s : State} {n : Fin 8} (h : (s.chan n).applied.rehearsal = false) (f : Flight) (code : Nat) : ∃ k l,
    s.regLand n f code = s.setChan n { s.chan n with regCycle := k, regClaims := l } := by
  unfold State.regLand
  extract_lets c held t
  have ht : (t.chan n).applied.rehearsal = false := by
    simp only [t, State.setChan_chan_same]
    exact h
  refine ⟨f.due, held ++ [(code, f.slot, f.pc)], ?_⟩
  split
  · exact State.hazard_quiet ht _ _ _ _ _ _ _
  · rfl

theorem Chan.setS_s_same (c : Chan) (r : Nat) (v : Word64) : (c.setS r v).s r = if r = 0 then 0 else v := by
  unfold Chan.s Chan.setS
  split
  · rfl
  · exact kget_kset_same _ _ _ _

theorem Chan.setS_s_other (c : Chan) {r k : Nat} (h : k ≠ r) (v : Word64) : (c.setS r v).s k = c.s k := by
  unfold Chan.s Chan.setS
  split
  · rfl
  · split
    · rfl
    · exact kget_kset_other _ _ _ _ _ h

theorem Chan.setS_eq (c : Chan) (r : Nat) (v : Word64) : ∃ m, c.setS r v = { c with sregs := m } := by
  unfold Chan.setS
  split <;> exact ⟨_, rfl⟩

section
variable {n : Fin 8} {s : State} {g : Flight} {rest : List Flight} (hq : (s.chan n).applied.rehearsal = false)
  (hf : (s.chan n).flight = g :: rest) (hd : HeadDue s n g)
include hq hf hd

theorem completes_sreg {r : Nat} {v : Word64} (hev : g.ev = .sreg r v) : Completes (.resultWriteback n) s fun t =>
    (t.chan n).s r = (if r = 0 then 0 else v) ∧ (∀ k, k ≠ r → (t.chan n).s k = (s.chan n).s k) ∧ (t.chan n).flight = rest ∧
      (t.chan n).vregs = (s.chan n).vregs ∧ (t.chan n).sram = (s.chan n).sram ∧ OnlyChan n (fun _ => False) s t := by
  refine ⟨_, rfl, ?_⟩
  rw [State.landNext_head hf hd (by rw [hev])]
  have hq' : ((s.headTaken n rest).chan n).applied.rehearsal = false := by rw [State.headTaken_chan]; exact hq
  obtain ⟨k, l, hr⟩ := State.regLand_quiet hq' g r
  have hland : s.landHead n g rest noObs = ((s.headTaken n rest).regLand n g r).setChan n ((((s.headTaken n rest).regLand n g r).chan n).setS r v) := by
    rw [State.landHead, ← State.headTaken, State.landEv, hev]
  obtain ⟨m, hm⟩ := Chan.setS_eq (((s.headTaken n rest).regLand n g r).chan n) r v
  have hc : ((s.headTaken n rest).regLand n g r).chan n = { s.chan n with flight := rest, regCycle := k, regClaims := l } := by
    rw [hr, State.setChan_chan_same, State.headTaken_chan]
  have honly : OnlyChan n (fun _ => False) s ((s.headTaken n rest).regLand n g r) := by
    rw [hr]
    exact (s.headTaken_onlyChan _ n rest).trans (State.setChan_onlyChan _ _ n _)
  refine ⟨?_, fun k hk => ?_, ?_, ?_, ?_, ?_⟩
  · rw [hland, State.setChan_chan_same, Chan.setS_s_same]
  · rw [hland, State.setChan_chan_same, Chan.setS_s_other _ hk, hc]
    rfl
  · rw [hland, State.setChan_chan_same, hm, hc]
  · rw [hland, State.setChan_chan_same, hm, hc]
  · rw [hland, State.setChan_chan_same, hm, hc]
  · rw [hland]
    exact honly.trans (State.setChan_onlyChan _ _ n _)

theorem completes_vreg {r : Nat} {l : List (BitVec 32)} (hev : g.ev = .vreg r l) : Completes (.resultWriteback n) s fun t =>
    (t.chan n).v r = l ∧ (∀ k, k ≠ r → (t.chan n).v k = (s.chan n).v k) ∧ (t.chan n).flight = rest ∧
      (t.chan n).sregs = (s.chan n).sregs ∧ (t.chan n).sram = (s.chan n).sram ∧ OnlyChan n (fun _ => False) s t := by
  refine ⟨_, rfl, ?_⟩
  rw [State.landNext_head hf hd (by rw [hev])]
  have hq' : ((s.headTaken n rest).chan n).applied.rehearsal = false := by rw [State.headTaken_chan]; exact hq
  obtain ⟨k, w, hr⟩ := State.regLand_quiet hq' g (r + 2 ^ 15)
  have hland : s.landHead n g rest noObs =
      ((s.headTaken n rest).regLand n g (r + 2 ^ 15)).setChan n ((((s.headTaken n rest).regLand n g (r + 2 ^ 15)).chan n).setV r l) := by
    rw [State.landHead, ← State.headTaken, State.landEv, hev]
  have hc : ((s.headTaken n rest).regLand n g (r + 2 ^ 15)).chan n = { s.chan n with flight := rest, regCycle := k, regClaims := w } := by
    rw [hr, State.setChan_chan_same, State.headTaken_chan]
  have honly : OnlyChan n (fun _ => False) s ((s.headTaken n rest).regLand n g (r + 2 ^ 15)) := by
    rw [hr]
    exact (s.headTaken_onlyChan _ n rest).trans (State.setChan_onlyChan _ _ n _)
  have ht : (s.landHead n g rest noObs).chan n = Chan.setV { s.chan n with flight := rest, regCycle := k, regClaims := w } r l := by
    rw [hland, State.setChan_chan_same, hc]
  dsimp only
  rw [ht]
  refine ⟨kget_kset_same _ _ _ _, fun k hk => kget_kset_other _ _ _ _ _ hk, rfl, rfl, rfl, ?_⟩
  rw [hland]
  exact honly.trans (State.setChan_onlyChan _ _ n _)

end

/-! ### Cue registers (R99, R100) -/

theorem chCue_ne_chStatus (n m : Fin 8) {c : Nat} (hc : c < 16) : chCue n c ≠ chStatus m := by unfold chCue chStatus; omega

theorem chCue_lower (n : Fin 8) {c : Nat} (hc : c < 16) : chCue n c < 0x02000000 := by unfold chCue; omega

/-- Whether a cue is reached depends on the time, the channel's step and its own count of cycles. -/
theorem State.cueReached_congr {s t : State} {n : Fin 8} (hc : (t.chan n).applied = (s.chan n).applied) (hg : (t.chan n).grid0 = (s.chan n).grid0)
    (hp : t.rd pwrArith = s.rd pwrArith) (ht : t.rd timNow = s.rd timNow) (tick cycle : Nat) :
    t.cueReached n tick cycle = s.cueReached n tick cycle := by
  unfold State.cueReached State.arithMHz State.now State.fld
  rw [hc, hg, hp, ht]

/-- The place of a fired flag in a register. -/
theorem firedF_fits {c : Nat} (hc : c < 16) : (firedF c).lo + (firedF c).w ≤ 64 := by unfold firedF; dsimp only; omega

theorem State.setFired_fired (s : State) (n : Fin 8) {c : Nat} (hc : c < 16) (cycle : Nat) : (s.setFired n c cycle).fired n c = true := by
  unfold State.fired State.flag State.setFired
  rw [State.fld_setFld_same _ _ _ _ (firedF_fits hc)]
  rfl

/-- The write of a cue register: it holds the tick, and its flag shows whether the tick is reached. -/
theorem State.cueLand_lands (s : State) (n : Fin 8) {c : Nat} (hc : c < 16) (tick : Word64) (cycle : Nat) :
    (s.cueLand n c tick cycle).rd (chCue n c) = tick ∧ (s.cueLand n c tick cycle).fired n c = s.cueReached n tick.toNat cycle ∧
      ((s.cueLand n c tick cycle).chan n).flight = (s.chan n).flight := by
  unfold State.cueLand
  extract_lets t _ u
  have htr : t.rd (chCue n c) = tick := (State.rd_setFld_other _ _ _ _ _ (chCue_ne_chStatus n n hc)).trans (s.rd_wr_same _ _)
  have htf : t.fired n c = false := by
    unfold State.fired State.flag
    rw [State.fld_setFld_same _ _ _ _ (firedF_fits hc)]
    rfl
  have htc : t.chan n = s.chan n := rfl
  have hkeep (r : Nat) (h : 0x02000000 ≤ r) : t.rd r = s.rd r := by
    have h1 := chCue_lower n hc
    have h2 : chStatus n < 0x02000000 := by unfold chStatus; omega
    exact (State.rd_setFld_other _ _ _ _ _ (by omega)).trans (State.rd_wr_other _ _ _ _ (by omega))
  have hu : u.regs = t.regs ∧ u.ch = t.ch := by
    simp only [u]
    split <;> exact ⟨rfl, rfl⟩
  have hur (r : Nat) : u.rd r = t.rd r := by rw [State.rd, hu.1, State.rd]
  have huc : u.chan n = t.chan n := by rw [State.chan, State.chan]; simp only [hu.2]
  have hreach : u.cueReached n tick.toNat cycle = s.cueReached n tick.toNat cycle :=
    State.cueReached_congr (by rw [huc, htc]) (by rw [huc, htc]) ((hur _).trans (hkeep _ (by decide))) ((hur _).trans (hkeep _ (by decide))) _ _
  clear_value u
  split
  · next h =>
    refine ⟨?_, ?_, ?_⟩
    · exact (State.rd_setFld_other _ _ _ _ _ (chCue_ne_chStatus n n hc)).trans ((hur _).trans htr)
    · rw [u.setFired_fired n hc, ← hreach, h]
    · rw [State.setFired, State.setFld_chan, State.setChan_chan_same, huc, htc]
  · next h =>
    refine ⟨(hur _).trans htr, ?_, by rw [huc, htc]⟩
    rw [← hreach, Bool.eq_false_iff.mpr h, State.fired, State.flag, State.fld, hur]
    exact htf

theorem completes_cueWrite {n : Fin 8} {s : State} {g : Flight} {rest : List Flight} (hf : (s.chan n).flight = g :: rest) (hd : HeadDue s n g)
    {c : Nat} {tick : Word64} (hc : c < 16) (hev : g.ev = .cueWrite c tick) : Completes (.resultWriteback n) s fun t =>
      t.rd (chCue n c) = tick ∧ t.fired n c = s.cueReached n tick.toNat g.due ∧ (t.chan n).flight = rest := by
  refine ⟨_, rfl, ?_⟩
  rw [State.landNext_head hf hd (by rw [hev])]
  have hland : s.landHead n g rest noObs = (s.headTaken n rest).cueLand n c tick g.due := by
    rw [State.landHead, ← State.headTaken, State.landEv, hev]
  obtain ⟨h1, h2, h3⟩ := (s.headTaken n rest).cueLand_lands n hc tick g.due
  rw [hland]
  rw [State.headTaken_chan] at h3
  have hsame : (s.headTaken n rest).cueReached n tick.toNat g.due = s.cueReached n tick.toNat g.due :=
    State.cueReached_congr (s := s) (t := s.headTaken n rest) (by rw [State.headTaken_chan]) (by rw [State.headTaken_chan]) rfl rfl _ _
  exact ⟨h1, h2.trans hsame, h3⟩

end Sys2Proof.Machine
end

section
/-!
Results of the tensor engines land (R104, R107 to R109): tiles, accumulator rows and drained rows.
-/

namespace Sys2Proof.Machine

/-! ### An operation in flight ends -/

theorem State.endJob_chan (s : State) (n : Fin 8) (id : Nat) : ∃ l, (s.endJob n id).chan n = { s.chan n with jobs := l } := by
  unfold State.endJob
  dsimp only
  split
  · exact ⟨_, rfl⟩
  · exact ⟨_, State.setChan_chan_same _ _ _⟩

@[simp] theorem State.endJob_rd (s : State) (n : Fin 8) (id r : Nat) : (s.endJob n id).rd r = s.rd r := by
  unfold State.endJob
  dsimp only
  split <;> rfl

theorem State.headTaken_job (s : State) (n : Fin 8) (rest : List Flight) (id : Nat) : ((s.headTaken n rest).chan n).job? id = (s.chan n).job? id := by
  rw [State.headTaken_chan]
  rfl

theorem Chan.jobIs_of_job {c : Chan} {id : Nat} {j : Job} (h : c.job? id = some j) (p : JobOp → Bool) : c.jobIs id p = p j.op := by
  rw [Chan.jobIs, h]

/-! ### Tiles (R104) -/

/-- A tile as a LOADW leaves it, over the one that stood in its buffer. -/
def loadedTile (j : Job) (len : Nat) (mx : Bool) (old : Tile) : Tile :=
  ⟨bufBytes j.buf 64 ++ old.elems.drop len, if mx then bufBytes j.sbuf 16 else old.scales, mx⟩

/-- Replaces the tile that stands by. -/
def Chan.putTile (c : Chan) (p : Nat) (f : Tile → Tile) : Chan :=
  { c with standby := kset (fun _ => tile0) c.standby p (f (kget (fun _ => tile0) c.standby p)) }

theorem Chan.putTile_same (c : Chan) (p : Nat) (f : Tile → Tile) :
    kget (fun _ => tile0) (c.putTile p f).standby p = f (kget (fun _ => tile0) c.standby p) := kget_kset_same _ _ _ _

theorem Chan.putTile_other (c : Chan) {p q : Nat} (h : q ≠ p) (f : Tile → Tile) :
    kget (fun _ => tile0) (c.putTile p f).standby q = kget (fun _ => tile0) c.standby q := kget_kset_other _ _ _ _ _ h

theorem State.landTile_eq {s : State} {n : Fin 8} {id e len : Nat} {mx : Bool} {j : Job} (hj : (s.chan n).job? id = some j)
    (hop : j.op = .loadw e len mx) (hu : j.undef.contains e = false) : s.landTile n id =
      (s.setChan n (if s.shadowing n = some e
        then ((s.chan n).putTile ((s.chan n).phys e) (loadedTile j len mx)).putTile 16 (loadedTile j len mx)
        else (s.chan n).putTile ((s.chan n).phys e) (loadedTile j len mx))).endJob n id := by
  unfold State.landTile
  rw [hj]
  dsimp only
  rw [hop]
  dsimp only
  rw [hu]
  rfl

theorem completes_tileDone {n : Fin 8} {s : State} {g : Flight} {rest : List Flight} (hf : (s.chan n).flight = g :: rest) (hd : HeadDue s n g)
    {e : Fin 16} {id len : Nat} {mx : Bool} {j : Job} (hj : (s.chan n).job? id = some j) (hu : j.undef.contains e.val = false)
    (hop : j.op = .loadw e len mx) (hev : g.ev = .tileDone id) (hp : (s.chan n).phys e = e.val ∨ s.shadowing n = none) :
    Completes (.weightTileLoaded n e) s fun t =>
      kget (fun _ => tile0) (t.chan n).standby ((s.chan n).phys e) = loadedTile j len mx (kget (fun _ => tile0) (s.chan n).standby ((s.chan n).phys e)) ∧
        (s.shadowing n = some e.val → kget (fun _ => tile0) (t.chan n).standby 16 = loadedTile j len mx (kget (fun _ => tile0) (s.chan n).standby 16)) := by
  refine ⟨_, rfl, ?_⟩
  rw [State.landNext_head hf hd (by rw [hev]; simp [Chan.evEngine, Chan.jobIs_of_job hj, hop])]
  have hland : s.landHead n g rest noObs = (s.headTaken n rest).landTile n id := by
    rw [State.landHead, ← State.headTaken, State.landEv, hev]
  have hsh : (s.headTaken n rest).shadowing n = s.shadowing n := rfl
  have hph : ((s.headTaken n rest).chan n).phys e = (s.chan n).phys e := by rw [State.headTaken_chan]; rfl
  have hst : ((s.headTaken n rest).chan n).standby = (s.chan n).standby := by rw [State.headTaken_chan]
  rw [hland, State.landTile_eq ((s.headTaken_job n rest id).trans hj) hop hu, hsh, hph]
  generalize s.headTaken n rest = t at hst
  obtain ⟨l, hl⟩ := (t.setChan n (if s.shadowing n = some e.val
    then ((t.chan n).putTile ((s.chan n).phys e) (loadedTile j len mx)).putTile 16 (loadedTile j len mx)
    else (t.chan n).putTile ((s.chan n).phys e) (loadedTile j len mx))).endJob_chan n id
  dsimp only
  rw [hl, State.setChan_chan_same, ← hst]
  by_cases h : s.shadowing n = some e.val
  · have hne : (s.chan n).phys e ≠ 16 := by
      rcases hp with hp | hp
      · have := e.isLt
        omega
      · rw [hp] at h
        exact absurd h (by simp)
    rw [if_pos h, Chan.putTile_same, Chan.putTile_other _ hne, Chan.putTile_same, Chan.putTile_other _ hne.symm]
    exact ⟨rfl, fun _ => rfl⟩
  · rw [if_neg h, Chan.putTile_same]
    exact ⟨rfl, fun h' => absurd h' h⟩

/-! ### Accumulator rows (R107, R108) -/

theorem kget_ksets_at {α : Type} [DecidableEq α] (d : Nat → α) (x : α) (vs : List α) (k : Nat) (mp : KMap α) {i : Nat} (h : i < vs.length) :
    kget d (ksets d mp k vs) (k + i) = vs.getD i x := by
  induction vs generalizing k i mp with
  | nil => exact absurd h (Nat.not_lt_zero i)
  | cons v vs ih =>
    cases i with
    | zero => exact (kget_ksets_below d vs (k + 1) k (Nat.lt_succ_self k) _).trans (kget_kset_same d mp k v)
    | succ i =>
      rw [ksets, show k + (i + 1) = k + 1 + i by omega, ih (k + 1) _ (Nat.lt_of_succ_lt_succ h)]
      rfl

theorem Chan.accRow_setAccRow_same (c : Chan) (p row : Nat) {l : List AccEnt} (h : l.length = 128) : (c.setAccRow p row l).accRow p row = l := by
  refine List.ext_getElem (by rw [Chan.accRow, List.length_map, List.length_range, h]) fun i h1 h2 => ?_
  simp only [Chan.accRow, List.getElem_map, List.getElem_range]
  refine (kget_ksets_at _ ⟨0, 0⟩ l _ _ h2).trans ?_
  rw [List.getD_eq_getElem?_getD, List.getElem?_eq_getElem h2]
  rfl

theorem Chan.accRow_setAccRow_other (c : Chan) {p q : Nat} (hq : p < q) (row : Nat) (l : List AccEnt) :
    (c.setAccRow q row l).accRow p row = c.accRow p row := by
  refine List.map_congr_left fun i hi => ?_
  have := List.mem_range.mp hi
  exact kget_ksets_below _ _ _ _ (by omega) _

theorem Chan.phys_le {c : Chan} (e : Fin 16) : c.phys e ≤ 16 := by
  unfold Chan.phys
  split
  · exact Nat.le_refl _
  · exact e.isLt.le

theorem completes_loadaccRow {n : Fin 8} {s : State} {g : Flight} {rest : List Flight} (hf : (s.chan n).flight = g :: rest) (hd : HeadDue s n g)
    {e : Fin 16} {id rows accRow r : Nat} {anchor : Int} {j : Job} (hj : (s.chan n).job? id = some j) (hu : j.undef.contains e.val = false)
    (hop : j.op = .loadacc e rows accRow anchor) (hev : g.ev = .rowDone id e r) : Completes (.accRowComplete n e noObs) s fun t =>
      let b := (List.range 3).flatMap fun m => kget (fun _ => []) j.buf (3 * r + m)
      (t.chan n).accRow ((s.chan n).phys e) (accRow + r) = (List.range 128).map fun col => ⟨BitVec.ofNat 96 (leAt b (12 * col) 12), anchor - 32⟩ := by
  refine ⟨_, rfl, ?_⟩
  rw [State.landNext_head hf hd (by rw [hev]; simp [Chan.evEngine])]
  have hland : s.landHead n g rest noObs = (s.headTaken n rest).landAccRow n id e r j (accRow + r) anchor := by
    rw [State.landHead, ← State.headTaken, State.landEv, hev]
    dsimp only
    rw [State.landRow, (s.headTaken_job n rest id).trans hj]
    dsimp only
    rw [hop]
  have hph : ((s.headTaken n rest).chan n).phys e = (s.chan n).phys e := by rw [State.headTaken_chan]; rfl
  rw [hland]
  unfold State.landAccRow
  simp only [hu, Bool.false_eq_true, if_false, hph]
  generalize hrow : (List.range 128).map _ = row
  obtain ⟨l, hl⟩ := ((s.headTaken n rest).setChan n (((s.headTaken n rest).chan n).setAccRow ((s.chan n).phys e) (accRow + r) row)).endJob_chan n id
  rw [hl, State.setChan_chan_same]
  exact Chan.accRow_setAccRow_same _ _ _ (by rw [← hrow, List.length_map, List.length_range])

end Sys2Proof.Machine
end

section
/-!
A row of a PASS lands (R107, R108, R129).
-/

namespace Sys2Proof.Machine

theorem readAcc_nil (l : List AccEnt) : readAcc l [] = (l, []) := rfl

theorem passRow_length (j : Job) (t : Tile) (fa fw : Nat) (anchor : Int) (mxA cont : Bool) (r : Nat) (old : List AccEnt) (free : Nat) (obs : FlipObs) :
    (passRow j t fa fw anchor mxA cont r old free obs).entries.length = 128 := by
  simp only [passRow, List.length_map, List.length_range]

/-- A row with an operand that is not finite has the flag of it (R57). -/
theorem passRow_nonfin {j : Job} {t : Tile} {fa fw : Nat} {anchor : Int} {mxA cont : Bool} {r : Nat} {old : List AccEnt} {free : Nat} {obs : FlipObs}
    (h : (passRow j t fa fw anchor mxA cont r old free obs).nonfin = true) :
    (passRow j t fa fw anchor mxA cont r old free obs).flags &&& afNonfinIn ≠ 0 := by
  have hflags (a b c : Bool) : (afIf true afNonfinIn ||| afIf a afInexactMx ||| afIf b afInexactAlign ||| afIf c afWideWrap) &&& afNonfinIn ≠ 0 := by
    revert a b c
    decide
  unfold passRow at h ⊢
  dsimp only at h ⊢
  rw [h]
  exact hflags _ _ _

/-- The accumulator file of a channel, its arithmetic flags and their control stay. -/
structure KeepsArith (n : Fin 8) (s t : State) : Prop where
  acc : (t.chan n).acc = (s.chan n).acc
  flags : t.rd (chArithFlags n) = s.rd (chArithFlags n)
  ctl : t.rd (chArithCtl n) = s.rd (chArithCtl n)

theorem KeepsArith.refl (n : Fin 8) (s : State) : KeepsArith n s s := ⟨rfl, rfl, rfl⟩

theorem KeepsArith.trans {n : Fin 8} {s t u : State} (h : KeepsArith n s t) (h' : KeepsArith n t u) : KeepsArith n s u :=
  ⟨h'.acc.trans h.acc, h'.flags.trans h.flags, h'.ctl.trans h.ctl⟩

/-- A fault of the channel keeps them. -/
theorem Faulted.keepsArith {n : Fin 8} {b : Nat} {s t : State} (h : Faulted n b s t) : KeepsArith n s t := by
  have hr (r : Nat) (hr : r = chArithFlags n ∨ r = chArithCtl n) : t.rd r = s.rd r := by
    unfold chArithFlags chArithCtl at hr
    refine h.rd r ?_ ?_ ?_
    · unfold BlockReg
      omega
    · unfold chFault
      omega
    · unfold StopReg chStatus chCtl chQCount chNqStatus
      rintro (h | h | ⟨q, hq, h⟩ | ⟨q, hq, h⟩) <;> omega
  obtain ⟨k, hk⟩ := h.chan
  exact ⟨by rw [hk]; rfl, hr _ (.inl rfl), hr _ (.inr rfl)⟩

theorem State.endJob_keepsArith (s : State) (n : Fin 8) (id : Nat) : KeepsArith n s (s.endJob n id) := by
  obtain ⟨l, hl⟩ := s.endJob_chan n id
  exact ⟨by rw [hl], s.endJob_rd n id _, s.endJob_rd n id _⟩

theorem State.teOutcome_keepsArith (s : State) (n : Fin 8) (f : Flight) (e : Nat) (cmp residue residue16 differ : Bool) :
    KeepsArith n s (s.teOutcome n f e cmp residue residue16 differ) := by
  unfold State.teOutcome
  split
  · exact (s.faultChanAt_faulted n (by decide) _ _ _).keepsArith
  · split
    · have hflags : chArithFlags n ≠ chShadow n := by unfold chArithFlags chShadow; omega
      have hctl : chArithCtl n ≠ chShadow n := by unfold chArithCtl chShadow; omega
      have hreg : OnlyRegs (fun off => off = chShadow n) s
          ((s.setFlag (chShadow n) CH_SHADOW_TE16_RESIDUE).setFld (chShadow n) CH_SHADOW_COMPARING 0) :=
        (s.setFlag_onlyRegs _ _).trans (State.setFld_onlyRegs _ _ _ _)
      refine ⟨?_, hreg.1 _ hflags, hreg.1 _ hctl⟩
      have hacc := congrArg Chan.acc (hreg.chan n)
      rw [State.setChan_chan_same]
      exact hacc
    · split
      · exact (s.faultChanAt_faulted n (by decide) _ _ _).keepsArith
      · exact .refl n s

theorem Chan.accRow_congr {c d : Chan} (h : d.acc = c.acc) (p row : Nat) : d.accRow p row = c.accRow p row := by
  unfold Chan.accRow Chan.accAt
  rw [h]

/-- The channel once a row of a PASS has been written, in the file of the engine and, shadowed, in that of TE16. -/
def Chan.rowsWritten (c : Chan) (p row : Nat) (shadowed : Bool) (l : List AccEnt) : Chan :=
  if shadowed then (c.setAccRow p row l).setAccRow 16 row l else c.setAccRow p row l

theorem Chan.accRow_rowsWritten (c : Chan) {p : Nat} (hp : p ≤ 16) (row : Nat) (shadowed : Bool) {l : List AccEnt} (h : l.length = 128) :
    (c.rowsWritten p row shadowed l).accRow p row = l := by
  unfold Chan.rowsWritten
  split
  · rcases Nat.lt_or_eq_of_le hp with hlt | rfl
    · rw [Chan.accRow_setAccRow_other _ hlt, Chan.accRow_setAccRow_same _ _ _ h]
    · exact Chan.accRow_setAccRow_same _ _ _ h
  · exact Chan.accRow_setAccRow_same _ _ _ h

/-- A row of a PASS without read errors and observations: it is written with its flags; a fault of NONFIN where CH_ARITH_CTL asks for it. -/
theorem State.landPassRow_lands {s : State} {n : Fin 8} (f : Flight) {id e r : Nat} {j : Job} (t : Tile) (fa fw row : Nat) (cont : Bool) (anchor : Int)
    (mxA shadowed : Bool) (hp : (s.chan n).phys e ≤ 16) (hu : j.undef.contains e = false) (he : j.errs = []) :
    let res := passRow j t fa fw anchor mxA cont r ((s.chan n).accRow ((s.chan n).phys e) row) s.free noObs.te
    let u := s.landPassRow n f id e r j t fa fw row cont anchor mxA shadowed noObs
    (u.chan n).accRow ((s.chan n).phys e) row = res.entries ∧ u.rd (chArithFlags n) = s.rd (chArithFlags n) ||| res.flags.setWidth 64 ∧
      (res.nonfin = true → s.flag (chArithCtl n) CH_ARITH_CTL_NONFIN_FAULT = true → u.flag (chFault n) (bitF 9) = true) := by
  intro res u
  have hu' : u = s.landPassRow n f id e r j t fa fw row cont anchor mxA shadowed noObs := rfl
  have herr : (if cont then accErrs j.errs e row else []) = [] := by rw [he]; split <;> rfl
  have h16 : passRow j t fa fw anchor mxA cont r ((s.chan n).accRow ((s.chan n).phys e) row) s.free noObs.te16 = res := rfl
  have hres : passRow j t fa fw anchor mxA cont r ((s.chan n).accRow ((s.chan n).phys e) row) s.free noObs.te = res := rfl
  unfold State.landPassRow at hu'
  simp only [herr, readAcc_nil, hu, Bool.false_eq_true, if_false, h16, hres, State.accFound, List.foldl_nil, ite_self] at hu'
  have hlen : res.entries.length = 128 := passRow_length _ _ _ _ _ _ _ _ _ _ _
  have hnonfin : res.nonfin = true → res.flags &&& afNonfinIn ≠ 0 := passRow_nonfin
  clear_value u res
  have hrows : (if shadowed = true then ((s.chan n).setAccRow ((s.chan n).phys e) row res.entries).setAccRow 16 row res.entries
      else (s.chan n).setAccRow ((s.chan n).phys e) row res.entries) = (s.chan n).rowsWritten ((s.chan n).phys e) row shadowed res.entries := rfl
  rw [hrows] at hu'
  generalize hv : ((s.setChan n ((s.chan n).rowsWritten ((s.chan n).phys e) row shadowed res.entries)).take _).addFlags n res.flags = v at hu'
  generalize hw : v.teOutcome n f e shadowed _ _ _ = w at hu'
  have hchan : v.chan n = (s.chan n).rowsWritten ((s.chan n).phys e) row shadowed res.entries := by
    rw [← hv]
    exact State.setChan_chan_same _ _ _
  have hvflags : v.rd (chArithFlags n) = s.rd (chArithFlags n) ||| res.flags.setWidth 64 := by
    rw [← hv]
    exact State.rd_wr_same _ _ _
  have hvctl : v.rd (chArithCtl n) = s.rd (chArithCtl n) := by
    rw [← hv]
    exact (State.addFlags_onlyRegs _ n _).1 _ (by unfold chArithCtl chArithFlags; omega)
  have hvw : KeepsArith n v w := hw ▸ v.teOutcome_keepsArith n f e _ _ _ _
  have hall : KeepsArith n v u := by
    rw [hu']
    refine KeepsArith.trans ?_ (State.endJob_keepsArith _ n id)
    split
    · exact hvw.trans (w.faultChanAt_faulted n (by decide) _ _ _).keepsArith
    · exact hvw
  refine ⟨?_, hall.flags.trans hvflags, fun hn hc => ?_⟩
  · rw [Chan.accRow_congr hall.acc, hchan, Chan.accRow_rowsWritten _ hp _ _ hlen]
  · have hcond : res.flags &&& afNonfinIn ≠ 0 ∧ w.flag (chArithCtl n) CH_ARITH_CTL_NONFIN_FAULT = true := by
      refine ⟨hnonfin hn, ?_⟩
      rw [State.flag, State.fld, hvw.ctl, hvctl]
      exact hc
    rw [hu', if_pos hcond, State.flag, State.fld, State.endJob_rd]
    exact (w.faultChanAt_faulted n (by decide) _ _ _).bit

theorem completes_passRow {n : Fin 8} {s : State} {g : Flight} {rest : List Flight} (hf : (s.chan n).flight = g :: rest) (hd : HeadDue s n g)
    {e : Fin 16} {id fa fw rows accRow r : Nat} {tiles : List (Nat × Tile)} {tile : Tile} {cont mxA : Bool} {anchor : Int} {shadow : Option Nat}
    {j : Job} (hj : (s.chan n).job? id = some j) (hu : j.undef.contains e.val = false) (he : j.errs = [])
    (hop : j.op = .pass tiles fa fw rows accRow cont anchor mxA shadow) (hev : g.ev = .rowDone id e r)
    (ht : tiles.find? (fun x => decide (x.1 = e.val)) = some (e.val, tile)) :
    let p := (s.chan n).phys e
    let res := passRow j tile fa fw anchor mxA cont r ((s.chan n).accRow p (accRow + r)) s.free noObs.te
    Completes (.accRowComplete n e noObs) s fun t =>
      (t.chan n).accRow p (accRow + r) = res.entries ∧ t.rd (chArithFlags n) = s.rd (chArithFlags n) ||| res.flags.setWidth 64 ∧
        (res.nonfin = true → s.flag (chArithCtl n) CH_ARITH_CTL_NONFIN_FAULT = true → t.flag (chFault n) (bitF 9) = true) := by
  intro p res
  refine ⟨_, rfl, ?_⟩
  rw [State.landNext_head hf hd (by rw [hev]; simp [Chan.evEngine])]
  have hland : s.landHead n g rest noObs =
      (s.headTaken n rest).landPassRow n g id e r j tile fa fw (accRow + r) cont anchor mxA (decide (shadow = some e.val)) noObs := by
    rw [State.landHead, ← State.headTaken, State.landEv, hev]
    dsimp only
    rw [State.landRow, (s.headTaken_job n rest id).trans hj]
    dsimp only
    rw [hop]
    dsimp only
    rw [ht]
    rfl
  have hph : ((s.headTaken n rest).chan n).phys e = p := by rw [State.headTaken_chan]; rfl
  have hrow : ((s.headTaken n rest).chan n).accRow p (accRow + r) = (s.chan n).accRow p (accRow + r) :=
    Chan.accRow_congr (by rw [State.headTaken_chan]) _ _
  have h := State.landPassRow_lands (s := s.headTaken n rest) (n := n) g (id := id) (r := r) tile fa fw (accRow + r) cont anchor mxA
    (decide (shadow = some e.val)) (by rw [hph]; exact Chan.phys_le e) hu he
  rw [hph, hrow] at h
  rw [hland]
  exact h

end Sys2Proof.Machine
end

section
/-!
A scheduled write of channel SRAM that meets no other access of its cycle (R78), and the rows of a DRAIN (R109).
-/

namespace Sys2Proof.Machine

/-! ### Scheduled writes -/

/-- A byte of an access lies in one of its granules. -/
theorem mem_granules {addr len i : Nat} (h : i < len) : (addr + i) / 64 ∈ granules addr len := by
  have h1 : addr / 64 ≤ (addr + i) / 64 := Nat.div_le_div_right (by omega)
  have h2 : (addr + i) / 64 ≤ (addr + len - 1) / 64 := Nat.div_le_div_right (by omega)
  rw [granules, if_neg (by omega)]
  exact List.mem_map.mpr ⟨(addr + i) / 64 - addr / 64, List.mem_range.mpr (by omega), by omega⟩

/-- With all its granules granted, a scheduled write writes all its bytes. -/
theorem Chan.sramWriteOk_all (map : Word64) (ok : List Nat) (b : List Byte) : ∀ (c : Chan) (addr : Nat),
    (∀ i < b.length, (addr + i) / 64 ∈ ok) → c.sramWriteOk map ok addr b = c.sramWrite map addr b := by
  induction b with
  | nil => exact fun _ _ _ => rfl
  | cons x b ih =>
    intro c addr h
    have hx : inGranules ok addr = true := by
      rw [inGranules, List.contains_iff_mem]
      exact h 0 (Nat.zero_lt_succ _)
    rw [Chan.sramWriteOk, Chan.sramWrite, if_pos hx]
    refine ih _ _ fun i hi => ?_
    rw [Nat.add_right_comm, Nat.add_assoc]
    exact h (i + 1) (Nat.succ_lt_succ hi)

/-- What a write of channel SRAM leaves of the channel. -/
theorem Chan.sramWrite_eq (map : Word64) (b : List Byte) : ∀ (c : Chan) (addr : Nat), ∃ m, c.sramWrite map addr b = { c with sram := m } := by
  induction b with
  | nil => exact fun _ _ => ⟨_, rfl⟩
  | cons x b ih => exact fun c addr => ih _ _

/-- What a write stores depends on the memory alone. -/
theorem Chan.sramWrite_congr (map : Word64) (b : List Byte) : ∀ {c d : Chan}, d.sram = c.sram → ∀ addr,
    (d.sramWrite map addr b).sram = (c.sramWrite map addr b).sram := by
  induction b with
  | nil => exact fun h _ => h
  | cons x b ih =>
    intro c d h addr
    exact ih (by dsimp only; rw [h]) _

/-- The banks of an access are free in its cycle: no access of the cycle holds one. -/
def BanksFree (c : Chan) (due : Nat) (grs : List Nat) : Prop := c.claimCycle ≠ due ∨ ∀ h ∈ c.claims, ∀ x ∈ grs, x % 64 ≠ h.1

/-- An access whose banks are free has all its granules, on a channel that does not rehearse. -/
theorem State.claim_free {s : State} {n : Fin 8} (hq : (s.chan n).applied.rehearsal = false) (f : Flight) {grs : List Nat}
    (hfree : BanksFree (s.chan n) f.due grs) : ∃ l, s.claim n f grs = (s.setChan n { s.chan n with claimCycle := f.due, claims := l }, grs) := by
  unfold State.claim
  extract_lets c held ok lost t u
  have hok : ok = grs := by
    refine List.filter_eq_self.mpr fun x hx => ?_
    rw [Bool.not_eq_true', List.any_eq_false]
    intro h hh
    rw [decide_eq_true_eq]
    simp only [held] at hh
    split at hh
    · next hcyc =>
      rcases hfree with hne | hall
      · exact absurd hcyc hne
      · exact (hall h hh x hx).symm
    · exact absurd hh List.not_mem_nil
  have ht : (t.chan n).applied.rehearsal = false := by
    simp only [t, State.setChan_chan_same]
    exact hq
  have hu : u = t := by
    simp only [u]
    clear_value lost
    cases lost with
    | some h => exact State.hazard_quiet ht _ _ _ _ _ _ _
    | none => rfl
  refine ⟨held ++ grs.map fun g => (g % 64, f.slot, f.pc), ?_⟩
  rw [hu, State.foldl_bankBusy_quiet ht]
  simp only [t, hok, c]

theorem State.setChan_setChan (s : State) (n : Fin 8) (c d : Chan) : (s.setChan n c).setChan n d = s.setChan n d := by
  simp [State.setChan]

/-- A scheduled write whose banks are free writes its bytes, on a channel that does not rehearse. -/
theorem State.writeSram_free {s : State} {n : Fin 8} (hq : (s.chan n).applied.rehearsal = false) (f : Flight) (addr : Nat) (b : List Byte)
    (hfree : BanksFree (s.chan n) f.due (granules addr b.length)) :
    ∃ l, s.writeSram n f addr b =
      s.setChan n (Chan.sramWrite { s.chan n with claimCycle := f.due, claims := l } (s.chan n).applied.bankMap addr b) := by
  obtain ⟨l, hl⟩ := State.claim_free hq f hfree
  refine ⟨l, ?_⟩
  unfold State.writeSram
  rw [hl]
  dsimp only
  rw [State.checkAccess_quiet (by rw [State.setChan_chan_same]; exact hq), State.setChan_chan_same, Chan.sramWriteOk_all _ _ _ _ _ fun i hi => mem_granules hi]
  exact State.setChan_setChan _ _ _ _

/-! ### Drained rows -/

theorem flipOf_nil (col block stage : Nat) : flipOf [] col block stage = 0 := rfl

/-- A row's elements with nothing flipped. -/
theorem unflipped (ws : List Nat) (b : Nat) :
    (ws.zipIdx.map fun (w, col) => (w ^^^ (flipOf noObs.te.sums col 0 0).toNat) % 2 ^ b) = ws.map fun w => w % 2 ^ b := by
  have h (x : Nat × Nat) : (x.1 ^^^ (flipOf noObs.te.sums x.2 0 0).toNat) % 2 ^ b = x.1 % 2 ^ b := by
    rw [show flipOf noObs.te.sums x.2 0 0 = 0 from flipOf_nil _ _ _]
    exact congrArg (· % 2 ^ b) (Nat.xor_zero _)
  calc (ws.zipIdx.map fun x => (x.1 ^^^ (flipOf noObs.te.sums x.2 0 0).toNat) % 2 ^ b)
      = ws.zipIdx.map fun x => x.1 % 2 ^ b := List.map_congr_left fun x _ => h x
    _ = (ws.zipIdx.map Prod.fst).map fun w => w % 2 ^ b := by rw [List.map_map]; rfl
    _ = ws.map fun w => w % 2 ^ b := by rw [List.zipIdx_map_fst]

theorem State.endDrain_chan (s : State) (n : Fin 8) (id i rows : Nat) : ∃ l, (s.endDrain n id i rows).chan n = { s.chan n with jobs := l } := by
  unfold State.endDrain
  split
  · exact s.endJob_chan n id
  · exact ⟨_, rfl⟩

@[simp] theorem State.endDrain_rd (s : State) (n : Fin 8) (id i rows r : Nat) : (s.endDrain n id i rows).rd r = s.rd r := by
  unfold State.endDrain
  split
  · exact s.endJob_rd n id r
  · rfl

/-- With nothing flipped TE16 differs in nothing (R111). -/
theorem State.teOutcome_none (s : State) (n : Fin 8) (f : Flight) (e : Nat) (cmp : Bool) : s.teOutcome n f e cmp false false false = s := by
  simp [State.teOutcome]

section
variable {n : Fin 8} {s : State} {f : Flight} {id i e fmt stream rows accRow addr saddr : Nat} {mode : BitVec 2}
  {mx sat shadow : Bool} {j : Job}
  (hj : (s.chan n).job? id = some j) (hu : j.undef.contains e = false)
  (hop : j.op = .drain e fmt mx mode sat stream rows accRow addr saddr shadow)

/-- What a drain makes of its row `i` (R58 to R64): elements, scales and flags. -/
def State.drainedRow (s : State) (n : Fin 8) (j : Job) (i e fmt : Nat) (mode : BitVec 2) (stream accRow : Nat) (mx sat : Bool) : List Nat × List Nat × AFlags :=
  Machine.drainRow (kget (fun _ => []) j.rows i) fmt mx sat (rmodeOf mode) fun col =>
    srRandom (s.rd (chSrSeed n)).toNat (s.fld (chSrRank n) CH_SR_RANK_RANK) stream ((256 * e + accRow + i) * 128 + col)

/-- The bytes of the elements of a drained row. -/
def drainBytes (fmt : Nat) (l : List Nat) : List Byte := packBits (fmtBits fmt) (l.map fun w => w % 2 ^ fmtBits fmt)

include hj hu hop

/-- The scales of a drained row are written. -/
theorem State.landDrainWrite_scales : s.landDrainWrite n f id i 9 noObs =
    (s.writeSram n f (saddr + 4 * i) ((s.drainedRow n j i e fmt mode stream accRow mx sat).2.1.map (BitVec.ofNat 8))).endDrain n id i rows := by
  unfold State.landDrainWrite
  rw [hj]
  dsimp only
  rw [hop]
  dsimp only
  rw [hu]
  rfl

/-- The elements of a drained row, or a third of them, are written with its flags. -/
theorem State.landDrainWrite_elements {m : Nat} (hm : m ≠ 9) : s.landDrainWrite n f id i m noObs =
    ((if fmt = 11 then s.writeSram n f (addr + 1536 * i + 512 * m)
        (slice (drainBytes fmt (s.drainedRow n j i e fmt mode stream accRow mx sat).1) (512 * m) 512)
      else s.writeSram n f (addr + outRowBytes fmt * i) (drainBytes fmt (s.drainedRow n j i e fmt mode stream accRow mx sat).1)).addFlags n
        (s.drainedRow n j i e fmt mode stream accRow mx sat).2.2).endDrain n id i rows := by
  unfold State.landDrainWrite
  rw [hj]
  dsimp only
  rw [hop]
  dsimp only
  rw [hu, if_neg hm]
  simp only [Bool.false_eq_true, if_false, unflipped, show noObs.te16 = noObs.te from rfl, ne_eq, not_true_eq_false, decide_false,
    State.teOutcome_none]
  rfl

end

end Sys2Proof.Machine
end

section
namespace Sys2Proof.Machine

theorem State.headTaken_drainedRow (s : State) (n : Fin 8) (rest : List Flight) (j : Job) (i e fmt : Nat) (mode : BitVec 2) (stream accRow : Nat)
    (mx sat : Bool) : (s.headTaken n rest).drainedRow n j i e fmt mode stream accRow mx sat = s.drainedRow n j i e fmt mode stream accRow mx sat := rfl

section
variable {n : Fin 8} {s : State} {g : Flight} {rest : List Flight}

/-- A scheduled write of the event at the head of the list in flight, where its banks are free. -/
theorem State.headTaken_writeSram (hq : (s.chan n).applied.rehearsal = false) (a : Nat) (b : List Byte)
    (hfree : BanksFree (s.chan n) g.due (granules a b.length)) :
    (((s.headTaken n rest).writeSram n g a b).chan n).sram = ((s.chan n).sramWrite (s.chan n).applied.bankMap a b).sram ∧
      ∀ r, ((s.headTaken n rest).writeSram n g a b).rd r = s.rd r := by
  have hc := s.headTaken_chan n rest
  have hfree' : BanksFree ((s.headTaken n rest).chan n) g.due (granules a b.length) := by rw [hc]; exact hfree
  obtain ⟨l, hl⟩ := State.writeSram_free (by rw [hc]; exact hq) g a b hfree'
  rw [hl]
  refine ⟨?_, fun _ => rfl⟩
  rw [State.setChan_chan_same, hc]
  refine Chan.sramWrite_congr (c := s.chan n) _ b ?_ a
  rfl

variable (hq : (s.chan n).applied.rehearsal = false) (hf : (s.chan n).flight = g :: rest) (hd : HeadDue s n g) {e : Fin 16}
  {id i fmt stream rows accRow addr saddr : Nat} {mode : BitVec 2} {mx sat shadow : Bool} {j : Job}
  (hj : (s.chan n).job? id = some j) (hu : j.undef.contains e.val = false)
  (hop : j.op = .drain e fmt mx mode sat stream rows accRow addr saddr shadow)
include hf hd hj hop

/-- DRAIN_ROW_WRITE lands the write at the head of the list in flight. -/
theorem exec_drainRowWrite {k : Nat} (hev : g.ev = .drainWrite id i k) :
    exec (.drainRowWrite n e noObs) s = .next ((s.headTaken n rest).landDrainWrite n g id i k noObs) := by
  change Host.Outcome.next (s.landNext n _ noObs) = _
  rw [State.landNext_head hf hd (by rw [hev]; simp [Chan.evEngine, Chan.jobIs_of_job hj, hop]), State.landHead, ← State.headTaken, State.landEv, hev]

include hq hu

theorem completes_drainScales (hev : g.ev = .drainWrite id i 9)
    (hfree : BanksFree (s.chan n) g.due
      (granules (saddr + 4 * i) ((s.drainedRow n j i e fmt mode stream accRow mx sat).2.1.map (BitVec.ofNat 8)).length)) :
    Completes (.drainRowWrite n e noObs) s fun t => (t.chan n).sram = ((s.chan n).sramWrite (s.chan n).applied.bankMap (saddr + 4 * i)
        ((s.drainedRow n j i e fmt mode stream accRow mx sat).2.1.map (BitVec.ofNat 8))).sram ∧
      t.rd (chArithFlags n) = s.rd (chArithFlags n) := by
  refine ⟨_, exec_drainRowWrite hf hd hj hop hev, ?_⟩
  rw [State.landDrainWrite_scales ((s.headTaken_job n rest id).trans hj) hu hop, State.headTaken_drainedRow]
  obtain ⟨hs, hr⟩ := State.headTaken_writeSram (rest := rest) hq _ _ hfree
  obtain ⟨l, hl⟩ := State.endDrain_chan ((s.headTaken n rest).writeSram n g (saddr + 4 * i)
    ((s.drainedRow n j i e fmt mode stream accRow mx sat).2.1.map (BitVec.ofNat 8))) n id i rows
  generalize (s.headTaken n rest).writeSram n g _ _ = w at hs hr hl
  refine ⟨(congrArg Chan.sram hl).trans hs, ?_⟩
  rw [State.endDrain_rd, hr]

/-- The elements of a drained row, or a third of them, land at `a` with the row's flags. -/
theorem completes_drainElements {m a : Nat} {b : List Byte} (hm : m ≠ 9) (hev : g.ev = .drainWrite id i m)
    (ha : a = if fmt = 11 then addr + 1536 * i + 512 * m else addr + outRowBytes fmt * i)
    (hb : b = if fmt = 11 then slice (drainBytes fmt (s.drainedRow n j i e fmt mode stream accRow mx sat).1) (512 * m) 512
      else drainBytes fmt (s.drainedRow n j i e fmt mode stream accRow mx sat).1)
    (hfree : BanksFree (s.chan n) g.due (granules a b.length)) :
    Completes (.drainRowWrite n e noObs) s fun t => (t.chan n).sram = ((s.chan n).sramWrite (s.chan n).applied.bankMap a b).sram ∧
      t.rd (chArithFlags n) = s.rd (chArithFlags n) ||| (s.drainedRow n j i e fmt mode stream accRow mx sat).2.2.setWidth 64 := by
  refine ⟨_, exec_drainRowWrite hf hd hj hop hev, ?_⟩
  have hw : (if fmt = 11 then (s.headTaken n rest).writeSram n g (addr + 1536 * i + 512 * m)
        (slice (drainBytes fmt (s.drainedRow n j i e fmt mode stream accRow mx sat).1) (512 * m) 512)
      else (s.headTaken n rest).writeSram n g (addr + outRowBytes fmt * i) (drainBytes fmt (s.drainedRow n j i e fmt mode stream accRow mx sat).1)) =
      (s.headTaken n rest).writeSram n g a b := by
    rw [ha, hb]
    split <;> rfl
  rw [State.landDrainWrite_elements ((s.headTaken_job n rest id).trans hj) hu hop hm, State.headTaken_drainedRow, hw]
  obtain ⟨hs, hr⟩ := State.headTaken_writeSram (rest := rest) hq _ _ hfree
  generalize (s.headTaken n rest).writeSram n g a b = w at hs hr
  obtain ⟨l, hl⟩ := (w.addFlags n (s.drainedRow n j i e fmt mode stream accRow mx sat).2.2).endDrain_chan n id i rows
  refine ⟨(congrArg Chan.sram hl).trans hs, ?_⟩
  rw [State.endDrain_rd, ← hr]
  exact State.rd_wr_same _ _ _

end

end Sys2Proof.Machine
end

section
open Sys2Proof Machine

/-- Settles O11: the head of the list in flight lands (`State.landNext_head`), a register result, a cue, a tile, a row of a LOADACC or of a PASS, or a
write of a DRAIN, which has all its granules where its banks are free (`State.writeSram_free`). -/
theorem resultsLand : Obligations.ResultsLand := by
  intro n s g rest hq hf hd
  refine ⟨fun r v hev => completes_sreg hq hf hd hev, fun r l hev => completes_vreg hq hf hd hev,
    fun c tick hc hev => completes_cueWrite hf hd hc hev, fun e id j hj hu he => ⟨fun len mx hop hev hp => completes_tileDone hf hd hj hu hop hev hp,
      fun rows accRow anchor r hop hev => completes_loadaccRow hf hd hj hu hop hev,
      fun tiles fa fw rows accRow cont anchor mxA shadow tile r hop hev ht => completes_passRow hf hd hj hu he hop hev ht,
      fun fmt mx mode sat stream rows accRow addr saddr shadow i hop => ⟨fun h11 hev hfree => ?_, fun hev hfree => ?_, fun h11 m hm hev hfree => ?_⟩⟩⟩
  · exact completes_drainElements hq hf hd hj hu hop (by decide) hev (by rw [if_neg h11]) (by rw [if_neg h11]; rfl) hfree
  · rw [if_pos rfl]
    have := completes_drainScales hq hf hd hj hu hop hev hfree
    rw [← BitVec.or_zero (x := s.rd (chArithFlags n))] at this
    exact this
  · have := completes_drainElements hq hf hd hj hu hop (by omega) hev (by rw [if_pos h11]) (by rw [if_pos h11]; rfl) hfree
    rw [if_neg (by omega)]
    exact this

end

section
/-!
Writes to CH_CTL: a channel starts, stops, or is told to stop at a cue (R123, R124, R127).
-/

namespace Sys2Proof.Machine

/-! ### The parts of a write to CH_CTL -/

/-- The modes and START are written. -/
def State.ctlWritten (s : State) (n : Fin 8) (v : Word64) : State :=
  (((s.setFld (chCtl n) CH_CTL_REHEARSAL (getF v CH_CTL_REHEARSAL)).setFld (chCtl n) CH_CTL_PAD_A1 (getF v CH_CTL_PAD_A1)).setFld
    (chCtl n) CH_CTL_COUNTED (getF v CH_CTL_COUNTED)).setFld (chCtl n) CH_CTL_START (getF v CH_CTL_START)

/-- A start is judged. -/
def State.startJudged (s : State) (n : Fin 8) : State :=
  if s.startOk n then
    if (s.startNow n).flag timCtl TIM_CTL_REBASE_ARM then
      ((s.startNow n).setFld timCtl TIM_CTL_REBASE_ARM 0).setFlag timStat TIM_STAT_REBASE_REFUSED
    else s.startNow n
  else (s.setFld (chCtl n) CH_CTL_RUN 0).setFlag (chStatus n) CH_STATUS_START_ERR

/-- STOP_AT_CUE acts, on a channel that ran before the write. -/
def State.stopWritten (s : State) (n : Fin 8) (v : Word64) (was : Bool) : State :=
  if getF v CH_CTL_STOP_AT_CUE = 0 then s
  else if was then s.setStopAtCue n
  else s.setFld (chCtl n) CH_CTL_STOP_AT_CUE 0

theorem State.writeChCtl_eq {s : State} {n : Fin 8} (h : s.takesWrites (chCtl n) = true) (v : Word64) : s.writeChCtl n v =
    (if getF v CH_CTL_RUN = 1 then if s.running n then s.ctlWritten n v else ((s.ctlWritten n v).landAll n).startJudged n
      else if s.running n then (s.ctlWritten n v).stopDiscard n stIdle else s.ctlWritten n v).stopWritten n v (s.running n) := by
  unfold State.writeChCtl
  rw [h]
  rfl

section
variable (s : State) (n : Fin 8) (v : Word64)

theorem State.ctlWritten_onlyRegs : OnlyRegs (fun off => off = chCtl n) s (s.ctlWritten n v) :=
  (((s.setFld_onlyRegs _ _ _).trans (State.setFld_onlyRegs _ _ _ _)).trans (State.setFld_onlyRegs _ _ _ _)).trans (State.setFld_onlyRegs _ _ _ _)

theorem chStatus_ne_chCtl : chStatus n ≠ chCtl n := by unfold chStatus chCtl; omega

theorem State.ctlWritten_running : (s.ctlWritten n v).running n = s.running n :=
  State.running_of_rd ((s.ctlWritten_onlyRegs n v).1 _ (chStatus_ne_chCtl n))

@[simp] theorem State.ctlWritten_chan : (s.ctlWritten n v).chan n = s.chan n := (s.ctlWritten_onlyRegs n v).chan n

/-- The fields of CH_CTL that programs give: as written; RUN stays. -/
theorem State.ctlWritten_fields : (s.ctlWritten n v).fld (chCtl n) CH_CTL_REHEARSAL = getF v CH_CTL_REHEARSAL ∧
    (s.ctlWritten n v).fld (chCtl n) CH_CTL_PAD_A1 = getF v CH_CTL_PAD_A1 ∧ (s.ctlWritten n v).fld (chCtl n) CH_CTL_COUNTED = getF v CH_CTL_COUNTED ∧
      (s.ctlWritten n v).fld (chCtl n) CH_CTL_START = getF v CH_CTL_START ∧ (s.ctlWritten n v).fld (chCtl n) CH_CTL_RUN = s.fld (chCtl n) CH_CTL_RUN := by
  have hlt (f : Fld) : getF v f % 2 ^ f.w = getF v f := Nat.mod_eq_of_lt (Nat.mod_lt _ (Nat.two_pow_pos _))
  unfold State.ctlWritten
  refine ⟨?_, ?_, ?_, ?_, ?_⟩
  · rw [State.fld_setFld_field _ _ _ _ _ (by decide) (by decide), State.fld_setFld_field _ _ _ _ _ (by decide) (by decide),
      State.fld_setFld_field _ _ _ _ _ (by decide) (by decide), State.fld_setFld_same _ _ _ _ (by decide), hlt]
  · rw [State.fld_setFld_field _ _ _ _ _ (by decide) (by decide), State.fld_setFld_field _ _ _ _ _ (by decide) (by decide),
      State.fld_setFld_same _ _ _ _ (by decide), hlt]
  · rw [State.fld_setFld_field _ _ _ _ _ (by decide) (by decide), State.fld_setFld_same _ _ _ _ (by decide), hlt]
  · rw [State.fld_setFld_same _ _ _ _ (by decide), hlt]
  · rw [State.fld_setFld_field _ _ _ _ _ (by decide) (by decide), State.fld_setFld_field _ _ _ _ _ (by decide) (by decide),
      State.fld_setFld_field _ _ _ _ _ (by decide) (by decide), State.fld_setFld_field _ _ _ _ _ (by decide) (by decide)]

end

/-- Where the channel does not run, STOP_AT_CUE has no effect: it reads 0 once written 1, and nothing else of the channel changes (R127). -/
theorem State.stopWritten_idle {s : State} {n : Fin 8} (v : Word64) {was : Bool} (h : was = false ∨ s.running n = false) :
    OnlyRegs (fun off => off = chCtl n) s (s.stopWritten n v was) ∧ (s.stopWritten n v was).fld (chCtl n) CH_CTL_RUN = s.fld (chCtl n) CH_CTL_RUN ∧
      (getF v CH_CTL_STOP_AT_CUE ≠ 0 → (s.stopWritten n v was).flag (chCtl n) CH_CTL_STOP_AT_CUE = false) := by
  have he : s.stopWritten n v was = if getF v CH_CTL_STOP_AT_CUE = 0 then s else s.setFld (chCtl n) CH_CTL_STOP_AT_CUE 0 := by
    unfold State.stopWritten State.setStopAtCue
    rcases h with rfl | h
    · rfl
    · simp only [h, Bool.false_eq_true, if_false, ite_self]
  rw [he]
  refine ⟨.ite (.of_eq s) (s.setFld_onlyRegs _ _ _), ?_, fun hs => ?_⟩
  · split
    · rfl
    · exact State.fld_setFld_field _ _ _ _ _ (by decide) (by decide)
  · rw [if_neg hs, State.flag, State.fld_setFld_same _ _ _ _ (by decide)]
    rfl

/-! ### An accepted start (R123) -/

theorem State.landAll_empty {s : State} {n : Fin 8} (h : (s.chan n).flight = []) : s.landAll n = s := by
  have hto : s.landTo n (2 ^ 64) (2 * (s.chan n).flight.length) = s := by rw [h]; rfl
  unfold State.landAll
  rw [show List.range 2 = [0, 1] from rfl, List.foldl_cons, hto, List.foldl_cons, hto, List.foldl_nil]

/-- The registers that show the queues of a channel. -/
def QueueReg (n : Fin 8) (off : Nat) : Prop := (∃ q < 32, off = chQCount n q) ∨ ∃ k < 16, off = chNqStatus n k

theorem QueueReg.ne {n : Fin 8} {off : Nat} (h : QueueReg n off) : off ≠ chStatus n ∧ off ≠ chCtl n := by
  unfold QueueReg chQCount chNqStatus at h
  unfold chStatus chCtl
  obtain ⟨q, hq, rfl⟩ | ⟨k, hk, rfl⟩ := h <;> omega

/-- The counts of all queues are shown. -/
def State.showAll (s : State) (n : Fin 8) : State := ((List.range 24).foldl (fun s q => s.showCount n q) s).showQueues n

theorem State.showAll_onlyRegs (s : State) (n : Fin 8) : OnlyRegs (QueueReg n) s (s.showAll n) := by
  have h : OnlyRegs (QueueReg n) s ((List.range 24).foldl (fun s q => s.showCount n q) s) :=
    .foldl _ _ (fun s q hq => (s.showCount_onlyRegs n q).mono fun _ e => .inl ⟨q, by have := List.mem_range.mp hq; omega, e⟩) s
  exact h.trans ((State.showQueues_onlyRegs _ n).mono fun _ => .inr)

theorem State.showAll_fld (s : State) (n : Fin 8) {r : Nat} (hr : r = chStatus n ∨ r = chCtl n) (f : Fld) : (s.showAll n).fld r f = s.fld r f :=
  (s.showAll_onlyRegs n).fld (fun h => hr.elim h.ne.1 h.ne.2) f

/-- The channel that an accepted start leaves (R82, R114, R123, R124). -/
def State.startedChan (s : State) (n : Fin 8) : Chan :=
  { s.chan n with
    applied := ⟨s.rd (chBankMap n), s.rd (chTeMap n), s.flag (chCtl n) CH_CTL_REHEARSAL, s.flag (chCtl n) CH_CTL_PAD_A1,
      s.flag (chCtl n) CH_CTL_COUNTED⟩
    cycle := 0
    grid0 := ((4 * s.now * s.arithMHz n + 3000) / 4000 : Nat)
    flight := [], jobs := [], claims := [], claimCycle := 0, regClaims := [], regCycle := 0, bankRun := [], busyUntil := [], tileReady := []
    xBase := s.xfills n, xPend := [], asm := [], asmHdr := 0, asmErrs := [], held := none, shadowLeft := 0, target := none
    lastPoll := none, faultCycle := none
    firedAt := [], rxq := Vector.replicate 8 [], rxd := Vector.replicate 8 [], portClosed := false
    streams := (s.chan n).streams.map fun x =>
      { x with w := 0, ws := 0, r := 0, rm := 0, c := 0, cm := 0, m := 0, ms := 0, up := [], down := [] } }

theorem State.startNow_eq (s : State) (n : Fin 8) : s.startNow n =
    (((((s.setChan n (s.startedChan n)).setFld (chStatus n) CH_STATUS_STATE stRunning).setFld (chCtl n) CH_CTL_RUN 1).setFld (chStatus n)
      CH_STATUS_START_ERR 0).setFld (chStatus n) CH_STATUS_PC (s.fld (chCtl n) CH_CTL_START)).showAll n := rfl

theorem State.startNow_chan (s : State) (n : Fin 8) : (s.startNow n).chan n = s.startedChan n := by
  rw [State.startNow_eq, (State.showAll_onlyRegs _ n).chan]
  exact State.setChan_chan_same _ _ _

/-- The registers of an accepted start: RUNNING with RUN 1, no START_ERR, and the bundle at START. -/
theorem State.startNow_fields (s : State) (n : Fin 8) : (s.startNow n).running n = true ∧ (s.startNow n).fld (chCtl n) CH_CTL_RUN = 1 ∧
    (s.startNow n).fld (chStatus n) CH_STATUS_START_ERR = 0 ∧ (s.startNow n).fld (chStatus n) CH_STATUS_PC = s.fld (chCtl n) CH_CTL_START := by
  have hne := (chStatus_ne_chCtl n)
  rw [State.startNow_eq]
  refine ⟨?_, ?_, ?_, ?_⟩
  · rw [State.running, State.showAll_fld _ _ (.inl rfl), State.fld_setFld_field _ _ _ _ _ (by decide) (by decide),
      State.fld_setFld_field _ _ _ _ _ (by decide) (by decide), State.fld_setFld_other _ _ _ _ _ _ hne, State.fld_setFld_same _ _ _ _ (by decide)]
    rfl
  · rw [State.showAll_fld _ _ (.inr rfl), State.fld_setFld_other _ _ _ _ _ _ hne.symm, State.fld_setFld_other _ _ _ _ _ _ hne.symm,
      State.fld_setFld_same _ _ _ _ (by decide)]
    rfl
  · rw [State.showAll_fld _ _ (.inl rfl), State.fld_setFld_field _ _ _ _ _ (by decide) (by decide), State.fld_setFld_same _ _ _ _ (by decide)]
    exact Nat.zero_mod _
  · rw [State.showAll_fld _ _ (.inl rfl), State.fld_setFld_same _ _ _ _ (by decide)]
    exact Nat.mod_eq_of_lt (s.fld_lt _ CH_CTL_START)

/-- The start checks look at no register that a write to CH_CTL gives. -/
theorem State.startOk_congr {s t : State} {n : Fin 8} (h : OnlyRegs (fun off => off = chCtl n) s t) : t.startOk n = s.startOk n := by
  have hf (r : Nat) (hr : r ≠ chCtl n) (f : Fld) : t.fld r f = s.fld r f := h.fld hr f
  have hring (q : Nat) : chQRing n q ≠ chCtl n := by unfold chQRing chCtl; omega
  unfold State.startOk
  simp only [hf _ (chStatus_ne_chCtl n), hf _ (hring _), hf (chXslotCtl n) (by unfold chXslotCtl chCtl; omega),
    h.1 (chBankMap n) (by unfold chBankMap chCtl; omega), h.chan n]

/-! ### The writes (R123, R124, R127) -/

/-- A start judged good: registers of the time block apart, the channel as it starts. -/
theorem State.startJudged_good {s : State} {n : Fin 8} (h : s.startOk n = true) :
    OnlyRegs (fun off => off = timCtl ∨ off = timStat) (s.startNow n) (s.startJudged n) := by
  unfold State.startJudged
  rw [if_pos h]
  split
  · exact ((State.setFld_onlyRegs _ _ _ _).mono fun _ => .inl).trans ((State.setFlag_onlyRegs _ _ _).mono fun _ => .inr)
  · exact .of_eq _

theorem completes_runStart {s : State} {n : Fin 8} {v : Word64} (hw : s.takesWrites (chCtl n) = true) (hr : s.running n = false)
    (hok : s.startOk n = true) (hfl : (s.chan n).flight = []) : Completes (.runStart n v) s fun t =>
      t.running n = true ∧ t.fld (chCtl n) CH_CTL_RUN = 1 ∧ t.fld (chStatus n) CH_STATUS_START_ERR = 0 ∧
      t.fld (chStatus n) CH_STATUS_PC = getF v CH_CTL_START ∧ (t.chan n).cycle = 0 ∧ (t.chan n).held = none ∧
      (t.chan n).rxq = Vector.replicate 8 [] ∧ (t.chan n).rxd = Vector.replicate 8 [] ∧ (t.chan n).portClosed = false ∧
      (getF v CH_CTL_STOP_AT_CUE = 1 → t.flag (chCtl n) CH_CTL_STOP_AT_CUE = false) ∧
      (t.chan n).applied = ⟨s.rd (chBankMap n), s.rd (chTeMap n), decide (getF v CH_CTL_REHEARSAL ≠ 0), decide (getF v CH_CTL_PAD_A1 ≠ 0),
        decide (getF v CH_CTL_COUNTED ≠ 0)⟩ := by
  refine ⟨_, rfl, ?_⟩
  have hv (f : Fld) (hf : CH_CTL_RUN.lo + CH_CTL_RUN.w ≤ f.lo ∨ f.lo + f.w ≤ CH_CTL_RUN.lo) : getF (setF v CH_CTL_RUN 1) f = getF v f :=
    getF_setF_other _ _ _ _ (by decide) hf
  have hrun : getF (setF v CH_CTL_RUN 1) CH_CTL_RUN = 1 := getF_setF_same _ _ _ (by decide)
  have hstop := hv CH_CTL_STOP_AT_CUE (by decide)
  obtain ⟨hreh, hpad, hcnt, hstart, -⟩ := s.ctlWritten_fields n (setF v CH_CTL_RUN 1)
  rw [hv _ (by decide)] at hreh hpad hcnt hstart
  have hregs := s.ctlWritten_onlyRegs n (setF v CH_CTL_RUN 1)
  rw [State.writeChCtl_eq hw, hr, if_pos hrun, if_neg Bool.false_ne_true, State.landAll_empty (by rw [State.ctlWritten_chan]; exact hfl)]
  generalize hu : s.ctlWritten n (setF v CH_CTL_RUN 1) = u at *
  have hj := State.startJudged_good ((State.startOk_congr hregs).trans hok)
  obtain ⟨hstate, hrun1, herr, hpc⟩ := u.startNow_fields n
  obtain ⟨hidle, hidleRun, hidleStop⟩ := State.stopWritten_idle (s := u.startJudged n) (n := n) (setF v CH_CTL_RUN 1) (was := false) (.inl rfl)
  have hst : chStatus n ≠ timCtl ∧ chStatus n ≠ timStat := by unfold chStatus timCtl timStat; omega
  have hct : chCtl n ≠ timCtl ∧ chCtl n ≠ timStat := by unfold chCtl timCtl timStat; omega
  have hstatus (f : Fld) : ((u.startJudged n).stopWritten n (setF v CH_CTL_RUN 1) false).fld (chStatus n) f = (u.startNow n).fld (chStatus n) f :=
    (hidle.fld (chStatus_ne_chCtl n) f).trans (hj.fld (fun h => h.elim hst.1 hst.2) f)
  have hchan : ((u.startJudged n).stopWritten n (setF v CH_CTL_RUN 1) false).chan n = u.startedChan n := by
    rw [hidle.chan, hj.chan, State.startNow_chan]
  have happlied : (u.startedChan n).applied = ⟨s.rd (chBankMap n), s.rd (chTeMap n), decide (getF v CH_CTL_REHEARSAL ≠ 0),
      decide (getF v CH_CTL_PAD_A1 ≠ 0), decide (getF v CH_CTL_COUNTED ≠ 0)⟩ := by
    unfold State.startedChan State.flag
    rw [hreh, hpad, hcnt, hregs.1 (chBankMap n) (by unfold chBankMap chCtl; omega), hregs.1 (chTeMap n) (by unfold chTeMap chCtl; omega)]
  dsimp only
  rw [hchan, hstatus, hstatus, hidleRun, hj.fld (fun h => h.elim hct.1 hct.2), State.running, hstatus]
  refine ⟨hstate, hrun1, herr, hpc.trans hstart, rfl, rfl, rfl, rfl, rfl, fun h1 => hidleStop ?_, happlied⟩
  rw [hstop, h1]
  decide

theorem completes_runStart_refused {s : State} {n : Fin 8} {v : Word64} (hw : s.takesWrites (chCtl n) = true) (hr : s.running n = false)
    (hok : s.startOk n = false) (hfl : (s.chan n).flight = []) : Completes (.runStart n v) s fun t =>
      t.fld (chStatus n) CH_STATUS_START_ERR = 1 ∧ t.fld (chStatus n) CH_STATUS_STATE = s.fld (chStatus n) CH_STATUS_STATE ∧
        t.chan n = s.chan n := by
  refine ⟨_, rfl, ?_⟩
  have hrun : getF (setF v CH_CTL_RUN 1) CH_CTL_RUN = 1 := getF_setF_same _ _ _ (by decide)
  have hregs := s.ctlWritten_onlyRegs n (setF v CH_CTL_RUN 1)
  rw [State.writeChCtl_eq hw, hr, if_pos hrun, if_neg Bool.false_ne_true, State.landAll_empty (by rw [State.ctlWritten_chan]; exact hfl)]
  generalize s.ctlWritten n (setF v CH_CTL_RUN 1) = u at *
  have hj : u.startJudged n = (u.setFld (chCtl n) CH_CTL_RUN 0).setFlag (chStatus n) CH_STATUS_START_ERR := by
    unfold State.startJudged
    rw [State.startOk_congr hregs, hok, if_neg Bool.false_ne_true]
  have hne := chStatus_ne_chCtl n
  obtain ⟨hidle, -⟩ := State.stopWritten_idle (s := u.startJudged n) (n := n) (setF v CH_CTL_RUN 1) (was := false) (.inl rfl)
  refine ⟨?_, ?_, ?_⟩
  · rw [hidle.fld hne, hj, State.setFlag, State.keepSet_fld, State.fld_setFld_same _ _ _ _ (by decide)]
    rfl
  · rw [hidle.fld hne, hj, State.setFlag, State.keepSet_fld, State.fld_setFld_field _ _ _ _ _ (by decide) (by decide),
      State.fld_setFld_other _ _ _ _ _ _ hne, hregs.fld hne]
  · rw [hidle.chan, hj, State.setFlag, State.keepSet_chan, State.setFld_chan, State.setFld_chan, hregs.chan]

theorem completes_runStop {s : State} {n : Fin 8} {v : Word64} (hw : s.takesWrites (chCtl n) = true) (hr : s.running n = true) :
    Completes (.runStop n v) s fun t =>
      t.fld (chStatus n) CH_STATUS_STATE = stIdle ∧ t.fld (chCtl n) CH_CTL_RUN = 0 ∧ (t.chan n).txq = Vector.replicate 8 [] ∧
        (t.chan n).rxq = Vector.replicate 8 [] ∧ (t.chan n).rxd = Vector.replicate 8 [] ∧ (t.chan n).portClosed = true := by
  refine ⟨_, rfl, ?_⟩
  have hrun : getF (setF v CH_CTL_RUN 0) CH_CTL_RUN ≠ 1 := by rw [getF_setF_same _ _ _ (by decide)]; decide
  rw [State.writeChCtl_eq hw, hr, if_neg hrun, if_pos rfl]
  generalize s.ctlWritten n (setF v CH_CTL_RUN 0) = u
  have hidle : (u.stopDiscard n stIdle).running n = false := State.not_running_of_state (u.stopDiscard_state n stIdle) (by decide)
  obtain ⟨h, hctl, -⟩ := State.stopWritten_idle (n := n) (setF v CH_CTL_RUN 0) (was := true) (.inr hidle)
  dsimp only
  rw [h.fld (chStatus_ne_chCtl n), hctl, h.chan, State.stopDiscard_state, State.stopDiscard_run, State.stopDiscard_chan]
  exact ⟨rfl, rfl, rfl, rfl, rfl, rfl⟩

/-- The value that STOP_AT_CUE_WRITE gives CH_CTL: STOP_AT_CUE 1, RUN as it reads. -/
theorem stopAtCue_value {r : Nat} (v : Word64) : getF (setF (setF v CH_CTL_STOP_AT_CUE 1) CH_CTL_RUN r) CH_CTL_RUN = r % 2 ∧
    getF (setF (setF v CH_CTL_STOP_AT_CUE 1) CH_CTL_RUN r) CH_CTL_STOP_AT_CUE = 1 := by
  refine ⟨getF_setF_same _ _ _ (by decide), ?_⟩
  rw [getF_setF_other _ _ _ _ (by decide) (by decide), getF_setF_same _ _ _ (by decide)]
  rfl

/-- On a channel that runs, STOP_AT_CUE_WRITE acts after the modes are written. -/
theorem State.writeChCtl_stopAtCue {s : State} {n : Fin 8} {v : Word64} (hw : s.takesWrites (chCtl n) = true) (hr : s.running n = true)
    (h1 : s.fld (chCtl n) CH_CTL_RUN = 1) : ∃ u, OnlyRegs (fun off => off = chCtl n) s u ∧
      s.writeChCtl n (setF (setF v CH_CTL_STOP_AT_CUE 1) CH_CTL_RUN (s.fld (chCtl n) CH_CTL_RUN)) = u.setStopAtCue n := by
  refine ⟨_, s.ctlWritten_onlyRegs n (setF (setF v CH_CTL_STOP_AT_CUE 1) CH_CTL_RUN (s.fld (chCtl n) CH_CTL_RUN)), ?_⟩
  obtain ⟨hrun, hstop⟩ := stopAtCue_value (r := s.fld (chCtl n) CH_CTL_RUN) v
  rw [State.writeChCtl_eq hw, hr, if_pos (by rw [hrun, h1]), if_pos rfl, State.stopWritten, if_neg (by rw [hstop]; decide), if_pos rfl]

theorem completes_stopAtCue_waits {s : State} {n : Fin 8} {v : Word64} (hw : s.takesWrites (chCtl n) = true) (hr : s.running n = true)
    (h1 : s.fld (chCtl n) CH_CTL_RUN = 1) (hh : (s.chan n).held = none) : Completes (.stopAtCueWrite n v) s fun t =>
      t.flag (chCtl n) CH_CTL_STOP_AT_CUE = true ∧ t.running n = true ∧ t.chan n = s.chan n := by
  obtain ⟨u, hu, he⟩ := State.writeChCtl_stopAtCue (v := v) hw hr h1
  have hur : u.running n = true := (State.running_of_rd (hu.1 _ (chStatus_ne_chCtl n))).trans hr
  have hset : u.setStopAtCue n = u.setFld (chCtl n) CH_CTL_STOP_AT_CUE 1 := by
    have hheld : ((u.setFld (chCtl n) CH_CTL_STOP_AT_CUE 1).chan n).held = none := by rw [State.setFld_chan, hu.chan, hh]
    unfold State.setStopAtCue
    rw [if_pos hur]
    dsimp only
    rw [hheld]
  refine ⟨_, rfl, ?_⟩
  rw [he, hset]
  refine ⟨?_, ?_, hu.chan n⟩
  · rw [State.flag, State.fld_setFld_same _ _ _ _ (by decide)]
    rfl
  · exact (State.running_of_rd (State.rd_setFld_other _ _ _ _ _ (chStatus_ne_chCtl n))).trans hur

theorem completes_stopAtCue_held {s : State} {n : Fin 8} {v : Word64} (hw : s.takesWrites (chCtl n) = true) {h : Hold} {q : Nat}
    (hr : s.running n = true) (h1 : s.fld (chCtl n) CH_CTL_RUN = 1) (hh : (s.chan n).held = some h) (hq : h.bundle.cue? = some q) :
    Completes (.stopAtCueWrite n v) s fun t =>
      t.fld (chStatus n) CH_STATUS_STATE = stHalted ∧ t.flag (chCtl n) CH_CTL_STOP_AT_CUE = false ∧ (t.chan n).held = none := by
  obtain ⟨u, hu, he⟩ := State.writeChCtl_stopAtCue (v := v) hw hr h1
  have hur : u.running n = true := (State.running_of_rd (hu.1 _ (chStatus_ne_chCtl n))).trans hr
  have hset : u.setStopAtCue n = (u.setFld (chCtl n) CH_CTL_STOP_AT_CUE 1).stopCue n q := by
    have hheld : ((u.setFld (chCtl n) CH_CTL_STOP_AT_CUE 1).chan n).held = some h := by rw [State.setFld_chan, hu.chan, hh]
    unfold State.setStopAtCue
    rw [if_pos hur]
    dsimp only
    rw [hheld]
    dsimp only
    rw [hq]
  refine ⟨_, rfl, ?_⟩
  rw [he, hset]
  refine ⟨State.stopCue_state _ n q, ?_, State.stopCue_held _ n q⟩
  rw [State.flag, State.stopCue_stopAtCue]
  rfl

theorem completes_stopAtCue_idle {s : State} {n : Fin 8} {v : Word64} (hw : s.takesWrites (chCtl n) = true) (hr : s.running n = false)
    (h0 : s.fld (chCtl n) CH_CTL_RUN = 0) : Completes (.stopAtCueWrite n v) s fun t =>
      t.flag (chCtl n) CH_CTL_STOP_AT_CUE = false ∧ t.chan n = s.chan n := by
  obtain ⟨hrun, hstop⟩ := stopAtCue_value (r := s.fld (chCtl n) CH_CTL_RUN) v
  refine ⟨_, rfl, ?_⟩
  rw [State.writeChCtl_eq hw, hr, if_neg (by rw [hrun, h0]; decide), if_neg Bool.false_ne_true]
  obtain ⟨h, -, hs⟩ := State.stopWritten_idle (n := n) (s := s.ctlWritten n (setF (setF v CH_CTL_STOP_AT_CUE 1) CH_CTL_RUN (s.fld (chCtl n) CH_CTL_RUN)))
    (setF (setF v CH_CTL_STOP_AT_CUE 1) CH_CTL_RUN (s.fld (chCtl n) CH_CTL_RUN)) (was := false) (.inl rfl)
  refine ⟨hs (by rw [hstop]; decide), ?_⟩
  rw [h.chan, State.ctlWritten_chan]

end Sys2Proof.Machine
end

section
/-!
A cue fires, and a wait on a cue that never does (R100, R154).
-/

namespace Sys2Proof.Machine

/-! ### A cue fires (R100) -/

theorem State.setFired_chan (s : State) (n : Fin 8) (c cycle : Nat) :
    (s.setFired n c cycle).chan n = { s.chan n with firedAt := kset (fun _ => 0) (s.chan n).firedAt c cycle } := by
  rw [State.setFired, State.setFld_chan, State.setChan_chan_same]

theorem State.setFired_onlyChan (s : State) (n : Fin 8) (c cycle : Nat) : OnlyChan n (fun off => off = chStatus n) s (s.setFired n c cycle) :=
  (s.setChan_onlyChan _ n _).trans ((State.setFld_onlyRegs _ _ _ _).onlyChan n)

theorem State.setFired_running (s : State) (n : Fin 8) {c : Nat} (hc : c < 16) (cycle : Nat) : (s.setFired n c cycle).running n = s.running n := by
  unfold State.running State.setFired
  rw [State.fld_setFld_field _ _ _ _ _ (firedF_fits hc) (.inr (by change 3 ≤ 32 + c; omega))]
  rfl

theorem State.cycleNow_of_free {s : State} {n : Fin 8} (h : (s.chan n).held = none) : s.cycleNow n = (s.chan n).cycle := by
  rw [State.cycleNow, h]

/-- CUE_FIRE on a cue that is reached. -/
theorem exec_cueFire {s : State} {n : Fin 8} {c : Fin 16} (hf : s.fired n c = false)
    (hr : s.cueReached n (s.rd (chCue n c)).toNat (s.cycleNow n) = true) :
    exec (.cueFire n c) s = .next ((s.setFired n c (s.cycleNow n)).recheck n) := by
  change execCueFire n c s = _
  unfold execCueFire
  simp [hf, hr]

theorem completes_cueFire {s : State} {n : Fin 8} {c : Fin 16} (hf : s.fired n c = false) (hh : (s.chan n).held = none)
    (hr : s.cueReached n (s.rd (chCue n c)).toNat (s.chan n).cycle = true) : Completes (.cueFire n c) s fun t =>
      t.fired n c = true ∧ kget (fun _ => 0) (t.chan n).firedAt c = (s.chan n).cycle ∧ OnlyChan n (fun off => off = chStatus n) s t := by
  have hcyc := State.cycleNow_of_free hh
  refine ⟨_, exec_cueFire hf (by rw [hcyc]; exact hr), ?_⟩
  have hheld : ((s.setFired n c (s.cycleNow n)).chan n).held = none := by rw [State.setFired_chan, hh]
  have hre : (s.setFired n c (s.cycleNow n)).recheck n = s.setFired n c (s.cycleNow n) := by
    unfold State.recheck
    rw [hheld]
  rw [hre]
  refine ⟨s.setFired_fired n c.isLt _, ?_, s.setFired_onlyChan n c _⟩
  rw [State.setFired_chan, hcyc]
  exact kget_kset_same _ _ _ _

theorem State.cycleNow_congr {s t : State} {n : Fin 8} (hh : (t.chan n).held = (s.chan n).held) (hc : (t.chan n).cycle = (s.chan n).cycle)
    (hp : t.rd pwrArith = s.rd pwrArith) (ht : t.rd timNow = s.rd timNow) : t.cycleNow n = s.cycleNow n := by
  unfold State.cycleNow State.arithMHz State.now State.fld
  rw [hh, hc, hp, ht]

/-- A bundle held on a CUE alone issues when the cue has fired: the cycles of the hold have passed. -/
theorem State.recheck_cue {t : State} {n : Fin 8} {f : CtlF} {since : Nat} (hl : ctlLegal .cue f = true) (hrun : t.running n = true)
    (hh : (t.chan n).held = some ⟨oneSlot (.ctl .cue f), since, false, [], false⟩) (hfl : (t.chan n).flight = [])
    (hfired : t.fired n (f.imm.toNat % 16) = true) : t.recheck n =
      ((t.setChan n { t.chan n with held := none, cycle := t.cycleNow n }).showHold n false false).advance n := by
  have hcue : (oneSlot (.ctl .cue f)).cue? = some (f.imm.toNat % 16) := rfl
  have hfaults (u : State) : u.bundleFaults n (oneSlot (.ctl .cue f)) = [] :=
    State.bundleFaults_plain _ _ _ (Bundle.legal_oneSlot hl rfl) (fun _ => rfl) rfl (by simp) (by simp)
  have hrun' : ((t.setChan n { t.chan n with held := none, cycle := t.cycleNow n }).showHold n false false).running n = true := by
    rw [State.running, State.showHold_status _ _ _ _ _ (by decide) (by decide)]
    exact hrun
  unfold State.recheck
  rw [hh]
  dsimp only
  rw [hcue]
  have hland : t.landDue n (t.cycleNow n) = t := State.landDue_none _ _ _ (by rw [hfl]; exact fun _ h => absurd h List.not_mem_nil)
  simp only [Bool.false_or, hfired, List.filter_nil, State.noteWaits, List.foldl_nil, List.isEmpty_nil, Bool.and_self, if_true, hland, hrun,
    Bool.not_true, Bool.false_eq_true, if_false]
  exact State.issueNow_one _ n (.ctl .cue f) (hfaults _) rfl hrun' rfl

theorem State.showHold_holdCue (s : State) (n : Fin 8) (a b : Bool) : (s.showHold n a b).fld (chStatus n) CH_STATUS_HOLD_CUE = b2n a := by
  unfold State.showHold
  rw [State.fld_setFld_field _ _ _ _ _ (by decide) (by decide), State.fld_setFld_same _ _ _ _ (by decide)]
  cases a <;> rfl

theorem completes_cueFire_held {s : State} {n : Fin 8} {c : Fin 16} {f : CtlF} {since : Nat} (hf : s.fired n c = false)
    (hh : (s.chan n).held = some ⟨oneSlot (.ctl .cue f), since, false, [], false⟩) (hc : f.imm.toNat = c.val) (hl : ctlLegal .cue f = true)
    (hrun : s.running n = true) (hfl : (s.chan n).flight = [])
    (hr : s.cueReached n (s.rd (chCue n c)).toNat (s.cycleNow n) = true) : Completes (.cueFire n c) s fun t =>
      (t.chan n).held = none ∧ t.fld (chStatus n) CH_STATUS_HOLD_CUE = 0 ∧ (t.chan n).cycle = s.cycleNow n + 1 := by
  refine ⟨_, exec_cueFire hf hr, ?_⟩
  have hchan := s.setFired_chan n c (s.cycleNow n)
  have honly := s.setFired_onlyChan n c (s.cycleNow n)
  have hcyc : (s.setFired n c (s.cycleNow n)).cycleNow n = s.cycleNow n :=
    State.cycleNow_congr (by rw [hchan]) (by rw [hchan]) (honly.1 _ (by unfold pwrArith chStatus; omega)) (honly.1 _ (by unfold timNow chStatus; omega))
  have hfired : (s.setFired n c (s.cycleNow n)).fired n (f.imm.toNat % 16) = true := by
    rw [hc, Nat.mod_eq_of_lt c.isLt]
    exact s.setFired_fired n c.isLt _
  rw [State.recheck_cue hl ((s.setFired_running n c.isLt _).trans hrun) (by rw [hchan]; exact hh) (by rw [hchan]; exact hfl) hfired, hcyc]
  generalize s.setFired n c (s.cycleNow n) = t
  have hadv (u : State) : ((u.advance n).chan n).held = (u.chan n).held ∧ ((u.advance n).chan n).cycle = (u.chan n).cycle + 1 ∧
      (u.advance n).fld (chStatus n) CH_STATUS_HOLD_CUE = u.fld (chStatus n) CH_STATUS_HOLD_CUE := by
    unfold State.advance
    rw [State.setFld_chan, State.setChan_chan_same, State.fld_setFld_field _ _ _ _ _ (by decide) (by decide)]
    exact ⟨rfl, rfl, rfl⟩
  obtain ⟨h1, h2, h3⟩ := hadv ((t.setChan n { t.chan n with held := none, cycle := s.cycleNow n }).showHold n false false)
  rw [State.showHold_chan, State.setChan_chan_same] at h1 h2
  exact ⟨h1, h3.trans (State.showHold_holdCue _ n _ _), h2⟩

/-! ### A wait on a cue that never fires (R154) -/

/-- The second read of one PC finds the channel on a cue that never fires: it is stopped, and UNARMED is raised. -/
theorem exec_unarmedWait {s : State} {n : Fin 8} {h : Hold} (hrun : s.running n = true) (hh : (s.chan n).held = some h)
    (hp : (s.chan n).lastPoll = some (s.fld (chStatus n) CH_STATUS_PC))
    (hany : h.bundle.cuesNamed.any (fun q => decide ((s.rd (chCue n q)).toNat = 2 ^ 64 - 1)) = true) :
    ∃ u : State, u.fld (chStatus n) CH_STATUS_STATE = stIdle ∧ exec (.unarmedWaitPoll n) s = .next (u.raiseCause 7 n 0 none) := by
  refine ⟨(s.stopDiscard n stIdle).setChan n { (s.stopDiscard n stIdle).chan n with lastPoll := none }, ?_, ?_⟩
  · rw [State.setChan_fld, State.stopDiscard_state]
    rfl
  · change execUnarmedWaitPoll n s = _
    unfold execUnarmedWaitPoll
    simp only [hrun, hh, hp, hany, Bool.not_true, Bool.false_eq_true, if_false, decide_true, Bool.and_self, if_true]

theorem completes_unarmedWait {s : State} {n : Fin 8} {h : Hold} (hrun : s.running n = true) (hh : (s.chan n).held = some h)
    (hp : (s.chan n).lastPoll = some (s.fld (chStatus n) CH_STATUS_PC)) (hq : ∃ q ∈ h.bundle.cuesNamed, (s.rd (chCue n q)).toNat = 2 ^ 64 - 1) :
    Completes (.unarmedWaitPoll n) s fun t =>
      t.fld (chStatus n) CH_STATUS_STATE = stIdle ∧ t.flag safFault (bitF 13) = true ∧ t.flag ctlHostAlert (bitF 0) = true := by
  obtain ⟨q, hmem, hq⟩ := hq
  have hany : h.bundle.cuesNamed.any (fun q => decide ((s.rd (chCue n q)).toNat = 2 ^ 64 - 1)) = true :=
    List.any_eq_true.mpr ⟨q, hmem, decide_eq_true hq⟩
  obtain ⟨u, hstate, he⟩ := exec_unarmedWait hrun hh hp hany
  refine ⟨_, he, ?_⟩
  have hkeep := u.raiseCause_keepsChannel 7 n 0 none (State.not_running_of_state hstate (by decide))
  obtain ⟨hfault, halert⟩ := u.raiseCause_raised (code := 7) (unit := n) 0 none (show (13 : Nat) < 64 by decide)
  exact ⟨(hkeep.fld (chStatus_block n) _).trans hstate, hfault, halert⟩

end Sys2Proof.Machine
end

section
open Sys2Proof Machine

/-- Settles O12: a write to CH_CTL in its parts (`State.writeChCtl_eq`): a start (`State.startNow_fields`), a stop, STOP_AT_CUE; a cue that fires, and
the bundle held on it, which issues (`State.recheck_cue`); and the stop of a wait that never ends, whose cause leaves the stopped channel alone. -/
theorem channelStartStop : Obligations.ChannelStartStop := by
  intro n s v hw
  exact ⟨fun hr hok hfl => completes_runStart hw hr hok hfl, fun hr hok hfl => completes_runStart_refused hw hr hok hfl,
    fun hr => completes_runStop hw hr, fun hr h1 hh => completes_stopAtCue_waits hw hr h1 hh,
    fun h q hr h1 hh hq => completes_stopAtCue_held hw hr h1 hh hq, fun hr h0 => completes_stopAtCue_idle hw hr h0,
    fun c hf hh hr => completes_cueFire hf hh hr,
    fun c f since hf hh hc hl hrun hfl hr => completes_cueFire_held hf hh hc hl hrun hfl hr,
    fun h hrun hh hp hq => completes_unarmedWait hrun hh hp hq⟩

end

section
/-!
A departing flit makes room for the next payload, whose read may meet a word that cannot be read (R81, R116): the case that O14 leaves out.
-/

namespace Sys2Proof.Machine

/-- A descriptor of two flits: the first waits in the TXQ, the second is still in channel SRAM at byte 256, where word 32 cannot be corrected. -/
def halfReadSend : TxDesc := ⟨0, 0, 2, 0, 0, 0, [(0, [])], 0, [(32, [(0, 1), (1, 1)])]⟩

/-- Channel 0 runs with that descriptor in TXQ 0, in the slot in which its first flit leaves. -/
def departing : State :=
  let s := State.reset.setFld (chStatus 0) CH_STATUS_STATE stRunning
  s.setChan 0 { s.chan 0 with txq := (s.chan 0).txq.set 0 [halfReadSend] }

/-- The payload that takes the entry of the departing flit is a channel fault, which discards the TXQ. -/
theorem departing_faults : ∃ t, exec (.flitDeparture 0 0) departing = .next t ∧ (t.chan 0).txq[0] = [] :=
  ⟨_, rfl, by decide +kernel⟩

theorem departing_queue : (departing.chan 0).txq[0] = [halfReadSend] ∧ halfReadSend.slot0 + halfReadSend.sent ≤ departing.slotNow := by
  decide +kernel

end Sys2Proof.Machine
end

section
open Sys2Proof Machine

/-- Refutes O14: the flit that leaves a TXQ makes room for the next payload, and where a word of that payload cannot be read (`departing`) the
channel faults and discards its queues (R81, R124); the statement has the rest of the descriptor stay in the TXQ whatever its reads meet. -/
theorem not_channelNetworkPort : ¬ Obligations.ChannelNetworkPort := by
  intro h
  obtain ⟨hdepart, -⟩ := h 0 0 departing
  obtain ⟨hleave, -⟩ := hdepart halfReadSend [] departing_queue.1 rfl departing_queue.2
  obtain ⟨t, ht, -, hq⟩ := hleave (0, []) rfl (Nat.zero_le _)
  obtain ⟨t', ht', hnil⟩ := departing_faults
  have he : t' = t := Host.Outcome.next.inj (ht'.symm.trans ht)
  have hempty : (t.chan 0).txq[(0 : Fin 8).val] = [] := he ▸ hnil
  rw [hempty] at hq
  exact absurd hq (List.cons_ne_nil _ _).symm

end

section
/-!
The arbiters' commands (R192 to R196, R210, R222, R223): time passes at an arbiter, then a request, a round, a release or a mask acts on it.
-/

namespace Sys2Proof.Machine

/-! ### Setting an arbiter, and time passing at it -/

theorem State.setArb_onlyStat (s : State) (a : ArbId) (x : Arb) {off : Nat} (h : off ≠ arbStatOf a) : (s.setArb a x).rd off = s.rd off := by
  unfold State.setArb
  dsimp only
  rw [State.rd_setFld_other _ _ _ _ _ h, State.rd_setFld_other _ _ _ _ _ h, State.rd_setFld_other _ _ _ _ _ h, State.rd_setFld_other _ _ _ _ _ h]
  rfl

/-- An arbiter at which `dt` cycles have passed. -/
def Arb.passed (x : Arb) (dt : Nat) : Arb := { x with reqs := x.reqs.map fun r => { r with wait := r.wait.map (· + dt) } }

theorem Arb.passed_req (x : Arb) (dt : Nat) (k : Fin 10) : (x.passed dt).reqs[k] = { x.reqs[k] with wait := x.reqs[k].wait.map (· + dt) } := by
  simp [Arb.passed]

theorem State.starve_onlyRegs (s : State) (a : ArbId) (k : Nat) : OnlyRegs (fun off => off = arbStatOf a) s (s.starve a k) := by
  unfold State.starve
  split
  · exact .of_eq s
  · exact (s.setFlag_onlyRegs _ _).trans (State.setFld_onlyRegs _ _ _ _)

theorem State.starve_flag (s : State) (a : ArbId) (k : Nat) : (s.starve a k).flag (arbStatOf a) ARB_STAT_STARVE = true := by
  unfold State.starve
  split
  · assumption
  · rw [State.flag, State.fld_setFld_field _ _ _ _ _ (by decide) (by decide), State.setFlag, State.keepSet_fld, State.fld_setFld_same _ _ _ _ (by decide)]
    rfl

section
variable (s : State) (a : ArbId) (dt : Nat)

/-- Time passing at an arbiter: the waits grow, and STARVE may show. -/
theorem State.arbPass_eq : ∃ u, OnlyRegs (fun off => off = arbStatOf a) (s.setArb a ((s.arb a).passed dt)) u ∧ s.arbPass a dt = u := by
  refine ⟨_, ?_, rfl⟩
  unfold State.arbPass
  dsimp only
  split
  · exact State.starve_onlyRegs _ a _
  · exact .of_eq _

theorem OnlyRegs.arb {p : Nat → Prop} {s t : State} (h : OnlyRegs p s t) (a : ArbId) : t.arb a = s.arb a := by
  rw [State.arb, h.2]
  rfl

theorem State.arbPass_arb : (s.arbPass a dt).arb a = (s.arb a).passed dt := by
  obtain ⟨u, hu, he⟩ := s.arbPass_eq a dt
  rw [he, hu.arb, State.setArb_arb_same]

theorem State.arbPass_rd {off : Nat} (h : off ≠ arbStatOf a) : (s.arbPass a dt).rd off = s.rd off := by
  obtain ⟨u, hu, he⟩ := s.arbPass_eq a dt
  rw [he, hu.1 _ h, State.setArb_onlyStat _ _ _ h]

theorem State.arbPass_chan (n : Fin 8) : (s.arbPass a dt).chan n = s.chan n := by
  obtain ⟨u, hu, he⟩ := s.arbPass_eq a dt
  rw [he, hu.chan, (s.setArb_onlyArbs a _).chan]

theorem State.arbPass_mem : (s.arbPass a dt).mem = s.mem := by
  obtain ⟨u, hu, he⟩ := s.arbPass_eq a dt
  rw [he, hu.mem, (s.setArb_onlyArbs a _).mem]

theorem State.arbPass_memUsable : (s.arbPass a dt).memUsable = s.memUsable := by
  have hne : mcStatus ≠ arbStatOf a := by cases a <;> simp only [mcStatus, arbStatOf, arbStatM, arbStatB] <;> omega
  rw [State.memUsable, State.flag, State.fld, s.arbPass_rd a dt hne, s.arbPass_mem a dt]
  rfl

end

/-- The registers that a round reads are not the one that shows the arbiter. -/
theorem arbCtlOf_ne_stat (a : ArbId) : arbCtlOf a ≠ arbStatOf a := by
  cases a <;> simp only [arbCtlOf, arbStatOf, arbCtlM, arbStatM, arbCtlB, arbStatB] <;> omega

theorem arbPrioOf_ne_stat (a : ArbId) : arbPrioOf a ≠ arbStatOf a := by
  cases a <;> simp only [arbPrioOf, arbStatOf, arbPrioM, arbStatM, arbPrioB, arbStatB] <;> omega

theorem State.arbPick_congr {s t : State} {a : ArbId} (hc : t.rd (arbCtlOf a) = s.rd (arbCtlOf a)) (hp : t.rd (arbPrioOf a) = s.rd (arbPrioOf a))
    (x : Arb) : t.arbPick a x = s.arbPick a x := by
  have hl : t.arbLevel a x = s.arbLevel a x := by
    funext k
    rw [State.arbLevel, State.arbLevel, State.arbBase, State.fld, hp, ← State.fld, ← State.arbBase]
  unfold State.arbPick State.arbN
  rw [hl, State.fld, hc, ← State.fld]

/-- What a round's choice is made from does not change as time passes. -/
theorem State.arbPass_pick (s : State) (a : ArbId) (dt : Nat) (x : Arb) : (s.arbPass a dt).arbPick a x = s.arbPick a x :=
  State.arbPick_congr (s.arbPass_rd a dt (arbCtlOf_ne_stat a)) (s.arbPass_rd a dt (arbPrioOf_ne_stat a)) x

/-! ### Requests (R192) -/

theorem completes_arbRequest {s : State} {a : ArbId} {k : Fin 10} (dt : Nat) (hk : k.val < arbSize a) (hm : (s.arb a).reqs[k].masked = false)
    (ha : (s.arb a).reqs[k].asking = false) (hh : (s.arb a).holder ≠ some k.val) : Completes (.arbRequest a k dt) s fun t =>
      (t.arb a).reqs[k] = ⟨true, (s.arb a).reqs[k].boost, some 0, false⟩ := by
  refine ⟨_, rfl, ?_⟩
  have hreq := (s.arb a).passed_req dt k
  have hraise : (s.arbPass a dt).arbRaise a k = (s.arbPass a dt).setArb a (((s.arb a).passed dt).raised k) := by
    unfold State.arbRaise
    dsimp only
    rw [s.arbPass_arb a dt]
    refine if_neg ?_
    rintro (h | h | h | h)
    · omega
    · rw [hreq] at h
      exact Bool.false_ne_true (hm.symm.trans h)
    · rw [hreq] at h
      exact Bool.false_ne_true (ha.symm.trans h)
    · exact hh h
  rw [hraise]
  dsimp only
  rw [State.setArb_arb_same, Arb.raised_get, if_pos rfl, hreq]
  dsimp only
  rw [hm]

/-! ### Rounds (R192, R210) -/

/-- What a grant to `k` does to another requester that waits. -/
def boosted (k : Fin 10) (j : Fin 10) (r : ArbReq) : ArbReq := if j ≠ k ∧ r.asking ∧ !r.masked then { r with boost := min 7 (r.boost + 1) } else r

/-- The step of a grant for requester `j`. -/
def boostAt (k : Fin 10) (v : Vector ArbReq 10) (j : Fin 10) : Vector ArbReq 10 :=
  if j ≠ k ∧ v[j].asking ∧ !v[j].masked then v.set j { v[j] with boost := min 7 (v[j].boost + 1) } else v

theorem boostAt_get (k : Fin 10) (v : Vector ArbReq 10) (j i : Fin 10) : (boostAt k v j)[i] = if i = j then boosted k i v[i] else v[i] := by
  unfold boostAt boosted
  by_cases h : j ≠ k ∧ v[j].asking ∧ !v[j].masked
  · rw [if_pos h, Fin.getElem_fin, Vector.getElem_set]
    by_cases he : i = j
    · subst he
      rw [if_pos rfl, if_pos rfl, if_pos h]
    · rw [if_neg (fun e => he (Fin.ext e.symm)), if_neg he]
      rfl
  · rw [if_neg h]
    by_cases he : i = j
    · subst he
      rw [if_pos rfl, if_neg h]
    · rw [if_neg he]

theorem foldl_boostAt (k : Fin 10) (l : List (Fin 10)) (hl : l.Nodup) (v : Vector ArbReq 10) (i : Fin 10) :
    (l.foldl (boostAt k) v)[i] = if i ∈ l then boosted k i v[i] else v[i] := by
  induction l generalizing v with
  | nil => rfl
  | cons j l ih =>
    obtain ⟨hj, hl⟩ := List.nodup_cons.mp hl
    rw [List.foldl_cons, ih hl, boostAt_get]
    by_cases he : i = j
    · subst he
      rw [if_neg hj, if_pos rfl, if_pos List.mem_cons_self]
    · simp only [List.mem_cons, he, false_or, if_false]

/-- The requesters once a grant to `k` has raised the boosts. -/
theorem boost_all (k : Fin 10) (v : Vector ArbReq 10) (i : Fin 10) : ((fins 10).foldl (boostAt k) v)[i] = boosted k i v[i] := by
  rw [fins, foldl_boostAt k _ (List.nodup_finRange 10), if_pos (List.mem_finRange i)]

/-- A grant: the hold, the winner's record cleared, the others' boosts, and the grant counted. -/
theorem State.arbGrant_grants (s : State) (a : ArbId) (k : Fin 10) (reserved : Bool) :
    ((s.arbGrant a k reserved).arb a).holder = some k.val ∧ ((s.arbGrant a k reserved).arb a).reqs[k] = ⟨false, 0, none, false⟩ ∧
      ((s.arbGrant a k reserved).arb a).since = (if reserved then 0 else (s.arb a).since + 1) ∧
      (s.arbGrant a k reserved).fld (arbCntOf a k) ARB_CNT_GRANTS = bumped s (arbCntOf a k) ARB_CNT_GRANTS ∧
      ∀ j : Fin 10, j ≠ k → ((s.arbGrant a k reserved).arb a).reqs[j] = boosted k j (s.arb a).reqs[j] := by
  have hstat : arbCntOf a k ≠ arbStatOf a := by
    have := k.isLt
    cases a <;> simp only [arbCntOf, arbStatOf, arbCntM, arbStatM, arbCntB, arbStatB] <;> omega
  have hlong : arbCntOf a k ≠ arbLongestOf a k := by
    have := k.isLt
    cases a <;> simp only [arbCntOf, arbLongestOf, arbCntM, arbLongestM, arbCntB, arbLongestB] <;> omega
  have hg : ∃ u : State, u.fld (arbCntOf a k) ARB_CNT_GRANTS = bumped s (arbCntOf a k) ARB_CNT_GRANTS ∧ s.arbGrant a k reserved =
      u.setArb a ⟨some k.val, ((fins 10).foldl (boostAt k) (s.arb a).reqs).set k ⟨false, 0, none, false⟩, if reserved then 0 else (s.arb a).since + 1⟩ := by
    refine ⟨_, ?_, rfl⟩
    rw [State.maxFld, State.fld_setFld_other _ _ _ _ _ _ hlong]
    split
    · refine (State.fld_setFld_field _ _ _ _ _ (by decide) (by decide)).trans ?_
      exact s.fld_bump_same _ _ (by decide)
    · exact s.fld_bump_same _ _ (by decide)
  obtain ⟨u, hu, he⟩ := hg
  rw [he, State.setArb_arb_same]
  refine ⟨rfl, ?_, rfl, ?_, fun j hj => ?_⟩
  · simp
  · rw [State.fld, State.setArb_onlyStat _ _ _ hstat, ← State.fld, hu]
  · rw [Fin.getElem_fin, Vector.getElem_set_ne _ _ (fun e => hj (Fin.ext e.symm)), ← Fin.getElem_fin, boost_all]

/-- A resource is as free as before the cycles passed. -/
theorem State.arbPass_arbFree (s : State) (a b : ArbId) (dt : Nat) : (s.arbPass a dt).arbFree b = s.arbFree b := by
  cases b with
  | mem c => exact s.arbPass_memUsable a dt
  | bank n b =>
    have hst : chStatus n ≠ arbStatOf a := by cases a <;> simp only [chStatus, arbStatOf, arbStatM, arbStatB] <;> omega
    have hp : pwrArith ≠ arbStatOf a := by cases a <;> simp only [pwrArith, arbStatOf, arbStatM, arbStatB] <;> omega
    have ht : timNow ≠ arbStatOf a := by cases a <;> simp only [timNow, arbStatOf, arbStatM, arbStatB] <;> omega
    have hc := s.arbPass_chan a dt n
    have hcyc : (s.arbPass a dt).cycleNow n = s.cycleNow n :=
      State.cycleNow_congr (by rw [hc]) (by rw [hc]) (s.arbPass_rd a dt hp) (s.arbPass_rd a dt ht)
    unfold State.arbFree
    dsimp only
    rw [State.running_of_rd (s.arbPass_rd a dt hst), hcyc, hc]

theorem completes_arbRound {s : State} {a : ArbId} {dt : Nat} {k : Fin 10} {reserved : Bool} (hh : (s.arb a).holder = none)
    (hmem : ∀ c, a = .mem c → s.memUsable = true) (hbank : (∃ n b, a = .bank n b) → dt ≠ 0 ∨ s.arbFree a = true)
    (hp : s.arbPick a ((s.arb a).passed dt) = some (k, reserved)) : Completes (.arbRound a dt) s fun t =>
      (t.arb a).holder = some k.val ∧ (t.arb a).reqs[k] = ⟨false, 0, none, false⟩ ∧
      (t.arb a).since = (if reserved then 0 else (s.arb a).since + 1) ∧
      t.fld (arbCntOf a k) ARB_CNT_GRANTS = min (2 ^ 32 - 1) (s.fld (arbCntOf a k) ARB_CNT_GRANTS + 1) ∧
      ∀ j : Fin 10, j ≠ k → (t.arb a).reqs[j].boost =
        if (s.arb a).reqs[j].asking ∧ (s.arb a).reqs[j].masked = false then min 7 ((s.arb a).reqs[j].boost + 1) else (s.arb a).reqs[j].boost := by
  have hx := s.arbPass_arb a dt
  have hpick := (s.arbPass_pick a dt ((s.arb a).passed dt)).trans hp
  have he : exec (.arbRound a dt) s = .next ((s.arbPass a dt).arbGrant a k reserved) := by
    change execArbRound a dt s = _
    unfold execArbRound
    dsimp only
    rw [hx, hpick, show ((s.arb a).passed dt).holder = none from hh]
    dsimp only
    cases a with
    | mem c => rw [s.arbPass_memUsable, hmem c rfl, if_pos rfl]
    | bank n b =>
      rw [s.arbPass_arbFree]
      refine congrArg _ (if_pos ?_)
      rcases hbank ⟨n, b, rfl⟩ with h | h
      · rw [decide_eq_true h, Bool.true_or]
      · rw [h, Bool.or_true]
  obtain ⟨h1, h2, h3, h4, h5⟩ := (s.arbPass a dt).arbGrant_grants a k reserved
  have hcnt : arbCntOf a k ≠ arbStatOf a := by
    have := k.isLt
    cases a <;> simp only [arbCntOf, arbStatOf, arbCntM, arbStatM, arbCntB, arbStatB] <;> omega
  refine ⟨_, he, h1, h2, h3.trans (by rw [hx]; rfl), ?_, fun j hj => ?_⟩
  · rw [h4, bumped, State.fld, s.arbPass_rd a dt hcnt]
    rfl
  · rw [h5 j hj, hx, Arb.passed_req, boosted]
    simp only [hj, ne_eq, not_false_eq_true, true_and, Bool.not_eq_true']
    split <;> rfl

theorem completes_arbRound_early {s : State} {c : Fin 128} (dt : Nat) (hu : s.memUsable = false) : Completes (.arbRound (.mem c) dt) s fun t =>
    (t.arb (.mem c)).holder = (s.arb (.mem c)).holder := by
  have he : exec (.arbRound (.mem c) dt) s = .next (s.arbPass (.mem c) dt) := by
    change execArbRound (.mem c) dt s = _
    unfold execArbRound
    dsimp only
    rw [s.arbPass_memUsable, hu]
    split
    · rw [if_neg Bool.false_ne_true]
    · rfl
  refine ⟨_, he, ?_⟩
  dsimp only
  rw [s.arbPass_arb]
  rfl

/-! ### Releases and masks (R193, R194) -/

theorem completes_arbRelease {s : State} {a : ArbId} (dt : Nat) : Completes (.arbRelease a dt) s fun t => (t.arb a).holder = none := by
  refine ⟨_, rfl, ?_⟩
  dsimp only
  rw [State.arbDrop, State.setArb_arb_same]

theorem State.arbMask_masks {s : State} {a : ArbId} {k : Fin 10} (hk : k.val < arbSize a) :
    ((s.arbMask a k).arb a).reqs[k] = ⟨false, 0, none, true⟩ ∧ ((s.arbMask a k).arb a).holder ≠ some k.val := by
  unfold State.arbMask
  dsimp only
  rw [if_neg (Nat.not_le_of_lt hk), State.setArb_arb_same]
  refine ⟨by simp, ?_⟩
  dsimp only
  split
  · exact fun h => absurd h (by simp)
  · assumption

theorem State.withdraw_onlyChan (s : State) (n : Fin 8) (c : Nat) : OnlyChan n (fun _ => False) s (s.withdraw n c) := by
  refine .foldl _ _ (fun s q _ => ?_) s
  dsimp only
  split
  · exact s.setStream_onlyChan _ n q _
  · exact .of_eq s

theorem OnlyChan.arb {n : Fin 8} {p : Nat → Prop} {s t : State} (h : OnlyChan n p s t) (a : ArbId) : t.arb a = s.arb a := by
  rw [State.arb, h.2.2]
  rfl

theorem State.withdraw_arb (s : State) (n : Fin 8) (c : Nat) (a : ArbId) : (s.withdraw n c).arb a = s.arb a := (s.withdraw_onlyChan n c).arb a

theorem completes_arbMaskRise {s : State} {a : ArbId} {k : Fin 10} (hk : k.val < arbSize a) : Completes (.arbMaskRise a k) s fun t =>
    (t.arb a).reqs[k] = ⟨false, 0, none, true⟩ ∧ (t.arb a).holder ≠ some k.val := by
  have hmask := State.arbMask_masks (s := s) hk
  cases a with
  | bank n b => exact ⟨_, rfl, hmask⟩
  | mem c =>
    have he : exec (.arbMaskRise (.mem c) k) s =
        .next (if h : k.val < 8 then (s.arbMask (.mem c) k).withdraw ⟨k, h⟩ c else s.arbMask (.mem c) k) := rfl
    refine ⟨_, he, ?_⟩
    generalize s.arbMask (.mem c) k = u at hmask ⊢
    split
    · simp only [State.withdraw_arb]
      exact hmask
    · exact hmask

theorem completes_arbMaskFall {s : State} {a : ArbId} {k : Fin 10} (hm : (s.arb a).reqs[k].masked = true) :
    Completes (.arbMaskFall a k) s fun t => (t.arb a).reqs[k] = ⟨false, 0, none, false⟩ := by
  refine ⟨_, rfl, ?_⟩
  unfold State.arbUnmask
  dsimp only
  rw [if_pos hm, State.setArb_arb_same]
  simp

/-! ### STARVE (R196) -/

theorem completes_starveDetect {s : State} {a : ArbId} {k : Fin 10} {dt w : Nat} (hw : (s.arb a).reqs[k].wait = some w)
    (h0 : s.fld (arbCtlOf a) ARB_CTL_STARVE_THRESH ≠ 0) (hlt : s.fld (arbCtlOf a) ARB_CTL_STARVE_THRESH < w + dt) :
    Completes (.starveDetect a k dt) s fun t => t.flag (arbStatOf a) ARB_STAT_STARVE = true := by
  refine ⟨_, rfl, ?_⟩
  have hth : (s.arbPass a dt).fld (arbCtlOf a) ARB_CTL_STARVE_THRESH = s.fld (arbCtlOf a) ARB_CTL_STARVE_THRESH := by
    rw [State.fld, s.arbPass_rd a dt (arbCtlOf_ne_stat a), State.fld]
  have hst : (s.arbPass a dt).starved a ((s.arbPass a dt).arb a) k = true := by
    unfold State.starved
    dsimp only
    rw [s.arbPass_arb, Arb.passed_req, hw, hth]
    exact decide_eq_true ⟨h0, hlt⟩
  dsimp only
  rw [if_pos hst]
  exact State.starve_flag _ a k

/-! ### Writes of the arbiters' registers (R195, R222, R223) -/

/-- A whole write of a register without bits that a write clears or sets: its writable fields are as written. -/
theorem getF_writeWord {fs : List FieldDef} (hc : accMask (fun f => decide (f.acc = .w1c)) fs = 0#64)
    (hs : accMask (fun f => decide (f.acc = .w1s)) fs = 0#64) (before old v : Word64) {f : Fld}
    (hf : ∀ i < f.w, (accMask (fun f => decide (f.acc = .rw) || (decide (f.acc = .rwl) && !false)) fs).getLsbD (f.lo + i) = true) :
    getF (writeWord fs false before old v (~~~0)) f = getF v f := by
  have he : writeWord fs false before old v (~~~0) = (old &&& ~~~accMask (fun f => decide (f.acc = .rw) || (decide (f.acc = .rwl) && !false)) fs) |||
      (v &&& accMask (fun f => decide (f.acc = .rw) || (decide (f.acc = .rwl) && !false)) fs) := by
    have hall : (~~~0 : Word64) = BitVec.allOnes 64 := by decide
    unfold writeWord
    simp only [hc, hs, hall, BitVec.not_zero, BitVec.and_allOnes, BitVec.zero_and, BitVec.or_zero]
  rw [he]
  exact getF_eq_of_masked (masked_xor _ _ _) hf

/-- The kind and number of an arbiter's register block. -/
def arbCtlKind : ArbId → RegKind × Nat
  | .mem c => (.arbCtlM, c)
  | .bank n _ => (.arbCtlB, n)

def arbPrioKind : ArbId → RegKind × Nat
  | .mem c => (.arbPrioM, c)
  | .bank n _ => (.arbPrioB, n)

theorem locate_arbCtl (a : ArbId) : locate (arbCtlOf a) = some ((arbCtlKind a).1, (arbCtlKind a).2, 0) := by
  cases a with
  | mem c => revert c; decide +kernel
  | bank n b => exact (show ∀ n : Fin 8, locate (arbCtlB n) = some (.arbCtlB, n.val, 0) by decide +kernel) n

theorem locate_arbPrio (a : ArbId) : locate (arbPrioOf a) = some ((arbPrioKind a).1, (arbPrioKind a).2, 0) := by
  cases a with
  | mem c => revert c; decide +kernel
  | bank n b => exact (show ∀ n : Fin 8, locate (arbPrioB n) = some (.arbPrioB, n.val, 0) by decide +kernel) n

/-- The fields of ARB_CTL after a write. -/
theorem State.writePlain_arbCtl (s : State) (a : ArbId) (v : Word64) {f : Fld} (hf : f = ARB_CTL_N ∨ f = ARB_CTL_STARVE_THRESH) :
    (s.writePlain (arbCtlOf a) v (~~~0)).fld (arbCtlOf a) f = getF v f := by
  have hk : (arbCtlKind a).1 ≠ .netPlace := by cases a <;> exact fun h => RegKind.noConfusion h
  rw [State.writePlain_eq (locate_arbCtl a) hk, State.nextCycle_fld, State.fld, State.rd_wr_same]
  cases a with
  | mem c =>
    exact getF_writeWord (fs := RegKind.arbCtlM.fields) (by decide +kernel) (by decide +kernel) _ _ _ (by rcases hf with rfl | rfl <;> decide +kernel)
  | bank n b =>
    exact getF_writeWord (fs := RegKind.arbCtlB.fields) (by decide +kernel) (by decide +kernel) _ _ _ (by rcases hf with rfl | rfl <;> decide +kernel)

theorem State.writeAll_arbPrio (s : State) (a : ArbId) (v : Word64) {k : Nat} (hk : k < arbSize a) :
    (s.writeAll (arbPrioOf a) v).arbBase a k = getF v ⟨4 * k, 3⟩ := by
  have hne : (arbPrioKind a).1 ≠ .netPlace := by cases a <;> exact fun h => RegKind.noConfusion h
  unfold State.arbBase State.writeAll
  rw [State.writePlain_eq (locate_arbPrio a) hne, State.nextCycle_fld, State.fld, State.rd_wr_same]
  cases a with
  | mem c =>
    have hbits : ∀ k < 10, ∀ i < 3, (accMask (fun f => decide (f.acc = .rw) || (decide (f.acc = .rwl) && !false))
      RegKind.arbPrioM.fields).getLsbD (4 * k + i) = true := by decide +kernel
    exact getF_writeWord (fs := RegKind.arbPrioM.fields) (by decide +kernel) (by decide +kernel) _ _ _ (hbits k hk)
  | bank n b =>
    have hbits : ∀ k < 5, ∀ i < 3, (accMask (fun f => decide (f.acc = .rw) || (decide (f.acc = .rwl) && !false))
      RegKind.arbPrioB.fields).getLsbD (4 * k + i) = true := by decide +kernel
    exact getF_writeWord (fs := RegKind.arbPrioB.fields) (by decide +kernel) (by decide +kernel) _ _ _ (hbits k hk)

theorem completes_arbPrioWrite {s : State} {a : ArbId} {v : Word64} (hw : s.takesWrites (arbPrioOf a) = true) : Completes (.arbPrioWrite a v) s fun t =>
    (∀ k, k < arbSize a → t.arbBase a k = getF v ⟨4 * k, 3⟩) ∧ t.arbs = s.arbs ∧ OnlyRegs (fun off => off = arbPrioOf a) s t := by
  have hne : (arbPrioKind a).1 ≠ .netPlace := by cases a <;> exact fun h => RegKind.noConfusion h
  have h : OnlyRegs (fun off => off = arbPrioOf a) s (s.writeAll (arbPrioOf a) v) := State.writePlain_onlyRegs (locate_arbPrio a) hne _ _
  have he : exec (.arbPrioWrite a v) s = .next (s.writeAll (arbPrioOf a) v) := congrArg _ (if_pos hw)
  exact ⟨_, he, fun k hk => s.writeAll_arbPrio a v hk, by rw [h.2], h⟩

/-- The count toward the reserved grant restarts. -/
def State.restartCount (s : State) (a : ArbId) : State := s.setArb a { s.arb a with since := 0 }

theorem State.restartCount_arb (s : State) (a b : ArbId) : ((s.restartCount a).arb b).reqs = (s.arb b).reqs ∧
    ((s.restartCount a).arb b).since = if arbKey b = arbKey a then 0 else (s.arb b).since := by
  rw [State.restartCount, State.setArb_arb]
  split
  · next h =>
    rw [State.arb, ← h]
    exact ⟨rfl, rfl⟩
  · exact ⟨rfl, rfl⟩

/-- Restarting the counts of several banks of a channel. -/
theorem State.foldl_restartCount (n : Fin 8) (b : Fin 64) (l : List (Fin 64)) (s : State) :
    ((l.foldl (fun s c => s.restartCount (.bank n c)) s).arb (.bank n b)).reqs = (s.arb (.bank n b)).reqs ∧
      ((b ∈ l ∨ (s.arb (.bank n b)).since = 0) → ((l.foldl (fun s c => s.restartCount (.bank n c)) s).arb (.bank n b)).since = 0) ∧
      ∀ off, off ≠ arbStatB n → (l.foldl (fun s c => s.restartCount (.bank n c)) s).rd off = s.rd off := by
  induction l generalizing s with
  | nil => exact ⟨rfl, fun h => h.resolve_left List.not_mem_nil, fun _ _ => rfl⟩
  | cons c l ih =>
    obtain ⟨h1, h2, h3⟩ := ih (s.restartCount (.bank n c))
    obtain ⟨g1, g2⟩ := s.restartCount_arb (.bank n c) (.bank n b)
    refine ⟨h1.trans g1, fun h => h2 ?_, fun off ho => (h3 off ho).trans (s.setArb_onlyStat (.bank n c) _ ho)⟩
    rw [List.mem_cons] at h
    rcases h with (rfl | h) | h
    · exact .inr (g2.trans (if_pos rfl))
    · exact .inl h
    · refine .inr (g2.trans ?_)
      split
      · rfl
      · exact h

theorem completes_arbCtlWrite {s : State} {a : ArbId} {v : Word64} (hw : s.takesWrites (arbCtlOf a) = true) : Completes (.arbCtlWrite a v) s fun t =>
    (t.arb a).since = 0 ∧ (t.arb a).reqs = (s.arb a).reqs ∧ t.fld (arbCtlOf a) ARB_CTL_N = getF v ARB_CTL_N ∧
      t.fld (arbCtlOf a) ARB_CTL_STARVE_THRESH = getF v ARB_CTL_STARVE_THRESH := by
  have hne : (arbCtlKind a).1 ≠ .netPlace := by cases a <;> exact fun h => RegKind.noConfusion h
  have hreg : OnlyRegs (fun off => off = arbCtlOf a) s (s.writePlain (arbCtlOf a) v (~~~0)) := State.writePlain_onlyRegs (locate_arbCtl a) hne _ _
  have hN := s.writePlain_arbCtl a v (f := ARB_CTL_N) (.inl rfl)
  have hT := s.writePlain_arbCtl a v (f := ARB_CTL_STARVE_THRESH) (.inr rfl)
  have hm : ¬ getF (~~~0 : Word64) ARB_CTL_N = 0 := by decide
  have hctl := arbCtlOf_ne_stat a
  have hmain (t : State) (h1 : (t.arb a).since = 0) (h2 : (t.arb a).reqs = ((s.writePlain (arbCtlOf a) v (~~~0)).arb a).reqs)
      (h3 : t.rd (arbCtlOf a) = (s.writePlain (arbCtlOf a) v (~~~0)).rd (arbCtlOf a)) : (t.arb a).since = 0 ∧ (t.arb a).reqs = (s.arb a).reqs ∧
        t.fld (arbCtlOf a) ARB_CTL_N = getF v ARB_CTL_N ∧ t.fld (arbCtlOf a) ARB_CTL_STARVE_THRESH = getF v ARB_CTL_STARVE_THRESH := by
    refine ⟨h1, h2.trans (by rw [hreg.arb]), ?_, ?_⟩
    · rw [State.fld, h3]; exact hN
    · rw [State.fld, h3]; exact hT
  generalize hu : s.writePlain (arbCtlOf a) v (~~~0) = u at *
  have he : exec (.arbCtlWrite a v) s = .next (s.writeArbCtl a v (~~~0)) := congrArg _ (if_pos hw)
  refine ⟨_, he, ?_⟩
  unfold State.writeArbCtl
  rw [hu]
  dsimp only
  rw [if_neg hm]
  cases a with
  | mem c =>
    obtain ⟨h1, h2⟩ := u.restartCount_arb (.mem c) (.mem c)
    exact hmain _ (h2.trans (if_pos rfl)) h1 (u.setArb_onlyStat _ _ hctl)
  | bank n b =>
    obtain ⟨h1, h2, h3⟩ := State.foldl_restartCount n b (fins 64) u
    exact hmain _ (h2 (.inl (List.mem_finRange b))) h1 (h3 _ hctl)

end Sys2Proof.Machine
end

section
open Sys2Proof Machine

/-- Settles O16: time passes at the arbiter (`State.arbPass_arb`), which leaves what a round chooses from (`State.arbPass_pick`); a grant raises the
boosts of the others (`boost_all`) and is counted; the writes are plain but for the count that ARB_CTL restarts. -/
theorem arbiterCommands : Obligations.ArbiterCommands := by
  intro a s
  exact ⟨fun k dt hk hm ha hh => completes_arbRequest dt hk hm ha hh,
    fun dt k reserved hh hmem hbank hp => completes_arbRound hh hmem hbank hp,
    fun c dt ha hu => by subst ha; exact completes_arbRound_early dt hu, fun dt => completes_arbRelease dt, fun k hk => completes_arbMaskRise hk,
    fun k hm => completes_arbMaskFall hm, fun k dt w hw h0 hlt => completes_starveDetect hw h0 hlt, fun v hw => completes_arbPrioWrite hw,
    fun v hw => completes_arbCtlWrite hw⟩

end

section
/-!
The stream engines (R182, R188 to R190): which fields of a channel a raised cause leaves, what a read of clean or of poisoned sectors gives, and what an
engine's commands do to it.
-/

namespace Sys2Proof.Machine

/-! ### Raised causes and the stream engines -/

/-- Every channel's stream engines are the same. -/
def SameStreams (s t : State) : Prop := ∀ m, (t.chan m).streams = (s.chan m).streams

theorem SameStreams.refl (s : State) : SameStreams s s := fun _ => rfl

theorem SameStreams.trans {s t u : State} (h : SameStreams s t) (h' : SameStreams t u) : SameStreams s u := fun m => (h' m).trans (h m)

theorem SameStreams.foldl {α : Type} (f : State → α → State) (h : ∀ s x, SameStreams s (f s x)) (l : List α) (s : State) :
    SameStreams s (l.foldl f s) := by
  induction l generalizing s with
  | nil => exact .refl s
  | cons x l ih => exact (h s x).trans (ih _)

theorem SameStreams.stream {s t : State} (h : SameStreams s t) (n : Fin 8) (q : Nat) : (t.chan n).stream q = (s.chan n).stream q := by
  rw [Chan.stream, h n, Chan.stream]

theorem ChansFrame.sameStreams {p : Nat → Prop} {s t : State} (h : ChansFrame p s t) : SameStreams s t := fun m => by rw [h.chan]

theorem State.stopCue_streams (s : State) (n : Fin 8) (cue : Nat) : ((s.stopCue n cue).chan n).streams = (s.chan n).streams := by
  rw [State.stopCue, State.showQueues_chan, State.stopRegs_chan, State.setChan_chan_same, State.endRun_chan]
  rfl

theorem State.setStopAtCue_sameStreams (s : State) (n : Fin 8) : SameStreams s (s.setStopAtCue n) := by
  intro m
  by_cases e : m = n
  · subst e
    unfold State.setStopAtCue
    split
    · dsimp only
      split
      · split
        · rw [State.stopCue_streams]; rfl
        · rfl
      · rfl
    · rfl
  · rw [(s.setStopAtCue_onlyChan n).2.1 m e]

theorem State.enterCurtain_sameStreams (s : State) (nt : Notice) : SameStreams s (s.enterCurtain nt) := by
  unfold State.enterCurtain
  extract_lets t _ u
  have hu : SameStreams s u := fun _ => rfl
  refine hu.trans (SameStreams.foldl _ (fun s m => ?_) _ u)
  split
  · exact s.setStopAtCue_sameStreams m
  · exact .refl s

theorem State.raiseCause_sameStreams (s : State) (code unit detail : Nat) (origin : Option Notice) :
    SameStreams s (s.raiseCause code unit detail origin) := by
  obtain ⟨u, z, nt, hu, hz, hor⟩ := s.raiseCause_parts code unit detail origin
  have hsz : SameStreams s z := hu.sameStreams.trans ((u.alert_chans [0]).sameStreams.trans
    ((State.intFault_onlyRegs _ code).chansFrame.sameStreams.trans hz.sameStreams))
  rcases hor with e | e <;> rw [e]
  · exact hsz
  · exact hsz.trans (z.enterCurtain_sameStreams nt)

/-- A raised cause writes its own registers, and registers of channels. -/
theorem State.raiseCause_rd (s : State) (code unit detail : Nat) (origin : Option Notice) {off : Nat} (h : ¬ RaiseReg off) (hc : ¬ ChanReg off) :
    (s.raiseCause code unit detail origin).rd off = s.rd off := by
  obtain ⟨u, z, nt, hu, hz, hor⟩ := s.raiseCause_parts code unit detail origin
  simp only [RaiseReg, List.mem_cons, List.not_mem_nil, or_false, not_or] at h
  have hsz : z.rd off = s.rd off := by
    rw [hz.rd _ id, (State.intFault_onlyRegs _ code).1 _ (by tauto), (u.alert_chans [0]).rd _ (by simp; tauto), hu.rd _ (by simp [FirstReg]; tauto)]
  rcases hor with e | e <;> rw [e]
  · exact hsz
  · rw [State.enterCurtain_rd z nt (by tauto) hc, hsz]

/-! ### Reads of clean and of poisoned sectors (R178) -/

theorem decodeSyn_clean : decodeSyn (syndrome false []) = .clean := by decide

theorem decodeSyn_poison : decodeSyn (syndrome true []) = .poison := by decide

theorem errOf_nil (k : Nat) : errOf [] k = [] := rfl

theorem State.readSector_clean {s : State} {c sec : Nat} (h : s.mem.poisoned c sec = false) : s.readSector c sec [] = (s, some (s.mem.sector c sec)) := by
  unfold State.readSector
  rw [h, decodeSyn_clean]
  rfl

theorem State.readSector_poison {s : State} {c sec : Nat} (h : s.mem.poisoned c sec = true) : s.readSector c sec [] = (s.memPoisonMet c sec, none) := by
  unfold State.readSector
  rw [h, decodeSyn_poison]

/-- A read of sectors none of which is poisoned changes nothing and reads them all. -/
theorem State.memRead_clean {s : State} {a len : Nat} (h : ∀ sec ∈ sectorsOf a len, s.mem.poisoned (s.memMap sec).1 (s.memMap sec).2 = false) :
    (s.memRead a len []).1 = s ∧ (s.memRead a len []).2.2 = [] := by
  rw [State.memRead_eq, State.readAll]
  have hl : ∀ x ∈ (sectorsOf a len).zipIdx, s.mem.poisoned (s.memMap x.1).1 (s.memMap x.1).2 = false :=
    fun x hx => h x.1 (List.fst_mem_of_mem_zipIdx hx)
  generalize (sectorsOf a len).zipIdx = l at hl
  suffices hb : ∀ b, (l.foldl (readOne []) (s, b, [])).1 = s ∧ (l.foldl (readOne []) (s, b, [])).2.2 = [] from hb []
  induction l with
  | nil => exact fun _ => ⟨rfl, rfl⟩
  | cons x l ih =>
    intro b
    have hx : readOne [] (s, b, []) x = (s, b ++ s.mem.sector (s.memMap x.1).1 (s.memMap x.1).2, []) := by
      simp only [readOne, errOf_nil, State.readSector_clean (hl x List.mem_cons_self)]
    rw [List.foldl_cons, hx]
    exact ih (fun y hy => hl y (List.mem_cons_of_mem x hy)) _

/-- One more sector leaves those already found unreadable. -/
theorem readOne_bad (errs : List (Nat × SymErr)) {acc : State × List Byte × List Nat} (h : acc.2.2 ≠ []) (x : Nat × Nat) :
    (readOne errs acc x).2.2 ≠ [] := by
  obtain ⟨s, b, bad⟩ := acc
  simp only [readOne]
  split
  · exact h
  · exact List.append_ne_nil_of_right_ne_nil _ (List.cons_ne_nil _ _)

theorem foldl_readOne_bad (errs : List (Nat × SymErr)) (l : List (Nat × Nat)) {acc : State × List Byte × List Nat} (h : acc.2.2 ≠ []) :
    (l.foldl (readOne errs) acc).2.2 ≠ [] := by
  induction l generalizing acc with
  | nil => exact h
  | cons x l ih => exact ih (readOne_bad errs h x)

/-- A read that meets a poisoned sector names the memory channel it could not read. -/
theorem State.memRead_poison {s : State} {a len : Nat} (h : ∃ sec ∈ sectorsOf a len, s.mem.poisoned (s.memMap sec).1 (s.memMap sec).2 = true) :
    (s.memRead a len []).2.2 ≠ [] := by
  obtain ⟨sec, hsec, hp⟩ := h
  obtain ⟨i, hi⟩ : ∃ i, (sec, i) ∈ (sectorsOf a len).zipIdx :=
    (List.mem_iff_getElem?.mp hsec).imp fun _ hg => List.mem_zipIdx_iff_getElem?.mpr hg
  rw [State.memRead_eq, State.readAll]
  generalize (sectorsOf a len).zipIdx = l at hi
  suffices hl : ∀ acc : State × List Byte × List Nat, SameContents s.mem acc.1.mem → (l.foldl (readOne []) acc).2.2 ≠ [] from hl _ (.refl _)
  induction l with
  | nil => exact absurd hi List.not_mem_nil
  | cons x l ih =>
    intro acc hc
    rw [List.foldl_cons]
    rcases List.mem_cons.mp hi with rfl | hi
    · refine foldl_readOne_bad [] l ?_
      have hq : acc.1.mem.poisoned (s.memMap sec).1 (s.memMap sec).2 = true := by rw [MemSt.poisoned, hc.poison]; exact hp
      simp only [readOne, errOf_nil, hc.memMap, State.readSector_poison hq]
      exact List.append_ne_nil_of_right_ne_nil _ (List.cons_ne_nil _ _)
    · exact ih hi _ (hc.trans (readOne_leaves [] acc x).1)

/-! ### Stops (R182, R188) -/

theorem State.stopStream_stops (s : State) (n : Fin 8) {q : Nat} (hq : q < 24) (kind : Nat) (a : Int) :
    (((s.stopStream n q kind a).chan n).stream q).busy = false ∧ (s.stopStream n q kind a).flag (mcSeErr n) MC_SE_ERR_VALID = true := by
  unfold State.stopStream
  dsimp only
  constructor
  · rw [State.showCount_chan, (State.seErr_onlyRegs _ n q _ _).chan, State.setStream_stream_same _ _ hq]
  · rw [State.flag, (State.showCount_onlyRegs _ n q).fld (mcSeErr_ne_chQCount n hq)]
    exact State.seErr_valid _ n q _ _

end Sys2Proof.Machine
end

section
/-!
What each command of a stream engine does (R155, R188 to R190): bursts that set out and complete, entries in place, and counts that cross.
-/

namespace Sys2Proof.Machine

/-! ### Bursts that set out (R188, R190, R194) -/

/-- A running engine with its descriptor, whose port has room for a burst. -/
def State.issuing (s : State) (n : Fin 8) (q : Fin 24) : Prop :=
  ((s.chan n).stream q).busy = true ∧ ((s.chan n).stream q).desc = none ∧
    sumNat ((s.chan n).streams.toList.map fun y => y.bursts.length) < 256

theorem Stream.nextBurst_fresh {x : Stream} (h : x.redo = []) (room : Nat) : x.nextBurst room =
    (x.issued, if 2 ≤ room ∧ x.entryAddr x.issued % 128 = 0 ∧ x.entryAddr (x.issued + 1) = x.entryAddr x.issued + 64 then 2 else 1) := by
  rw [Stream.nextBurst, h]
  simp only [Bool.and_eq_true, decide_eq_true_eq, and_assoc]

theorem Stream.nextBurst_redo {x : Stream} {b : Nat × Nat} {l : List (Nat × Nat)} (h : x.redo = b :: l) (room : Nat) : x.nextBurst room = b := by
  rw [Stream.nextBurst, h]

theorem Stream.burst_fresh {x : Stream} (h : x.redo = []) (b : Nat × Nat) :
    x.burst b = { x with issued := x.issued + b.2, bursts := x.bursts ++ [b] } := by
  cases x
  subst h
  rfl

theorem Stream.burst_redo {x : Stream} {b : Nat × Nat} {l : List (Nat × Nat)} (h : x.redo = b :: l) :
    x.burst b = { x with redo := l, bursts := x.bursts ++ [b] } := by
  rw [Stream.burst, h]

/-- What STREAM_BURST_ISSUE does with the burst that is next. -/
def State.issueBurst (s : State) (n : Fin 8) (q : Fin 24) (b : Nat × Nat) : State :=
  let x := (s.chan n).stream q
  let a := x.entryAddr b.1
  if !entryOk a then s.stopStream n q 0 a
  else (s.memArbs (n.castLE (by decide)) [a.toNat]).foldl (fun s r => s.arbRaise r.2 r.1) (s.setStream n q (x.burst b))

theorem exec_streamBurstIssue {n : Fin 8} {q : Fin 24} {s : State} (h : s.issuing n q)
    (hr : ((s.chan n).stream q).redo = [] → s.streamRoom n q ≠ 0) :
    exec (.streamBurstIssue n q) s = .next (s.issueBurst n q (((s.chan n).stream q).nextBurst (s.streamRoom n q))) := by
  obtain ⟨hb, hd, hp⟩ := h
  have hread : s.readDesc n q = s := by rw [State.readDesc, hd]
  have hroom : ¬ (s.streamRoom n q = 0 ∧ ((s.chan n).stream q).redo = []) := fun e => hr e.2 e.1
  have hport : ¬ 256 ≤ sumNat ((s.chan n).streams.toList.map fun y => y.bursts.length) := Nat.not_le.mpr hp
  change execStreamBurstIssue n q s = _
  simp only [execStreamBurstIssue, hread, hb, hd, decide_eq_false hroom, decide_eq_false hport, Bool.not_true, Option.isSome_none,
    Bool.or_self, Bool.false_eq_true, if_false]
  rfl

theorem State.issueBurst_ok {s : State} {n : Fin 8} {q : Fin 24} {b : Nat × Nat} (h : entryOk (((s.chan n).stream q).entryAddr b.1) = true) :
    ((s.issueBurst n q b).chan n).stream q = ((s.chan n).stream q).burst b ∧
      (∀ off, ¬ ArbRegs off → (s.issueBurst n q b).rd off = s.rd off) ∧ ∀ m, m ≠ n → (s.issueBurst n q b).chan m = s.chan m := by
  unfold State.issueBurst
  simp only [h, Bool.not_true, Bool.false_eq_true, if_false]
  have ho := OnlyArbs.foldl (fun s (r : Fin 10 × ArbId) => s.arbRaise r.2 r.1) (fun s r => s.arbRaise_onlyArbs _ _)
    (s.memArbs (n.castLE (by decide)) [(((s.chan n).stream q).entryAddr b.1).toNat]) (s.setStream n q (((s.chan n).stream q).burst b))
  refine ⟨?_, fun off hn => ?_, fun m hm => ?_⟩
  · rw [ho.chan, State.setStream_stream_same _ _ q.isLt]
  · rw [ho.1 off hn, State.setStream_rd]
  · rw [ho.chan, (State.setStream_onlyChan (fun _ => False) s n q _).2.1 m hm]

theorem State.issueBurst_outOfRange {s : State} {n : Fin 8} {q : Fin 24} {b : Nat × Nat}
    (h : entryOk (((s.chan n).stream q).entryAddr b.1) = false) :
    (((s.issueBurst n q b).chan n).stream q).busy = false ∧ (s.issueBurst n q b).flag (mcSeErr n) MC_SE_ERR_VALID = true := by
  unfold State.issueBurst
  simp only [h, Bool.not_false, if_true]
  exact s.stopStream_stops n q.isLt _ _

/-! ### Bursts that complete (R182, R189) -/

/-- An engine from which a burst has been taken. -/
def State.dropBurst (s : State) (n : Fin 8) (q : Fin 24) (k : Nat) : State :=
  s.setStream n q { (s.chan n).stream q with bursts := ((s.chan n).stream q).bursts.eraseIdx k }

@[simp] theorem State.dropBurst_stream (s : State) (n : Fin 8) (q : Fin 24) (k : Nat) :
    ((s.dropBurst n q k).chan n).stream q = { (s.chan n).stream q with bursts := ((s.chan n).stream q).bursts.eraseIdx k } :=
  State.setStream_stream_same _ _ q.isLt _

@[simp] theorem State.setStream_mem (s : State) (n : Fin 8) (q : Nat) (x : Stream) : (s.setStream n q x).mem = s.mem := by
  unfold State.setStream
  split <;> rfl

@[simp] theorem State.dropBurst_mem (s : State) (n : Fin 8) (q : Fin 24) (k : Nat) : (s.dropBurst n q k).mem = s.mem :=
  State.setStream_mem _ _ _ _

theorem OnlyArbs.dropBurst_mem {s u : State} (h : OnlyArbs s u) (n : Fin 8) (q : Fin 24) (k : Nat) : (u.dropBurst n q k).mem = s.mem := by
  rw [State.dropBurst_mem, h.mem]

theorem OnlyArbs.dropBurst_stream {s u : State} (h : OnlyArbs s u) (n : Fin 8) (q : Fin 24) (k : Nat) :
    ((u.dropBurst n q k).chan n).stream q = { (s.chan n).stream q with bursts := ((s.chan n).stream q).bursts.eraseIdx k } := by
  rw [State.dropBurst_stream, h.chan]

theorem OnlyArbs.dropBurst_entryAddr {s u : State} (h : OnlyArbs s u) (n : Fin 8) (q : Fin 24) (k i : Nat) :
    (((u.dropBurst n q k).chan n).stream q).entryAddr i = ((s.chan n).stream q).entryAddr i := by
  rw [h.dropBurst_stream]
  rfl

/-- A burst of one entry that its arbiters grant: the engine has it no longer, and its entry is handled. -/
theorem exec_burstComplete {n : Fin 8} {q : Fin 24} {k i : Nat} {s : State} (hb : ((s.chan n).stream q).bursts[k]? = some (i, 1))
    (hk : q.val < 16 ∨ k = 0)
    (hg : Granted s ((if q.val < 16 then [] else bankArbs 1 n (s.ringAddr n q i) 64) ++
      s.memArbs (n.castLE (by decide)) [(((s.chan n).stream q).entryAddr i).toNat])) :
    ∃ u, OnlyArbs s u ∧ exec (.burstComplete n q k []) s =
      .next (if q.val < 16 then (u.dropBurst n q k).loadEntry n q i [] else (u.dropBurst n q k).storeEntry n q i) := by
  obtain ⟨u, hu, ho⟩ := State.arbAccesses_granted hg
  refine ⟨u, ho, ?_⟩
  change execBurstComplete n q k [] s = _
  by_cases hq : q.val < 16
  · rw [if_pos hq] at hu
    simp only [execBurstComplete, hb, isLoad, hq, decide_true, if_true, Bool.not_true, Bool.false_and, Bool.false_eq_true, if_false, hu,
      List.range_one, List.foldl_cons, List.foldl_nil, List.filterMap_nil, Nat.add_zero]
    rw [State.dropBurst, ho.chan]
  · obtain rfl := hk.resolve_left hq
    rw [if_neg hq] at hu
    simp only [execBurstComplete, hb, isLoad, hq, decide_false, ne_eq, not_true_eq_false, Bool.and_false, Bool.false_eq_true, if_false,
      List.range_one, List.flatMap_cons, List.flatMap_nil, List.append_nil, Nat.add_zero, hu, List.foldl_cons, List.foldl_nil]
    rw [State.dropBurst, ho.chan]

/-- A load entry that can be read waits for its ring. -/
theorem State.loadEntry_lands {s : State} {n : Fin 8} {q : Fin 24} {i a : Nat} (ha : (((s.chan n).stream q).entryAddr i).toNat = a)
    (h : ∀ sec ∈ sectorsOf a 64, s.mem.poisoned (s.memMap sec).1 (s.memMap sec).2 = false) :
    s.loadEntry n q i [] =
      s.setStream n q { (s.chan n).stream q with landed := ((s.chan n).stream q).landed ++ [(i, (s.memRead a 64 []).2.1)] } := by
  obtain ⟨hs, hbad⟩ := State.memRead_clean h
  unfold State.loadEntry
  dsimp only
  rw [ha]
  generalize s.memRead a 64 [] = r at hs hbad ⊢
  obtain ⟨t, d, bad⟩ := r
  obtain rfl : t = s := hs
  obtain rfl : bad = [] := hbad
  rfl

theorem mcSeErr_not_raiseReg (n : Fin 8) : ¬ RaiseReg (mcSeErr n) ∧ ¬ ChanReg (mcSeErr n) := by
  have := n.isLt
  constructor
  · simp only [RaiseReg, List.mem_cons, List.not_mem_nil, or_false]
    unfold mcSeErr safFault safStat safFirst safFirstTick safNotice safInt ctlHostAlert msixPba
    omega
  · unfold ChanReg mcSeErr; omega

/-- A load entry that cannot be read stops its engine and raises MEMORY. -/
theorem State.loadEntry_stops {s : State} {n : Fin 8} {q : Fin 24} {i a : Nat} (ha : (((s.chan n).stream q).entryAddr i).toNat = a)
    (h : ∃ sec ∈ sectorsOf a 64, s.mem.poisoned (s.memMap sec).1 (s.memMap sec).2 = true) :
    (((s.loadEntry n q i []).chan n).stream q).busy = false ∧ (s.loadEntry n q i []).flag (mcSeErr n) MC_SE_ERR_VALID = true ∧
      (s.loadEntry n q i []).flag safFault (bitF 8) = true := by
  have hbad := State.memRead_poison h
  unfold State.loadEntry
  dsimp only
  rw [ha]
  generalize s.memRead a 64 [] = r at hbad ⊢
  obtain ⟨t, d, bad⟩ := r
  cases bad with
  | nil => exact absurd rfl hbad
  | cons c l =>
    obtain ⟨hbusy, hvalid⟩ := t.stopStream_stops n q.isLt 2 a
    refine ⟨?_, ?_, (State.raiseCause_raised (code := 2) (unit := c) _ 0 none (show 8 < 64 by decide)).1⟩
    · rw [(State.raiseCause_sameStreams _ 2 c 0 none).stream n q, hbusy]
    · rw [State.flag, State.fld, State.raiseCause_rd _ 2 c 0 none (mcSeErr_not_raiseReg n).1 (mcSeErr_not_raiseReg n).2]
      exact hvalid

/-- The place of an entry in its ring follows from the counts of its engine and the ring's register. -/
theorem State.ringAddr_congr {s t : State} {n : Fin 8} {q i : Nat} (hw : ((t.chan n).stream q).w = ((s.chan n).stream q).w)
    (hm : ((t.chan n).stream q).m = ((s.chan n).stream q).m) (hc : ((t.chan n).stream q).counted = ((s.chan n).stream q).counted)
    (hr : t.rd (chQRing n q) = s.rd (chQRing n q)) : t.ringAddr n q i = s.ringAddr n q i := by
  simp only [State.ringAddr, State.ringEntries, State.fld, hw, hm, hc, hr]

theorem chQRing_lt (n : Fin 8) {q : Nat} (h : q < 24) : chQRing n q < 0x02010000 := by
  have := n.isLt
  unfold chQRing; omega

theorem OnlyArbs.ringAddr {s t : State} (h : OnlyArbs s t) (n : Fin 8) {q : Nat} (hq : q < 24) (i : Nat) : t.ringAddr n q i = s.ringAddr n q i := by
  have hx := congrArg (fun c => Chan.stream c q) (h.chan n)
  exact State.ringAddr_congr (by rw [hx]) (by rw [hx]) (by rw [hx]) (h.rd_lower (chQRing_lt n hq))

theorem State.dropBurst_ringAddr (s : State) (n : Fin 8) (q : Fin 24) (k i : Nat) : (s.dropBurst n q k).ringAddr n q i = s.ringAddr n q i :=
  State.ringAddr_congr (by rw [State.dropBurst_stream]) (by rw [State.dropBurst_stream]) (by rw [State.dropBurst_stream])
    (State.setStream_rd _ _ _ _ _)

/-- Taking a burst from an engine leaves what the channel's SRAM reads. -/
theorem State.dropBurst_sramRead (s : State) (n : Fin 8) (q : Fin 24) (k a len : Nat) :
    ((s.dropBurst n q k).chan n).sramRead ((s.dropBurst n q k).bankMap n) a len = (s.chan n).sramRead (s.bankMap n) a len := by
  obtain ⟨v, hv⟩ := s.setStream_chan n q { (s.chan n).stream q with bursts := ((s.chan n).stream q).bursts.eraseIdx k }
  have hmap : (s.dropBurst n q k).bankMap n = s.bankMap n :=
    State.bankMap_congr (State.running_of_rd (State.setStream_rd _ _ _ _ _)) (by rw [State.dropBurst, hv]) (State.setStream_rd _ _ _ _ _)
  rw [hmap, State.dropBurst, hv]
  rfl

/-- A store entry has been written to memory and waits to be counted. -/
theorem State.storeEntry_writes (s : State) (n : Fin 8) (q : Fin 24) (i : Nat) :
    (s.storeEntry n q i).mem = (s.memWrite (((s.chan n).stream q).entryAddr i).toNat
      ((s.chan n).sramRead (s.bankMap n) (s.ringAddr n q i) 64) []).mem ∧
    (i, []) ∈ (((s.storeEntry n q i).chan n).stream q).landed := by
  unfold State.storeEntry
  dsimp only
  constructor
  · rw [State.setStream_mem]
  · rw [State.setStream_stream_same _ _ q.isLt]
    exact List.mem_append_right _ (List.mem_singleton_self _)

/-! ### Entries in place (R189) -/

/-- A count over the entries in place, one at a time from the first not counted: the recursion that raises W and M. (Its facts are stated of the
recursion, since the model's function of this kind bears the name of a Lean command.) -/
structure CountsUp (f : Stream → Bool → Nat → Stream) : Prop where
  zero : ∀ x load, f x load 0 = x
  succ : ∀ x load k, f x load (k + 1) =
    if x.landed.contains (x.counted, []) then
      let y := { x with landed := x.landed.erase (x.counted, []), counted := x.counted + 1 }
      f (if load then { y with w := y.w + 1 } else { y with m := y.m + 1 }) load k
    else x

/-- The count of a load queue and the entries counted rise together. -/
theorem CountsUp.loads {f : Stream → Bool → Nat → Stream} (h : CountsUp f) (k : Nat) (x : Stream) :
    ∃ j, (f x true k).w = x.w + j ∧ (f x true k).counted = x.counted + j := by
  induction k generalizing x with
  | zero => exact ⟨0, by rw [h.zero]; exact ⟨rfl, rfl⟩⟩
  | succ k ih =>
    rw [h.succ]
    split
    · obtain ⟨j, hw, hc⟩ := ih { x with landed := x.landed.erase (x.counted, []), counted := x.counted + 1, w := x.w + 1 }
      exact ⟨j + 1, hw.trans (by dsimp only; omega), hc.trans (by dsimp only; omega)⟩
    · exact ⟨0, rfl, rfl⟩

/-- A store entry in place is counted, and the count of its queue sets out. -/
theorem CountsUp.store {f : Stream → Bool → Nat → Stream} (h : CountsUp f) {x : Stream} (hx : (x.counted, []) ∈ x.landed) (now : Nat) :
    ((f x false 1).sendUp false x.m now).m = x.m + 1 ∧ ((f x false 1).sendUp false x.m now).counted = x.counted + 1 ∧
      ((f x false 1).sendUp false x.m now).up = x.up ++ [(x.m + 1, now)] := by
  rw [h.succ, if_pos (List.contains_iff_mem.mpr hx), h.zero]
  simp only [Stream.sendUp, Bool.false_eq_true, if_false, Nat.succ_ne_self, and_self]

theorem Stream.sendUp_counts (x : Stream) (load : Bool) (was now : Nat) :
    (x.sendUp load was now).w = x.w ∧ (x.sendUp load was now).counted = x.counted := by
  unfold Stream.sendUp
  generalize (if load then x.w else x.m) = v
  dsimp only
  split <;> exact ⟨rfl, rfl⟩

/-- What a load count that rises leaves: W rises as the entries counted do. -/
theorem CountsUp.rises {f : Stream → Bool → Nat → Stream} (h : CountsUp f) (k : Nat) (x : Stream) (was now : Nat) :
    x.w ≤ ((f x true k).sendUp true was now).w ∧
      ((f x true k).sendUp true was now).w - x.w = ((f x true k).sendUp true was now).counted - x.counted := by
  obtain ⟨j, hw, hc⟩ := h.loads k x
  rw [(Stream.sendUp_counts _ _ _ _).1, (Stream.sendUp_counts _ _ _ _).2, hw, hc]
  omega

theorem State.setStream_sram (s : State) (n : Fin 8) (q : Nat) (x : Stream) : ((s.setStream n q x).chan n).sram = (s.chan n).sram := by
  obtain ⟨v, hv⟩ := s.setStream_chan n q x
  rw [hv]

theorem completes_streamEntryWritten {n : Fin 8} {q : Fin 24} {k : Nat} {e : Nat × List Byte} {s : State} (hq : q.val < 16)
    (he : (((s.chan n).stream q).landed.filter fun e => decide (e.2 ≠ []))[k]? = some e)
    (hg : Granted s (bankArbs 1 n (s.ringAddr n q e.1) 64)) : Completes (.streamEntryWritten n q k) s fun t =>
      (t.chan n).sram = ((s.chan n).sramWrite (s.bankMap n) (s.ringAddr n q e.1) e.2).sram ∧
      ((s.chan n).stream q).w ≤ ((t.chan n).stream q).w ∧
      ((t.chan n).stream q).w - ((s.chan n).stream q).w = ((t.chan n).stream q).counted - ((s.chan n).stream q).counted := by
  obtain ⟨u, hu, ho⟩ := State.arbAccesses_granted hg
  refine ⟨_, rfl, ?_⟩
  simp only [he, isLoad, hq, decide_true, Bool.not_true, Bool.false_eq_true, if_false, hu]
  rw [ho.chan, ho.bankMap, ho.ringAddr n q.isLt, State.showCount_chan, State.setStream_stream_same _ _ q.isLt]
  generalize ((s.chan n).stream q).landed.map _ = landed
  rw [State.setStream_sram, State.setChan_chan_same]
  exact ⟨rfl, CountsUp.rises (x := { (s.chan n).stream q with landed := landed }) ⟨fun _ _ => rfl, fun _ _ _ => rfl⟩ _ _ _⟩

theorem completes_storeEntryWritten {n : Fin 8} {q : Fin 24} {s : State} (hq : 16 ≤ q.val)
    (h : (((s.chan n).stream q).counted, []) ∈ ((s.chan n).stream q).landed) : Completes (.storeEntryWritten n q) s fun t =>
      ((t.chan n).stream q).m = ((s.chan n).stream q).m + 1 ∧ ((t.chan n).stream q).counted = ((s.chan n).stream q).counted + 1 ∧
      ((t.chan n).stream q).up = ((s.chan n).stream q).up ++ [(((s.chan n).stream q).m + 1, s.now)] := by
  refine ⟨_, rfl, ?_⟩
  simp only [isLoad, Nat.not_lt.mpr hq, decide_false, Bool.false_eq_true, if_false, State.showCount_chan,
    State.setStream_stream_same _ _ q.isLt]
  exact CountsUp.store ⟨fun _ _ => rfl, fun _ _ _ => rfl⟩ h _

theorem State.showCount_idle {s : State} {n : Fin 8} {q : Nat} (h : ((s.chan n).stream q).busy = false) :
    (s.showCount n q).fld (chQCount n q) CH_Q_COUNT_SE_BUSY = 0 := by
  unfold State.showCount
  rw [State.fld_setFld_same _ _ _ _ (by decide), h]
  rfl

theorem completes_streamDescriptorDone {n : Fin 8} {q : Fin 24} {s : State} (hb : ((s.chan n).stream q).busy = true)
    (hd : ((s.chan n).stream q).desc = none) (hc : ((s.chan n).stream q).counted = ((s.chan n).stream q).entries) :
    Completes (.streamDescriptorDone n q) s fun t =>
      (t.chan n).stream q = { (s.chan n).stream q with busy := false } ∧ t.fld (chQCount n q) CH_Q_COUNT_SE_BUSY = 0 := by
  have hx := s.setStream_stream_same n q.isLt { (s.chan n).stream q with busy := false }
  refine ⟨_, rfl, ?_⟩
  rw [if_pos ⟨hb, hd, hc⟩]
  exact ⟨hx, State.showCount_idle (by rw [hx])⟩

/-! ### Counts that cross (R155) -/

theorem State.arithMHz_pos (s : State) (n : Fin 8) : 0 < s.arithMHz n := by
  have h : ∀ k, 0 < nth 1300 [1300, 1250, 1200, 1100, 1000, 900, 800, 650] k
    | 0 | 1 | 2 | 3 | 4 | 5 | 6 | 7 => by decide
    | _ + 8 => show 0 < 1300 by decide
  exact h _

/-- Two cycles of the engines' clock are two ticks, rounded up. -/
theorem State.crossTicks_mem (s : State) (n : Fin 8) : s.crossTicks n 2 0 = 2 := by
  have h := s.arithMHz_pos n
  unfold State.crossTicks
  generalize s.arithMHz n = m at h ⊢
  exact Nat.div_eq_of_lt_le (by omega) (by omega)

/-- Two cycles of ARITH have passed since a change. -/
theorem State.crossTicks_arith (s : State) (n : Fin 8) (c now : Nat) :
    c + s.crossTicks n 0 2 ≤ now ↔ c * s.arithMHz n + 2000 ≤ now * s.arithMHz n := by
  have h := s.arithMHz_pos n
  unfold State.crossTicks
  generalize s.arithMHz n = m at h ⊢
  have hlt {d : Nat} : (0 * 750 * m + 2 * 1000000 + 1000 * m - 1) / (1000 * m) ≤ d ↔ 2000 ≤ d * m := by
    rw [← Nat.lt_succ_iff, Nat.div_lt_iff_lt_mul (by omega)]
    have e : (d + 1) * (1000 * m) = 1000 * (d * m) + 1000 * m := by ring
    rw [e]
    omega
  constructor
  · intro hn
    obtain ⟨d, rfl⟩ : ∃ d, now = c + d := ⟨now - c, (Nat.add_sub_cancel' (Nat.le_of_add_right_le hn)).symm⟩
    have := hlt.mp (Nat.le_of_add_le_add_left hn)
    rw [Nat.add_mul]
    omega
  · intro hn
    have hle : c ≤ now := by
      by_contra hc
      have := Nat.mul_le_mul_right m (Nat.le_of_not_le hc)
      omega
    obtain ⟨d, rfl⟩ : ∃ d, now = c + d := ⟨now - c, by omega⟩
    rw [Nat.add_mul] at hn
    exact Nat.add_le_add_left (hlt.mpr (by omega)) c

theorem State.recheck_free {s : State} {n : Fin 8} (h : (s.chan n).held = none) : s.recheck n = s := by
  rw [State.recheck, h]

theorem completes_countSync_up {n : Fin 8} {q : Fin 24} {s : State} {v : Nat × Nat}
    (hv : (((s.chan n).stream q).up.filter fun y => decide (y.2 * s.arithMHz n + 2000 ≤ s.now * s.arithMHz n)).getLast? = some v)
    (hh : (s.chan n).held = none) : Completes (.countSync n q true) s fun t =>
      (if q.val < 16 then ((t.chan n).stream q).ws else ((t.chan n).stream q).ms) = v.1 ∧ OnlyChan n (fun off => off = chQCount n q) s t := by
  have hc : (crossed s.now (s.crossTicks n 0 2) ((s.chan n).stream q).up).1 = some v.1 := by
    simp only [crossed, State.crossTicks_arith, hv, Option.map_some]
  obtain ⟨x, hx, hw⟩ : ∃ x, s.syncUp n q (s.crossTicks n 0 2) = (s.setStream n q x).showCount n q ∧ (if q.val < 16 then x.ws else x.ms) = v.1 := by
    unfold State.syncUp
    dsimp only
    generalize crossed s.now (s.crossTicks n 0 2) ((s.chan n).stream q).up = y at hc
    obtain ⟨w, up⟩ := y
    obtain rfl : w = some v.1 := hc
    refine ⟨_, rfl, ?_⟩
    split <;> rfl
  have hfree : (((s.setStream n q x).showCount n q).chan n).held = none := by
    obtain ⟨l, hl⟩ := s.setStream_chan n q x
    rw [State.showCount_chan, hl]
    exact hh
  refine ⟨_, rfl, ?_⟩
  rw [if_pos rfl, hx, State.recheck_free hfree]
  refine ⟨?_, (s.setStream_onlyChan _ n q x).trans ((State.showCount_onlyRegs _ n q).onlyChan n)⟩
  rw [State.showCount_chan, State.setStream_stream_same _ _ q.isLt]
  exact hw

theorem completes_countSync_down {n : Fin 8} {q : Fin 24} {s : State} {v : Nat × Nat}
    (hv : (((s.chan n).stream q).down.filter fun y => decide (y.2 + 2 ≤ s.now)).getLast? = some v) : Completes (.countSync n q false) s fun t =>
      (if q.val < 16 then ((t.chan n).stream q).rm else ((t.chan n).stream q).cm) = v.1 ∧ OnlyChan n (fun _ => False) s t := by
  have hc : (crossed s.now (s.crossTicks n 2 0) ((s.chan n).stream q).down).1 = some v.1 := by
    rw [State.crossTicks_mem, crossed, hv, Option.map_some]
  obtain ⟨x, hx, hw⟩ : ∃ x, s.syncDown n q (s.crossTicks n 2 0) = s.setStream n q x ∧ (if q.val < 16 then x.rm else x.cm) = v.1 := by
    unfold State.syncDown
    dsimp only
    generalize crossed s.now (s.crossTicks n 2 0) ((s.chan n).stream q).down = y at hc
    obtain ⟨w, down⟩ := y
    obtain rfl : w = some v.1 := hc
    refine ⟨_, rfl, ?_⟩
    split <;> rfl
  refine ⟨_, rfl, ?_⟩
  rw [if_neg Bool.false_ne_true, hx]
  refine ⟨?_, s.setStream_onlyChan _ n q x⟩
  rw [State.setStream_stream_same _ _ q.isLt]
  exact hw

end Sys2Proof.Machine
end

section
open Sys2Proof Machine

/-- Settles O21: a burst that sets out raises one request, the completion of a burst that is granted leaves only arbiters and the engine to look at,
the counts rise by the recursion over the entries in place, and a count has crossed when two cycles of the reading clock have passed. -/
theorem streamCommands : Obligations.StreamCommands := by
  unfold Obligations.StreamCommands
  intro n q s
  dsimp only
  refine ⟨fun hb hd hp => ⟨fun hr hroom hok => ?_, fun b l hr hok => ?_, fun hr hroom hbad => ?_⟩,
    fun k i hi => ⟨fun hq hg hclean => ?_, fun hq hg hpois => ?_, fun hq hk hg => ?_⟩,
    fun k e hq he hg => completes_streamEntryWritten hq he hg, completes_storeEntryWritten, completes_streamDescriptorDone,
    fun v hv hh => completes_countSync_up hv hh, fun v hv => completes_countSync_down hv⟩
  · refine ⟨_, exec_streamBurstIssue ⟨hb, hd, hp⟩ fun _ => hroom, ?_⟩
    obtain ⟨hstream, hrest⟩ := State.issueBurst_ok (s := s) (n := n) (q := q) (b := ((s.chan n).stream q).nextBurst (s.streamRoom n q))
      (by rw [Stream.nextBurst_fresh hr]; exact hok)
    rw [Stream.burst_fresh hr] at hstream
    rw [Stream.nextBurst_fresh hr] at hstream hrest ⊢
    exact ⟨hstream, hrest⟩
  · refine ⟨_, exec_streamBurstIssue ⟨hb, hd, hp⟩ fun e => absurd (hr.symm.trans e) (List.cons_ne_nil b l), ?_⟩
    rw [Stream.nextBurst_redo hr]
    exact (State.issueBurst_ok (b := b) hok).1.trans (Stream.burst_redo hr)
  · refine ⟨_, exec_streamBurstIssue ⟨hb, hd, hp⟩ fun _ => hroom, ?_⟩
    exact State.issueBurst_outOfRange (by rw [Stream.nextBurst_fresh hr]; exact hbad)
  · obtain ⟨u, ho, he⟩ := exec_burstComplete hi (.inl hq) (by rw [if_pos hq]; exact hg)
    rw [if_pos hq] at he
    refine ⟨_, he, ?_⟩
    have hsame := SameContents.of_eq (ho.dropBurst_mem n q k)
    rw [State.loadEntry_lands (congrArg _ (ho.dropBurst_entryAddr n q k i)) fun sec h => by
      rw [ho.dropBurst_mem, hsame.memMap]
      exact hclean sec h]
    dsimp only
    rw [State.setStream_stream_same _ _ q.isLt, ho.dropBurst_stream, State.memRead_congr hsame, State.setStream_mem, ho.dropBurst_mem]
    exact ⟨List.mem_append_right _ (List.mem_singleton_self _), rfl, rfl⟩
  · obtain ⟨u, ho, he⟩ := exec_burstComplete hi (.inl hq) (by rw [if_pos hq]; exact hg)
    rw [if_pos hq] at he
    refine ⟨_, he, State.loadEntry_stops (congrArg _ (ho.dropBurst_entryAddr n q k i)) ?_⟩
    rw [ho.dropBurst_mem]
    simp only [(SameContents.of_eq (ho.dropBurst_mem n q k)).memMap]
    exact hpois
  · have hload : ¬ q.val < 16 := Nat.not_lt.mpr hq
    obtain ⟨u, ho, he⟩ := exec_burstComplete hi (.inr hk) (by rw [if_neg hload]; exact hg)
    rw [if_neg hload] at he
    obtain ⟨hwrite, hland⟩ := (u.dropBurst n q k).storeEntry_writes n q i
    refine ⟨_, he, ?_, hland⟩
    rw [hwrite, ho.dropBurst_entryAddr, State.dropBurst_sramRead, State.dropBurst_ringAddr, ho.chan, ho.bankMap, ho.ringAddr n q.isLt]
    exact (State.memWrite_congr (SameContents.of_eq (ho.dropBurst_mem n q k)) _ _ _).bytes

end

section
/-!
What reads and writes of device memory touch besides its contents (R178, R182, R190), what sending a message touches (R268, R455, R468), and what a raised
cause does to an intermission (R432).
-/

namespace Sys2Proof.Machine

/-! ### Reads and writes of device memory -/

/-- The registers in which a memory channel records its errors (R219, R220). -/
def MemErrReg (off : Nat) : Prop := ∃ c, off = mcChStatus c ∨ off = mcChEcc c ∨ off = mcChErr c

/-- Device memory and the error records of its channels may differ, nothing else. -/
def OnlyMem (s t : State) : Prop :=
  (∀ off, ¬ MemErrReg off → t.rd off = s.rd off) ∧ t = { s with regs := t.regs, before := t.before, mem := t.mem }

theorem OnlyMem.refl (s : State) : OnlyMem s s := ⟨fun _ _ => rfl, rfl⟩

theorem OnlyMem.trans {s t u : State} (h : OnlyMem s t) (h' : OnlyMem t u) : OnlyMem s u := by
  refine ⟨fun off ho => (h'.1 off ho).trans (h.1 off ho), ?_⟩
  have e := h'.2
  rw [h.2] at e
  exact e

theorem OnlyMem.of_onlyRegs {s t : State} (h : OnlyRegs MemErrReg s t) : OnlyMem s t := by
  refine ⟨h.1, ?_⟩
  have e := h.2
  rw [e]

theorem OnlyMem.modMem (s : State) (m : MemSt) : OnlyMem s { s with mem := m } := ⟨fun _ _ => rfl, rfl⟩

theorem OnlyMem.foldl {α : Type} (f : State → α → State) (h : ∀ s x, OnlyMem s (f s x)) (l : List α) (s : State) : OnlyMem s (l.foldl f s) := by
  induction l generalizing s with
  | nil => exact .refl s
  | cons x l ih => exact (h s x).trans (ih _)

section
variable {s t : State}

theorem OnlyMem.ch (h : OnlyMem s t) : t.ch = s.ch := by rw [h.2]

theorem OnlyMem.fw (h : OnlyMem s t) : t.fw = s.fw := by rw [h.2]

theorem OnlyMem.fld (h : OnlyMem s t) {off : Nat} (ho : ¬ MemErrReg off) (f : Fld) : t.fld off f = s.fld off f := by
  rw [State.fld, h.1 off ho, State.fld]

end

theorem not_memErrReg_safInt : ¬ MemErrReg safInt := by
  rintro ⟨c, h⟩
  unfold safInt mcChStatus mcChEcc mcChErr at h
  omega

theorem State.memErr_onlyRegs (s : State) (c sec kind : Nat) : OnlyRegs MemErrReg s (s.memErr c sec kind) := by
  have h : ∀ off, off = mcChErr c → MemErrReg off := fun _ e => ⟨c, .inr (.inr e)⟩
  exact ((((s.setFld_onlyRegs _ _ _).trans (State.setFld_onlyRegs _ _ _ _)).trans (State.setFld_onlyRegs _ _ _ _)).trans
    (State.setFlag_onlyRegs _ _ _)).mono h

theorem State.bumpEcc_onlyRegs (s : State) (c : Nat) (f : Fld) : OnlyRegs MemErrReg s (s.bump (mcChEcc c) f) :=
  (s.bump_onlyRegs _ f).mono fun _ e => ⟨c, .inr (.inl e)⟩

theorem State.addCand_onlyMem (s : State) (c page : Nat) : OnlyMem s (s.addCand c page) := by
  unfold State.addCand
  extract_lets k
  exact (OnlyMem.modMem s _).trans (.of_onlyRegs ((State.setFlag_onlyRegs _ _ _).mono fun _ e => ⟨c, .inl e⟩))

theorem State.readSector_onlyMem (s : State) (c sec : Nat) (e : SymErr) : OnlyMem s (s.readSector c sec e).1 := by
  have hbump (s : State) (f : Fld) := OnlyMem.of_onlyRegs (s.bumpEcc_onlyRegs c f)
  have herr (s : State) (k : Nat) := OnlyMem.of_onlyRegs (s.memErr_onlyRegs c sec k)
  unfold State.readSector
  dsimp only
  split
  · exact .refl s
  · exact ((OnlyMem.modMem s _).trans (hbump _ _)).trans (herr _ _)
  · exact (hbump _ _).trans (herr _ _)
  · exact ((hbump s _).trans (herr _ _)).trans (State.addCand_onlyMem _ c _)

theorem readOne_onlyMem (errs : List (Nat × SymErr)) (acc : State × List Byte × List Nat) (x : Nat × Nat) :
    OnlyMem acc.1 (readOne errs acc x).1 := by
  obtain ⟨s, b, bad⟩ := acc
  have h := s.readSector_onlyMem (s.memMap x.1).1 (s.memMap x.1).2 (errOf errs x.2)
  simp only [readOne]
  split <;> next e => rw [e] at h; exact h

theorem State.memRead_onlyMem (s : State) (a len : Nat) (errs : List (Nat × SymErr)) : OnlyMem s (s.memRead a len errs).1 := by
  rw [State.memRead_eq, State.readAll]
  generalize (sectorsOf a len).zipIdx = l
  suffices h : ∀ acc : State × List Byte × List Nat, OnlyMem acc.1 (l.foldl (readOne errs) acc).1 from h (s, [], [])
  induction l with
  | nil => exact fun acc => .refl _
  | cons x l ih => exact fun acc => (readOne_onlyMem errs acc x).trans (ih _)

theorem State.mergeSector_onlyMem (s : State) (c sec i : Nat) (b : List Byte) (e : SymErr) : OnlyMem s (s.mergeSector c sec i b e) := by
  have h := s.readSector_onlyMem c sec e
  unfold State.mergeSector
  split <;> next e => rw [e] at h; exact h.trans (.modMem _ _)

theorem State.writeOne_onlyMem (a : Nat) (b : List Byte) (errs : List (Nat × SymErr)) (s : State) (x : Nat × Nat) :
    OnlyMem s (State.writeOne a b errs s x) := by
  unfold State.writeOne
  dsimp only
  split
  · exact .modMem s _
  · exact s.mergeSector_onlyMem _ _ _ _ _

theorem State.memStore_onlyMem (s : State) (a : Nat) (b : List Byte) (errs : List (Nat × SymErr)) : OnlyMem s (s.memStore a b errs) :=
  .foldl _ (State.writeOne_onlyMem a b errs) _ s

theorem State.markDirty_onlyMem (s : State) (a len : Nat) : OnlyMem s (s.markDirty a len) := by
  unfold State.markDirty
  split
  · exact .refl s
  · exact .modMem s _

/-- What a write leaves in memory, dirty bits apart, follows from its contents. -/
theorem State.memStore_congr {s t : State} (h : SameContents s.mem t.mem) (a : Nat) (b : List Byte) (errs : List (Nat × SymErr)) :
    SameContents (s.memStore a b errs).mem (t.memStore a b errs).mem := by
  have hw := State.memWrite_congr h a b errs
  exact ((State.markDirty_leaves _ a b.length).1.trans hw).trans (State.markDirty_leaves _ a b.length).1.symm

/-- Device memory may differ, nothing else at all. -/
def JustMem (s t : State) : Prop := t = { s with mem := t.mem }

theorem JustMem.trans {s t u : State} (h : JustMem s t) (h' : JustMem t u) : JustMem s u := by
  have e := h'
  rw [JustMem, h] at e
  exact e

theorem JustMem.foldl {α : Type} (f : State → α → State) (l : List α) (h : ∀ s, ∀ x ∈ l, JustMem s (f s x)) (s : State) :
    JustMem s (l.foldl f s) := by
  induction l generalizing s with
  | nil => exact rfl
  | cons x l ih => exact (h s x List.mem_cons_self).trans (ih (fun s y hy => h s y (List.mem_cons_of_mem x hy)) _)

section
variable {s t : State}

theorem JustMem.regs (h : JustMem s t) : t.regs = s.regs := by rw [h]

theorem JustMem.ch (h : JustMem s t) : t.ch = s.ch := by rw [h]

theorem JustMem.fw (h : JustMem s t) : t.fw = s.fw := by rw [h]

theorem JustMem.rd (h : JustMem s t) (off : Nat) : t.rd off = s.rd off := by rw [State.rd, h.regs, State.rd]

theorem JustMem.fld (h : JustMem s t) (off : Nat) (f : Fld) : t.fld off f = s.fld off f := by rw [State.fld, h.rd, State.fld]

theorem JustMem.chan (h : JustMem s t) (n : Fin 8) : t.chan n = s.chan n := by rw [State.chan, State.chan]; simp only [h.ch]

end

/-- A write of whole sectors reads none of them. -/
theorem State.memWrite_whole (s : State) {a : Nat} {b : List Byte} (ha : a % 32 = 0) (hb : b.length % 32 = 0) (errs : List (Nat × SymErr)) :
    JustMem s (s.memWrite a b errs) := by
  have hmark (s : State) : JustMem s (s.markDirty a b.length) := by
    unfold State.markDirty
    split <;> exact rfl
  refine JustMem.trans ?_ (hmark _)
  rw [State.memStore_eq]
  refine JustMem.foldl _ _ (fun s x hx => ?_) s
  have hx' := List.fst_mem_of_mem_zipIdx hx
  unfold sectorsOf at hx'
  split at hx'
  · exact absurd hx' List.not_mem_nil
  · obtain ⟨i, hi, hxi⟩ := List.mem_map.mp hx'
    have hi' := List.mem_range.mp hi
    unfold State.writeOne
    dsimp only
    rw [if_pos]
    · exact rfl
    · rw [List.length_take, List.length_drop, ← hxi]
      omega

end Sys2Proof.Machine
end

section
/-!
What sending a message leaves alone (R268, R455, R468), and what a raised cause does to an intermission (R432).
-/

namespace Sys2Proof.Machine

/-! ### Messages that are sent -/

/-- The registers of unscheduled traffic, and the transmit ring's. -/
def SendReg (off : Nat) : Prop := (0x03060000 ≤ off ∧ off < 0x03070000) ∨ off = ctlTxring

/-- What sending leaves alone: device memory, the channels, the intermission's record, and the registers but those of `SendReg`. -/
structure SendFrame (s t : State) : Prop where
  rd : ∀ off, ¬ SendReg off → t.rd off = s.rd off
  mem : t.mem = s.mem
  ch : t.ch = s.ch
  int : t.fw.int = s.fw.int

theorem SendFrame.refl (s : State) : SendFrame s s := ⟨fun _ _ => rfl, rfl, rfl, rfl⟩

theorem SendFrame.trans {s t u : State} (h : SendFrame s t) (h' : SendFrame t u) : SendFrame s u where
  rd off ho := (h'.rd off ho).trans (h.rd off ho)
  mem := h'.mem.trans h.mem
  ch := h'.ch.trans h.ch
  int := h'.int.trans h.int

theorem SendFrame.foldl {α : Type} (f : State → α → State) (h : ∀ s x, SendFrame s (f s x)) (l : List α) (s : State) : SendFrame s (l.foldl f s) := by
  induction l generalizing s with
  | nil => exact .refl s
  | cons x l ih => exact (h s x).trans (ih _)

theorem SendFrame.of_onlyRegs {s t : State} (h : OnlyRegs SendReg s t) : SendFrame s t := ⟨h.1, h.mem, h.ch, by rw [h.fw]⟩

theorem SendFrame.setNet (s : State) (x : NetSt) : SendFrame s (s.setNet x) := ⟨fun _ _ => rfl, rfl, rfl, rfl⟩

theorem SendFrame.fld {s t : State} (h : SendFrame s t) {off : Nat} (ho : ¬ SendReg off) (f : Fld) : t.fld off f = s.fld off f := by
  rw [State.fld, h.rd off ho, State.fld]

theorem not_sendReg_safInt : ¬ SendReg safInt := by unfold SendReg safInt ctlTxring; omega

/-- A drop of a packet that an endpoint of the device injected. -/
theorem State.dropPkt_sends (s : State) (reg : Nat → Nat) (f : Fld) {p : Pkt} (hr : SendReg (reg p.inp)) (hi : p.inp = 32 ∨ p.inp = 33)
    (hc : p.cls < 4) : SendFrame s (s.dropPkt reg f p) := by
  have htel : SendReg (netTelemDrops (4 * p.inp + p.cls)) := by unfold SendReg netTelemDrops; omega
  have hstat : SendReg netUnsStat := .inl (by decide)
  have hb := (s.bump_onlyRegs (reg p.inp) f).mono fun _ e => e ▸ hr
  unfold State.dropPkt State.unsDrop
  rw [if_neg (by omega)]
  refine .of_onlyRegs (OnlyRegs.trans (OnlyRegs.ite hb (hb.trans ?_)) ((State.setFlag_onlyRegs _ _ _).mono fun _ e => e ▸ hstat))
  exact (State.bump_onlyRegs _ _ _).mono fun _ e => e ▸ htel

theorem sendReg_drop0 {p : Pkt} (hi : p.inp = 32 ∨ p.inp = 33) : SendReg (netUnsDrop0 p.inp) := by unfold SendReg netUnsDrop0; omega

theorem sendReg_drop1 {p : Pkt} (hi : p.inp = 32 ∨ p.inp = 33) : SendReg (netUnsDrop1 p.inp) := by unfold SendReg netUnsDrop1; omega

theorem State.allowIn_sends (s : State) {p : Pkt} (hi : p.inp = 32 ∨ p.inp = 33) (hc : p.cls < 4) : SendFrame s (s.allowIn p) := by
  have hdrop (f : Fld) := s.dropPkt_sends netUnsDrop0 f (sendReg_drop0 hi) hi hc
  have hstat : SendReg netUnsStat := .inl (by decide)
  have hwait : SendFrame s (s.await p) := .setNet s _
  unfold State.allowIn
  dsimp only
  split
  · exact hdrop _
  · split
    · split
      · exact hdrop _
      · exact hwait
    · split
      · exact (s.dropPkt_sends netUnsDrop1 _ (sendReg_drop1 hi) hi hc).trans
          (.of_onlyRegs ((State.setFlag_onlyRegs _ _ _).mono fun _ e => e ▸ hstat))
      · split
        · exact hdrop _
        · split
          · exact hdrop _
          · split
            · exact hdrop _
            · exact hwait

theorem Pkt.stamp_inp (p : Pkt) (flag epoch count : Nat) : (p.stamp flag epoch count).inp = p.inp ∧ (p.stamp flag epoch count).cls = p.cls := by
  unfold Pkt.stamp
  split <;> exact ⟨rfl, rfl⟩

theorem State.sendFlowPkt_sends (s : State) (e : Nat) {p : Pkt} (hi : p.inp = 32 ∨ p.inp = 33) (hc : p.cls < 4) : SendFrame s (s.sendFlowPkt e p) := by
  have hflow (k : Nat) (f : SendFlow) : SendFrame s (s.setSendFlow k f) := .setNet s _
  have hallow (s : State) (flag epoch count : Nat) : SendFrame s (s.allowIn (p.stamp flag epoch count)) := by
    obtain ⟨hinp, hcls⟩ := p.stamp_inp flag epoch count
    exact s.allowIn_sends (hinp ▸ hi) (hcls ▸ hc)
  unfold State.sendFlowPkt
  dsimp only
  split
  · exact hflow _ _
  · split
    · exact (hflow _ _).trans (hallow _ _ _ _)
    · exact (hflow _ _).trans (hallow _ _ _ _)

theorem State.inject_sends (s : State) {e cls : Nat} (he : e < 2) (hc : cls < 4) (flits : List (List Byte)) : SendFrame s (s.inject e cls flits) := by
  have hi : 32 + e = 32 ∨ 32 + e = 33 := by omega
  unfold State.inject
  dsimp only
  split
  · exact .refl s
  · split
    · exact s.dropPkt_sends netUnsDrop0 _ (sendReg_drop0 (p := ⟨cls, flits, 32 + e, decide (e = 0)⟩) hi) hi hc
    · split
      · exact s.allowIn_sends hi hc
      · exact s.sendFlowPkt_sends e hi hc

theorem State.setTxring_sends (s : State) (f : Fld) (x : Nat) : SendFrame s (s.setFld ctlTxring f x) :=
  .of_onlyRegs ((s.setFld_onlyRegs _ _ _).mono fun _ e => .inr e)

theorem State.drainTx_sends (s : State) (k : Nat) : SendFrame s (s.drainTx k) := by
  induction k generalizing s with
  | zero => exact .refl s
  | succ k ih =>
    unfold State.drainTx
    extract_lets t b flits cls
    have hcls : cls < 4 := by simp only [cls]; split <;> omega
    split
    · exact .refl s
    · split
      · exact .refl s
      · exact ((s.setTxring_sends _ _).trans (State.inject_sends _ (by decide) hcls flits)).trans (ih _)

/-- Changing what firmware keeps, its record of the intermission apart. -/
theorem SendFrame.modFw (s : State) {x : FwSt} (h : x.int = s.fw.int) : SendFrame s { s with fw := x } := ⟨fun _ _ => rfl, rfl, rfl, h⟩

theorem State.sendMsg_sends (s : State) (i : Nat) (m : OutMsg) : SendFrame s (s.sendMsg i m) := by
  unfold State.sendMsg
  extract_lets own hdr h t u
  have ht : SendFrame s t := .modFw s rfl
  clear_value t
  have hu : SendFrame t u := (t.setTxring_sends _ _).trans (State.setTxring_sends _ _ _)
  clear_value u
  have ho (l : List OutMsg) : SendFrame u (u.setOut l) := .modFw u rfl
  exact ((ht.trans hu).trans (ho _)).trans (State.inject_sends _ (by decide) (by decide) _)

theorem State.pumpTx_sends (s : State) : SendFrame s s.pumpTx := by
  unfold State.pumpTx
  extract_lets t
  have ht : SendFrame s t := s.drainTx_sends 64
  split
  · exact ht
  · refine ht.trans (SendFrame.foldl _ (fun s i => ?_) _ t)
    split
    · split
      · exact s.sendMsg_sends _ _
      · exact .refl s
    · exact .refl s

theorem State.post_sends (s : State) (dest msg flags : Nat) (body : List Byte) (mb : Option Nat) : SendFrame s (s.post dest msg flags body mb) := by
  unfold State.post
  extract_lets q data
  clear_value q data
  refine SendFrame.trans ?_ (State.pumpTx_sends _)
  exact SendFrame.modFw s rfl

/-! ### A raised cause and the intermission (R432) -/

theorem State.sendVector_fw (s : State) (v : Nat) : (s.sendVector v).fw = s.fw := by
  unfold State.sendVector
  extract_lets u
  split
  · split <;> rfl
  · rfl

theorem foldl_fw {α : Type} (f : State → α → State) (h : ∀ s x, (f s x).fw = s.fw) (l : List α) (s : State) : (l.foldl f s).fw = s.fw := by
  induction l generalizing s with
  | nil => rfl
  | cons x l ih => exact (ih _).trans (h s x)

theorem State.alert_fw (s : State) (bits : List Nat) : (s.alert bits).fw = s.fw := by
  unfold State.alert State.sendVectors
  extract_lets rising again t u
  have ht : t.fw = s.fw := foldl_fw (fun s b => s.setFlag ctlHostAlert (bitF b)) (fun _ _ => rfl) bits s
  have hu : u.fw = s.fw := by
    refine Eq.trans ?_ ht
    exact foldl_fw _ (fun s b => by rfl) again t
  exact (foldl_fw _ State.sendVector_fw _ u).trans hu

theorem State.dropNotice_fw (s : State) : s.dropNotice.fw = s.fw := by
  unfold State.dropNotice
  split
  · extract_lets t u w
    have hu : u.fw = s.fw := by
      simp only [u]
      split <;> rfl
    split
    · exact hu
    · exact hu
  · rfl

theorem State.intFail_fw (s : State) (k : Nat) : (s.intFail k).fw = s.fw := by
  unfold State.intFail
  split <;> rfl

theorem OnlyChan.fw {n : Fin 8} {p : Nat → Prop} {s t : State} (h : OnlyChan n p s t) : t.fw = s.fw := by rw [h.2.2]

theorem State.enterCurtain_fw (s : State) (nt : Notice) : (s.enterCurtain nt).fw = s.fw := by
  unfold State.enterCurtain
  extract_lets t _ u
  refine (foldl_fw _ (fun s m => ?_) _ u).trans rfl
  split
  · exact (s.setStopAtCue_onlyChan m).fw
  · rfl

/-- A raised cause leaves what firmware keeps. -/
theorem State.raiseCause_fw (s : State) (code unit detail : Nat) (origin : Option Notice) : (s.raiseCause code unit detail origin).fw = s.fw := by
  unfold State.raiseCause
  extract_lets was same own fill u v w _ x y _ z
  have hu : u.fw = s.fw := by
    simp only [u]
    split
    · exact s.dropNotice_fw
    · rfl
  have hx : x.fw = s.fw := by
    simp only [x]
    split <;> exact hu
  have hz : z.fw = s.fw := by
    have hy : y.fw = s.fw := (State.intFail_fw _ _).trans ((x.alert_fw [0]).trans hx)
    simp only [z]
    split <;> exact hy
  split
  · exact (z.enterCurtain_fw _).trans hz
  · exact hz

/-- Before a cause ends an intermission in progress, it leaves SAF_INT; after that, so does the curtain. -/
theorem State.raiseCause_intFault (s : State) (code unit detail : Nat) (origin : Option Notice) :
    ∃ u : State, u.rd safInt = s.rd safInt ∧ (s.raiseCause code unit detail origin).rd safInt = (u.intFault code).rd safInt := by
  obtain ⟨u, z, nt, hu, hz, hor⟩ := s.raiseCause_parts code unit detail origin
  refine ⟨u.alert [0], ((u.alert_chans [0]).rd safInt (by decide)).trans (hu.rd safInt (by unfold FirstReg; decide)), ?_⟩
  rcases hor with e | e <;> rw [e]
  · exact hz.rd _ id
  · exact (State.enterCurtain_rd z nt (by decide) (by unfold ChanReg safInt; omega)).trans (hz.rd _ id)

theorem State.intFail_step (s : State) (k : Nat) : (s.intFail k).fld safInt SAF_INT_STEP = 0 := by
  unfold State.intFail
  split
  · assumption
  · exact State.fld_setFld_same _ _ _ _ (by decide)

/-- A raised cause ends an intermission in progress. -/
theorem State.raiseCause_step (s : State) (code unit detail : Nat) (origin : Option Notice) :
    (s.raiseCause code unit detail origin).fld safInt SAF_INT_STEP = 0 := by
  obtain ⟨u, -, h⟩ := s.raiseCause_intFault code unit detail origin
  rw [State.fld, h]
  exact u.intFail_step _

theorem State.intFail_bist (s : State) (k : Nat) : (s.intFail k).fld safInt SAF_INT_BIST_FAIL = s.fld safInt SAF_INT_BIST_FAIL := by
  unfold State.intFail
  split
  · rfl
  · rw [State.fld_setFld_field _ _ _ _ _ (by decide) (by decide), State.fld_setFld_field _ _ _ _ _ (by decide) (by decide), State.setFlag,
      State.keepSet_fld, State.fld_setFld_field _ _ _ _ _ (by decide) (by decide)]

theorem State.raiseCause_bist (s : State) (code unit detail : Nat) (origin : Option Notice) :
    (s.raiseCause code unit detail origin).fld safInt SAF_INT_BIST_FAIL = s.fld safInt SAF_INT_BIST_FAIL := by
  obtain ⟨u, hu, h⟩ := s.raiseCause_intFault code unit detail origin
  rw [State.fld, h]
  exact (u.intFail_bist _).trans (by rw [State.fld, hu, State.fld])

end Sys2Proof.Machine
end

section
/-!
The self-tests and the capture of an intermission (R81, R427 to R429, R432).
-/

namespace Sys2Proof.Machine

/-! ### Self-tests (R428) -/

theorem State.intChecked_onlyRegs (s : State) : OnlyRegs (fun off => off = safInt) s s.intChecked := by
  unfold State.intChecked
  dsimp only
  split
  · exact s.setFld_onlyRegs _ _ _
  · exact .of_eq s

/-- A state in which channel `n` is noted as tested and its engines hold test data. -/
def State.testedChan (s : State) (n : Fin 8) : State :=
  let s := { s with fw := { s.fw with int := { s.fw.int with tested := s.fw.int.tested.filter (· ≠ n.val) ++ [n.val] } } }
  (s.setChan n ((s.chan n).testData s.free)).take testCount

theorem State.testedChan_noted (s : State) (n : Fin 8) : n.val ∈ (s.testedChan n).fw.int.tested :=
  List.mem_append_right _ (List.mem_singleton_self _)

theorem State.testedChan_chan (s : State) (n : Fin 8) :
    ((s.testedChan n).chan n).sram = (s.chan n).sram ∧ ((s.testedChan n).chan n).sregs = (s.chan n).sregs := by
  have h : (s.testedChan n).chan n = (s.chan n).testData s.free := State.setChan_chan_same _ _ _
  rw [h]
  unfold Chan.testData
  exact ⟨rfl, rfl⟩

theorem exec_selfTestDone {s : State} {n : Fin 8} (f : BitVec 17) (h : s.fld safInt SAF_INT_STEP = 2) :
    exec (.selfTestDone n f) s = .next (if f = 0 then (s.testedChan n).intChecked
      else (((s.testedChan n).orBits safInt (setF 0 SAF_INT_BIST_FAIL f.toNat)).raiseCause 15 n 0 none).retireEngines n f) := by
  change execSelfTestDone n f s = _
  simp only [execSelfTestDone, h, ne_eq, not_true_eq_false, if_false, State.testedChan]

theorem getF_or (v w : Word64) (f : Fld) : getF (v ||| w) f = getF v f ||| getF w f := by
  unfold getF
  rw [BitVec.toNat_or, ← Nat.shiftRight_eq_div_pow, ← Nat.shiftRight_eq_div_pow, ← Nat.shiftRight_eq_div_pow, Nat.shiftRight_or_distrib,
    Nat.or_mod_two_pow]

/-- Bits set in a register join those of the field that holds them. -/
theorem State.orBits_fld (s : State) (off : Nat) (f : Fld) {x : Nat} (hf : f.lo + f.w ≤ 64) (hx : x < 2 ^ f.w) :
    (s.orBits off (setF 0 f x)).fld off f = s.fld off f ||| x := by
  rw [State.orBits, State.keepSet_fld, State.fld, State.rd_wr_same, getF_or, getF_setF_same _ _ _ hf, Nat.mod_eq_of_lt hx, State.fld]

/-! ### Engines that are retired (R112, R433) -/

/-- What retiring an engine leaves alone: the causes, the registers and the record of an intermission, and the host's alert of a cause. -/
structure RetireFrame (s t : State) : Prop where
  rd : t.rd safInt = s.rd safInt ∧ t.rd safFault = s.rd safFault
  alert : s.flag ctlHostAlert (bitF 0) = true → t.flag ctlHostAlert (bitF 0) = true
  int : t.fw.int = s.fw.int

theorem RetireFrame.refl (s : State) : RetireFrame s s := ⟨⟨rfl, rfl⟩, id, rfl⟩

theorem RetireFrame.trans {s t u : State} (h : RetireFrame s t) (h' : RetireFrame t u) : RetireFrame s u :=
  ⟨⟨h'.rd.1.trans h.rd.1, h'.rd.2.trans h.rd.2⟩, fun ha => h'.alert (h.alert ha), h'.int.trans h.int⟩

theorem RetireFrame.of_onlyRegs {p : Nat → Prop} {s t : State} (h : OnlyRegs p s t) (hi : ¬ p safInt) (hf : ¬ p safFault) (ha : ¬ p ctlHostAlert) :
    RetireFrame s t :=
  ⟨⟨h.1 _ hi, h.1 _ hf⟩, fun e => by rw [State.flag, h.fld ha]; exact e, by rw [h.fw]⟩

/-- An alert raised leaves those that stand. -/
theorem State.alert_keeps (s : State) (b : Nat) (hb : b < 64) (c : Nat) (h : s.flag ctlHostAlert (bitF c) = true) :
    (s.alert [b]).flag ctlHostAlert (bitF c) = true := by
  refine ((s.alert_after [b]).flag (by decide) _).trans ?_
  by_cases e : b = c
  · subst e
    exact s.flag_setFlag_same _ b hb
  · rw [List.foldl_cons, List.foldl_nil, State.flag, State.setFlag, State.keepSet_fld]
    have hd : (bitF b).lo + (bitF b).w ≤ (bitF c).lo ∨ (bitF c).lo + (bitF c).w ≤ (bitF b).lo := by
      change b + 1 ≤ c ∨ c + 1 ≤ b
      omega
    rw [State.fld_setFld_field _ _ (bitF b) (bitF c) _ hb hd]
    exact h

theorem State.record_retires (s : State) (r : Retired) : RetireFrame s (s.record r) := by
  unfold State.record
  split
  · exact .refl s
  · have hf := State.alert_memNet { s with fw := { s.fw with retired := s.fw.retired ++ [r] } } [8]
    exact ⟨⟨hf.rd _ (by decide), hf.rd _ (by decide)⟩, fun ha => State.alert_keeps _ 8 (by decide) 0 ha, by rw [State.alert_fw]⟩

theorem State.showShadow_onlyRegs (s : State) (n : Nat) : OnlyRegs (fun off => off = chTeMap n ∨ off = chShadow n) s (s.showShadow n) := by
  unfold State.showShadow
  extract_lets m ok t
  have ht : OnlyRegs (fun off => off = chTeMap n ∨ off = chShadow n) s t := (s.setFld_onlyRegs _ _ _).mono fun _ => .inl
  split
  · exact ht
  · exact ht.trans ((t.setFld_onlyRegs _ _ _).mono fun _ => .inr)

theorem State.retireEngine_retires (s : State) (n : Fin 8) (e : Nat) : RetireFrame s (s.retireEngine n e) := by
  have hn := n.isLt
  unfold State.retireEngine
  split
  · exact .refl s
  · split
    · refine (s.record_retires _).trans (.of_onlyRegs (State.setFld_onlyRegs _ pwrArith _ _) ?_ ?_ ?_) <;> decide
    · have hmap (t : State) : OnlyRegs (fun off => off = chTeMap n ∨ off = chShadow n) t (t.applyRecord ⟨1, n, e, 0⟩) := by
        have h1 {t u : State} (h : OnlyRegs (fun off => off = chTeMap n) t u) : OnlyRegs (fun off => off = chTeMap n ∨ off = chShadow n) t u :=
          h.mono fun _ => .inl
        unfold State.applyRecord
        dsimp only
        refine OnlyRegs.trans (OnlyRegs.ite (h1 (t.setFlag_onlyRegs _ _)) ?_) (State.showShadow_onlyRegs _ _)
        exact h1 ((t.setFld_onlyRegs _ _ _).trans (State.setFlag_onlyRegs _ _ _))
      have hoff {off : Nat} (h : 0x06000000 ≤ off) : ¬ (off = chTeMap n ∨ off = chShadow n) := by
        unfold chTeMap chShadow
        omega
      exact (s.record_retires _).trans (.of_onlyRegs (hmap _) (hoff (by decide)) (hoff (by decide)) (hoff (by decide)))

theorem State.retireEngines_retires (s : State) (n : Fin 8) (f : BitVec 17) : RetireFrame s (s.retireEngines n f) := by
  unfold State.retireEngines
  generalize maskList 17 f.toNat = l
  induction l generalizing s with
  | nil => exact .refl s
  | cons e l ih => exact (s.retireEngine_retires n e).trans (ih _)

/-- A self-test that fails: its engines are recorded, its cause is raised, and the engines are retired (R428, R432). -/
theorem State.selfTest_fails (s : State) (n : Fin 8) (f : BitVec 17) :
    let t := (((s.testedChan n).orBits safInt (setF 0 SAF_INT_BIST_FAIL f.toNat)).raiseCause 15 n 0 none).retireEngines n f
    Raised t 15 n ∧ t.fld safInt SAF_INT_BIST_FAIL = s.fld safInt SAF_INT_BIST_FAIL ||| f.toNat ∧ n.val ∈ t.fw.int.tested := by
  intro t
  have hret := State.retireEngines_retires (((s.testedChan n).orBits safInt (setF 0 SAF_INT_BIST_FAIL f.toNat)).raiseCause 15 n 0 none) n f
  obtain ⟨hflag, halert⟩ := State.raiseCause_raised ((s.testedChan n).orBits safInt (setF 0 SAF_INT_BIST_FAIL f.toNat)) (code := 15) (unit := n)
    0 none (show 21 < 64 by decide)
  refine ⟨⟨?_, hret.alert halert⟩, ?_, ?_⟩
  · rw [State.flag, State.fld, hret.rd.2]
    exact hflag
  · rw [State.fld, hret.rd.1]
    refine (State.raiseCause_bist _ _ _ _ _).trans ((State.orBits_fld _ _ _ (by decide) f.isLt).trans ?_)
    rfl
  · rw [hret.int, State.raiseCause_fw]
    exact s.testedChan_noted n

end Sys2Proof.Machine
end

section
/-!
The capture of an intermission into the snapshot area (R81, R425, R429, R432).
-/

namespace Sys2Proof.Machine

/-! ### What the snapshot engine reads -/

theorem State.snapRead_length (s : State) (n : Fin 8) (errs : List ReadErr) : (s.snapRead n errs).1.length = 50593792 := by
  unfold State.snapRead slice
  dsimp only
  rw [List.length_map, List.length_range]

/-- The block of a channel follows from the channel and the registers. -/
theorem State.snapRead_congr {s t : State} {n : Fin 8} (hr : ∀ off, t.rd off = s.rd off) (hc : t.chan n = s.chan n) (errs : List ReadErr) :
    t.snapRead n errs = s.snapRead n errs := by
  have hmap : t.bankMap n = s.bankMap n := State.bankMap_congr (State.running_of_rd (hr _)) (by rw [hc]) (hr _)
  unfold State.snapRead State.chanImage
  simp only [hc, hmap, hr]

theorem State.snapRead_clean (s : State) (n : Fin 8) : (s.snapRead n []).2 = ([], []) := rfl

theorem readWords_one (addr : Nat) (b : List Byte) (x : Nat × SymErr) : (readWords addr b [x]).2 = [] ∨ ∃ o, (readWords addr b [x]).2 = [(x.1, o)] := by
  unfold readWords
  rw [List.foldl_cons, List.foldl_nil]
  dsimp only
  split
  · exact .inr ⟨_, rfl⟩
  · exact .inl rfl

/-- A read with one error finds at most one word, of the channel's SRAM or of its register files. -/
theorem State.snapRead_one (s : State) (n : Fin 8) (x : ReadErr) : (s.snapRead n [x]).2 = ([], []) ∨
    (∃ w o, (s.snapRead n [x]).2 = ([(w, o)], [])) ∨ ∃ o, (s.snapRead n [x]).2 = ([], [o]) := by
  unfold State.snapRead
  dsimp only [List.filterMap_cons, List.filterMap_nil]
  generalize (s.chan n).sramRead (s.bankMap n) 0 0x3000000 = b
  generalize (List.range 32).flatMap _ ++ (List.range 64).flatMap _ = r
  have hregs (y : Nat × SymErr) : (readWords 0 b []).2 = [] ∧
      ((readWords 0 r [y]).2.map (·.2) = [] ∨ ∃ o, (readWords 0 r [y]).2.map (·.2) = [o]) := by
    refine ⟨rfl, ?_⟩
    rcases readWords_one 0 r y with h | ⟨o, h⟩ <;> rw [h]
    · exact .inl rfl
    · exact .inr ⟨o, rfl⟩
  have hone (y : Nat × SymErr) : ((readWords 0 b []).2, (readWords 0 r [y]).2.map (·.2)) = ([], []) ∨
      ∃ o, ((readWords 0 b []).2, (readWords 0 r [y]).2.map (·.2)) = ([], [o]) := by
    obtain ⟨hb, h | ⟨o, h⟩⟩ := hregs y <;> rw [hb, h]
    · exact .inl rfl
    · exact .inr ⟨o, rfl⟩
  obtain ⟨src, word, err⟩ := x
  cases src with
  | sram =>
    rcases readWords_one 0 b (word, err) with h | ⟨o, h⟩
    · exact .inl (by simp [h])
    · exact .inr (.inl ⟨word, o, by simp [h]⟩)
  | vreg i => exact (hone (512 * i + word % 512, err)).imp id .inr
  | sreg i => exact (hone (16384 + i, err)).imp id .inr
  | _ => exact .inl rfl

/-! ### A channel captured (R427, R429, R432) -/

theorem State.captureChan_eq (s : State) (n : Fin 8) (errs : List ReadErr) : s.captureChan n errs =
    ((if (s.snapRead n errs).2.1.any (fun x => decide (x.2 = .bad)) || (s.snapRead n errs).2.2.any (fun o => decide (o = .bad)) then s.intFail 2
      else s.memWrite (s.snapBlock n) (s.snapRead n errs).1 []).snapFound n (s.snapRead n errs).2.1 (s.snapRead n errs).2.2) := by
  unfold State.captureChan
  generalize s.snapRead n errs = r
  rfl

theorem State.captureChan_written {s : State} {n : Fin 8} {errs : List ReadErr} (h : (s.snapRead n errs).2 = ([], [])) :
    s.captureChan n errs = s.memWrite (s.snapBlock n) (s.snapRead n errs).1 [] := by
  rw [State.captureChan_eq]
  generalize s.snapRead n errs = r at h ⊢
  obtain ⟨b, found⟩ := r
  obtain rfl : found = ([], []) := h
  simp only [List.any_nil, Bool.or_self, Bool.false_eq_true, if_false, State.snapFound, List.foldl_nil, State.sramFound_nil]

theorem State.captureChan_clean (s : State) (n : Fin 8) : s.captureChan n [] = s.memWrite (s.snapBlock n) (s.snapRead n []).1 [] :=
  State.captureChan_written (s.snapRead_clean n)

/-- A block is written in whole sectors. -/
theorem State.snapBlock_write (s : State) (n : Fin 8) (errs : List ReadErr) : JustMem s (s.memWrite (s.snapBlock n) (s.snapRead n errs).1 []) := by
  refine s.memWrite_whole ?_ ?_ []
  · unfold State.snapBlock State.prot
    omega
  · rw [s.snapRead_length]

theorem State.captureChan_justMem (s : State) (n : Fin 8) : JustMem s (s.captureChan n []) := by
  rw [s.captureChan_clean]
  exact s.snapBlock_write n []

/-- An uncorrectable word fails the intermission and is a fault of the channel. -/
theorem State.captureChan_sramBad {s : State} {n : Fin 8} {errs : List ReadErr} {w : Nat} (h : (s.snapRead n errs).2 = ([(w, .bad)], [])) :
    ∃ (u : State) (pc cycle : Nat), s.captureChan n errs = u.faultChanAt n 6 pc 0 cycle := by
  rw [State.captureChan_eq, h]
  exact ⟨_, _, _, rfl⟩

theorem State.captureChan_regsBad {s : State} {n : Fin 8} {errs : List ReadErr} (h : (s.snapRead n errs).2 = ([], [.bad])) :
    ∃ (u : State) (pc cycle : Nat), s.captureChan n errs = u.faultChanAt n 11 pc 0 cycle := by
  rw [State.captureChan_eq, h]
  exact ⟨_, _, _, rfl⟩

theorem State.faultChanAt_step (s : State) (n : Fin 8) (b pc engine cycle : Nat) :
    (s.faultChanAt n b pc engine cycle).fld safInt SAF_INT_STEP = 0 := by
  unfold State.faultChanAt
  exact State.raiseCause_step _ _ _ _ _

/-! ### All channels captured -/

/-- The errors that a capture meets in channel `n`. -/
def captureErrs (errs : List (Fin 8 × ReadErr)) (n : Fin 8) : List ReadErr := errs.filterMap fun e => if e.1 = n then some e.2 else none

/-- The channels of a list are captured, one after another. -/
def State.captureList (s : State) (l : List (Fin 8)) (errs : List (Fin 8 × ReadErr)) : State :=
  l.foldl (fun s n => s.captureChan n (captureErrs errs n)) s

/-- What follows the capture of the channels: the device record, step 5, and CAPTURED to the coordinator. -/
def State.captureEnd (s : State) : State :=
  if s.fld safInt SAF_INT_STEP ≠ 3 then s
  else
    let s := (s.memWrite s.devRecord s.recordBytes []).setFld safInt SAF_INT_STEP 5
    match s.fw.prog with
    | some p => s.post (p.devmap.headD 0) msCaptured 0 (leBytes 8 s.fw.int.k) none
    | none => s

theorem State.captureList_justMem (s : State) {l : List (Fin 8)} {errs : List (Fin 8 × ReadErr)} (h : ∀ n ∈ l, captureErrs errs n = []) :
    JustMem s (s.captureList l errs) :=
  JustMem.foldl _ _ (fun s n hn => by rw [h n hn]; exact s.captureChan_justMem n) s

theorem State.captureList_clean (s : State) (l : List (Fin 8)) :
    s.captureList l [] = l.foldl (fun s n => s.memWrite (s.snapBlock n) (s.snapRead n []).1 []) s := by
  have h : (fun (s : State) (n : Fin 8) => s.captureChan n (captureErrs [] n)) = fun s n => s.memWrite (s.snapBlock n) (s.snapRead n []).1 [] :=
    funext fun s => funext fun n => s.captureChan_clean n
  rw [State.captureList, h]

theorem captureErrs_self (n : Fin 8) (x : ReadErr) : captureErrs [(n, x)] n = [x] := by simp [captureErrs]

theorem captureErrs_other {n m : Fin 8} (h : m ≠ n) (x : ReadErr) : captureErrs [(n, x)] m = [] := by simp [captureErrs, Ne.symm h]

/-- The channels before one and after it. -/
theorem fins_split (n : Fin 8) : ∃ l l', fins 8 = l ++ n :: l' ∧ n ∉ l ∧ n ∉ l' := by
  have hmem : n ∈ fins 8 := by revert n; decide
  obtain ⟨l, l', h⟩ := List.append_of_mem hmem
  have hnd : (l ++ n :: l').Nodup := h ▸ (by decide)
  exact ⟨l, l', h, fun e => (List.nodup_append.mp hnd).2.2 n e n List.mem_cons_self rfl,
    (List.nodup_cons.mp (List.nodup_append.mp hnd).2.1).1⟩

/-- With one error, the other channels are captured, and this one fares as alone. -/
theorem State.captureAll_one (g : State) (n : Fin 8) (x : ReadErr) : ∃ v, JustMem g v ∧ JustMem (v.captureChan n [x]) (g.captureList (fins 8) [(n, x)]) := by
  obtain ⟨l, l', hl, hn, hn'⟩ := fins_split n
  have hother (m : Fin 8) (h : m ≠ n) : captureErrs [(n, x)] m = [] := captureErrs_other h x
  refine ⟨g.captureList l [(n, x)], State.captureList_justMem g fun m hm => hother m fun e => hn (e ▸ hm), ?_⟩
  have h : g.captureList (fins 8) [(n, x)] = ((g.captureList l [(n, x)]).captureChan n [x]).captureList l' [(n, x)] := by
    rw [State.captureList, hl, List.foldl_append, List.foldl_cons, captureErrs_self]
    rfl
  rw [h]
  exact State.captureList_justMem _ fun m hm => hother m fun e => hn' (e ▸ hm)

theorem JustMem.snapRead {s t : State} (h : JustMem s t) (n : Fin 8) (errs : List ReadErr) : t.snapRead n errs = s.snapRead n errs :=
  State.snapRead_congr h.rd (h.chan n) errs

/-- A capture that ends in a fault of channel `n`: its bit, the cause, and the intermission over. -/
theorem State.captureFault {g : State} {n : Fin 8} {x : ReadErr} {b : Nat} (hb : b < 12)
    (h : ∀ v, JustMem g v → ∃ (u : State) (pc cycle : Nat), v.captureChan n [x] = u.faultChanAt n b pc 0 cycle) :
    let t := (g.captureList (fins 8) [(n, x)]).captureEnd
    t.flag (chFault n) (bitF b) = true ∧ t.flag safFault (bitF n.val) = true ∧ t.fld safInt SAF_INT_STEP = 0 := by
  obtain ⟨v, hv, ht⟩ := g.captureAll_one n x
  obtain ⟨u, pc, cycle, hu⟩ := h v hv
  rw [hu] at ht
  have hfault := u.faultChanAt_faulted n hb pc 0 cycle
  have hstep : (g.captureList (fins 8) [(n, x)]).fld safInt SAF_INT_STEP = 0 := (ht.fld _ _).trans (u.faultChanAt_step n b pc 0 cycle)
  intro t
  have htw : t = g.captureList (fins 8) [(n, x)] := if_pos (by rw [hstep]; decide)
  rw [htw]
  exact ⟨by rw [State.flag, ht.fld]; exact hfault.bit, by rw [State.flag, ht.fld]; exact hfault.safFault, hstep⟩

/-- A capture without errors: the device record is written after the blocks, and the step is 5. -/
theorem State.captureEnd_done {g : State} (h : g.fld safInt SAF_INT_STEP = 3) :
    let w := g.captureList (fins 8) []
    let t := w.captureEnd
    t.fld safInt SAF_INT_STEP = 5 ∧ t.mem = (w.memWrite w.devRecord w.recordBytes []).mem ∧ t.ch = g.ch := by
  intro w t
  have hw : JustMem g w := g.captureList_justMem fun _ _ => rfl
  have hrec : JustMem w (w.memWrite w.devRecord w.recordBytes []) := by
    refine w.memWrite_whole ?_ ?_ []
    · unfold State.devRecord
      omega
    · simp [State.recordBytes, leBytes]
  have hv : ∃ v, v = (w.memWrite w.devRecord w.recordBytes []).setFld safInt SAF_INT_STEP 5 := ⟨_, rfl⟩
  obtain ⟨v, hv⟩ := hv
  have ht : SendFrame v t := by
    have e : t = match v.fw.prog with
        | some p => v.post (p.devmap.headD 0) msCaptured 0 (leBytes 8 v.fw.int.k) none
        | none => v := by
      rw [hv]
      exact if_neg (by rw [hw.fld, h]; decide)
    rw [e]
    split
    · exact v.post_sends _ _ _ _ _
    · exact .refl v
  refine ⟨?_, ?_, ?_⟩
  · rw [ht.fld not_sendReg_safInt, hv, State.fld_setFld_same _ _ _ _ (by decide)]
    rfl
  · rw [ht.mem, hv]
    rfl
  · rw [ht.ch, hv, State.setFld_ch, hrec.ch, hw.ch]

theorem exec_captureDone {s g : State} (errs : List (Fin 8 × ReadErr)) (h3 : s.fld safInt SAF_INT_STEP = 3) (hu : s.memUsable = true)
    (hland : ((fins 8).foldl State.landAll s).fld safInt SAF_INT_STEP = 3)
    (hmay : (fins 8).all ((fins 8).foldl State.landAll s).mayCapture = true)
    (hcross : (fins 8).all ((fins 8).foldl State.landAll s).countsCrossed = true)
    (hg : ((fins 8).foldl State.landAll s).arbAccesses ((fins 8).foldl State.landAll s).captureArbs = (g, true)) :
    exec (.captureDone errs) s = .next (g.captureList (fins 8) errs).captureEnd := by
  change execCaptureDone errs s = _
  simp only [execCaptureDone, h3, hu, hland, hmay, hcross, hg, ne_eq, not_true_eq_false, Bool.not_true, Bool.false_eq_true, or_self, if_false,
    State.captureEnd, State.captureList, captureErrs] <;> rfl

theorem exec_captureDone_refused {s : State} (errs : List (Fin 8 × ReadErr)) (h3 : s.fld safInt SAF_INT_STEP = 3) (hu : s.memUsable = true)
    (hland : ((fins 8).foldl State.landAll s).fld safInt SAF_INT_STEP = 3)
    (hmay : (fins 8).all ((fins 8).foldl State.landAll s).mayCapture = false) :
    exec (.captureDone errs) s = .next (((fins 8).foldl State.landAll s).failInt 2) := by
  change execCaptureDone errs s = _
  simp only [execCaptureDone, h3, hu, hland, hmay, ne_eq, not_true_eq_false, Bool.not_true, Bool.not_false, Bool.false_eq_true, or_self, if_false,
    if_true]

end Sys2Proof.Machine
end

section
/-!
The copies of an intermission (R430, R432).
-/

namespace Sys2Proof.Machine

/-! ### Copies within device memory -/

/-- One block of a copy, after those before it. -/
def copyOne (w from_ to_ : Nat) (errs : List (Nat × SymErr)) (acc : State × Option Nat) (p : Nat) : State × Option Nat :=
  match acc with
  | (s, some c) => (s, some c)
  | (s, none) =>
    match s.memRead (from_ + p * w) w (s.errsAt (from_ + p * w) w errs) with
    | (s, d, []) => (s.memStore (to_ + p * w) d [], none)
    | (s, _, c :: _) => (s, some c)

theorem State.copyBlocks_eq (s : State) (w : Nat) (blocks : List Nat) (from_ to_ : Nat) (errs : List (Nat × SymErr)) :
    s.copyBlocks w blocks from_ to_ errs = blocks.foldl (copyOne w from_ to_ errs) (s, none) := rfl

theorem copyOne_onlyMem (w from_ to_ : Nat) (errs : List (Nat × SymErr)) (acc : State × Option Nat) (p : Nat) :
    OnlyMem acc.1 (copyOne w from_ to_ errs acc p).1 := by
  obtain ⟨s, _ | c⟩ := acc
  · have h := s.memRead_onlyMem (from_ + p * w) w (s.errsAt (from_ + p * w) w errs)
    unfold copyOne
    dsimp only
    split
    · next e =>
      rw [e] at h
      exact h.trans (State.memStore_onlyMem _ _ _ _)
    · next e =>
      rw [e] at h
      exact h
  · exact .refl s

theorem State.errsAt_congr {s t : State} (h : SameContents s.mem t.mem) (a len : Nat) (errs : List (Nat × SymErr)) :
    t.errsAt a len errs = s.errsAt a len errs := by
  simp only [State.errsAt, h.memMap]

/-- What a block's copy comes to follows from the contents of memory. -/
theorem copyOne_congr (w from_ to_ : Nat) (errs : List (Nat × SymErr)) {acc acc' : State × Option Nat} (h : SameContents acc.1.mem acc'.1.mem)
    (h2 : acc'.2 = acc.2) (p : Nat) : SameContents (copyOne w from_ to_ errs acc p).1.mem (copyOne w from_ to_ errs acc' p).1.mem ∧
      (copyOne w from_ to_ errs acc' p).2 = (copyOne w from_ to_ errs acc p).2 := by
  obtain ⟨s, o⟩ := acc
  obtain ⟨t, o'⟩ := acc'
  cases h2
  cases o with
  | some c => exact ⟨h, rfl⟩
  | none =>
    have hread := State.memRead_congr h (from_ + p * w) w (s.errsAt (from_ + p * w) w errs)
    have hmem := ((s.memRead_leaves (from_ + p * w) w (s.errsAt (from_ + p * w) w errs)).1.symm.trans h).trans
      (t.memRead_leaves (from_ + p * w) w (s.errsAt (from_ + p * w) w errs)).1
    simp only [copyOne, State.errsAt_congr (s := s) (t := t) h]
    generalize t.memRead (from_ + p * w) w (s.errsAt (from_ + p * w) w errs) = y at hread hmem ⊢
    generalize s.memRead (from_ + p * w) w (s.errsAt (from_ + p * w) w errs) = z at hread hmem ⊢
    obtain ⟨u, d, bad⟩ := y
    obtain ⟨v, d', bad'⟩ := z
    cases hread
    cases bad with
    | nil => exact ⟨State.memStore_congr hmem _ _ _, rfl⟩
    | cons c l => exact ⟨hmem, rfl⟩

theorem State.copyPages_onlyMem (s : State) (pages : List Nat) (from_ to_ : Nat) (errs : List (Nat × SymErr)) :
    OnlyMem s (s.copyPages pages from_ to_ errs).1 := by
  rw [State.copyPages, State.copyBlocks_eq]
  suffices h : ∀ acc : State × Option Nat, OnlyMem acc.1 (pages.foldl (copyOne (2 ^ 21) from_ to_ errs) acc).1 from h (s, none)
  induction pages with
  | nil => exact fun acc => .refl _
  | cons p l ih => exact fun acc => (copyOne_onlyMem _ _ _ _ acc p).trans (ih _)

theorem State.copyPages_congr {s t : State} (h : SameContents s.mem t.mem) (pages : List Nat) (from_ to_ : Nat) (errs : List (Nat × SymErr)) :
    SameContents (s.copyPages pages from_ to_ errs).1.mem (t.copyPages pages from_ to_ errs).1.mem ∧
      (t.copyPages pages from_ to_ errs).2 = (s.copyPages pages from_ to_ errs).2 := by
  rw [State.copyPages, State.copyPages, State.copyBlocks_eq, State.copyBlocks_eq]
  suffices hl : ∀ acc acc' : State × Option Nat, SameContents acc.1.mem acc'.1.mem → acc'.2 = acc.2 →
      SameContents (pages.foldl (copyOne (2 ^ 21) from_ to_ errs) acc).1.mem (pages.foldl (copyOne (2 ^ 21) from_ to_ errs) acc').1.mem ∧
        (pages.foldl (copyOne (2 ^ 21) from_ to_ errs) acc').2 = (pages.foldl (copyOne (2 ^ 21) from_ to_ errs) acc).2 from hl _ _ h rfl
  induction pages with
  | nil => exact fun _ _ hc h2 => ⟨hc, h2⟩
  | cons p l ih =>
    intro acc acc' hc h2
    obtain ⟨hc', h2'⟩ := copyOne_congr (2 ^ 21) from_ to_ errs hc h2 p
    exact ih _ _ hc' h2'

/-! ### COPY_ENGINE_DONE -/

/-- The buddy copy has been sent, and waits for its end (R430). -/
def State.awaitsCopies (s : State) : Prop := s.fw.int.copying = true ∧ s.fw.int.sent = true ∧ s.memUsable = true

theorem State.sendCopies_sent {s : State} (h : s.fw.int.sent = true) (errs : List (Nat × SymErr)) : s.sendCopies errs = s := by
  unfold State.sendCopies
  dsimp only
  rw [h]
  simp only [Bool.or_true, Bool.true_or, if_true]

theorem exec_copyEngineDone_stalled {s : State} (h : s.awaitsCopies) (hs : s.copyFlow.stalled = true) :
    exec (.copyEngineDone []) s = .next (s.stopCopies.failInt 4) := by
  obtain ⟨hc, hsent, hu⟩ := h
  change execCopyEngineDone [] s = _
  simp only [execCopyEngineDone, State.sendCopies_sent hsent, hc, hsent, hu, hs, Bool.not_true, Bool.or_self, Bool.false_eq_true, if_false, if_true]

/-- What the local copies come to. -/
def State.copyOutcome (s : State) (errs : List (Nat × SymErr)) : State :=
  match s.copyPages s.dirtyPages 0 s.ckpt errs with
  | (s, some c) => (s.stopCopies.intFail 3).raiseCause 2 c 0 none
  | (s, none) => s.copiesDone

theorem State.copyOutcome_ok {s : State} {errs : List (Nat × SymErr)} (h : (s.copyPages s.dirtyPages 0 s.ckpt errs).2 = none) :
    s.copyOutcome errs = (s.copyPages s.dirtyPages 0 s.ckpt errs).1.copiesDone := by
  unfold State.copyOutcome
  generalize s.copyPages s.dirtyPages 0 s.ckpt errs = r at h ⊢
  obtain ⟨v, bad⟩ := r
  cases h
  rfl

theorem State.copyOutcome_bad {s : State} {errs : List (Nat × SymErr)} {c : Nat} (h : (s.copyPages s.dirtyPages 0 s.ckpt errs).2 = some c) :
    s.copyOutcome errs = ((s.copyPages s.dirtyPages 0 s.ckpt errs).1.stopCopies.intFail 3).raiseCause 2 c 0 none := by
  unfold State.copyOutcome
  generalize s.copyPages s.dirtyPages 0 s.ckpt errs = r at h ⊢
  obtain ⟨v, bad⟩ := r
  cases h
  rfl

theorem exec_copyEngineDone {s g : State} {errs : List (Nat × SymErr)} (h : s.awaitsCopies) (hs : s.copyFlow.stalled = false)
    (ha : s.copyFlow.await = none) (hh : s.copyFlow.held = [])
    (hg : s.arbAccesses (s.pageArbs s.dirtyPages 0 false ++ s.pageArbs s.dirtyPages s.ckpt true) = (g, true)) :
    exec (.copyEngineDone errs) s = .next (g.copyOutcome errs) := by
  obtain ⟨hc, hsent, hu⟩ := h
  change execCopyEngineDone errs s = _
  simp only [execCopyEngineDone, State.sendCopies_sent hsent, hc, hsent, hu, hs, ha, hh, hg, Bool.not_true, Bool.or_self, Bool.false_eq_true, if_false,
    Option.isSome_none, List.isEmpty_nil, State.copyOutcome] <;> rfl

theorem OnlyArbs.ckpt {s g : State} (h : OnlyArbs s g) : g.ckpt = s.ckpt ∧ g.dirtyPages = s.dirtyPages := by
  have hr : g.rd safRegion = s.rd safRegion := h.1 _ fun ha => by
    obtain ⟨a, k, e⟩ := ha
    cases a <;> simp only [arbStatOf, arbCntOf, arbLongestOf, arbStatM, arbStatB, arbCntM, arbCntB, arbLongestM, arbLongestB, safRegion] at e <;> omega
  simp only [State.ckpt, State.dirtyPages, State.fld, hr, h.mem]
  exact ⟨trivial, rfl⟩

theorem OnlyArbs.safInt {s g : State} (h : OnlyArbs s g) : g.rd safInt = s.rd safInt := h.1 _ fun ha => by
  obtain ⟨a, k, e⟩ := ha
  cases a <;> simp only [arbStatOf, arbCntOf, arbLongestOf, arbStatM, arbStatB, arbCntM, arbCntB, arbLongestM, arbLongestB, Machine.safInt] at e <;>
    omega

/-- A copy that met an uncorrectable word ends the copies and raises MEMORY. -/
theorem State.copyFailed (s : State) (c : Nat) :
    Raised ((s.stopCopies.intFail 3).raiseCause 2 c 0 none) 2 0 ∧ ((s.stopCopies.intFail 3).raiseCause 2 c 0 none).fw.int.copying = false :=
  ⟨State.raiseCause_raised (code := 2) (unit := c) _ 0 none (show 8 < 64 by decide), by rw [State.raiseCause_fw, State.intFail_fw]; rfl⟩

theorem State.failInt_raises (s : State) (k : Nat) : Raised (s.failInt k) 14 0 ∧ (s.failInt k).fw = s.fw ∧ (s.failInt k).fld safInt SAF_INT_STEP = 0 :=
  ⟨State.raiseCause_raised (code := 14) _ 0 none (show 20 < 64 by decide), by rw [State.failInt, State.raiseCause_fw, State.intFail_fw],
    State.raiseCause_step _ _ _ _ _⟩

/-- Copies that end well in step 6. -/
theorem State.copiesDone_ends {s : State} (h : s.fld safInt SAF_INT_STEP = 6) :
    s.copiesDone.fld safInt SAF_INT_STEP = 7 ∧ s.copiesDone.flag safInt SAF_INT_DIRTY_VALID = true ∧ s.copiesDone.mem.dirty = [] ∧
      s.copiesDone.fw.int.copying = false ∧ s.copiesDone.mem.bytes = s.mem.bytes := by
  obtain ⟨u, hu⟩ : ∃ u, u = ({ s with mem := { s.mem with dirty := [] } }.stopCopies).setFlag safInt SAF_INT_DIRTY_VALID := ⟨_, rfl⟩
  have hstep : u.fld safInt SAF_INT_STEP = 6 := by
    rw [hu, State.setFlag, State.keepSet_fld, State.fld_setFld_field _ _ _ _ _ (by decide) (by decide)]
    exact h
  have hsend : SendFrame (u.setFld safInt SAF_INT_STEP 7) s.copiesDone := by
    have e : s.copiesDone = match (u.setFld safInt SAF_INT_STEP 7).fw.prog with
        | some p => (u.setFld safInt SAF_INT_STEP 7).post (p.devmap.headD 0) msDone 0 (leBytes 8 (u.setFld safInt SAF_INT_STEP 7).fw.int.k) none
        | none => u.setFld safInt SAF_INT_STEP 7 := by
      unfold State.copiesDone
      rw [← hu]
      exact if_pos hstep
    rw [e]
    split
    · exact State.post_sends _ _ _ _ _ _
    · exact .refl _
  refine ⟨?_, ?_, ?_, ?_, ?_⟩
  · rw [hsend.fld not_sendReg_safInt, State.fld_setFld_same _ _ _ _ (by decide)]
    rfl
  · rw [State.flag, hsend.fld not_sendReg_safInt, State.fld_setFld_field _ _ _ _ _ (by decide) (by decide), hu, State.setFlag, State.keepSet_fld,
      State.fld_setFld_same _ _ _ _ (by decide)]
    rfl
  · rw [hsend.mem, hu]
    rfl
  · rw [hsend.int, hu]
    rfl
  · rw [hsend.mem, hu]
    rfl

end Sys2Proof.Machine
end

section
open Sys2Proof Machine

/-- Settles O40: with one error a capture's other channels write whole sectors, so the fault of the one stands; raising a cause and sending a message
leave the intermission's record alone. -/
theorem intermissionSteps : Obligations.IntermissionSteps := by
  unfold Obligations.IntermissionSteps
  intro s
  refine ⟨fun n f h2 => ⟨fun hf => ?_, fun hf => ?_⟩, fun h3 hu => ?_, fun hc hsent hu => ⟨fun hs => ?_, fun errs hs ha hh hg => ?_⟩⟩
  · refine ⟨_, exec_selfTestDone f h2, ?_⟩
    dsimp only
    rw [if_pos hf]
    have hr := (s.testedChan n).intChecked_onlyRegs
    rw [hr.fw, hr.chan, hr.mem]
    obtain ⟨hsram, hsregs⟩ := s.testedChan_chan n
    exact ⟨s.testedChan_noted n, hsram, hsregs, rfl, fun off ho => hr.1 off ho⟩
  · refine ⟨_, exec_selfTestDone f h2, ?_⟩
    rw [if_neg hf]
    exact s.selfTest_fails n f
  · intro u g w hland
    refine ⟨fun hmay => ?_, fun hmay hcross hg => ?_⟩
    · obtain ⟨hraised, -, hstep⟩ := u.failInt_raises 2
      exact ⟨_, exec_captureDone_refused [] h3 hu hland hmay, hraised, hstep⟩
    · obtain ⟨v, hv, ho⟩ := State.arbAccesses_granted hg
      obtain rfl : g = v := congrArg Prod.fst hv
      have hdone (errs : List (Fin 8 × ReadErr)) := exec_captureDone errs h3 hu hland hmay hcross hv
      have hw : g.captureList (fins 8) [] = w := g.captureList_clean (fins 8)
      refine ⟨⟨_, hw ▸ hdone [], ?_⟩, fun n x => ⟨fun ⟨y, hy, hbad⟩ => ⟨_, hdone _, ?_⟩, fun hbad => ⟨_, hdone _, ?_⟩⟩⟩
      · have hstep : g.fld safInt SAF_INT_STEP = 3 := by rw [State.fld, ho.safInt]; exact hland
        have hend := State.captureEnd_done hstep
        rw [hw] at hend
        exact hend
      · refine State.captureFault (by decide) fun v hv => ?_
        have hone := g.snapRead_one n x
        rw [← hv.snapRead] at hy hone
        rcases hone with e | ⟨k, o, e⟩ | ⟨o, e⟩ <;> rw [e] at hy
        · exact absurd hy List.not_mem_nil
        · obtain rfl := List.mem_singleton.mp hy
          obtain rfl : o = .bad := hbad
          exact State.captureChan_sramBad e
        · exact absurd hy List.not_mem_nil
      · refine State.captureFault (by decide) fun v hv => ?_
        have hone := g.snapRead_one n x
        rw [← hv.snapRead] at hbad hone
        rcases hone with e | ⟨k, o, e⟩ | ⟨o, e⟩ <;> rw [e] at hbad
        · exact absurd hbad List.not_mem_nil
        · exact absurd hbad List.not_mem_nil
        · obtain rfl := List.mem_singleton.mp hbad
          exact State.captureChan_regsBad e
  · obtain ⟨hraised, hfw, -⟩ := s.stopCopies.failInt_raises 4
    exact ⟨_, exec_copyEngineDone_stalled ⟨hc, hsent, hu⟩ hs, hraised, by rw [hfw]; rfl⟩
  · obtain ⟨g, hgr, ho⟩ := State.arbAccesses_granted hg
    have hdone := exec_copyEngineDone (errs := errs) ⟨hc, hsent, hu⟩ hs ha hh hgr
    obtain ⟨hckpt, hdirty⟩ := ho.ckpt
    obtain ⟨hsame, hend⟩ := State.copyPages_congr (SameContents.of_eq ho.mem) s.dirtyPages 0 s.ckpt errs
    rw [← hckpt, ← hdirty] at hsame hend ⊢
    refine ⟨fun hok h6 => ⟨_, hdone, ?_⟩, fun c hbad => ⟨_, hdone, ?_⟩⟩
    · have hstep : (g.copyPages g.dirtyPages 0 g.ckpt errs).1.fld safInt SAF_INT_STEP = 6 := by
        rw [(g.copyPages_onlyMem _ _ _ _).fld not_memErrReg_safInt, State.fld, ho.safInt]
        exact h6
      rw [State.copyOutcome_ok (hend.trans hok)]
      obtain ⟨h7, hvalid, hclear, hcopy, hbytes⟩ := State.copiesDone_ends hstep
      exact ⟨h7, hvalid, hclear, hcopy, hbytes.trans hsame.bytes⟩
    · rw [State.copyOutcome_bad (hend.trans hbad)]
      exact State.copyFailed _ c

end

section
/-!
A channel reset (R122, R125, R194): what is withdrawn at the memory channels' arbiters, and what the registers and the banks' arbiters become.
-/

namespace Sys2Proof.Machine

/-! ### Requests withdrawn (R194) -/

/-- What a channel asks of an arbiter of a memory channel is withdrawn, unless it is masked there. -/
def State.dropAt (s : State) (n : Fin 8) (c : Fin 128) : State :=
  if (s.arb (.mem c)).reqs[n.castLE (by decide : 8 ≤ 10)].masked then s
  else (s.arbMask (.mem c) (n.castLE (by decide))).arbUnmask (.mem c) (n.castLE (by decide))

theorem State.dropPort_eq (s : State) (n : Fin 8) :
    s.dropPort n = (s.arbs.filter fun e => decide (e.1 < 128)).foldl (fun s e => s.dropAt n (memNo e.1)) s := rfl

/-- An arbiter that channel `n` neither asks nor holds, and where it is not masked. -/
structure Arb.LeftBy (x : Arb) (n : Fin 8) : Prop where
  masked : x.reqs[n.castLE (by decide : 8 ≤ 10)].masked = false
  asking : x.reqs[n.castLE (by decide : 8 ≤ 10)].asking = false
  holder : x.holder ≠ some n.val

theorem Arb.reset_leftBy (n : Fin 8) : Arb.reset.LeftBy n := ⟨by simp [Arb.reset], by simp [Arb.reset], Option.some_ne_none _ |>.symm⟩

theorem arbKey_mem_inj {c d : Fin 128} (h : arbKey (.mem c) = arbKey (.mem d)) : c = d := Fin.ext h

/-- Masking and unmasking a requester withdraws what it asks and ends its hold. -/
theorem State.dropAt_left {s : State} {n : Fin 8} {c : Fin 128} (h : (s.arb (.mem c)).reqs[n.castLE (by decide : 8 ≤ 10)].masked = false) :
    ((s.dropAt n c).arb (.mem c)).LeftBy n := by
  have hn := n.isLt
  unfold State.dropAt
  rw [if_neg (by rw [h]; decide)]
  unfold State.arbMask
  rw [if_neg (by change ¬ 10 ≤ n.val; omega)]
  unfold State.arbUnmask
  simp only [State.setArb_arb_same, Fin.getElem_fin, Fin.val_castLE, Vector.getElem_set_self, if_true]
  refine ⟨by simp, by simp, ?_⟩
  dsimp only
  split
  · exact Option.some_ne_none _ |>.symm
  · assumption

theorem State.dropAt_other {s : State} {n : Fin 8} {c d : Fin 128} (h : d ≠ c) : (s.dropAt n c).arb (.mem d) = s.arb (.mem d) := by
  have hk : arbKey (.mem d) ≠ arbKey (.mem c) := fun e => h (arbKey_mem_inj e)
  have hmask (k : Fin 10) : (s.arbMask (.mem c) k).arb (.mem d) = s.arb (.mem d) := by
    unfold State.arbMask
    dsimp only
    split
    · rfl
    · exact State.setArb_arb_other _ hk _
  have hunmask (s : State) (k : Fin 10) : (s.arbUnmask (.mem c) k).arb (.mem d) = s.arb (.mem d) := by
    unfold State.arbUnmask
    dsimp only
    split
    · exact State.setArb_arb_other _ hk _
    · rfl
  unfold State.dropAt
  split
  · rfl
  · rw [hunmask, hmask]

/-- Withdrawing touches the arbiters, and the registers that show those of the memory channels. -/
structure DropFrame (s t : State) : Prop where
  rd : ∀ off, (∀ c, off ≠ arbStatOf (.mem c)) → t.rd off = s.rd off
  only : OnlyArbs s t

theorem DropFrame.trans {s t u : State} (h : DropFrame s t) (h' : DropFrame t u) : DropFrame s u :=
  ⟨fun off ho => (h'.rd off ho).trans (h.rd off ho), h.only.trans h'.only⟩

theorem State.setArb_drops (s : State) (c : Fin 128) (x : Arb) : DropFrame s (s.setArb (.mem c) x) :=
  ⟨fun _ ho => s.setArb_onlyStat _ x (ho c), s.setArb_onlyArbs _ x⟩

theorem DropFrame.refl (s : State) : DropFrame s s := ⟨fun _ _ => rfl, .refl s⟩

theorem State.dropAt_drops (s : State) (n : Fin 8) (c : Fin 128) : DropFrame s (s.dropAt n c) := by
  have hmask (k : Fin 10) : DropFrame s (s.arbMask (.mem c) k) := by
    unfold State.arbMask
    dsimp only
    split
    · exact .refl s
    · exact s.setArb_drops c _
  have hunmask (s : State) (k : Fin 10) : DropFrame s (s.arbUnmask (.mem c) k) := by
    unfold State.arbUnmask
    dsimp only
    split
    · exact s.setArb_drops c _
    · exact .refl s
  unfold State.dropAt
  split
  · exact .refl s
  · exact (hmask _).trans (hunmask _ _)

theorem State.dropPort_drops (s : State) (n : Fin 8) : DropFrame s (s.dropPort n) := by
  rw [State.dropPort_eq]
  generalize s.arbs.filter _ = l
  induction l generalizing s with
  | nil => exact .refl s
  | cons e l ih => exact (s.dropAt_drops n _).trans (ih _)

theorem dropAll_left {n : Fin 8} {c : Fin 128} (l : List (Nat × Arb)) (s : State)
    (hm : (s.arb (.mem c)).reqs[n.castLE (by decide : 8 ≤ 10)].masked = false)
    (h : (s.arb (.mem c)).LeftBy n ∨ ∃ e ∈ l, memNo e.1 = c) : ((l.foldl (fun s e => s.dropAt n (memNo e.1)) s).arb (.mem c)).LeftBy n := by
  induction l generalizing s with
  | nil => exact h.resolve_right fun ⟨_, he, _⟩ => absurd he List.not_mem_nil
  | cons e l ih =>
    by_cases hc : memNo e.1 = c
    · have hl : ((s.dropAt n (memNo e.1)).arb (.mem c)).LeftBy n := by
        rw [hc]
        exact State.dropAt_left hm
      exact ih _ hl.masked (.inl hl)
    · have ho := State.dropAt_other (s := s) (n := n) (Ne.symm hc)
      refine ih _ (by rw [ho]; exact hm) ?_
      rw [ho]
      refine h.imp id fun ⟨e', he', hc'⟩ => ?_
      rcases List.mem_cons.mp he' with rfl | he'
      · exact absurd hc' hc
      · exact ⟨e', he', hc'⟩

/-- Where a channel is not masked, its requests and holds at the memory channels are withdrawn. -/
theorem State.dropPort_left {s : State} {n : Fin 8} {c : Fin 128}
    (hm : (s.arb (.mem c)).reqs[n.castLE (by decide : 8 ≤ 10)].masked = false) : ((s.dropPort n).arb (.mem c)).LeftBy n := by
  rw [State.dropPort_eq]
  refine dropAll_left _ s hm ?_
  by_cases hk : c.val ∈ s.arbs.map (·.1)
  · obtain ⟨e, he, hkey⟩ := List.mem_map.mp hk
    exact .inr ⟨e, List.mem_filter.mpr ⟨he, decide_eq_true (hkey ▸ c.isLt)⟩, Fin.ext ((congrArg (· % 128) hkey).trans (Nat.mod_eq_of_lt c.isLt))⟩
  · refine .inl ?_
    have hreset : s.arb (.mem c) = Arb.reset := kget_of_notMem _ _ _ hk
    rw [hreset]
    exact Arb.reset_leftBy n

/-! ### Arbiters taken out of the table -/

theorem kget_kfilter {α : Type} (d : Nat → α) (p : Nat → Bool) (m : KMap α) (k : Nat) : kget d (kfilter p m) k = if p k then kget d m k else d k := by
  induction m with
  | nil => exact (ite_self _).symm
  | cons e m ih =>
    unfold kfilter at ih ⊢
    by_cases hk : e.1 = k
    · subst hk
      by_cases hp : p e.1 = true
      · simp only [List.filter_cons, hp, if_true, kget]
      · simp only [List.filter_cons, hp, if_false, ih, Bool.false_eq_true]
    · by_cases hp : p e.1 = true
      · simp only [List.filter_cons, hp, if_true, kget, hk, if_false, ih]
      · simp only [List.filter_cons, hp, if_false, kget, hk, ih, Bool.false_eq_true]

/-- The arbiters of a channel's banks return to reset, and the cycle ends. -/
def State.dropBanks (s : State) (n : Fin 8) : State :=
  ({ s with arbs := kfilter (fun k => !decide (128 + 64 * n.val ≤ k ∧ k < 192 + 64 * n.val)) s.arbs } : State).nextCycle

theorem State.dropBanks_arb (s : State) (n : Fin 8) (a : ArbId) :
    (s.dropBanks n).arb a = if 128 + 64 * n.val ≤ arbKey a ∧ arbKey a < 192 + 64 * n.val then Arb.reset else s.arb a := by
  refine (kget_kfilter (fun _ => Arb.reset) (fun k => !decide (128 + 64 * n.val ≤ k ∧ k < 192 + 64 * n.val)) s.arbs (arbKey a)).trans ?_
  by_cases h : 128 + 64 * n.val ≤ arbKey a ∧ arbKey a < 192 + 64 * n.val
  · rw [decide_eq_true h, if_pos h]
    rfl
  · rw [decide_eq_false h, if_neg h]
    rfl

/-! ### The reset (R125) -/

/-- A channel reset up to the banks' arbiters. -/
def State.channelCleared (s : State) (n : Fin 8) : State :=
  (((s.setChan n { (s.chan n).keepMem with portClosed := true }).resetRegs .chn (inBlock n)).setInit (s.inInit.filter (· = n.val))).dropPort n

theorem State.resetChannel_eq {s : State} {n : Fin 8} (hh : s.heldReset = false) (hg : s.pwr.gated = false) : s.resetChannel n =
    (s.channelCleared n).dropBanks n := by
  unfold State.resetChannel
  rw [hh, hg]
  rfl

theorem mem_initOf (s : State) (n : Fin 8) (m : Nat) :
    m ∈ s.inInit.filter (· = n.val) ↔ m = n.val ∧ s.fld (chStatus n) CH_STATUS_STATE = stInit := by
  rw [List.mem_filter, decide_eq_true_eq]
  constructor
  · rintro ⟨h, rfl⟩
    exact ⟨rfl, (s.mem_inInit n).mp h⟩
  · rintro ⟨rfl, h⟩
    exact ⟨(s.mem_inInit n).mpr h, rfl⟩

theorem chStatus_not_stat (n : Fin 8) (c : Fin 128) : chStatus n ≠ arbStatOf (.mem c) := by
  simp only [arbStatOf, chStatus, arbStatM]
  omega

theorem inBlock_of_locate {n off : Nat} {k : RegKind} {i j : Nat} (hl : locate off = some (k, i, j)) : inBlock n off = decide (i = n) := by
  rw [inBlock, hl]

/-- A register outside the scope of a reset keeps its value. -/
theorem State.resetRegs_outside (s : State) (r : Rst) (scope : Nat → Bool) {off : Nat} (h : scope off = false) : (s.resetRegs r scope).rd off = s.rd off := by
  unfold State.resetRegs
  generalize s.regs.map (·.1) = l
  induction l generalizing s with
  | nil => rfl
  | cons o l ih =>
    rw [List.foldl_cons, ih]
    split
    · next ho =>
      split
      · exact s.rd_wr_other _ _ _ fun e => by rw [e, ho] at h; exact absurd h (by decide)
      · rfl
    · rfl

/-- The registers after a channel reset, STATE of the channel and the shown grants of the memory channels apart. -/
theorem State.channelCleared_rd (s : State) (n : Fin 8) {off : Nat} (hs : off ≠ chStatus n) (hc : ∀ c, off ≠ arbStatOf (.mem c)) :
    (s.channelCleared n).rd off = ((s.setChan n { (s.chan n).keepMem with portClosed := true }).resetRegs .chn (inBlock n)).rd off := by
  rw [State.channelCleared, (State.dropPort_drops _ n).rd off hc]
  refine (State.setInit_onlyRegs _ _).1 off ?_
  rintro ⟨m, hm, e⟩
  rw [((mem_initOf s n m).mp hm).1] at e
  exact hs e

theorem State.channelCleared_state (s : State) (n : Fin 8) : (s.channelCleared n).fld (chStatus n) CH_STATUS_STATE =
    if s.fld (chStatus n) CH_STATUS_STATE = stInit then stInit else stIdle := by
  have hreset (v : Word64) : resetWord .chn RegKind.chStatus.fields (regReset (chStatus n)) v = regReset (chStatus n) :=
    resetWord_all (by decide) _ _
  have hstate : ((s.setChan n { (s.chan n).keepMem with portClosed := true }).resetRegs .chn (inBlock n)).fld (chStatus n) CH_STATUS_STATE = stIdle := by
    rw [State.fld, State.resetRegs_rd _ _ _ (locate_chStatus n), inBlock_of_locate (locate_chStatus n), if_pos (decide_eq_true rfl), hreset,
      regReset_chStatus]
  rw [State.fld, State.channelCleared, (State.dropPort_drops _ n).rd _ (chStatus_not_stat n)]
  refine (State.setInit_state _ _ _).trans ?_
  rw [hstate]
  simp only [mem_initOf, true_and]

/-- What a channel reset touches besides registers: its channel, and arbiters. -/
theorem State.channelCleared_only (s : State) (n : Fin 8) : ∃ r a, s.channelCleared n =
    { s.setChan n { (s.chan n).keepMem with portClosed := true } with regs := r, before := s.before, arbs := a } := by
  obtain ⟨m, hm⟩ := (s.setChan n { (s.chan n).keepMem with portClosed := true }).resetRegs_eq .chn (inBlock n)
  have hd := (State.dropPort_drops (((s.setChan n { (s.chan n).keepMem with portClosed := true }).resetRegs .chn (inBlock n)).setInit
    (s.inInit.filter (· = n.val))) n).only.2
  have hi (u : State) (l : List Nat) : ∃ m, u.setInit l = { u with regs := m } := by
    induction l generalizing u with
    | nil => exact ⟨u.regs, rfl⟩
    | cons k l ih =>
      obtain ⟨m, e⟩ := ih (u.setFld (chStatus k) CH_STATUS_STATE stInit)
      exact ⟨m, e⟩
  obtain ⟨m', hm'⟩ := hi ((s.setChan n { (s.chan n).keepMem with portClosed := true }).resetRegs .chn (inBlock n)) (s.inInit.filter (· = n.val))
  refine ⟨(s.channelCleared n).regs, (s.channelCleared n).arbs, ?_⟩
  unfold State.channelCleared at *
  rw [hd, hm', hm]
  rfl

theorem State.channelCleared_arb (s : State) (n : Fin 8) (c : Fin 128)
    (hm : (s.arb (.mem c)).reqs[n.castLE (by decide : 8 ≤ 10)].masked = false) : ((s.channelCleared n).arb (.mem c)).LeftBy n := by
  obtain ⟨m, e⟩ := (s.setChan n { (s.chan n).keepMem with portClosed := true }).resetRegs_eq .chn (inBlock n)
  have ha : ((((s.setChan n { (s.chan n).keepMem with portClosed := true }).resetRegs .chn (inBlock n)).setInit
      (s.inInit.filter (· = n.val))).arb (.mem c)) = s.arb (.mem c) := by
    rw [State.arb, (State.setInit_onlyRegs _ _).2, State.arb, e]
    rfl
  exact State.dropPort_left (by rw [ha]; exact hm)

theorem completes_channelReset {s : State} {n : Fin 8} (hh : s.heldReset = false) (hg : s.pwr.gated = false) : Completes (.channelReset n) s fun t =>
    t.chan n = { (s.chan n).keepMem with portClosed := true } ∧ (∀ k, k ≠ n → t.chan k = s.chan k) ∧
      t.fld (chStatus n) CH_STATUS_STATE = (if s.fld (chStatus n) CH_STATUS_STATE = stInit then stInit else stIdle) ∧
      (∀ b : Fin 64, t.arb (.bank n b) = Arb.reset) ∧
      (∀ c : Fin 128, (s.arb (.mem c)).reqs[n.castLE (by decide : 8 ≤ 10)].masked = false →
        (t.arb (.mem c)).reqs[n.castLE (by decide : 8 ≤ 10)].asking = false ∧ (t.arb (.mem c)).holder ≠ some n.val) ∧
      (∀ off k i j, locate off = some (k, i, j) → i = n.val → off ≠ chStatus n → (∀ c, off ≠ arbStatOf (.mem c)) →
        t.rd off = resetWord .chn k.fields (regReset off) (s.rd off)) ∧
      (∀ off, inBlock n off = false → (∀ c, off ≠ arbStatOf (.mem c)) → t.rd off = s.rd off) ∧ t.mem = s.mem ∧ t.net = s.net ∧ t.lnk = s.lnk := by
  refine ⟨_, rfl, ?_⟩
  rw [State.resetChannel_eq hh hg]
  have hrd {off : Nat} := s.channelCleared_rd n (off := off)
  have hstate := s.channelCleared_state n
  have harb := s.channelCleared_arb n
  obtain ⟨r, a, hu⟩ := s.channelCleared_only n
  generalize s.channelCleared n = u at hrd hstate harb hu ⊢
  have hchan : u.chan n = { (s.chan n).keepMem with portClosed := true } := by
    rw [hu]
    exact State.setChan_chan_same s n _
  refine ⟨hchan, fun k hk => ?_, hstate, fun b => ?_, fun c hm => ?_, fun off k i j hl hi hs hc => ?_, fun off ho hc => ?_, ?_, ?_, ?_⟩
  · rw [hu]
    exact (s.setChan_onlyChan (fun _ => False) n _).2.1 k hk
  · have hkey : 128 + 64 * n.val ≤ arbKey (.bank n b) ∧ arbKey (.bank n b) < 192 + 64 * n.val := by
      have := b.isLt
      change 128 + 64 * n.val ≤ 128 + 64 * n.val + b.val ∧ 128 + 64 * n.val + b.val < 192 + 64 * n.val
      omega
    rw [State.dropBanks_arb, if_pos hkey]
  · have hkey : ¬ (128 + 64 * n.val ≤ arbKey (.mem c) ∧ arbKey (.mem c) < 192 + 64 * n.val) := by
      have := c.isLt
      change ¬ (128 + 64 * n.val ≤ c.val ∧ c.val < 192 + 64 * n.val)
      omega
    rw [State.dropBanks_arb, if_neg hkey]
    exact ⟨(harb c hm).asking, (harb c hm).holder⟩
  · refine (hrd hs hc).trans ((State.resetRegs_rd _ _ _ hl).trans ?_)
    rw [inBlock_of_locate hl, if_pos (decide_eq_true hi)]
    rfl
  · have hs : off ≠ chStatus n := by
      rintro rfl
      rw [inBlock_of_locate (locate_chStatus n), decide_eq_true rfl] at ho
      exact absurd ho (by decide)
    exact (hrd hs hc).trans (State.resetRegs_outside _ _ _ ho)
  · rw [hu]; rfl
  · rw [hu]; rfl
  · rw [hu]; rfl

end Sys2Proof.Machine
end

section
/-!
A link reset (R293, R327, R330, R336): the events it leaves on record, and the link and its registers after it.
-/

namespace Sys2Proof.Machine

/-! ### What flushing leaves of LNK_EVENT -/

/-- LNK_EVENT of a link is the same. -/
structure EventKept (l : Fin 24) (s t : State) : Prop where
  rd : t.rd (lnkEvent l) = s.rd (lnkEvent l)

theorem EventKept.refl (l : Fin 24) (s : State) : EventKept l s s := ⟨rfl⟩

theorem EventKept.trans {l : Fin 24} {s t u : State} (h : EventKept l s t) (h' : EventKept l t u) : EventKept l s u := ⟨h'.rd.trans h.rd⟩

theorem EventKept.foldl {α : Type} {l : Fin 24} (f : State → α → State) (h : ∀ s x, EventKept l s (f s x)) (xs : List α) (s : State) :
    EventKept l s (xs.foldl f s) := by
  induction xs generalizing s with
  | nil => exact .refl l s
  | cons x xs ih => exact (h s x).trans (ih _)

theorem EventKept.of_onlyRegs {l : Fin 24} {p : Nat → Prop} {s t : State} (h : OnlyRegs p s t) (hp : ¬ p (lnkEvent l)) : EventKept l s t := ⟨h.1 _ hp⟩

theorem EventKept.ite {l : Fin 24} {c : Prop} [Decidable c] {s t u : State} (ht : EventKept l s t) (hu : EventKept l s u) :
    EventKept l s (if c then t else u) := by
  split
  · exact ht
  · exact hu

theorem EventKept.setLink {l : Fin 24} (s : State) (k : Fin 24) (x : LinkSt) : EventKept l s (s.setLink k x) := ⟨rfl⟩

theorem State.setFld_event (s : State) (l : Fin 24) {o : Nat} (ho : lnkEvent l ≠ o) (f : Fld) (x : Nat) : EventKept l s (s.setFld o f x) :=
  ⟨State.rd_setFld_other _ _ _ _ _ ho⟩

theorem EventKept.flag {l : Fin 24} {s t : State} (h : EventKept l s t) (f : Fld) : t.flag (lnkEvent l) f = s.flag (lnkEvent l) f := by
  rw [State.flag, State.fld, h.rd, State.flag, State.fld]

theorem lnkEvent_not_cause (l : Fin 24) : ¬ RaiseReg (lnkEvent l) ∧ ¬ ChanReg (lnkEvent l) := by
  have := l.isLt
  simp only [RaiseReg, ChanReg, List.mem_cons, List.not_mem_nil, or_false, lnkEvent, safFault, safStat, safFirst, safFirstTick, safNotice, safInt,
    ctlHostAlert, msixPba]
  omega

theorem State.raiseCause_event (s : State) (l : Fin 24) (code unit detail : Nat) (origin : Option Notice) :
    EventKept l s (s.raiseCause code unit detail origin) :=
  ⟨s.raiseCause_rd code unit detail origin (lnkEvent_not_cause l).1 (lnkEvent_not_cause l).2⟩

theorem State.telemDrop_event (s : State) (l : Fin 24) (p cls : Nat) : EventKept l s (s.telemDrop p cls) := by
  refine .of_onlyRegs (s.bump_onlyRegs _ _) ?_
  simp only [lnkEvent, netTelemDrops]
  omega

/-- The registers that keep the first VC0 fault. -/
def Vc0FaultReg (off : Nat) : Prop := off = netFabStat ∨ off = netVc0Fault ∨ off = netVc0FaultTick

theorem State.vc0Record_onlyRegs (s : State) (kind port circuit bank slot : Nat) : OnlyRegs Vc0FaultReg s (s.vc0Record kind port circuit bank slot) := by
  have hf (u : State) (f : Fld) (x : Nat) : OnlyRegs Vc0FaultReg u (u.setFld netVc0Fault f x) := (u.setFld_onlyRegs _ _ _).mono fun _ e => .inr (.inl e)
  have hv (u : State) : OnlyRegs Vc0FaultReg u (u.setFlag netVc0Fault NET_VC0_FAULT_VALID) := (u.setFlag_onlyRegs _ _).mono fun _ e => .inr (.inl e)
  have hw (u : State) (v : Word64) : OnlyRegs Vc0FaultReg u (u.wr netVc0FaultTick v) := (u.wr_onlyRegs _ _).mono fun _ e => .inr (.inr e)
  unfold State.vc0Record
  extract_lets t
  have ht : OnlyRegs Vc0FaultReg s t := (s.setFlag_onlyRegs _ _).mono fun _ e => .inl e
  clear_value t
  split
  · exact ht
  · exact ht.trans (((((((hf t _ _).trans (hv _)).trans (hf _ _ _)).trans (hf _ _ _)).trans (hf _ _ _)).trans (hf _ _ _)).trans (hw _ _))

theorem State.vc0Fault_event (s : State) (l : Fin 24) (kind port circuit bank slot : Nat) : EventKept l s (s.vc0Fault kind port circuit bank slot) := by
  unfold State.vc0Fault
  extract_lets t
  refine EventKept.trans (.of_onlyRegs (s.vc0Record_onlyRegs kind port circuit bank slot) ?_) (t.raiseCause_event l _ _ _ _)
  simp only [Vc0FaultReg, lnkEvent, netFabStat, netVc0Fault, netVc0FaultTick]
  omega

theorem lnkEvent_ne_lnkCredRx (l : Fin 24) (p : Nat) {v : Nat} (hv : v < 4) : lnkEvent l ≠ lnkCredRx p v := by
  simp only [lnkEvent, lnkCredRx]
  omega

theorem State.freeFlit_event (s : State) (l : Fin 24) (p : Nat) {cls : Nat} (hc : cls < 4) (mgmt last : Bool) :
    EventKept l s (s.freeFlit p cls mgmt last) := by
  have hrow : s.credRow p cls mgmt < 4 := by
    simp only [State.credRow]
    split
    · split <;> decide
    · exact hc
  unfold State.freeFlit
  generalize s.credRow p cls mgmt = row at hrow
  extract_lets _ r head t u
  have hset (s : State) (f : Fld) (x : Nat) : EventKept l s (s.setFld r f x) := s.setFld_event l (lnkEvent_ne_lnkCredRx l p hrow) f x
  have ht : EventKept l s t := hset s _ _
  clear_value t
  have hu : EventKept l t u := .ite (hset t _ _) (.refl l t)
  clear_value u
  cases linkOf p with
  | none => exact ht.trans hu
  | some k =>
    have hw {c : Prop} [Decidable c] : EventKept l u (if c then u.wrapAdd r LNK_CRED_RX_RET_D 8 else u) := .ite (hset u _ _) (.refl l u)
    dsimp only
    refine ((ht.trans hu).trans ?_).trans (.setLink _ k _)
    exact .ite (hw.trans (hset _ _ _)) hw

theorem State.flushPkt_event (s : State) (l : Fin 24) (q : Nat) {p : Pkt} (hc : p.cls < 4) (k : Nat) : EventKept l s (s.flushPkt q p k) := by
  unfold State.flushPkt State.unsDrop
  extract_lets t
  have hb : EventKept l s (s.bump (netUnsDrop1 q) NET_UNS_DROP1_ENDPOINT) :=
    .of_onlyRegs (s.bump_onlyRegs _ _) (by simp only [lnkEvent, netUnsDrop1]; omega)
  have ht : EventKept l s t :=
    EventKept.trans (.ite hb (hb.trans (State.telemDrop_event _ l _ _)))
      (.of_onlyRegs (State.setFlag_onlyRegs _ _ _) (by simp only [lnkEvent, netUnsStat]; omega))
  clear_value t
  split
  · exact ht.trans (.foldl _ (fun s i => s.freeFlit_event l _ hc _ _) _ t)
  · exact ht

theorem State.flushPartial_event (s : State) (l : Fin 24) : EventKept l s (s.flushPartial l) := by
  unfold State.flushPartial
  extract_lets t
  have ht : EventKept l s t := by
    refine .foldl _ (fun s k => ?_) _ s
    dsimp only
    split
    · exact .refl l s
    · exact s.flushPkt_event l l (show min k 3 < 4 by omega) 0
  exact ht.trans (.setLink t l _)

theorem State.flushEntry_event (s : State) (l : Fin 24) (e : RingEnt) : EventKept l s (s.flushEntry l e) := by
  unfold State.flushEntry
  extract_lets t
  have ht : EventKept l s t := .of_onlyRegs (s.bump_onlyRegs _ _) (by simp only [lnkEvent, lnkErr2]; omega)
  clear_value t
  exact ht.trans (.ite ((t.telemDrop_event l _ _).trans (State.vc0Fault_event _ l _ _ _ _ _)) (.ite (t.telemDrop_event l _ _) (.refl l t)))

theorem State.freshLink_event (s : State) (l : Fin 24) : EventKept l s (s.freshLink l) := by
  have hseq (s : State) (f : Fld) (x : Nat) : EventKept l s (s.setFld (lnkSeq l) f x) := s.setFld_event l (by simp only [lnkEvent, lnkSeq]; omega) f x
  have hrow (s : State) (v : Nat) (hv : v < 4) : EventKept l s ((((s.setFld (lnkCredTx l v) LNK_CRED_TX_OUT_H 0).setFld (lnkCredTx l v)
      LNK_CRED_TX_OUT_D 0).setFld (lnkCredRx l v) LNK_CRED_RX_RET_H 0).setFld (lnkCredRx l v) LNK_CRED_RX_RET_D 0) := by
    have htx : lnkEvent l ≠ lnkCredTx l v := by simp only [lnkEvent, lnkCredTx]; omega
    have hrx := lnkEvent_ne_lnkCredRx l l hv
    exact (((s.setFld_event l htx _ _).trans (State.setFld_event _ l htx _ _)).trans (State.setFld_event _ l hrx _ _)).trans
      (State.setFld_event _ l hrx _ _)
  unfold State.freshLink State.showSeq
  extract_lets t u w old
  have ht : EventKept l s t := ((hseq s _ _).trans (hseq _ _ _)).trans (hseq _ _ _)
  clear_value t
  have hu : EventKept l t u := (((hrow t 0 (by decide)).trans (hrow _ 1 (by decide))).trans (hrow _ 2 (by decide))).trans (hrow _ 3 (by decide))
  clear_value u
  have hw : EventKept l u w := u.setFld_event l (by simp only [lnkEvent, lnkStatus]; omega) _ _
  clear_value w old
  exact ((ht.trans (hu.trans hw)).trans (.setLink w l _)).trans ((hseq _ _ _).trans (hseq _ _ _))

/-- A flush of the ring is on record, and the events before it stay so. -/
theorem State.flushRing_events (s : State) (l : Fin 24) : (s.flushRing l).flag (lnkEvent l) LNK_EVENT_FLUSH = true ∧
    (s.flag (lnkEvent l) LNK_EVENT_DOWN = true → (s.flushRing l).flag (lnkEvent l) LNK_EVENT_DOWN = true) := by
  have hkept : EventKept l s (((s.link l).ring.foldl (fun s e => s.flushEntry l e) s).freshLink l) :=
    (EventKept.foldl _ (fun s e => s.flushEntry_event l e) _ s).trans (State.freshLink_event _ l)
  unfold State.flushRing State.linkEvent
  generalize ((s.link l).ring.foldl (fun s e => s.flushEntry l e) s).freshLink l = u at hkept ⊢
  rw [if_neg (by decide)]
  refine ⟨u.flag_setFlag_same _ 1 (by decide), fun h => ?_⟩
  rw [State.flag, State.setFlag, State.keepSet_fld, State.fld_setFld_field _ _ _ _ _ (by decide) (by decide)]
  exact (hkept.flag _).trans h

theorem lnkEvent_ne_netPortHop (l : Fin 24) : lnkEvent l ≠ netPortHop l := by
  simp only [lnkEvent, netPortHop]
  omega

theorem State.showHop_event (s : State) (l : Fin 24) : EventKept l s (s.showHop l) := by
  have hhop := lnkEvent_ne_netPortHop l
  unfold State.showHop
  extract_lets d m ok t u
  exact ((s.setFld_event l hhop _ _).trans (t.setFld_event l hhop _ _)).trans (u.setFld_event l (by simp only [lnkEvent, lnkStatus]; omega) _ _)

/-- A link that goes down has its event on record (R327). -/
theorem State.wentDown_event (s : State) (l : Fin 24) : (s.wentDown l LNK_EVENT_DOWN).flag (lnkEvent l) LNK_EVENT_DOWN = true := by
  unfold State.wentDown
  extract_lets was t u v w x
  have hdown : (s.linkEvent l LNK_EVENT_DOWN).flag (lnkEvent l) LNK_EVENT_DOWN = true := by
    unfold State.linkEvent
    rw [if_neg (by decide)]
    exact s.flag_setFlag_same _ 0 (by decide)
  have ht : EventKept l (s.linkEvent l LNK_EVENT_DOWN) t := .of_onlyRegs (State.bump_onlyRegs _ _ _) (by simp only [lnkEvent, lnkErr2]; omega)
  clear_value t
  have hu : EventKept l t u := (t.setFld_event l (lnkEvent_ne_netPortHop l) _ _).trans (State.showHop_event _ l)
  clear_value u
  have hv : EventKept l u v := u.setFld_event l (by simp only [lnkEvent, lnkStatus]; omega) _ _
  clear_value v
  have hw : EventKept l v w := .setLink v l _
  clear_value w
  have hx : EventKept l w x := by
    refine EventKept.trans (w.setFld_event l (o := lnkCtl l) (by simp only [lnkEvent, lnkCtl]; omega) _ _) ⟨(State.timLinkDown_timDown _ l).rd _ ?_⟩
    simp only [List.mem_cons, List.not_mem_nil, or_false, lnkEvent, timCtl, timStat, ctlHostAlert, msixPba]
    omega
  clear_value x
  have hall : EventKept l (s.linkEvent l LNK_EVENT_DOWN) x := ht.trans (hu.trans (hv.trans (hw.trans hx)))
  have hend : EventKept l (s.linkEvent l LNK_EVENT_DOWN) (if was then x.raiseCause 5 l 0 none else x) :=
    .ite (hall.trans (x.raiseCause_event l 5 l 0 none)) hall
  exact (hend.flag _).trans hdown

end Sys2Proof.Machine
end

section
/-!
A link and its registers after a link reset (R293, R330, R336).
-/

namespace Sys2Proof.Machine

/-! ### Fields after a reset of registers -/

theorem resetWord_xor_new (r : Rst) (fs : List FieldDef) (d v : Word64) :
    (resetWord r fs d v ^^^ d) &&& accMask (fun f => rstClears r f.clr) fs = 0 := by
  refine BitVec.eq_of_getLsbD_eq fun i hi => ?_
  simp only [resetWord, BitVec.getLsbD_and, BitVec.getLsbD_xor, BitVec.getLsbD_or, BitVec.getLsbD_not, hi, decide_true, Bool.true_and]
  cases (accMask (fun f => rstClears r f.clr) fs).getLsbD i <;> simp

theorem resetWord_xor_old (r : Rst) (fs : List FieldDef) (d v : Word64) :
    (resetWord r fs d v ^^^ v) &&& ~~~accMask (fun f => rstClears r f.clr) fs = 0 := by
  refine BitVec.eq_of_getLsbD_eq fun i hi => ?_
  simp only [resetWord, BitVec.getLsbD_and, BitVec.getLsbD_xor, BitVec.getLsbD_or, BitVec.getLsbD_not, hi, decide_true, Bool.true_and]
  cases (accMask (fun f => rstClears r f.clr) fs).getLsbD i <;> simp

/-- A field that a reset clears. -/
theorem getF_resetWord_new {r : Rst} {fs : List FieldDef} {f : Fld} (h : ∀ i < f.w, (accMask (fun f => rstClears r f.clr) fs).getLsbD (f.lo + i) = true)
    (d v : Word64) : getF (resetWord r fs d v) f = getF d f := (getF_eq_of_masked (resetWord_xor_new r fs d v) h).symm

/-- A field that a reset leaves. -/
theorem getF_resetWord_old {r : Rst} {fs : List FieldDef} {f : Fld}
    (h : ∀ i < f.w, (~~~accMask (fun f => rstClears r f.clr) fs).getLsbD (f.lo + i) = true) (d v : Word64) : getF (resetWord r fs d v) f = getF v f :=
  (getF_eq_of_masked (resetWord_xor_old r fs d v) h).symm

theorem locate_lnkEvent (l : Fin 24) : locate (lnkEvent l) = some (.lnkEvent, l.val, 0) := by revert l; decide

theorem locate_lnkStatus (l : Fin 24) : locate (lnkStatus l) = some (.lnkStatus, l.val, 0) := by revert l; decide

theorem locate_netPortHop (l : Fin 24) : locate (netPortHop l) = some (.netPortHop, l.val, 0) := by revert l; decide

/-! ### A link flushed (R330) -/

/-- A link that is reset, once it is down and flushed and its registers are reset. -/
def State.linkFlushed (s : State) (l : Fin 24) : State :=
  (((if s.lstate l < lsInit then s else s.wentDown l LNK_EVENT_DOWN).flushPartial l).flushRing l).resetRegs .lnk (inBlock l)

theorem State.linkFlushed_rd (s : State) (l : Fin 24) {off : Nat} {k : RegKind} (hl : locate off = some (k, l.val, 0)) :
    ∃ v, (s.linkFlushed l).rd off = resetWord .lnk k.fields (regReset off) v := by
  unfold State.linkFlushed
  rw [State.resetRegs_rd _ _ _ hl, inBlock_of_locate hl, if_pos (decide_eq_true rfl)]
  exact ⟨_, rfl⟩

theorem regReset_lnkStatus (l : Fin 24) : getF (regReset (lnkStatus l)) LNK_STATUS_STATE = lsOff := by revert l; decide +kernel

theorem regReset_netPortHop (l : Fin 24) : getF (regReset (netPortHop l)) NET_PORT_HOP_DELAY = 0x3FF := by revert l; decide +kernel

theorem State.linkFlushed_state (s : State) (l : Fin 24) : (s.linkFlushed l).fld (lnkStatus l) LNK_STATUS_STATE = lsOff := by
  obtain ⟨v, h⟩ := s.linkFlushed_rd l (locate_lnkStatus l)
  rw [State.fld, h, getF_resetWord_new (by decide), regReset_lnkStatus]

theorem State.linkFlushed_delay (s : State) (l : Fin 24) : (s.linkFlushed l).fld (netPortHop l) NET_PORT_HOP_DELAY = 0x3FF := by
  obtain ⟨v, h⟩ := s.linkFlushed_rd l (locate_netPortHop l)
  rw [State.fld, h, getF_resetWord_new (by decide), regReset_netPortHop]

/-- The flush is on record, and the fall of a link that was in INIT or UP. -/
theorem State.linkFlushed_events (s : State) (l : Fin 24) : (s.linkFlushed l).flag (lnkEvent l) LNK_EVENT_FLUSH = true ∧
    (lsInit ≤ s.lstate l → (s.linkFlushed l).flag (lnkEvent l) LNK_EVENT_DOWN = true) := by
  unfold State.linkFlushed
  have hdown : lsInit ≤ s.lstate l →
      ((if s.lstate l < lsInit then s else s.wentDown l LNK_EVENT_DOWN).flushPartial l).flag (lnkEvent l) LNK_EVENT_DOWN = true := by
    intro h
    rw [if_neg (Nat.not_lt.mpr h), (State.flushPartial_event _ l).flag]
    exact s.wentDown_event l
  generalize (if s.lstate l < lsInit then s else s.wentDown l LNK_EVENT_DOWN).flushPartial l = u at hdown ⊢
  obtain ⟨hflush, hkeep⟩ := u.flushRing_events l
  have hreset (f : Fld) : ((u.flushRing l).resetRegs .lnk (inBlock l)).flag (lnkEvent l) f = (u.flushRing l).flag (lnkEvent l) f := by
    rw [State.flag, State.fld, State.resetRegs_rd _ _ _ (locate_lnkEvent l), inBlock_of_locate (locate_lnkEvent l), if_pos (decide_eq_true rfl),
      resetWord_none (by decide), State.flag, State.fld]
  exact ⟨(hreset _).trans hflush, fun h => (hreset _).trans (hkeep (hdown h))⟩

/-! ### What is shown of a link -/

theorem lnkStatus_ne_netPortHop (l : Fin 24) : lnkStatus l ≠ netPortHop l := by
  simp only [lnkStatus, netPortHop]
  omega

theorem State.setLink_link_same (s : State) (l : Fin 24) (x : LinkSt) : (s.setLink l x).link l = x := by
  simp [State.link, State.setLink]

/-- Showing a link writes its status, its hop, and its receive credits; a field of the status beside GRACE_LEFT, EFF_TIMEOUT and POOL, and DELAY of
the hop, are kept. -/
structure LinkShown (l : Fin 24) (s t : State) : Prop where
  only : OnlyRegs (fun off => off = lnkStatus l ∨ off = netPortHop l ∨ ∃ v < 4, off = lnkCredRx l v) s t
  status : ∀ f : Fld, f.lo + f.w ≤ 4 → t.fld (lnkStatus l) f = s.fld (lnkStatus l) f
  delay : t.fld (netPortHop l) NET_PORT_HOP_DELAY = s.fld (netPortHop l) NET_PORT_HOP_DELAY

theorem LinkShown.trans {l : Fin 24} {s t u : State} (h : LinkShown l s t) (h' : LinkShown l t u) : LinkShown l s u :=
  ⟨h.only.trans h'.only, fun f hf => (h'.status f hf).trans (h.status f hf), h'.delay.trans h.delay⟩

theorem LinkShown.refl (l : Fin 24) (s : State) : LinkShown l s s := ⟨.of_eq s, fun _ _ => rfl, rfl⟩

theorem State.setStatus_shows (s : State) (l : Fin 24) {f : Fld} (hf : 4 ≤ f.lo ∧ f.lo + f.w ≤ 64) (x : Nat) :
    LinkShown l s (s.setFld (lnkStatus l) f x) where
  only := (s.setFld_onlyRegs _ _ _).mono fun _ e => .inl e
  status _ hg := State.fld_setFld_field _ _ _ _ _ hf.2 (.inr (hg.trans hf.1))
  delay := State.fld_setFld_other _ _ _ _ _ _ (lnkStatus_ne_netPortHop l).symm

theorem State.setHop_shows (s : State) (l : Fin 24) {f : Fld} (hf : 10 ≤ f.lo ∧ f.lo + f.w ≤ 64) (x : Nat) :
    LinkShown l s (s.setFld (netPortHop l) f x) where
  only := (s.setFld_onlyRegs _ _ _).mono fun _ e => .inr (.inl e)
  status _ _ := State.fld_setFld_other _ _ _ _ _ _ (lnkStatus_ne_netPortHop l)
  delay := State.fld_setFld_field _ _ _ _ _ hf.2 (.inr hf.1)

theorem State.setCredRx_shows (s : State) (l : Fin 24) {v : Nat} (hv : v < 4) (f : Fld) (x : Nat) :
    LinkShown l s (s.setFld (lnkCredRx l v) f x) where
  only := (s.setFld_onlyRegs _ _ _).mono fun _ e => .inr (.inr ⟨v, hv, e⟩)
  status _ _ := State.fld_setFld_other _ _ _ _ _ _ (by simp only [lnkStatus, lnkCredRx]; omega)
  delay := State.fld_setFld_other _ _ _ _ _ _ (by simp only [netPortHop, lnkCredRx]; omega)

theorem State.showGrace_shows (s : State) (l : Fin 24) : LinkShown l s (s.showGrace l) := by
  unfold State.showGrace
  split
  · exact s.setStatus_shows l (by decide) _
  · exact .refl l s

theorem State.showHeld_shows (s : State) (l : Fin 24) : LinkShown l s (s.showHeld l) := by
  have hrow (s : State) (v : Nat) (hv : v < 4) (x y : Nat) : LinkShown l s
      ((s.setFld (lnkCredRx l v) LNK_CRED_RX_HELD_D x).setFld (lnkCredRx l v) LNK_CRED_RX_HELD_H y) :=
    (s.setCredRx_shows l hv _ _).trans (State.setCredRx_shows _ l hv _ _)
  exact (((hrow s 0 (by decide) _ _).trans (hrow _ 1 (by decide) _ _)).trans (hrow _ 2 (by decide) _ _)).trans (hrow _ 3 (by decide) _ _)

theorem State.showHop_shows (s : State) (l : Fin 24) : LinkShown l s (s.showHop l) := by
  unfold State.showHop
  extract_lets d m ok t u
  exact ((s.setHop_shows l (by decide) _).trans (t.setHop_shows l (by decide) _)).trans (u.setStatus_shows l (by decide) _)

/-! ### Training begins (R330) -/

/-- The ring of a link, its grace, its hold and its commands are the same. -/
structure SameWork (x y : LinkSt) : Prop where
  ring : y.ring = x.ring
  grace : y.grace = x.grace
  held : y.held = x.held
  cmds : y.cmds = x.cmds

/-- A link that begins to train: its state, what it keeps of LNK_STATUS beside that, its events, its hop and its commands. -/
theorem State.beginTraining_spec (s : State) (l : Fin 24) : (s.beginTraining l).lstate l = lsTraining ∧
    (s.beginTraining l).flag (lnkStatus l) LNK_STATUS_HOLD = s.flag (lnkStatus l) LNK_STATUS_HOLD ∧
    EventKept l s (s.beginTraining l) ∧ (s.beginTraining l).rd (netPortHop l) = s.rd (netPortHop l) ∧
    SameWork (s.link l) ((s.beginTraining l).link l) := by
  have htail : OnlyRegs (fun off => off = lnkPhyStatus l ∨ off = lnkSurvey l ∨ off = lnkCtl l) (s.setLstate l lsTraining)
      ((((((s.setLstate l lsTraining).setFld (lnkPhyStatus l) LNK_PHY_STATUS_STEP 1).setFld (lnkSurvey l) LNK_SURVEY_VALID 0).setFld (lnkSurvey l)
        LNK_SURVEY_UNSTABLE 0).setFld (lnkSurvey l) LNK_SURVEY_OVER 0).setFld (lnkCtl l) LNK_CTL_RETRAIN 0) := by
    have h1 (u : State) (f : Fld) (x : Nat) : OnlyRegs (fun off => off = lnkPhyStatus l ∨ off = lnkSurvey l ∨ off = lnkCtl l) u
        (u.setFld (lnkSurvey l) f x) := (u.setFld_onlyRegs _ _ _).mono fun _ e => .inr (.inl e)
    exact (((((State.setFld_onlyRegs _ _ _ _).mono fun _ e => .inl e).trans (h1 _ _ _)).trans (h1 _ _ _)).trans (h1 _ _ _)).trans
      ((State.setFld_onlyRegs _ _ _ _).mono fun _ e => .inr (.inr e))
  have hlink : (s.setLstate l lsTraining).link l = s.link l := rfl
  unfold State.beginTraining
  extract_lets u v w
  have hw : OnlyRegs (fun off => off = lnkPhyStatus l ∨ off = lnkSurvey l ∨ off = lnkCtl l) (s.setLstate l lsTraining) w := htail
  clear_value w
  have hregs (off : Nat) (f : Fld) : (w.modLink l fun x => { x with
      stepTick := w.now, restart := none, locked := 0, peerInit := none, sentSeen := false, gotSeen := false
      lctlIn := x.lctlIn.filter fun c => decide (c.ctype = 10) }).fld off f = w.fld off f := rfl
  have hstatus : ¬ (lnkStatus l = lnkPhyStatus l ∨ lnkStatus l = lnkSurvey l ∨ lnkStatus l = lnkCtl l) := by
    simp only [lnkStatus, lnkPhyStatus, lnkSurvey, lnkCtl]
    omega
  refine ⟨?_, ?_, ?_, ?_, ?_⟩
  · rw [State.lstate, hregs, hw.fld hstatus, State.setLstate, State.fld_setFld_same _ _ _ _ (by decide)]
    rfl
  · rw [State.flag, hregs, hw.fld hstatus, State.setLstate, State.fld_setFld_field _ _ _ _ _ (by decide) (by decide), State.flag]
  · have hev : EventKept l (s.setLstate l lsTraining) w := .of_onlyRegs hw (by simp only [lnkEvent, lnkPhyStatus, lnkSurvey, lnkCtl]; omega)
    have hst : EventKept l s (s.setLstate l lsTraining) := s.setFld_event l (by simp only [lnkEvent, lnkStatus]; omega) _ _
    exact (hst.trans hev).trans (.setLink w l _)
  · refine (hw.1 _ (by simp only [netPortHop, lnkPhyStatus, lnkSurvey, lnkCtl]; omega)).trans ?_
    exact State.rd_setFld_other _ _ _ _ _ (lnkStatus_ne_netPortHop l).symm
  · have hx : w.link l = s.link l := (hw.link l).trans hlink
    rw [State.modLink, State.setLink_link_same, hx]
    exact ⟨rfl, rfl, rfl, rfl⟩

/-! ### The reset (R330) -/

/-- A link starts afresh, with the grace given, and asks for training if it is on. -/
def State.linkCleared (s : State) (l : Fin 24) (on : Bool) (grace : Nat) : State :=
  let retrain : Lctl := ⟨0x0A, leBytes 1 LNK_EVENT_DOWN.lo⟩
  s.modLink l fun x => { x.cleared with
    txFree := x.txFree, line := x.line, lit := x.lit, stale := x.stale, grace := some grace
    cmds := if on then [retrain] else [], pend := if on then [⟨retrain, 1, s.now⟩] else [] }

theorem State.linkCleared_link (s : State) (l : Fin 24) (on : Bool) (grace : Nat) : ((s.linkCleared l on grace).link l).ring = [] ∧
    ((s.linkCleared l on grace).link l).grace = some grace ∧ ((s.linkCleared l on grace).link l).held = false ∧
    ((s.linkCleared l on grace).link l).cmds = if on then [⟨10, leBytes 1 LNK_EVENT_DOWN.lo⟩] else [] := by
  unfold State.linkCleared State.modLink
  rw [State.setLink_link_same]
  exact ⟨rfl, rfl, rfl, rfl⟩

/-- A link that holds its packets for the grace is shown so, with its credits and its hop. -/
def State.linkShown (s : State) (l : Fin 24) (on : Bool) : State :=
  let s := ((s.setFlag (lnkStatus l) LNK_STATUS_HOLD).showGrace l).showHeld l
  (s.showHop l).setFld (lnkStatus l) LNK_STATUS_POOL (b2n (on && decide (s.fld (netPortMap l) NET_PORT_MAP_ROLE = 2)))

theorem State.linkShown_shows (s : State) (l : Fin 24) (on : Bool) : LinkShown l (s.setFlag (lnkStatus l) LNK_STATUS_HOLD) (s.linkShown l on) := by
  unfold State.linkShown
  extract_lets t
  have ht : LinkShown l (s.setFlag (lnkStatus l) LNK_STATUS_HOLD) t := (State.showGrace_shows _ l).trans (State.showHeld_shows _ l)
  clear_value t
  exact ht.trans ((t.showHop_shows l).trans (State.setStatus_shows _ l (by decide) _))

/-- A link shown so: the registers and the link itself. -/
theorem State.linkShown_spec (s : State) (l : Fin 24) (on : Bool) : EventKept l s (s.linkShown l on) ∧
    (s.linkShown l on).fld (netPortHop l) NET_PORT_HOP_DELAY = s.fld (netPortHop l) NET_PORT_HOP_DELAY ∧
    (s.linkShown l on).flag (lnkStatus l) LNK_STATUS_HOLD = true ∧ (s.linkShown l on).lstate l = s.lstate l ∧
    (s.linkShown l on).link l = s.link l := by
  have h := s.linkShown_shows l on
  have hflag := s.setFlag_onlyRegs (lnkStatus l) LNK_STATUS_HOLD
  have hev : EventKept l s (s.setFlag (lnkStatus l) LNK_STATUS_HOLD) := .of_onlyRegs hflag (by simp only [lnkEvent, lnkStatus]; omega)
  refine ⟨hev.trans (.of_onlyRegs h.only ?_), ?_, ?_, ?_, (h.only.link l).trans (hflag.link l)⟩
  · rintro (e | e | ⟨v, hv, e⟩)
    · simp only [lnkEvent, lnkStatus] at e
      omega
    · exact lnkEvent_ne_netPortHop l e
    · exact lnkEvent_ne_lnkCredRx l l hv e
  · rw [h.delay, hflag.fld (lnkStatus_ne_netPortHop l).symm]
  · rw [State.flag, h.status _ (by decide)]
    exact s.flag_setFlag_same (lnkStatus l) 3 (by decide)
  · rw [State.lstate, h.status _ (by decide), State.setFlag, State.keepSet_fld, State.fld_setFld_field _ _ _ _ _ (by decide) (by decide), State.lstate]

/-- What follows the flush: the link starts afresh, and trains if it is on. -/
def State.linkRestarted (s : State) (l : Fin 24) (on : Bool) (grace : Nat) : State :=
  let s := (s.linkCleared l on grace).linkShown l on
  (if on then s.beginTraining l else s).showDrained.nextCycle

theorem State.resetLink_eq {s : State} (hh : s.heldReset = false) (l : Fin 24) :
    ∃ grace, s.resetLink l = (s.linkFlushed l).linkRestarted l (decide (s.lstate l ≠ lsOff)) grace := by
  unfold State.resetLink
  rw [hh]
  exact ⟨_, rfl⟩

theorem State.showDrained_onlyRegs (s : State) : OnlyRegs (fun off => off = netUnsStat) s s.showDrained := s.setFld_onlyRegs _ _ _

/-- A link started afresh: what it holds, and what is shown of it. -/
theorem State.linkRestarted_spec (s : State) (l : Fin 24) (on : Bool) (grace : Nat) :
    let t := s.linkRestarted l on grace
    EventKept l s t ∧ t.fld (netPortHop l) NET_PORT_HOP_DELAY = s.fld (netPortHop l) NET_PORT_HOP_DELAY ∧
      t.flag (lnkStatus l) LNK_STATUS_HOLD = true ∧ t.lstate l = (if on then lsTraining else s.lstate l) ∧
      (t.link l).ring = [] ∧ (t.link l).grace = some grace ∧ (t.link l).held = false ∧
      (t.link l).cmds = if on then [⟨10, leBytes 1 LNK_EVENT_DOWN.lo⟩] else [] := by
  intro t
  have hclear : EventKept l s (s.linkCleared l on grace) := .setLink s l _
  have hdelay : (s.linkCleared l on grace).fld (netPortHop l) NET_PORT_HOP_DELAY = s.fld (netPortHop l) NET_PORT_HOP_DELAY := rfl
  have hstate : (s.linkCleared l on grace).lstate l = s.lstate l := rfl
  obtain ⟨hring, hgrace, hheld, hcmds⟩ := s.linkCleared_link l on grace
  obtain ⟨hev, hd, hhold, hst, hlink⟩ := (s.linkCleared l on grace).linkShown_spec l on
  have ht : OnlyRegs (fun off => off = netUnsStat)
      (if on then ((s.linkCleared l on grace).linkShown l on).beginTraining l else (s.linkCleared l on grace).linkShown l on) t :=
    (State.showDrained_onlyRegs _).trans (State.nextCycle_onlyRegs _ _)
  clear_value t
  generalize (s.linkCleared l on grace).linkShown l on = u at hev hd hhold hst hlink ht
  generalize s.linkCleared l on grace = v at *
  have hne : ∀ off, 0x03060008 < off ∨ off < 0x03060008 → off ≠ netUnsStat := fun off h e => by simp only [netUnsStat] at e; omega
  have hu : EventKept l s u := hclear.trans hev
  have hst' : lnkStatus l ≠ netUnsStat := hne _ (by simp only [lnkStatus]; omega)
  have hhop : netPortHop l ≠ netUnsStat := hne _ (by simp only [netPortHop]; omega)
  have hevt : lnkEvent l ≠ netUnsStat := hne _ (by simp only [lnkEvent]; omega)
  cases on with
  | true =>
    obtain ⟨htrain, hkeep, hevent, hhopkeep, hwork⟩ := u.beginTraining_spec l
    rw [if_pos rfl] at ht ⊢
    refine ⟨(hu.trans hevent).trans (.of_onlyRegs ht hevt), ?_, ?_, ?_, ?_, ?_, ?_, ?_⟩
    · rw [ht.fld hhop, State.fld, hhopkeep]
      exact hd.trans hdelay
    · rw [State.flag, ht.fld hst']
      exact hkeep.trans hhold
    · rw [State.lstate, ht.fld hst']
      exact htrain
    · rw [ht.link, hwork.ring, hlink, hring]
    · rw [ht.link, hwork.grace, hlink, hgrace]
    · rw [ht.link, hwork.held, hlink, hheld]
    · rw [ht.link, hwork.cmds, hlink, hcmds]
  | false =>
    rw [if_neg Bool.false_ne_true] at ht ⊢
    refine ⟨hu.trans (.of_onlyRegs ht hevt), ?_, ?_, ?_, ?_, ?_, ?_, ?_⟩
    · rw [ht.fld hhop]
      exact hd.trans hdelay
    · rw [State.flag, ht.fld hst']
      exact hhold
    · rw [State.lstate, ht.fld hst']
      exact hst.trans hstate
    · rw [ht.link, hlink, hring]
    · rw [ht.link, hlink, hgrace]
    · rw [ht.link, hlink, hheld]
    · rw [ht.link, hlink, hcmds]

theorem completes_linkReset {s : State} (hh : s.heldReset = false) (l : Fin 24) : Completes (.linkReset l) s fun t =>
    (t.link l).ring = [] ∧ t.flag (lnkEvent l) LNK_EVENT_FLUSH = true ∧ t.fld (netPortHop l) NET_PORT_HOP_DELAY = 0x3FF ∧
      t.flag (lnkStatus l) LNK_STATUS_HOLD = true ∧ (t.link l).grace.isSome = true ∧ (t.link l).held = false ∧
      (s.lstate l = lsOff → t.lstate l = lsOff) ∧ (lsInit ≤ s.lstate l → t.flag (lnkEvent l) LNK_EVENT_DOWN = true) ∧
      (s.lstate l ≠ lsOff → t.lstate l = lsTraining ∧ (t.link l).cmds = [⟨10, leBytes 1 LNK_EVENT_DOWN.lo⟩]) := by
  obtain ⟨grace, he⟩ := s.resetLink_eq hh l
  refine ⟨_, rfl, ?_⟩
  rw [he]
  obtain ⟨hev, hdelay, hhold, hstate, hring, hgrace, hheld, hcmds⟩ := (s.linkFlushed l).linkRestarted_spec l (decide (s.lstate l ≠ lsOff)) grace
  obtain ⟨hflush, hdown⟩ := s.linkFlushed_events l
  generalize (s.linkFlushed l).linkRestarted l (decide (s.lstate l ≠ lsOff)) grace = t at *
  refine ⟨hring, (hev.flag _).trans hflush, hdelay.trans (s.linkFlushed_delay l), hhold, by rw [hgrace]; rfl, hheld, fun h => ?_,
    fun h => (hev.flag _).trans (hdown h), fun h => ?_⟩
  · rw [hstate, if_neg (by simp [h])]
    exact s.linkFlushed_state l
  · rw [decide_eq_true h] at hstate hcmds
    exact ⟨hstate, hcmds⟩

end Sys2Proof.Machine
end

section
/-!
The host link (R496, R497, R501, R506 to R508, R513, R514): alerts and their vectors, refused requests, and the reset with which the host link goes down.
-/

namespace Sys2Proof.Machine

/-! ### Alerts, bit by bit (R505, R506) -/

theorem State.flag_bit (s : State) (off i : Nat) : s.flag off (bitF i) = (s.rd off).getLsbD i := by
  rw [State.flag, State.fld, bitF, getF_bit]
  cases (s.rd off).getLsbD i <;> rfl

theorem bit_getLsbD (v : Word64) (i : Nat) : bit v.toNat i = v.getLsbD i := by
  have h := getF_bit v i
  rw [getF, pow_one] at h
  rw [bit, h]
  cases v.getLsbD i <;> rfl

theorem State.setFlag_flag (s : State) (off : Nat) {b i : Nat} (hb : b < 64) :
    (s.setFlag off (bitF b)).flag off (bitF i) = (decide (i = b) || s.flag off (bitF i)) := by
  by_cases h : i = b
  · subst h
    rw [decide_eq_true rfl, Bool.true_or]
    exact s.flag_setFlag_same off i hb
  · have hd : (bitF b).lo + (bitF b).w ≤ (bitF i).lo ∨ (bitF i).lo + (bitF i).w ≤ (bitF b).lo := by
      change b + 1 ≤ i ∨ i + 1 ≤ b
      omega
    rw [decide_eq_false h, Bool.false_or, State.flag, State.setFlag, State.keepSet_fld, State.fld_setFld_field _ _ (bitF b) (bitF i) _ hb hd, State.flag]

theorem foldl_setFlag_flag (l : List Nat) (hl : ∀ b ∈ l, b < 64) (s : State) (off i : Nat) :
    (l.foldl (fun s b => s.setFlag off (bitF b)) s).flag off (bitF i) = (decide (i ∈ l) || s.flag off (bitF i)) := by
  induction l generalizing s with
  | nil => rfl
  | cons b l ih =>
    rw [List.foldl_cons, ih (fun c hc => hl c (List.mem_cons_of_mem b hc)), s.setFlag_flag off (hl b List.mem_cons_self)]
    by_cases h : i = b <;> by_cases hm : i ∈ l <;> simp [h, hm]

/-- The bits that an alert raises join those that stand. -/
theorem State.alert_bits (s : State) {l : List Nat} (hl : ∀ b ∈ l, b < 64) (i : Nat) :
    ((s.alert l).rd ctlHostAlert).getLsbD i = (decide (i ∈ l) || (s.rd ctlHostAlert).getLsbD i) := by
  rw [← State.flag_bit, (s.alert_after l).flag (by decide), foldl_setFlag_flag l hl, State.flag_bit]

theorem State.alert_rd (s : State) (l : List Nat) {off : Nat} (h : off ≠ ctlHostAlert ∧ off ≠ msixPba) : (s.alert l).rd off = s.rd off :=
  (s.alert_memNet l).rd off fun e => e.elim h.1 h.2

theorem State.alert_fld (s : State) (l : List Nat) {off : Nat} (h : off ≠ ctlHostAlert ∧ off ≠ msixPba) (f : Fld) : (s.alert l).fld off f = s.fld off f := by
  rw [State.fld, s.alert_rd l h, State.fld]

/-! ### Vectors (R506) -/

/-- Of the host's side, only the vectors sent may differ. -/
def OnlySent (s t : State) : Prop := t.host = { s.host with msixSent := t.host.msixSent }

theorem OnlySent.trans {s t u : State} (h : OnlySent s t) (h' : OnlySent t u) : OnlySent s u := by
  have e := h'
  rw [OnlySent, h] at e
  exact e

theorem OnlySent.foldl {α : Type} (f : State → α → State) (h : ∀ s x, OnlySent s (f s x)) (l : List α) (s : State) : OnlySent s (l.foldl f s) := by
  induction l generalizing s with
  | nil => exact rfl
  | cons x l ih => exact (h s x).trans (ih _)

theorem State.sendVector_onlySent (s : State) (v : Nat) : OnlySent s (s.sendVector v) := by
  unfold State.sendVector
  extract_lets u
  split
  · split <;> exact rfl
  · exact rfl

/-- An alert in the part before its vectors are sent: the bits, and those that were raised again. -/
theorem State.alert_parts (s : State) (l : List Nat) : ∃ u : State, s.alert l = u.sendVectors (l.filter fun b => !bit (s.rd ctlHostAlert).toNat b) ∧
    u.host = s.host ∧ ∀ off, off ≠ ctlHostAlert → u.rd off = s.rd off := by
  unfold State.alert
  extract_lets rising again t u
  have ht : t.host = s.host ∧ ∀ off, off ≠ ctlHostAlert → t.rd off = s.rd off := by
    have h := OnlyRegs.foldl (p := fun off => off = ctlHostAlert) (fun s b => s.setFlag ctlHostAlert (bitF b)) l (fun s b _ => s.setFlag_onlyRegs _ _) s
    exact ⟨h.host, fun off ho => h.1 off ho⟩
  have hu : ∀ again : List Nat, ∀ t : State, (again.foldl (fun s b =>
      { s with before := kset regReset s.before alertAgain (kget regReset s.before alertAgain ||| BitVec.ofNat 64 (2 ^ b)) }) t).host = t.host ∧
      ∀ off, (again.foldl (fun s b =>
      { s with before := kset regReset s.before alertAgain (kget regReset s.before alertAgain ||| BitVec.ofNat 64 (2 ^ b)) }) t).rd off = t.rd off := by
    intro again
    induction again with
    | nil => exact fun t => ⟨rfl, fun _ => rfl⟩
    | cons b l ih => exact fun t => ih _
  exact ⟨u, rfl, (hu again t).1.trans ht.1, fun off ho => ((hu again t).2 off).trans (ht.2 off ho)⟩

theorem State.alert_onlySent (s : State) (l : List Nat) : OnlySent s (s.alert l) := by
  obtain ⟨u, he, hu, -⟩ := s.alert_parts l
  have h : OnlySent u (u.sendVectors (l.filter fun b => !bit (s.rd ctlHostAlert).toNat b)) := OnlySent.foldl _ State.sendVector_onlySent _ u
  rw [OnlySent, hu, ← he] at h
  exact h

/-- An alert that stands already sends nothing. -/
theorem State.alert_again (s : State) {b : Nat} (h : s.flag ctlHostAlert (bitF b) = true) : (s.alert [b]).host = s.host := by
  obtain ⟨u, he, hu, -⟩ := s.alert_parts [b]
  rw [State.flag_bit, ← bit_getLsbD] at h
  rw [he, List.filter_cons, h]
  exact hu

/-- An alert that rises sends its vector. -/
theorem State.alert_rises (s : State) {b : Nat} (h : s.flag ctlHostAlert (bitF b) = false) (hv : alertVector b < 4) :
    ∃ u : State, s.alert [b] = u.sendVector (alertVector b) ∧ u.host = s.host ∧ ∀ off, off ≠ ctlHostAlert → u.rd off = s.rd off := by
  obtain ⟨u, he, hu, hr⟩ := s.alert_parts [b]
  rw [State.flag_bit, ← bit_getLsbD] at h
  rw [List.filter_cons, h] at he
  refine ⟨u, he.trans ?_, hu, hr⟩
  have hvec : ∀ v < 4, (List.range 4).filter (fun w => decide (v = w)) = [v] := by decide
  unfold State.sendVectors
  simp only [Bool.not_false, if_true, List.filter_nil, List.any_cons, List.any_nil, Bool.or_false, hvec _ hv, List.foldl_cons, List.foldl_nil]

theorem State.vectorMasked_congr {s t : State} {v : Nat} (hh : t.host = s.host) (hr : t.rd (msixTable (2 * v + 1)) = s.rd (msixTable (2 * v + 1))) :
    t.vectorMasked v = s.vectorMasked v := by
  rw [State.vectorMasked, hh, hr, State.vectorMasked]

theorem msixTable_ne_ctlHostAlert {i : Nat} (h : i < 8) : msixTable i ≠ ctlHostAlert := by unfold msixTable ctlHostAlert; omega

/-- A vector that the host has enabled is pending while it is masked, and is sent otherwise (R506). -/
theorem State.alert_vector (s : State) {b v : Nat} (h : s.flag ctlHostAlert (bitF b) = false) (hb : alertVector b = v) (hv : v < 4)
    (he : s.host.msixEnable = true) (hm : s.host.busMaster = true) :
    (s.vectorMasked v = true → (s.alert [b]).flag msixPba (bitF v) = true ∧ (s.alert [b]).host.msixSent = s.host.msixSent) ∧
    (s.vectorMasked v = false → (s.alert [b]).host.msixSent = s.host.msixSent ++ [v]) := by
  obtain ⟨u, hu, hhost, hrd⟩ := s.alert_rises h (hb ▸ hv)
  have hmask : u.vectorMasked v = s.vectorMasked v := State.vectorMasked_congr hhost (hrd _ (msixTable_ne_ctlHostAlert (by omega)))
  rw [hb] at hu
  rw [hu, ← hmask]
  unfold State.sendVector
  extract_lets w
  have hw : w.host = s.host := hhost
  have hwm : w.vectorMasked v = u.vectorMasked v := rfl
  rw [hw, he, hm, ← hwm]
  refine ⟨fun hv1 => ?_, fun hv0 => ?_⟩
  · rw [hv1]
    refine ⟨?_, congrArg _ hw⟩
    change ((w.setFld msixPba (bitF v) 1).flag msixPba (bitF v)) = true
    rw [State.flag, State.fld_setFld_same _ _ _ _ (show v + 1 ≤ 64 by omega)]
    rfl
  · rw [hv0]
    rfl

/-! ### Requests refused, and errors logged (R501, R507, R513) -/

theorem State.unsupported_spec (s : State) (w : Bool) : (s.unsupported w).host.aer = s.host.aer ||| 2 ^ 8 ∧
    (s.unsupported w).flag ctlHostAlert (bitF (if w then 25 else 24)) = true ∧ (w = false → (s.unsupported w).host.cpl = some (1, [])) ∧
    (s.unsupported w).mem = s.mem ∧ ∀ off, off ≠ ctlHostAlert ∧ off ≠ msixPba → (s.unsupported w).rd off = s.rd off := by
  cases w with
  | true =>
    refine ⟨?_, State.alert_flag _ (by decide), nofun, (State.alert_memNet _ [25]).mem, fun off h => State.alert_rd _ _ h⟩
    have h := (s.aerLog 8).alert_onlySent [25]
    exact congrArg HostSt.aer h
  | false =>
    have h := ((s.complete 1 []).aerLog 8).alert_onlySent [24]
    exact ⟨congrArg HostSt.aer h, State.alert_flag _ (by decide), fun _ => congrArg HostSt.cpl h, (State.alert_memNet _ [24]).mem,
      fun off hoff => State.alert_rd _ _ hoff⟩

theorem completes_bar0BadAccess {s : State} (w : Bool) (h : s.hostUp = true) : Completes (.bar0BadAccess w) s fun t =>
    t.fld ctlPcieStat CTL_PCIE_STAT_BAD_ACCESS = bumped s ctlPcieStat CTL_PCIE_STAT_BAD_ACCESS ∧ t.host.aer = s.host.aer ||| 2 ^ 8 ∧
      t.flag ctlHostAlert (bitF (if w then 25 else 24)) = true ∧ (w = false → t.host.cpl = some (1, [])) := by
  refine ⟨_, rfl, ?_⟩
  rw [if_pos h]
  obtain ⟨haer, hflag, hcpl, -, hrd⟩ := (s.bump ctlPcieStat CTL_PCIE_STAT_BAD_ACCESS).unsupported_spec w
  refine ⟨?_, haer, hflag, hcpl⟩
  rw [State.fld, hrd _ (by decide)]
  exact s.fld_bump_same _ _ (by decide)

theorem completes_atomicopRequest {s : State} (h : s.hostUp = true) : Completes .atomicopRequest s fun t =>
    t.host.aer = s.host.aer ||| 2 ^ 8 ∧ t.flag ctlHostAlert (bitF 24) = true ∧ t.host.cpl = some (1, []) ∧ t.mem = s.mem := by
  refine ⟨_, rfl, ?_⟩
  rw [if_pos h]
  obtain ⟨haer, hflag, hcpl, hmem, -⟩ := s.unsupported_spec false
  exact ⟨haer, hflag, hcpl rfl, hmem⟩

theorem completes_aerErrorLogged {s : State} (e : AerErr) (h : s.heldReset = false) : Completes (.aerErrorLogged e) s fun t =>
    let b := if aerBit e < 5 then 24 else 25
    t.host.aer = s.host.aer ||| 2 ^ aerBit e ∧ t.flag ctlHostAlert (bitF b) = true ∧
      (s.flag ctlHostAlert (bitF b) = true → t.host.msixSent = s.host.msixSent) ∧
      (s.flag ctlHostAlert (bitF b) = false → s.host.msixEnable = true → s.host.busMaster = true →
        (s.vectorMasked 3 = true → t.flag msixPba (bitF 3) = true ∧ t.host.msixSent = s.host.msixSent) ∧
        (s.vectorMasked 3 = false → t.host.msixSent = s.host.msixSent ++ [3])) := by
  have he : exec (.aerErrorLogged e) s = .next ((s.aerLog (aerBit e)).alert [if aerBit e < 5 then 24 else 25]) := by
    change execAerErrorLogged e s = _
    rw [execAerErrorLogged, h, if_neg Bool.false_ne_true]
  refine ⟨_, he, ?_⟩
  have hb : (if aerBit e < 5 then 24 else 25) < 64 ∧ alertVector (if aerBit e < 5 then 24 else 25) = 3 := by split <;> decide
  generalize (if aerBit e < 5 then 24 else 25) = b at hb ⊢
  have hsent := (s.aerLog (aerBit e)).alert_onlySent [b]
  refine ⟨congrArg HostSt.aer hsent, State.alert_flag _ hb.1, fun hr => (congrArg HostSt.msixSent ((s.aerLog (aerBit e)).alert_again hr)).trans rfl,
    fun hr he hm => (s.aerLog (aerBit e)).alert_vector hr hb.2 (by decide) he hm⟩

/-! ### Vectors unmasked (R506) -/

theorem completes_msixUnmask {s : State} (v : Fin 4) (h : s.hostUp = true) : Completes (.msixUnmask v) s fun t =>
    t.flag (msixTable (2 * v + 1)) (bitF 32) = false ∧
      (s.flag msixPba (bitF v) = true → s.host.msixEnable = true → s.host.busMaster = true → s.host.msixMask = false →
        t.flag msixPba (bitF v) = false ∧ t.host.msixSent = s.host.msixSent ++ [v.val]) ∧
      (s.flag msixPba (bitF v) = false → t.host = s.host) := by
  have hv := v.isLt
  refine ⟨_, rfl, ?_⟩
  rw [if_pos h]
  have hne : msixPba ≠ msixTable (2 * v + 1) := by unfold msixPba msixTable; omega
  obtain ⟨u, hu⟩ : ∃ u, u = s.setFld (msixTable (2 * v + 1)) (bitF 32) 0 := ⟨_, rfl⟩
  have hclear : u.flag (msixTable (2 * v + 1)) (bitF 32) = false := by
    rw [hu, State.flag, State.fld_setFld_same _ _ _ _ (by decide)]
    rfl
  have hpba : u.flag msixPba (bitF v) = s.flag msixPba (bitF v) := by
    rw [hu, State.flag, State.fld_setFld_other _ _ _ _ _ _ hne, State.flag]
  have hhost : u.host = s.host := by rw [hu]; rfl
  have hmask : u.vectorMasked v = s.host.msixMask := by
    rw [State.vectorMasked, bit_getLsbD, ← State.flag_bit, hclear, hhost, Bool.or_false]
  rw [← hu]
  unfold State.unmask
  rw [bit_getLsbD, ← State.flag_bit, hpba, hmask, hhost]
  refine ⟨?_, fun hp he hb hm => ?_, fun hp => ?_⟩
  · split
    · change (u.setFld msixPba (bitF v) 0).flag _ _ = false
      rw [State.flag, State.fld_setFld_other _ _ _ _ _ _ (Ne.symm hne)]
      exact hclear
    · exact hclear
  · rw [hp, he, hb, hm]
    refine ⟨?_, congrArg (fun h : HostSt => h.msixSent ++ [v.val]) hhost⟩
    change (u.setFld msixPba (bitF v) 0).flag msixPba (bitF v) = false
    rw [State.flag, State.fld_setFld_same _ _ _ _ (show v.val + 1 ≤ 64 by omega)]
    rfl
  · rw [hp]
    exact hhost

/-! ### Alerts of firmware (R514) -/

theorem mem_maskList {n m i : Nat} : i ∈ maskList n m ↔ i < n ∧ bit m i = true := by
  rw [maskList, List.mem_filter, List.mem_range]

theorem State.writeHostRaise_rd (s : State) (v : Word64) :
    (s.writeHostRaise v false).rd ctlHostAlert = s.rd ctlHostAlert ||| (v &&& 0x07071F01#64) := by
  have hmask : ∀ i < 64, (0x07071F01#64).getLsbD i = decide (i < 32 ∧ i ∈ [0, 8, 9, 10, 11, 12, 16, 17, 18, 24, 25, 26]) := by decide
  refine BitVec.eq_of_getLsbD_eq fun i hi => ?_
  have hl : ∀ b ∈ (maskList 32 v.toNat).filter fun b => decide (b ∈ [0, 8, 9, 10, 11, 12, 16, 17, 18, 24, 25, 26]), b < 64 :=
    fun b hb => (mem_maskList.mp (List.mem_filter.mp hb).1).1.trans (by decide)
  rw [State.writeHostRaise, if_neg Bool.false_ne_true, State.alert_bits s hl, BitVec.getLsbD_or, BitVec.getLsbD_and, hmask i hi, Bool.or_comm]
  congr 1
  rw [Bool.eq_iff_iff, decide_eq_true_eq, List.mem_filter, mem_maskList, bit_getLsbD, Bool.and_eq_true, decide_eq_true_eq, decide_eq_true_eq]
  tauto

/-! ### The host link's rate and width (R497, R512, R513) -/

/-- The host link as it is shown. -/
def State.showLinkRate (s : State) (speed : Fin 8) (w : Nat) : State :=
  (((s.setFld ctlPcieStat CTL_PCIE_STAT_SPEED speed).setFld ctlPcieStat CTL_PCIE_STAT_WIDTH w).setFld ctlPcieStat
    CTL_PCIE_STAT_FLIT (b2n (decide (6 ≤ speed.val)))).setFld ctlPcieStat CTL_PCIE_STAT_BELOW_SERVICE
      (b2n (decide (speed.val ≠ 0 ∧ (speed.val < 5 ∨ w ≠ 16))))

theorem State.showLinkRate_spec (s : State) (speed : Fin 8) (w : Nat) :
    (s.showLinkRate speed w).fld ctlPcieStat CTL_PCIE_STAT_SPEED = speed.val ∧ (s.showLinkRate speed w).fld ctlPcieStat CTL_PCIE_STAT_WIDTH = w % 32 ∧
      ((s.showLinkRate speed w).flag ctlPcieStat CTL_PCIE_STAT_FLIT = true ↔ 6 ≤ speed.val) ∧
      ((s.showLinkRate speed w).flag ctlPcieStat CTL_PCIE_STAT_BELOW_SERVICE = true ↔ speed.val ≠ 0 ∧ (speed.val < 5 ∨ w ≠ 16)) := by
  have hbit (p : Prop) [Decidable p] : b2n (decide p) % 2 ^ 1 ≠ 0 ↔ p := by by_cases h : p <;> simp [b2n, h]
  unfold State.showLinkRate State.flag
  refine ⟨?_, ?_, ?_, ?_⟩
  · rw [State.fld_setFld_field _ _ _ _ _ (by decide) (by decide), State.fld_setFld_field _ _ _ _ _ (by decide) (by decide),
      State.fld_setFld_field _ _ _ _ _ (by decide) (by decide), State.fld_setFld_same _ _ _ _ (by decide)]
    exact Nat.mod_eq_of_lt speed.isLt
  · rw [State.fld_setFld_field _ _ _ _ _ (by decide) (by decide), State.fld_setFld_field _ _ _ _ _ (by decide) (by decide),
      State.fld_setFld_same _ _ _ _ (by decide)]
    rfl
  · rw [State.fld_setFld_field _ _ _ _ _ (by decide) (by decide), State.fld_setFld_same _ _ _ _ (by decide), decide_eq_true_eq]
    exact hbit _
  · rw [State.fld_setFld_same _ _ _ _ (by decide), decide_eq_true_eq]
    exact hbit _

theorem State.showLinkRate_onlyRegs (s : State) (speed : Fin 8) (w : Nat) : OnlyRegs (fun off => off = ctlPcieStat) s (s.showLinkRate speed w) :=
  (((s.setFld_onlyRegs _ _ _).trans (State.setFld_onlyRegs _ _ _ _)).trans (State.setFld_onlyRegs _ _ _ _)).trans (State.setFld_onlyRegs _ _ _ _)

/-- A link that keeps up shows its rate and width, and a change alerts the host. -/
theorem completes_hostLinkChange {s : State} {speed : Fin 8} (width : Nat) (hh : s.heldReset = false) (hs : speed ≠ 0) :
    Completes (.hostLinkChange speed width) s fun t =>
      t.fld ctlPcieStat CTL_PCIE_STAT_SPEED = speed.val ∧ t.fld ctlPcieStat CTL_PCIE_STAT_WIDTH = width % 32 ∧
        (t.flag ctlPcieStat CTL_PCIE_STAT_FLIT = true ↔ 6 ≤ speed.val) ∧
        (t.flag ctlPcieStat CTL_PCIE_STAT_BELOW_SERVICE = true ↔ speed.val < 5 ∨ width ≠ 16) ∧
        (s.fld ctlPcieStat CTL_PCIE_STAT_SPEED ≠ speed.val ∨ s.fld ctlPcieStat CTL_PCIE_STAT_WIDTH ≠ width % 32 →
          t.flag ctlHostAlert (bitF 26) = true) := by
  have h0 : speed.val ≠ 0 := fun e => hs (Fin.ext e)
  have he : exec (.hostLinkChange speed width) s = .next (if decide (s.fld ctlPcieStat CTL_PCIE_STAT_SPEED ≠ speed.val ∨
      s.fld ctlPcieStat CTL_PCIE_STAT_WIDTH ≠ width % 32) = true then (s.showLinkRate speed width).alert [26] else s.showLinkRate speed width) := by
    change execHostLinkChange speed width s = _
    simp only [execHostLinkChange, hh, h0, Bool.false_eq_true, if_false, false_and, State.showLinkRate]
  refine ⟨_, he, ?_⟩
  obtain ⟨hspeed, hwidth, hflit, hbelow⟩ := s.showLinkRate_spec speed width
  generalize s.showLinkRate speed width = u at hspeed hwidth hflit hbelow ⊢
  have hkeep (f : Fld) : (u.alert [26]).fld ctlPcieStat f = u.fld ctlPcieStat f := u.alert_fld _ (by decide) f
  have hbelow' := hbelow.trans (and_iff_right h0)
  split
  · unfold State.flag at hflit hbelow' ⊢
    simp only [hkeep]
    exact ⟨hspeed, hwidth, hflit, hbelow', fun _ => u.alert_flag (b := 26) (by decide)⟩
  · next hm => exact ⟨hspeed, hwidth, hflit, hbelow', fun h => absurd (decide_eq_true h) hm⟩

end Sys2Proof.Machine
end

section
/-!
The host link going down is a HOT reset (R508, R512), in STANDBY too, which the reset leaves first (R526).
-/

namespace Sys2Proof.Machine

/-! ### Leaving STANDBY (R526) -/

/-- The registers that the records of failed engines and banks name. -/
def MapReg (off : Nat) : Prop := ∃ n, off = chTeMap n ∨ off = chShadow n ∨ off = chBankMap n

theorem State.applyRecord_maps (s : State) (r : Retired) (h : r.kind = 1 ∨ r.kind = 2) : OnlyRegs MapReg s (s.applyRecord r) := by
  unfold State.applyRecord
  rcases h with h | h <;> rw [h]
  · refine .trans ?_ ((State.showShadow_onlyRegs _ _).mono fun _ h => ⟨r.unit, h.imp_right .inl⟩)
    exact .ite ((s.setFlag_onlyRegs _ _).mono fun _ h => ⟨r.unit, .inl h⟩)
      (((s.setFld_onlyRegs _ _ _).trans (State.setFlag_onlyRegs _ _ _)).mono fun _ h => ⟨r.unit, .inl h⟩)
  · exact ((s.setFld_onlyRegs _ _ _).trans (State.setFlag_onlyRegs _ _ _)).mono fun _ h => ⟨r.unit, .inr (.inr h)⟩

theorem State.applyMaps_onlyRegs (s : State) : OnlyRegs MapReg s (s.applyList [1, 2]) := by
  refine OnlyRegs.foldl _ _ (fun t r hr => t.applyRecord_maps r ?_) s
  have h := (List.mem_filter.mp hr).2
  simpa using h

/-- A register that leaving STANDBY does not touch. -/
theorem State.leaveStandby_rd (s : State) {off : Nat} (hs : standbyScope off = false) (hp : off ≠ pwrState) (hc : ∀ c < 128, off ≠ mcChStatus c)
    (hm : ¬ MapReg off) : s.leaveStandby.rd off = s.rd off := by
  unfold State.leaveStandby
  extract_lets t _ u
  have ht : t.rd off = s.rd off := s.resetRegs_outside _ _ hs
  have hu : u.rd off = t.rd off := (State.selfRefresh_onlyRegs _ false).1 off fun ⟨c, h, e⟩ => hc c h e
  rw [(State.applyMaps_onlyRegs _).1 off hm, State.rd_setFld_other _ _ _ _ _ hp, hu, ht]

theorem State.leaveStandby_awake (s : State) : s.leaveStandby.fld pwrState PWR_STATE_STATE = 0 := by
  unfold State.leaveStandby
  extract_lets t u
  have hm : ¬ MapReg pwrState := by
    rintro ⟨n, h | h | h⟩ <;> simp only [pwrState, chTeMap, chShadow, chBankMap] at h <;> omega
  rw [(State.applyMaps_onlyRegs _).fld hm, State.fld_setFld_same _ _ _ _ (by decide)]
  rfl

/-- In STANDBY, HOT and SOFT do what they do once the device has left it. -/
theorem State.resetCore_awake (s : State) (r : Rst) : ∃ u : State, s.resetCore r = u.resetCore r ∧ u.fld pwrState PWR_STATE_STATE ≠ 2 ∧
    u.rd pwrReset = s.rd pwrReset ∧ u.rd ctlPcieStat = s.rd ctlPcieStat := by
  by_cases h2 : s.fld pwrState PWR_STATE_STATE = 2
  · have h0 : s.leaveStandby.fld pwrState PWR_STATE_STATE ≠ 2 := by rw [s.leaveStandby_awake]; decide
    refine ⟨s.leaveStandby, ?_, h0, s.leaveStandby_rd (by decide) (by decide) ?_ ?_, s.leaveStandby_rd (by decide) (by decide) ?_ ?_⟩
    · unfold State.resetCore
      rw [if_pos h2, if_neg h0]
    · intro c hc
      simp only [pwrReset, mcChStatus]
      omega
    · rintro ⟨n, h | h | h⟩ <;> simp only [pwrReset, chTeMap, chShadow, chBankMap] at h <;> omega
    · intro c hc
      simp only [ctlPcieStat, mcChStatus]
      omega
    · rintro ⟨n, h | h | h⟩ <;> simp only [ctlPcieStat, chTeMap, chShadow, chBankMap] at h <;> omega
  · exact ⟨s, rfl, h2, rfl, rfl⟩

/-! ### HOT -/

/-- A register that HOT and SOFT reset by its fields' classes alone. -/
theorem State.resetCore_rd (s : State) (r : Rst) (h2 : s.fld pwrState PWR_STATE_STATE ≠ 2) {off : Nat} {k : RegKind} {i j : Nat}
    (hl : locate off = some (k, i, j)) (ho : off ∉ [timCtl, timStat, ctlHostAlert, msixPba]) (hc : ∀ d < 4096, ¬ CoreReg d off) :
    (s.resetCore r).rd off = resetWord r k.fields (regReset off) (s.rd off) := by
  obtain ⟨u, v, w, hu, hv, ⟨hregs, -⟩, he⟩ := s.resetCore_eq r h2
  have ht := w.resetCore_tail (if s.fld safStat SAF_STAT_STATE = 2 then 2 else 0) s.inInit
    (fun n hn => List.mem_range.mp (List.mem_filter.mp hn).1)
  have hw : w.rd off = v.rd off := by rw [State.rd, hregs, State.rd]
  rw [he, ht.1 off (hc _ w.deviceId_lt)]
  refine hw.trans ?_
  rw [hv, u.resetRegs_rd r _ hl, if_pos rfl, hu.rd off ho]

theorem ctlPcieStat_not_coreReg (d : Nat) (hd : d < 4096) : ¬ CoreReg d ctlPcieStat := by
  simp only [CoreReg, ctlPcieStat, safStat, mcChStatus, chStatus, netRoute, netUnsStat, brdPin]
  omega

/-- HOT records itself, whatever the power state, and leaves the host link's rate as it is shown. -/
theorem State.hot_record {s : State} (hh : s.heldReset = false) : s.hot.fld pwrReset PWR_RESET_LAST = 2 ∧
    s.hot.fld pwrReset PWR_RESET_HOTS = bumped s pwrReset PWR_RESET_HOTS ∧
    s.hot.fld ctlPcieStat CTL_PCIE_STAT_SPEED = s.fld ctlPcieStat CTL_PCIE_STAT_SPEED := by
  obtain ⟨u, hu, h2, hrec, hstat⟩ := s.resetCore_awake .hot
  have hreset : (s.resetCore .hot).rd pwrReset = s.rd pwrReset := by
    rw [hu, (u.resetCore_spec (by decide) h2).record, hrec]
  have hspeed : (s.resetCore .hot).fld ctlPcieStat CTL_PCIE_STAT_SPEED = s.fld ctlPcieStat CTL_PCIE_STAT_SPEED := by
    rw [State.fld, hu, u.resetCore_rd .hot h2 (by decide : locate ctlPcieStat = some (.ctlPcieStat, 0, 0)) (by decide) ctlPcieStat_not_coreReg,
      getF_resetWord_old (by decide), hstat, State.fld]
  unfold State.hot
  rw [if_neg (by rw [hh]; decide)]
  generalize s.resetCore .hot = v at hreset hspeed ⊢
  refine ⟨?_, ?_, ?_⟩
  · rw [State.nextCycle_fld]
    exact (State.fld_setFld_field _ _ _ _ _ (by decide) (by decide)).trans (State.fld_setFld_same _ _ _ _ (by decide))
  · rw [State.nextCycle_fld, State.fld_bump_same _ _ _ (by decide), bumped, bumped, State.fld_setFld_field _ _ _ _ _ (by decide) (by decide)]
    exact congrArg (fun x => min (2 ^ PWR_RESET_HOTS.w - 1) (getF x PWR_RESET_HOTS + 1)) hreset
  · rw [State.nextCycle_fld, (State.bump_onlyRegs _ _ _).fld (by decide), State.fld_setFld_other _ _ _ _ _ _ (by decide)]
    exact hspeed

/-- A host link that goes down is a HOT reset, after which it is shown down (R508, R512). -/
theorem completes_hostLinkDown {s : State} (width : Nat) (hh : s.heldReset = false) (hs : s.fld ctlPcieStat CTL_PCIE_STAT_SPEED ≠ 0) :
    Completes (.hostLinkChange 0 width) s fun t =>
      t.fld pwrReset PWR_RESET_LAST = 2 ∧ t.fld pwrReset PWR_RESET_HOTS = bumped s pwrReset PWR_RESET_HOTS ∧
        t.fld ctlPcieStat CTL_PCIE_STAT_SPEED = 0 := by
  have he : exec (.hostLinkChange 0 width) s = .next (s.showLinkRate 0 0).hot := by
    change execHostLinkChange 0 width s = _
    rw [execHostLinkChange, hh, if_neg Bool.false_ne_true]
    exact congrArg Host.Outcome.next (if_pos ⟨rfl, hs⟩)
  have hr := s.showLinkRate_onlyRegs 0 0
  obtain ⟨hspeed, -⟩ := s.showLinkRate_spec 0 0
  have hheld : (s.showLinkRate 0 0).heldReset = false := by rw [State.heldReset, hr.pwr]; exact hh
  obtain ⟨hlast, hhots, hkept⟩ := State.hot_record hheld
  refine ⟨_, he, hlast, hhots.trans ?_, hkept.trans hspeed⟩
  rw [bumped, bumped, hr.fld (by decide)]

/-! ### The function's power state, BAR2 and firmware's alerts (R502, R510, R514) -/

theorem completes_bar2Resize (s : State) (code : Nat) :
    (10 ≤ code → code ≤ 20 → s.heldReset = false → Completes (.bar2Resize code) s fun t => t = { s with host := { s.host with bar2 := code - 10 } }) ∧
      (code < 10 ∨ 20 < code → Completes (.bar2Resize code) s fun t => t = s) := by
  refine ⟨fun h1 h2 hh => ⟨_, rfl, if_pos ⟨h1, h2, ?_⟩⟩, fun h => ⟨_, rfl, if_neg fun ⟨h1, h2, _⟩ => ?_⟩⟩
  · rw [hh]
    rfl
  · omega

theorem completes_d3hotEntry {s : State} (hh : s.heldReset = false) :
    Completes .d3hotEntry s fun t => t = { s with host := { s.host with d3 := true } } := ⟨_, rfl, if_neg (by rw [hh]; decide)⟩

theorem completes_d0Return {s : State} (hh : s.heldReset = false) :
    Completes .d0Return s fun t => t = { s with host := { s.host with d3 := false } } := ⟨_, rfl, if_neg (by rw [hh]; decide)⟩

theorem completes_ctlHostRaise (s : State) (v : Word64) : (Completes (.ctlHostRaise v true) s fun t => t = s) ∧
    (s.heldReset = false → Completes (.ctlHostRaise v false) s fun t => t.rd ctlHostAlert = s.rd ctlHostAlert ||| (v &&& 0x07071F01#64)) := by
  refine ⟨⟨_, rfl, ?_⟩, fun hh => ⟨s.writeHostRaise v false, ?_, s.writeHostRaise_rd v⟩⟩
  · rw [State.writeHostRaise, if_pos rfl, ite_self]
  · exact congrArg Host.Outcome.next (if_neg (by rw [hh]; decide))

end Sys2Proof.Machine
end

section
open Sys2Proof Machine

/-- Settles O51: each command is run once (`completes_channelReset`, `completes_linkReset`, and so on); what the resets leave of each register comes
from `State.resetRegs_rd`, and a HOT reset in STANDBY is one of the state that has left it (`State.resetCore_awake`). -/
theorem unitResetsAndHostLink : Obligations.UnitResetsAndHostLink := by
  intro s
  exact ⟨fun _ hh hg => completes_channelReset hh hg, fun l hh => completes_linkReset hh l, completes_bar0BadAccess, completes_atomicopRequest,
    completes_aerErrorLogged, completes_msixUnmask, completes_bar2Resize s, completes_d3hotEntry, completes_d0Return,
    fun _ width hh => ⟨completes_hostLinkChange width hh, fun h0 hs => h0 ▸ completes_hostLinkDown width hh hs⟩, completes_ctlHostRaise s⟩
end
